-- ==== Sys2Proof/Word.lean ====
section
/-! DEFINITION. The words of the register file: widths and the plainest arithmetic on them. -/

namespace Sys2Proof

/-- A 32-bit register word (R86, R97). -/
abbrev Word := BitVec 32

/-- A byte of a window (R97). -/
abbrev Byte := BitVec 8

/-- Two register words read or written together (R100). -/
abbrev DWord := BitVec 64

/-- Sparse data by key: strictly rising keys, no entry equal to what an unlisted key reads as. -/
abbrev SMap (α : Type) := List (Nat × α)

end Sys2Proof
end

