-- ==== Sys2Proof/Units.lean ====
section
/-! DEFINITION. The names of the device's units: variants, page kinds and requesters (R2, R84, R85, R102). -/

namespace Sys2Proof

/-- The two parts of R2. -/
inductive Variant where
  | pe2560
  | pe1280
  deriving DecidableEq, Repr

/-- The block types of R84 and R85. -/
inductive PageKind where
  | glb | pwr | clk | heat | flt | evt | time | tmux | wellhead | xbar | ring | epoch | route | verdict | capt
  | siphon | mac | gate | police | cistern | pcie | ddr | xspi | i2c | census | tw | pw | hw | pe | col
  deriving DecidableEq, Repr

/-- One register page: its block and its instance number. -/
structure Page where
  kind : PageKind
  inst : Nat
  deriving DecidableEq, Repr

/-- Requester identifiers, 0 to 7 (R102). -/
abbrev Requester := BitVec 3

/-- One half of a 64-bit pair. -/
inductive Half where
  | low
  | high
  deriving DecidableEq, Repr

/-- The size of an access in bytes (R97). -/
inductive AccessSize where
  | one | two | four | eight
  deriving DecidableEq, Repr

end Sys2Proof
end

