-- ==== Sys2Proof/Syntax.lean ====
section
/-! DEFINITION. The commands of the block, one constructor per row of spec/opcode_table.json, in the table's order. A
command's operands are what its sender or its cause supplies: the requester of a register access (R102), the unit an
event belongs to, and the measured data the event brings. -/

namespace Sys2Proof

/-- What one run of a level calibration measures (R232): the averaged tap at the points of the sweep, and over ± 64 codes about the
maximum and the minimum chosen, in steps of 2 codes. -/
structure SweepRun where
  sweep : List Int
  nearMax : List Int
  nearMin : List Int
  deriving DecidableEq, Repr

/-- Λ, and the SHAPE_SYNC_RPT of each position, in 15.625 ps (R227). -/
structure SkewMeasure where
  loopDelay : BitVec 16
  rpts : List (BitVec 16)
  deriving DecidableEq, Repr

/-- What a skew calibration message says (R227, R235): the leader's measurement, a member's result, or that the calibration ends
without one. -/
inductive SkewWord where
  | measure (m : SkewMeasure)
  | result (agrees : Bool)
  | ended
  deriving DecidableEq, Repr

/-- The fill of a siphon stream's refill queue, in KiB (R220). -/
structure StreamFill where
  stream : Nat
  fill : Nat
  deriving DecidableEq, Repr

/-- What a read-back visit samples at an output (R252): heater voltage and bank rail in µV, and the heater's current in µA, which a probe
visit does not use. -/
structure ReadBack where
  heater : Nat
  rail : Nat
  current : Nat
  deriving DecidableEq, Repr

/-- The two values that the passes of a read-back calibration give for one output, in 0.1 ohm (R256). -/
structure ReadPair where
  output : Nat
  first : Nat
  second : Nat
  deriving DecidableEq, Repr

/-- The raw codes that a port monitor's primary well and its checker give over one microsecond, in order of their sample instants
(R327, R342). -/
structure MonitorSamples where
  primary : List (BitVec 12)
  checker : List (BitVec 12)
  deriving DecidableEq, Repr

/-- The sums of 256 raw codes that a calibration measures for one channel and range, twice (R347 to R349); `checker` for the
partner well's conversions of a port monitor. -/
structure CalMeasure where
  checker : Bool
  channel : Nat
  range : Nat
  zero1 : Nat
  full1 : Nat
  zero2 : Nat
  full2 : Nat
  deriving DecidableEq, Repr

/-- What SECDED finds on reading a frame's words (R497): words corrected, the cells of uncorrectable words, and whether the first
of these came before the frame's first byte had left. -/
structure EccScan where
  corrected : Nat
  bad : List Nat
  early : Bool
  deriving DecidableEq, Repr

/-- A frame at a control port's receiver: its bytes, FCS included; the arrival time of R475 at the balls, in 2^-16 ns of PTP
time; and the RS-FEC codewords corrected and uncorrectable since the frame before. -/
structure ReceivedFrame where
  bytes : List Byte
  arrival : Nat
  fecCorrected : Nat
  fecLost : Nat
  deriving DecidableEq, Repr

/-- A transmit descriptor as fetched (R509): ADDR, bytes 8 to 9, and what the host's memory holds at ADDR. -/
structure TxDescriptor where
  addr : DWord
  ctl : BitVec 16
  data : List Byte
  deriving DecidableEq, Repr

/-- What a capture item's source delivers (R392, R393). -/
structure CaptItem where
  /-- The item's bytes as a little-endian number, before R393. -/
  value : Nat
  /-- Item instant in PTP ns. -/
  instant : Nat
  range : Nat
  overRange : Bool
  unsettled : Bool
  /-- A discarded slot or an interval out of scan lies before it. -/
  gap : Bool
  /-- The interval to the item before differs from the interval before that. -/
  rateChanged : Bool
  /-- Items that R411 dropped just before it. -/
  dropped : Nat
  deriving DecidableEq, Repr

/-- A HELLO frame (R430): the sender's protocol version and the range it accepts, variant, position, SIZE, SYS_PLL_ON_XREF,
serial number, ring firmware version, leadership claim and term; the leader it knows; and whether it admits this member. -/
structure Hello where
  proto : Nat
  low : Nat
  high : Nat
  variant : Variant
  pos : Fin 4
  size : Nat
  xref : Bool
  serial : DWord
  firmware : Word
  claim : Nat
  term : Nat
  leader : Option (Fin 4)
  admits : Bool
  deriving DecidableEq, Repr

/-- A HEARTBEAT frame (R444, R445, R467, R470): whether the sender leads, its claim and term, EPOCH_LAST_NUM, the digest of its
preset states, its offset to the leader in 1/16 ns and whether it is trusted, whether it is ADOPTING, TAKEBACK_EN, its
increment, ε of the last SYNC pulse and its step count; and, as the supervisors settle it, the presets whose VALID or
PRESET_GEN differ from the receiver's. -/
structure Heartbeat where
  leads : Bool
  claim : Nat
  term : Nat
  epochNum : Nat
  digest : List Byte
  offset : Int
  trusted : Bool
  adopting : Bool
  takeback : Bool
  increment : Nat
  epsilon : Nat
  steps : Nat
  differs : List (Fin 64)
  deriving DecidableEq, Repr

/-- A PREPARE frame (R437), with the serial by which the leader's PAYLOAD names the epoch. -/
structure PrepareFrame where
  serial : Nat
  num : Nat
  instant : Nat
  preset : Fin 64
  tag : BitVec 16
  vplan : Fin 32
  skew : BitVec 6
  late : Bool
  isInline : Bool
  routed : Bool
  config : List Byte
  payload : List Byte
  deriving DecidableEq, Repr

/-- A cell's state and path entry as the leader sends them (R438, R444). -/
structure CellData where
  slot : Nat
  cross : Bool
  path : Word
  deriving DecidableEq, Repr

/-- A preset as the leader sends it (R170, R444): VALID, PRESET_GEN, the bytes of its host tables, and this member's cells. -/
structure PresetFrame where
  preset : Fin 64
  valid : Bool
  gen : Nat
  tables : List Byte
  cells : List CellData
  deriving DecidableEq, Repr

/-- An epoch that waits, as HANDOVER_STATE carries it (R454). -/
structure HandedEpoch where
  desc : List Word
  instant : Nat
  fixed : Bool
  num : Option Nat
  late : Bool
  scheduled : Bool
  override : Bool
  deriving DecidableEq, Repr

/-- The running state of a schedule as HANDOVER_STATE carries it (R454): BASE in force, the next slot to generate and its instant, the
first slot's instant, the end of a stopping schedule, the instant at which a pending bank takes over, and the ends of cycles yet to
complete. -/
structure ScheduleFrame where
  base : Nat
  next : Nat
  instant : Nat
  first : Nat
  stop : Option Nat
  switch : Option Nat
  ends : List Nat
  deriving DecidableEq, Repr

/-- HANDOVER_STATE (R454): the queue, both schedule banks and the schedule's running state, the next epoch number, ROUTE_PORT_FAILED; and the whole millisecond of the
handover where no epoch's instant is its boundary (R453). -/
structure HandoverState where
  queue : List HandedEpoch
  banks : List Word
  lengths : Word
  control : Word
  lead : Word
  running : Option ScheduleFrame
  nextNum : Nat
  marks : List Word
  millisecond : Option Nat
  deriving DecidableEq, Repr

/-- An input reading in an INPUT_POWER frame (R363): READING in 0.125 nA, the marks and LOSS in 0.01 dB. -/
structure PowerReading where
  port : BitVec 10
  reading : Nat
  stale : Bool
  implausible : Bool
  overRange : Bool
  loss : Int
  deriving DecidableEq, Repr

/-- What the checks of R594 that rest on hashes and signatures find for an image slot: it can be read, VKEY matches the vendor root
hash, the vendor signature verifies, the owner key matches its slot's hash, and the vendor part digest and owner signature
check. -/
structure SlotChecks where
  readable : Bool
  vendorKey : Bool
  vendorSig : Bool
  ownerKey : Bool
  ownerSig : Bool
  deriving DecidableEq, Repr

/-- What a Wellhead command finds (R602, R604, R606, R615): its flash operations succeed, the signer key matches its anchor, the
signature over the message verifies, and the checks of the slot that STAGE names. -/
structure WhOutcome where
  flashOk : Bool
  signerKey : Bool
  signature : Bool
  image : SlotChecks
  deriving DecidableEq, Repr

/-- Credits that a lane's receiver returns: flits of a virtual channel and hop class, or of its shared pool (R425). -/
structure LaneCredit where
  vc : Fin 3
  hopClass : Fin 3
  shared : Bool
  flits : Nat
  deriving DecidableEq, Repr

/-- What raises a fault source (R541): a bit or rule that stands already, or an error that no other row of the table names (R582, R583). -/
inductive FaultCause where
  | standing
  /-- A word of shared SRAM outside the Cistern, by its offset, fails SECDED as a requester reads it. -/
  | sramEcc (req : Requester) (offset : BitVec 24) (uncorrectable : Bool)
  | ddrEcc (channel : Fin 4) (uncorrectable : Bool)
  | pcieError (uncorrectable : Bool)
  | i2cError
  deriving DecidableEq, Repr

/-- What a link-control block acknowledges: the sequence number up to which frames have come, and the credits that it returns (R423, R425). -/
structure LaneAck where
  upTo : BitVec 12
  credits : List LaneCredit
  deriving DecidableEq, Repr

/-- Where a read reaches, and how wide it is (R97). -/
structure ReadPlace where
  addr : BitVec 28
  size : AccessSize
  deriving DecidableEq, Repr

/-- A rail of the PWR page and its voltage (R69, R70). -/
structure RailLevel where
  rail : Fin 10
  microvolts : Nat
  deriving DecidableEq, Repr

/-- The start of a skew calibration: who commands it, and what the leader has measured for its first pass (R227). -/
structure SkewStart where
  req : Requester
  measured : SkewMeasure
  deriving DecidableEq, Repr

/-- A monitor and the raw codes of its primary and of its checker, pair by pair, in order (R340). -/
structure MonitorPairs where
  monitor : Fin 512
  pairs : List (BitVec 12 × BitVec 12)
  deriving DecidableEq, Repr

/-- One constructor per row of spec/opcode_table.json. -/
inductive Instr where
  /-- REGISTER_WRITE (R94): A host or master write to a register or window word that has no row of its own takes effect according to its access type. -/
  | registerWrite (req : Requester) (addr : BitVec 28) (size : AccessSize) (data : DWord)
  /-- DECODE_ERROR (R112): An access to a hole, a narrower write or a misaligned access is answered by variant and recorded in GLB. -/
  | decodeError (req : Requester) (addr : BitVec 28) (size : AccessSize) (write : Bool)
  /-- SPARSE_PATH_ERROR (R578): A request to a mapped address on a path the sparse matrix lacks is answered with an error and recorded in XBAR_SPARSE_ERR. -/
  | sparsePathError (master : Fin 14) (target : Fin 12) (addr : BitVec 32)
  /-- BAR2_ACCESS (R116): A host access through BAR2 reaches device DRAM at PCIE_BAR2_BASE times 64 MiB plus the offset. -/
  | bar2Access (req : Requester) (off : BitVec 32) (size : AccessSize) (write : Option DWord)
  /-- LOW_HALF_READ (R100): A 32-bit read of the low half of a 64-bit pair latches the high half in the requester's shadow. -/
  | lowHalfRead (req : Requester) (place : ReadPlace)
  /-- HIGH_HALF_READ (R100): A 32-bit read of the high half returns the requester's shadow if it holds that pair, else the live value. -/
  | highHalfRead (req : Requester) (place : ReadPlace)
  /-- PAIR_LOW_WRITE (R102): A low-half write of a 64-bit RW pair is held until the same requester writes the high half. -/
  | pairLowWrite (req : Requester) (addr : BitVec 28) (data : Word)
  /-- PAIR_HIGH_WRITE (R102): A high-half write applies both halves of a 64-bit RW pair together. -/
  | pairHighWrite (req : Requester) (addr : BitVec 28) (data : Word)
  /-- ENABLE_ON (R89): A write of CTRL.ENABLE = 1 starts the block, or sets PENDING_ON while its shut-down runs. -/
  | enableOn (req : Requester) (p : Page)
  /-- ENABLE_OFF (R88): A write of CTRL.ENABLE = 0 runs the block's shut-down sequence, or clears PENDING_ON. -/
  | enableOff (req : Requester) (p : Page)
  /-- BLOCK_START_COMPLETE (R89): A block's start sequence completes, READY sets and PENDING_ON clears. -/
  | blockStartComplete (p : Page)
  /-- BLOCK_SHUTDOWN_COMPLETE (R89): A block's shut-down sequence completes, and any pending start then begins. -/
  | blockShutdownComplete (p : Page)
  /-- SOFT_RESET (R90): A write of CTRL.SOFT_RESET = 1 starts a block reset that returns the page to reset values except the fields that survive. -/
  | softReset (req : Requester) (p : Page)
  /-- BLOCK_RESET_COMPLETE (R90): A block reset completes, and the block restarts or stays stopped according to ENABLE. -/
  | blockResetComplete (p : Page)
  /-- FREEZE (R91): A write of CTRL.FREEZE freezes reads of the page's RO and W1C registers, or returns them to live values. -/
  | freeze (req : Requester) (p : Page) (on : Bool)
  /-- W1C_WRITE (R93): A W1C write clears each written bit whose cause has ended and may send one further interrupt message. -/
  | w1cWrite (req : Requester) (addr : BitVec 28) (data : Word)
  /-- COMMIT (R103): SHADOW_CTRL.COMMIT captures every shadowed word of the page now, or is refused while APPLYING. -/
  | commit (req : Requester) (p : Page)
  /-- COMMIT_AT_EPOCH (R106): SHADOW_CTRL.COMMIT_AT_EPOCH arms a capture at the instant of the next epoch to execute. -/
  | commitAtEpoch (req : Requester) (p : Page)
  /-- DISCARD (R106): SHADOW_CTRL.DISCARD returns the shadow to the active or applying values and disarms. -/
  | discard (req : Requester) (p : Page)
  /-- SLOT_COMMIT_TAKES_EFFECT (R33): At a cell's loop-cycle boundary the committed element-table values of its slots take effect and GEN increments after the last. -/
  | slotCommitTakesEffect (cell : Fin 640)
  /-- PAGE_LOCK_WRITE (R109): A write to PAGE_LOCK with KEY 0x5AFE changes LOCKED and STICKY unless STICKY is set. -/
  | pageLockWrite (req : Requester) (p : Page) (data : Word)
  /-- CELL_POWER_ESTIMATE_REFRESH (R13): Every 10 µs the device refreshes its per-cell power estimate and PWR_DEVICE_MW. -/
  | cellPowerEstimateRefresh (watts : List Word) (deviceMw : BitVec 16)
  /-- POWER_ON (R125): PWRGOOD rising begins a cold path at P0 and samples POS[1:0]. -/
  | powerOn (pos : Fin 4)
  /-- PWRGOOD_FALL (R57): PWRGOOD falling during operation engages the supply lockout within 1 µs and loses all light. -/
  | pwrgoodFall
  /-- RESET_N_LOW (R71): A RESET_N low level that passes the 100 ns filter starts a pin reset on a cold path. -/
  | resetNLow
  /-- RESET_N_HIGH (R71): RESET_N rising ends a pin reset and starts the P0 count. -/
  | resetNHigh (pos : Fin 4)
  /-- CLEAR_N_FALL (R139): CLEAR_N falling forces park values, flushes the epoch queue and refuses every loop and sequencer update. -/
  | clearNFall
  /-- CLEAR_N_RISE (R141): CLEAR_N rising leaves outputs at park with every cell in manual at its park code. -/
  | clearNRise
  /-- PCIE_PERST_LOW (R138): PCIE_PERST_N low resets the PCIe endpoint, its MSI-X table and the host DMA rings only. -/
  | pciePerstLow
  /-- PCIE_PERST_HIGH (R138): PCIE_PERST_N rising restarts PCIe link training under R119. -/
  | pciePerstHigh
  /-- PCIE_LINK_DOWN (R583): The PCIe link leaves L0 other than by PCIE_PERST_N and sets PCIE_LINK_DOWN. -/
  | pcieLinkDown
  /-- CLKREF_LOSS (R64): After 100 ns without a CLKREF edge, CLKREF is declared lost, the serial lanes stop and the PLL may enter holdover. -/
  | clkrefLoss
  /-- XREF_LOSS (R64): After 200 ns without an XREF edge, XREF is declared lost. -/
  | xrefLoss
  /-- REFERENCE_PRESENT (R64): After 1 ms of edges within tolerance a clock input is declared present again. -/
  | referencePresent (xref : Bool)
  /-- HOLDOVER_EXPIRED (R65): 10 ms after holdover begins, HOLDOVER_EXPIRED sets. -/
  | holdoverExpired
  /-- SYS_PLL_UNLOCK (R67): The system PLL loses lock outside holdover and sets SYS_PLL_UNLOCK. -/
  | sysPllUnlock
  /-- RAIL_OUT_OF_WINDOW (R70): A rail outside its window for 10 µs clears its status bit and sets its fault bit. -/
  | railOutOfWindow (level : RailLevel)
  /-- RAIL_BACK_IN_WINDOW (R70): A rail inside its window for 10 µs sets its status bit again. -/
  | railBackInWindow (level : RailLevel)
  /-- P0_RELEASE (R118): 1 ms after the later of PWRGOOD and RESET_N high, P0 ends and P1 begins. -/
  | p0Release (clkref xref : Bool)
  /-- WELLHEAD_READY (R118): The Wellhead is ready to load firmware, ending P1 and entering P2. -/
  | wellheadReady (selfTest : Bool)
  /-- FIRMWARE_LOADED (R594): Every image has been verified and loaded, ending P2 and opening the full matrix at P3. -/
  | firmwareLoaded (slot0 slot1 : SlotChecks)
  /-- PLLS_LOCKED (R118): The PLLs are locked and the TIME clock runs, ending P3 and entering P4. -/
  | pllsLocked
  /-- DRAM_TRAINING_COMPLETE (R146): A DRAM channel finishes training, enabling its DDR_n page or leaving it disabled and DEGRADED. -/
  | dramTrainingComplete (channel : Fin 4) (trained : Bool) (bytes : BitVec 40)
  /-- SYS_PLL_LOCK_TIMEOUT (R146): The system PLL does not lock within 10 ms at P3 and the device halts with code 0x04. -/
  | sysPllLockTimeout
  /-- BANDGAP_SETTLE_TIMEOUT (R146): The bandgap does not settle within 20 ms at P4 and the device halts with code 0x07. -/
  | bandgapSettleTimeout
  /-- STAGE_TIMEOUT (R146): A priming stage exceeds its bound and the device halts with code 0x02. -/
  | stageTimeout
  /-- CAL_DONE_WRITE (R145): A write of GLB_CAL_DONE ends the P4 wait, or later applies the values written and clears CAL_MISSING. -/
  | calDoneWrite (req : Requester)
  /-- CAL_WAIT_TIMEOUT (R143): CAL_TIMEOUT expires in P4 and the calibration values take effect at the exit from P4. -/
  | calWaitTimeout
  /-- P5_COMPLETE (R133): Every cell with a healthy pump has been preloaded, ending P5 and entering P6. -/
  | p5Complete (failed : List (Fin 128))
  /-- P6_COMPLETE (R432): P6 ends when the member is JOINED or its bound expires, with RING_OUT set in the latter case. -/
  | p6Complete
  /-- WARM_RESET (R127): A write of GLB_RESET_CTRL with KEY 0xA5C3 requests a warm reset. -/
  | warmReset (req : Requester)
  /-- WARM_RESET_TAKES_EFFECT (R129): A requested warm reset takes effect, holding or parking columns and discarding control state. -/
  | warmResetTakesEffect
  /-- CLOCK_RESET (R135): SOFT_RESET in the CLK page starts a warm path with every column parked and a PLL relock. -/
  | clockReset (req : Requester)
  /-- EPOCH_SUBMIT (R155): A write of EPOCH_SUBMIT submits the held descriptor for the acceptance checks. -/
  | epochSubmit (req : Requester)
  /-- EPOCH_CHECKS_COMPLETE (R156): The acceptance checks end, accepting the epoch with a number and instant or rejecting it with a code. -/
  | epochChecksComplete
  /-- EPOCH_QUEUE_FLUSH (R184): A write of EPOCH_QUEUE_FLUSH drops every queued epoch as FLUSHED. -/
  | epochQueueFlush (req : Requester)
  /-- ROUTE_JOB_COMPLETE (R166): The route unit ends a routing job, writing column states or recording a failure, and starts the next job. -/
  | routeJobComplete
  /-- PREPARE (R170): ROUTE_PRESET_CMD.PREPARE starts the preparation of a preset. -/
  | prepare (req : Requester) (preset : Fin 64)
  /-- INVALIDATE (R171): ROUTE_PRESET_CMD.INVALIDATE clears a preset's VALID unless it is referenced. -/
  | invalidate (req : Requester) (preset : Fin 64)
  /-- PRESET_PREPARATION_COMPLETE (R170): A preset preparation ends, setting VALID and PRESET_GEN or recording its REASON. -/
  | presetPreparationComplete
  /-- ROUTE_MAP_WRITE (R164): A write to ROUTE_NET or ROUTE_STAGE_MAP_q is ignored while epochs run, and otherwise clears VALID of every preset. -/
  | routeMapWrite (req : Requester) (addr : BitVec 28) (data : Word)
  /-- ROUTE_PORT_MARK (R189): A write of ROUTE_PORT_MARK sets a port's failed mark. -/
  | routePortMark (req : Requester) (port : BitVec 10)
  /-- NOTICE_SEND (R182): At T minus the lead, or as soon as the instant is fixed, the leader sends notice frames. -/
  | noticeSend
  /-- EPOCH_STAGING (R172): At T − 10 µs each member brings its column states and slot levels into staging. -/
  | epochStaging
  /-- PREPARE_SEND (R437): The leader sends each member its PREPARE at the later of T − 10 µs and the epoch's readiness. -/
  | prepareSend
  /-- COMMIT_DEADLINE (R440): At T − 3 µs without all ACKs the leader sends ABORT. -/
  | commitDeadline
  /-- EPOCH_COMMIT_DEADLINE (R173): At T − 2 µs an epoch not ready or not committed is dropped, and a committed one enters fast mode. -/
  | epochCommitDeadline
  /-- EPOCH_INSTANT (R172): At T the epoch applies, armed commits capture and EPOCH_START fires. -/
  | epochInstant
  /-- TRANSITION_START (R209): At a column's start instant each changing channel takes its segment, or steps to TO. -/
  | transitionStart (col : Fin 10)
  /-- EPOCH_REPORT_SEND (R183): The leader sends the epoch report and every member writes its report log record. -/
  | epochReportSend
  /-- START (R177): SCHED_CTRL.START begins a rotating schedule from the active bank, or is refused. -/
  | start (req : Requester)
  /-- STOP (R181): SCHED_CTRL.STOP ends the schedule and drops generated uncommitted slots as FLUSHED. -/
  | stop (req : Requester)
  /-- STOP_AT_CYCLE_END (R181): SCHED_CTRL.STOP_AT_CYCLE_END lets the running cycle complete and then ends the schedule. -/
  | stopAtCycleEnd (req : Requester)
  /-- SWITCH_BANK (R178): SCHED_CTRL.SWITCH_BANK makes the other bank pending, or is refused. -/
  | switchBank (req : Requester)
  /-- SCHED_SLOT_GENERATE (R176): The epoch unit generates and numbers a schedule slot ahead of its instant. -/
  | schedSlotGenerate
  /-- SCHED_BANK_SWITCHED (R178): At the cycle boundary the pending bank takes over and BANK_SWITCHED sets. -/
  | schedBankSwitched
  /-- WAKE_COMPLETE (R207): 1 µs after WAKE begins, the channel enters READY. -/
  | wakeComplete (slot : Fin 2560)
  /-- READY_TIMEOUT (R207): A channel in READY with no start within 2 µs passes to LINGER. -/
  | readyTimeout (slot : Fin 2560)
  /-- SEGMENT_END (R211): At the end of a segment play the sequencer loops, follows its link, takes a pending jump or halts. -/
  | segmentEnd (slot : Fin 2560)
  /-- LINGER_EXPIRY (R207): After EO_COL_CFG.LINGER the channel begins its exit ramp. -/
  | lingerExpiry (slot : Fin 2560)
  /-- EXIT_RAMP_END (R208): The 500 ns exit ramp ends and the channel returns to HOLD at TO. -/
  | exitRampEnd (slot : Fin 2560)
  /-- EO_CH_JUMP (R212): A host write of EO_CH_JUMP requests a jump on one channel. -/
  | eoChJump (req : Requester) (slot : Fin 2560) (target : BitVec 10) (dflt : Bool)
  /-- EO_JUMP (R212): The column's EO_JUMP_c task input requests a jump on every channel set in EO_EVT_MASK. -/
  | eoJump (col : Fin 10)
  /-- SEGMENT_VALIDATE (R203): A write to a directory entry's word 0 with VALID = 1 validates the segment or records a REASON. -/
  | segmentValidate (req : Requester) (seg : BitVec 10) (data : Word)
  /-- SHAPE_LIBRARY_WRITE (R204): A write to the shape library or directory is ignored whole when it touches a protected sample. -/
  | shapeLibraryWrite (req : Requester) (addr : BitVec 28) (size : AccessSize) (data : DWord)
  /-- SHAPE_DIR_INVALIDATE (R205): SHAPE_DIR_CMD.INVALIDATE clears a segment's VALID unless it is referenced. -/
  | shapeDirInvalidate (req : Requester) (seg : BitVec 10)
  /-- SKEW_CAL (R227): SHAPE_ALIGN_CTRL.SKEW_CAL on the leader starts a ring-wide skew calibration. -/
  | skewCal (start : SkewStart)
  /-- SKEW_CAL_COMPLETE (R227): A skew calibration ends with new trims pending or with CAL_DISAGREE. -/
  | skewCalComplete (measured : SkewMeasure) (arrival1 arrival2 : Int) (othersAgree : Bool)
  /-- SYNC_EMIT (R225): The leader emits an 8 ns SYNC pulse at each whole millisecond of its clock. -/
  | syncEmit (millisecond : Nat)
  /-- SYNC_ARRIVAL (R230): A SYNC pulse arrives and is compared with its expectation, setting SKEW_DRIFT on departure. -/
  | syncArrival (arrival : Int)
  /-- NO_SYNC (R230): No SYNC pulse arrives for 2 ms and the member times transitions from its TIME clock. -/
  | noSync
  /-- EO_CAL_START (R231): EO_CAL_CMD.START begins a swept level calibration of one slot, or is refused. -/
  | eoCalStart (req : Requester) (col : Fin 10) (tier : Fin 256) (darkOk maxIsCross : Bool)
  /-- EO_CAL_COMPLETE (R232): An EO level calibration ends with new bar and cross levels or CAL_DISAGREE. -/
  | eoCalComplete (col : Fin 10) (run1 run2 : SweepRun)
  /-- EO_COL_COUNT_CLR (R234): A write of EO_COL_COUNT_CLR sets every EO counter of the page to zero. -/
  | eoColCountClr (req : Requester) (col : Fin 10)
  /-- GO (R220): SIPH_n_CMD.GO arms a siphon stream and fills its queue, or is refused. -/
  | go (req : Requester) (stream : Fin 32)
  /-- ABORT (R223): SIPH_n_CMD.ABORT ends a siphon stream at the next output sample. -/
  | abort (req : Requester) (stream : Fin 32)
  /-- RELEASE (R223): SIPH_n_CMD.RELEASE moves a HELD channel to the level in service and to HOLD. -/
  | release (req : Requester) (stream : Fin 32)
  /-- SIPHON_STREAM_START (R220): An armed siphon stream reaches its start event and starts, or is treated as underrun. -/
  | siphonStreamStart (stream : Fin 32) (fill : Nat)
  /-- SIPHON_START (R220): The SIPHON_START task input starts every armed stream with START_MODE 2. -/
  | siphonStart (fills : List StreamFill)
  /-- SIPHON_UNDERRUN (R222): A stream's queue runs empty, the channel is HELD and the stream aborts. -/
  | siphonUnderrun (stream : Fin 32) (position reps : Nat)
  /-- SIPHON_END (R223): A stream plays its last sample and leaves its channel HELD. -/
  | siphonEnd (stream : Fin 32)
  /-- PWM_FRAME_START (R239): At an output's frame start the accumulator adds the remainder and the latest code takes effect. -/
  | pwmFrameStart (col : Fin 10) (output : Fin 512)
  /-- BUDGET_EVALUATION (R249): At each global frame boundary the device estimates heater power and scales magnitudes above the budget. -/
  | budgetEvaluation
  /-- HTR_HOST_WRITE (R245): A host write of HTR_HOST_t is accepted for a manual cell under row 7, and counted as ignored otherwise. -/
  | htrHostWrite (req : Requester) (slot : Fin 2560) (code : BitVec 16)
  /-- READBACK_VISIT (R252): A bank's read-back visits one output over a frame and stores its resistance. -/
  | readbackVisit (col : Fin 10) (output : Fin 512) (sample : ReadBack)
  /-- OVERCURRENT (R254): A switch that limits for 1 µs opens and sets its over-current latch. -/
  | overcurrent (col : Fin 10) (output : Fin 512)
  /-- BANK_OT (R255): A bank's thermal detector reads above 130 °C and opens all 128 outputs. -/
  | bankOt (col : Fin 10) (bank : Fin 4)
  /-- HTR_FAULT_CLR (R253): A write of HTR_FAULT_CLR clears read-back faults, over-current latches and permitted bank flags. -/
  | htrFaultClr (req : Requester) (col : Fin 10) (data : BitVec 16) (hot : BitVec 4)
  /-- HTR_COUNT_CLR (R258): A write of HTR_COUNT_CLR clears the column's heater counters. -/
  | htrCountClr (req : Requester) (col : Fin 10)
  /-- HTR_CAL_START (R256): HTR_CAL_CMD.START begins a read-back calibration of the column, or is refused. -/
  | htrCalStart (req : Requester) (col : Fin 10)
  /-- HTR_CAL_DONE (R256): A read-back calibration ends with new HTR_RCAL values or CAL_DISAGREE. -/
  | htrCalDone (col : Fin 10) (runs : List ReadPair)
  /-- LOOP_UPDATE (R270): At a cell's boundary the pump computes its kernel update and writes codes to the claim arbiter. -/
  | loopUpdate (pump : Fin 128) (cell : Fin 640) (taps : List (List (BitVec 12)))
  /-- TABLE_BANK_LOADED (R287): A pump finishes loading and checking a captured cell's other bank, or refuses it. -/
  | tableBankLoaded (pump : Fin 128) (cell : Fin 640)
  /-- LOOP_COMMIT (R287): LOOP_TABLE_CMD.COMMIT captures every primary cell with NEXT_BANK_READY set. -/
  | loopCommit (req : Requester) (pump : Fin 128)
  /-- LOOP_COMMIT_AT_EPOCH (R287): LOOP_TABLE_CMD.COMMIT_AT_EPOCH arms a capture of the ready cells at the next epoch. -/
  | loopCommitAtEpoch (req : Requester) (pump : Fin 128)
  /-- DISARM (R638): LOOP_TABLE_CMD.DISARM withdraws an armed loop table commit. -/
  | disarm (req : Requester) (pump : Fin 128)
  /-- INJ_GO (R299): INJ_CMD.GO starts a test injection at the chosen boundary, or is refused. -/
  | injGo (req : Requester) (cell : Fin 640)
  /-- INJ_STOP (R299): INJ_CMD.STOP ends a test injection as DONE. -/
  | injStop (req : Requester) (cell : Fin 640)
  /-- CELL_CLR (R302): A write of CELL_CLR clears CELL_MISS or DIVERGED. -/
  | cellClr (req : Requester) (cell : Fin 640) (data : BitVec 2)
  /-- CLAIM_UPDATE (R308): A pump's update for a cell reaches the claim arbiter and is passed, compared, raised or refused. -/
  | claimUpdate (pump : Fin 128) (cell : Fin 640) (claim : BitVec 16)
  /-- MISSING_UPDATE (R314): At a boundary the arbiter finds a pump's update missing and signals the other pump. -/
  | missingUpdate (pump : Fin 128) (cell : Fin 640)
  /-- PUMP_ECC_ERROR (R313): An uncorrectable ECC error in a pump's local memory loses the pump. -/
  | pumpEccError (pump : Fin 128)
  /-- BACKGROUND_SELF_TEST (R313): Every 1 ms a pump runs its known-answer test and memory scrub, and is lost on failure. -/
  | backgroundSelfTest (pump : Fin 128) (pass : Bool)
  /-- QUICK_SELF_TEST_COMPLETE (R315): The quick self-test after a mismatch run ends, losing the failing pump or raising TWIN_DISAGREE. -/
  | quickSelfTestComplete (pair : Fin 64) (evenPass oddPass : Bool)
  /-- PUMP_LOAD_COMPLETE (R311): A pump in LOADING finishes loading and enters SELF_TEST. -/
  | pumpLoadComplete (pump : Fin 128)
  /-- PUMP_SELF_TEST_COMPLETE (R311): A pump's self-test ends, entering SYNC on a pass or losing the pump on a failure. -/
  | pumpSelfTestComplete (pump : Fin 128) (pass : Bool)
  /-- FW_UPDATE (R322): TWIN_CMD.FW_UPDATE hands a pump's cells to its twin and reloads its kernel, or is refused. -/
  | fwUpdate (req : Requester) (pump : Fin 128)
  /-- SELF_TEST (R323): TWIN_CMD.SELF_TEST runs the quick self-test on a pump in service. -/
  | selfTest (req : Requester) (pump : Fin 128)
  /-- TAKEBACK_NOW (R317): TWIN_CMD.TAKEBACK_NOW permits the primary pump to take back its cells. -/
  | takebackNow (req : Requester) (pump : Fin 128)
  /-- HEALTH_CLR (R323): A write of HEALTH_CLR sets the pump's health counters to zero. -/
  | healthClr (req : Requester) (pump : Fin 128)
  /-- CLAIM_COUNT_CLR (R324): A write of CLAIM_COUNT_CLR clears the column's claim counters. -/
  | claimCountClr (req : Requester) (col : Fin 10)
  /-- AUTO_RANGE_UP (R329): Two consecutive samples above 30,400 move a channel to the next larger full scale. -/
  | autoRangeUp (well : Fin 288) (input : Fin 16)
  /-- AUTO_RANGE_DOWN (R329): 1 ms of samples below 2,560 moves a channel to the next smaller full scale. -/
  | autoRangeDown (well : Fin 288) (input : Fin 16)
  /-- MONITOR_IMPLAUSIBLE (R340): PW_PLAUS_COUNT consecutive disagreeing pairs make a monitor IMPLAUSIBLE and raise PORT_PLAUS. The pairs are the
  raw codes of the primary and of the checker, in order. -/
  | monitorImplausible (run : MonitorPairs)
  /-- MONITOR_PLAUSIBLE (R340): PW_PLAUS_COUNT consecutive agreeing pairs make a monitor plausible again. -/
  | monitorPlausible (run : MonitorPairs)
  /-- PM_READ_PUBLISH (R342): At every whole microsecond the primary page publishes each monitor's reading and refreshes the input power table. -/
  | pmReadPublish (primary : Fin 64) (samples : List MonitorSamples)
  /-- STUCK (R354): A converter returning one raw code for 65,536 conversions loses its well. -/
  | stuck (well : Fin 304)
  /-- PIN_START (R334): A pin reaches its start instant and takes the well's slots in its mode. -/
  | pinStart (well : Fin 288)
  /-- PIN_END (R334): A pin reaches its end instant and the scan resumes. -/
  | pinEnd (well : Fin 288)
  /-- BIND (R336): ILV_CTRL.BIND arms or starts an interleaved binding of a tap well pair, or is refused. -/
  | bind (req : Requester) (pair : Fin 80) (tier : Fin 32) (mode : Fin 4)
  /-- ILV_RELEASE (R336): ILV_CTRL.RELEASE ends an interleaved binding. -/
  | ilvRelease (req : Requester) (pair : Fin 80)
  /-- ILV_BINDING_START (R336): An armed binding reaches ILV_START_T and starts, firing ILV_BOUND. -/
  | ilvBindingStart (pair : Fin 80)
  /-- ILV_START (R336): The ILV_START_j task input starts pair j's binding armed with START_MODE 2. -/
  | ilvStart (pair : Fin 80)
  /-- ILV_BINDING_END (R336): A binding ends after ILV_LEN µs and fires ILV_RELEASED. -/
  | ilvBindingEnd (pair : Fin 80)
  /-- HOUSEKEEPING_CONVERSION (R343): A housekeeping well converts an input and updates its result, rail voltage or reference check. -/
  | housekeepingConversion (hw : Fin 16) (input : Fin 32) (code : BitVec 16) (tenthOhms : BitVec 20) (millivolts : BitVec 16)
  /-- REF_SEL_WRITE (R345): A write changing REF_SEL clears REF_SETTLED for 200 µs and aborts a calibration run. -/
  | refSelWrite (req : Requester) (well : Fin 288) (data : Word)
  /-- REF_SETTLE_TIMER (R345): A reference settle interval ends and REF_SETTLED rises again. -/
  | refSettleTimer (well : Fin 304)
  /-- CAL_START_INTERNAL (R347): CAL_CMD.START with SOURCE 0 begins an internal calibration run, or is refused. -/
  | calStartInternal (req : Requester) (well : Fin 288) (channels : BitVec 16) (ranges : BitVec 4)
  /-- CAL_START_EXTERNAL (R348): CAL_CMD.START with SOURCE 1 begins an external calibration run, or is refused. -/
  | calStartExternal (req : Requester) (well : Fin 288) (channels : BitVec 16)
  /-- EXT_PHASE_ZERO (R348): CAL_CMD.EXT_PHASE = 0 measures the zero condition of the selected channels. -/
  | extPhaseZero (req : Requester) (well : Fin 288)
  /-- EXT_PHASE_FULL (R348): CAL_CMD.EXT_PHASE = 1 measures the full-scale condition and computes values. -/
  | extPhaseFull (req : Requester) (well : Fin 288)
  /-- ZERO_HELD (R348): The zero measurements of an external run complete and ZERO_HELD sets. -/
  | zeroHeld (well : Fin 288)
  /-- EXT_CAL_TIMEOUT (R348): A full-scale phase not started within 10 s of ZERO_HELD aborts the run. -/
  | extCalTimeout (well : Fin 288)
  /-- CAL_ABORT (R351): CAL_CMD.ABORT ends a calibration run with no value changed. -/
  | calAbort (req : Requester) (well : Fin 288)
  /-- WELL_CAL_COMPLETE (R350): A well calibration run ends, applying every new value together or recording CAL_DISAGREE. -/
  | wellCalComplete (well : Fin 288) (runs : List CalMeasure)
  /-- WELL_COUNT_CLR (R355): A write of WELL_COUNT_CLR clears the well's counters. -/
  | wellCountClr (req : Requester) (well : Fin 288)
  /-- PW_PLAUS_CLR (R355): A write of PW_PLAUS_CLR clears the sticky plausibility fields. -/
  | pwPlausClr (req : Requester) (primary : Fin 64)
  /-- INPUT_POWER_EXCHANGE (R363): At every 10 µs instant each member sends its input readings and mirrors its table. -/
  | inputPowerExchange
  /-- VERDICT_OFFSET_DUE (R371): An item's sample offset instant passes and the item may be decided PASS, FAIL or NO_SAMPLE. -/
  | verdictOffsetDue (tap : Bool) (index : Fin 2560) (offset : Fin 4) (raw : BitVec 12)
  /-- VERDICT_ABANDON (R373): At T + 25 µs or 2 µs before the next epoch, undecided items are ABANDONED. -/
  | verdictAbandon
  /-- PILOT_BIT_BOUNDARY (R380): At each 16 µs pilot bit boundary an ATTEN slot ramps to its 1 or 0 level. -/
  | pilotBitBoundary
  /-- PILOT_FRAME_START (R381): At T + 4 µs of an applied epoch the pilot frame in progress ends and a new frame begins. -/
  | pilotFrameStart
  /-- PILOT_DECODE_COMPLETE (R385): A pilot decoder delivers its result for an output monitor. -/
  | pilotDecodeComplete (primary : Fin 64) (input : Fin 8)
  /-- VRD_COUNT_CLR (R387): A write of VRD_COUNT_CLR sets VRD_ACT_COUNT to zero. -/
  | vrdCountClr (req : Requester)
  /-- ARM (R412): CAPT_CMD.ARM reads a stream descriptor and arms the stream, or refuses it with a reason. -/
  | arm (req : Requester) (stream : Fin 256)
  /-- CAPT_STOP (R413): CAPT_CMD.STOP ends a stream at once, closing any record TRUNCATED. -/
  | captStop (req : Requester) (stream : Fin 256) (rest : List CaptItem)
  /-- STOP_AFTER (R413): CAPT_CMD.STOP_AFTER lets a record in POST complete and then ends the stream. -/
  | stopAfter (req : Requester) (stream : Fin 256) (rest : List CaptItem)
  /-- TRIGGER (R400): CAPT_CMD.TRIGGER gives a stream a host trigger. -/
  | trigger (req : Requester) (stream : Fin 256)
  /-- CAPT_TRIG (R400): The CAPT_TRIG_n task input gives stream n an event trigger. -/
  | captTrig (stream : Fin 256)
  /-- TRIG_IN (R406): A selected edge on an input TRIG pin is timestamped, fires TRIG_IN_p and may trigger a stream. -/
  | trigIn (pin : Fin 8) (rising : Bool) (stamp : Nat)
  /-- TRIG_OUT (R406): The TRIG_OUT_p task input drives an output TRIG pin high for PULSE ns. -/
  | trigOut (pin : Fin 8)
  /-- TRIG_PULSE_END (R406): An output TRIG pulse ends after PULSE ns. -/
  | trigPulseEnd (pin : Fin 8)
  /-- CAPT_UNIT_WRITTEN (R394): A completed coding unit is written into the stream's data ring. -/
  | captUnitWritten (stream : Fin 256) (items : List CaptItem)
  /-- RECORD_HEADER_WRITE (R404): A record's header is written, CAPT_RECORD fires and a triggered stream re-arms. -/
  | recordHeaderWrite (stream : Fin 256) (rest : List CaptItem)
  /-- WRITE_ERROR (R413): A DRAM write of a stream is answered with an error and the stream enters ERROR. -/
  | writeError (stream : Fin 256)
  /-- HELLO (R430): A HELLO frame is received and the neighbour is admitted or held in probe. -/
  | hello (lane : Fin 4) (hello : Hello)
  /-- HEARTBEAT_SEND (R429): Every 100 µs each member sends HEARTBEAT to all. -/
  | heartbeatSend
  /-- HEARTBEAT (R444): A HEARTBEAT is received, carrying epoch number, preset digest, offset and increment. -/
  | heartbeat (source : Fin 4) (beat : Heartbeat)
  /-- LEAVE (R434): A LEAVE frame is received and its sender is treated as lost. -/
  | leave (source : Fin 4)
  /-- LEAD (R449): A LEAD frame is received and accepted when its term or claim is higher. -/
  | lead (source : Fin 4) (term : BitVec 16) (claim : Nat)
  /-- PREPARE_RECEIVED (R439): A member receives PREPARE and votes ACK or NACK once staged. -/
  | prepareReceived (source : Fin 4) (prepare : PrepareFrame)
  /-- VOTE (R440): The leader receives a member's vote and sends COMMIT or ABORT. -/
  | vote (source : Fin 4) (num : Nat) (nack : Option (BitVec 3))
  /-- COMMIT_RECEIVED (R441): A member receives COMMIT by T − 2 µs, applies the epoch and sends COMMITTED. -/
  | commitReceived (num : Nat)
  /-- ABORT_RECEIVED (R440): A member receives ABORT, discards its staging and records a configuration disagreement. -/
  | abortReceived (num : Nat) (position : Fin 4) (code : BitVec 3)
  /-- COMMITTED (R442): The leader receives COMMITTED from a member for the report's ring mask. -/
  | committed (source : Fin 4) (num : Nat)
  /-- ADOPT (R444): A follower receives ADOPT and becomes ADOPTING. -/
  | adopt (presets : List (Fin 64))
  /-- PRESET_DATA (R444): A member receives preset data and stores it, ending adoption after the last preset. -/
  | presetData (data : PresetFrame)
  /-- PAYLOAD (R438): A member receives its routed epoch payload. -/
  | payload (serial : Nat) (perm : List Nat) (cells : List CellData)
  /-- ROLE_REPORT (R165): The leader receives a member's roles and pins. -/
  | roleReport (source : Fin 4) (slots : List (BitVec 12 × Word))
  /-- MARK (R374): The leader receives a verdict MARK and sets the port's failed mark. -/
  | mark (port : BitVec 10)
  /-- SUMMARY (R377): The leader receives a member's judged and failing masks and combines them. -/
  | summary (num judged failing : Nat)
  /-- SKEW_CAL_MESSAGE (R227): A member receives a skew calibration message from the leader or a member. -/
  | skewCalMessage (source : Fin 4) (content : SkewWord)
  /-- PRESET_INVALIDATE (R444): A member receives PRESET_INVALIDATE and invalidates the preset. -/
  | presetInvalidate (preset : Fin 64)
  /-- HANDOVER_STATE (R454): The successor receives the leader's queue, schedule and marks for a handover. -/
  | handoverState (source : Fin 4) (handed : HandoverState)
  /-- INPUT_POWER (R363): A member receives another member's input readings and stores them within 3 µs. -/
  | inputPower (source : Fin 4) (readings : List PowerReading)
  /-- HEALTH_SEND (R429): Every 1 ms each member sends its pump and well health to the leader. -/
  | healthSend
  /-- HEALTH (R429): The leader receives a member's HEALTH message and stores it in the health area. -/
  | health (source : Fin 4) (words : List Word)
  /-- TIME_PROBE_SEND (R445): Every 1 ms a member starts a two-way TIME_PROBE exchange on each up lane. -/
  | timeProbeSend
  /-- TIME_PROBE (R445): A TIME_PROBE exchange completes, giving the hop offset and the follower's correction. -/
  | timeProbe (lane : Fin 4) (t1 t2 t3 t4 : Int)
  /-- OFFSET_MEASUREMENT_TIMEOUT (R445): No offset is measured for 3 ms and the member becomes untrusted. -/
  | offsetMeasurementTimeout
  /-- SLEW_SATURATED (R469): A follower's offset cannot be brought within tolerance in 10 ms and SLEW_SATURATED sets. -/
  | slewSaturated
  /-- LINK_CONTROL_BLOCK (R423): A link-control block is received, acknowledging frames or triggering a replay. -/
  | linkControlBlock (lane : Fin 4) (ack : LaneAck) (nack : Bool) (crcErrors discarded : Nat)
  /-- REPLAY_TIMEOUT (R423): 2 µs without an acknowledgement replays from the first unacknowledged frame. -/
  | replayTimeout (lane : Fin 4)
  /-- LANE_FAILED (R423): A peer lane becomes FAILED on lost block lock, CRC errors or a fourth replay. -/
  | laneFailed (lane : Fin 4) (crcErrors : Nat)
  /-- LANE_RETRAIN (R423): Every 1 ms a FAILED lane retrains. -/
  | laneRetrain (lane : Fin 4)
  /-- LANE_RETURN_TO_SERVICE (R423): A retrained lane with 10 ms free of CRC errors returns to service. -/
  | laneReturnToService (lane : Fin 4)
  /-- MEMBER_SILENT (R434): No HEARTBEAT from a member for 3 ms loses it, and a lost leader starts an election. -/
  | memberSilent (position : Fin 4)
  /-- LEADER_ISOLATED (R451): A leader with no frame from any member for 3 ms gives up leadership. -/
  | leaderIsolated
  /-- JOIN_RETRY (R432): Every 100 ms with AUTO_JOIN, a member with RING_OUT retries joining. -/
  | joinRetry
  /-- JOIN (R432): RING_CMD.JOIN makes a member retry joining. -/
  | join (req : Requester)
  /-- RING_LEAVE (R434): RING_CMD.LEAVE makes the member send LEAVE and leave the ring. -/
  | ringLeave (req : Requester)
  /-- HANDOVER (R453): RING_CMD.HANDOVER on the leader hands leadership to a JOINED member at the next boundary. -/
  | handover (req : Requester) (target : Fin 4)
  /-- TAKEBACK_HANDOVER_TIMER (R453): With no epoch committed within 10 ms, the take-back handover happens at the next whole millisecond. -/
  | takebackHandoverTimer
  /-- RING_COUNT_CLR (R457): A write of RING_COUNT_CLR clears the ring counters. -/
  | ringCountClr (req : Requester)
  /-- STEP (R465): TIME_CMD.STEP schedules the single step of the TIME clock, or is refused. -/
  | step (req : Requester)
  /-- STEP_APPLY (R465): A step applies at the first tick at least 10 ns after its write and fires TIME_STEPPED. -/
  | stepApply
  /-- SNAP (R462): TIME_CMD.SNAP captures the clock's value. -/
  | snap (req : Requester)
  /-- SLEW (R464): TIME_CMD.SLEW runs the clock at TIME_SLEW_INCR for TIME_SLEW_TICKS ticks, or is refused. -/
  | slew (req : Requester)
  /-- SLEW_ABORT (R464): TIME_CMD.SLEW_ABORT ends a slew at the next tick. -/
  | slewAbort (req : Requester)
  /-- SLEW_END (R464): A slew's tick count expires and the clock returns to TIME_INCR. -/
  | slewEnd
  /-- TIME_INCR_WRITE (R463): A write of TIME_INCR sets the increment in force, or is ignored outside ±500 ppm. -/
  | timeIncrWrite (req : Requester) (low : Option Word) (high : Word)
  /-- PPS_PULSE (R473): PPS_OUT rises at each whole second minus PPS_OFS and fires PPS. -/
  | ppsPulse
  /-- PPS_PULSE_END (R473): PPS_OUT falls after WIDTH µs. -/
  | ppsPulseEnd
  /-- MAC_MODE_WRITE (R482): A write changing MAC_CFG.MODE takes the port down and brings it up in the new mode. -/
  | macModeWrite (req : Requester) (port : Fin 4) (data : Word)
  /-- LINK_STATE_CHANGE (R485): A port's LINK_UP changes with block lock, FEC alignment or fault signalling. -/
  | linkStateChange (port : Fin 4) (blockLock fecAligned localFault remoteFault : Bool)
  /-- FRAME_RECEIVED (R491): A received frame is filtered, timestamped, policed, classified and queued for the host. -/
  | frameReceived (port : Fin 4) (frame : ReceivedFrame)
  /-- RX_DELIVERY (R510): A frame at the head of an ingress queue is written to the host buffer of the next receive descriptor. -/
  | rxDelivery (port : Fin 4) (cls : Fin 8) (addr : DWord) (size : BitVec 16) (ecc : EccScan)
  /-- TX_DESCRIPTOR_FETCH (R509): The device fetches a transmit descriptor and reads its frame into the egress queue once there is room. -/
  | txDescriptorFetch (port : Fin 4) (cls : Fin 8) (desc : TxDescriptor)
  /-- FRAME_TRANSMIT_COMPLETE (R506): A frame has left the port, its descriptor is written back and the next frame is chosen. -/
  | frameTransmitComplete (port : Fin 4) (departure : BitVec 96) (ecc : EccScan)
  /-- GATE_ENTRY_BOUNDARY (R500): A gate list moves to its next entry or cycle. -/
  | gateEntryBoundary (port : Fin 4)
  /-- CONFIG_CHANGE (R503): GATE_CMD.CONFIG_CHANGE makes the other bank pending with its start instant, or is refused. -/
  | configChange (req : Requester) (port : Fin 4)
  /-- CANCEL (R503): GATE_CMD.CANCEL withdraws a pending gate list. -/
  | cancel (req : Requester) (port : Fin 4)
  /-- GATE_LIST_TAKES_EFFECT (R503): A pending gate list takes effect at its start instant and begins at entry 0. -/
  | gateListTakesEffect (port : Fin 4)
  /-- CIS_FLUSH (R498): A write of CIS_FLUSH names a queue to be flushed at its next packet boundary. -/
  | cisFlush (req : Requester) (queue : Fin 64)
  /-- CIS_FLUSH_COMPLETE (R498): At the queue's packet boundary the flush discards its frames and FLUSH_DONE sets. -/
  | cisFlushComplete (queue : Fin 64)
  /-- MAC_COUNT_CLR (R513): A write of MAC_COUNT_CLR clears the port's counters. -/
  | macCountClr (req : Requester) (port : Fin 4)
  /-- POLICE_COUNT_CLR (R515): A write of POLICE_COUNT_CLR sets every POL_COUNT_i to zero. -/
  | policeCountClr (req : Requester) (port : Fin 4)
  /-- CIS_COUNT_CLR (R516): A write of CIS_COUNT_CLR clears the Cistern counters. -/
  | cisCountClr (req : Requester)
  /-- EVT_FIRE (R532): A write of EVT_FIRE publishes one event of generation 0 on a channel. -/
  | evtFire (req : Requester) (channel : BitVec 8)
  /-- EVT_COUNT_CLR (R532): A write of EVT_COUNT_CLR clears EVT_LOOP_INFO and EVT_COLLIDE. -/
  | evtCountClr (req : Requester)
  /-- EVT_TASK_CLR (R528): A write of EVT_TASK_CLR clears LOST and OVERRUN of every task input. -/
  | evtTaskClr (req : Requester)
  /-- FAULT_RAISE (R541): A fault source is raised and its record, first-fault and reactions are updated. -/
  | faultRaise (cause : FaultCause := .standing)
  /-- REACTION_COMPLETE (R543): A reaction completes and its guard window starts running out. -/
  | reactionComplete
  /-- GUARD_WINDOW_END (R543): GUARD has passed since a reaction completed and its guard window closes. -/
  | guardWindowEnd
  /-- ACK (R546): FLT_ACK.ACK moves a RAISED record to ACKED. -/
  | ack (req : Requester) (source : BitVec 7) (all : Bool)
  /-- CLEAR (R546): FLT_ACK.CLEAR returns an ACKED record to reset values, or is refused. -/
  | clear (req : Requester) (source : BitVec 7) (all : Bool) (ack : Bool)
  /-- FLT_FIRST_CLR (R542): A write of FLT_FIRST_CLR clears FLT_FIRST, its time and the same-cycle mask. -/
  | fltFirstClr (req : Requester)
  /-- HEAT_EVALUATION (R558): A sensor is evaluated against its limits and rate of rise. -/
  | heatEvaluation (sensor : Fin 96) (temp : Int)
  /-- THERMAL_RESTART (R567): After 5 s cool in THERMAL_DOWN the HEAT block starts a cold path from P1. -/
  | thermalRestart
  /-- XBAR_TIMEOUT (R581): A target does not answer a granted request within TIMEOUT and the matrix answers with an error. -/
  | xbarTimeout (master : Fin 14) (target : Fin 12) (addr : BitVec 32)
  /-- PCIE_CPL_TIMEOUT (R586): An outbound PCIe request times out after 50 ms and completes with an error. -/
  | pcieCplTimeout (master : Fin 14) (addr : BitVec 64)
  /-- XBAR_COUNT_CLR (R588): A write of XBAR_COUNT_CLR clears the matrix counters. -/
  | xbarCountClr (req : Requester)
  /-- FLASH_ERASE (R602): WH_CMD FLASH_ERASE erases a 64 KiB flash sector. -/
  | flashErase (req : Requester)
  /-- FLASH_PROGRAM (R602): WH_CMD FLASH_PROGRAM writes flash from the data window. -/
  | flashProgram (req : Requester)
  /-- FLASH_READ (R602): WH_CMD FLASH_READ reads flash into the data window. -/
  | flashRead (req : Requester)
  /-- STAGE (R604): WH_CMD STAGE verifies a slot and stages its pump kernel. -/
  | stage (req : Requester)
  /-- SVN_COMMIT (R608): WH_CMD SVN_COMMIT advances the security-version counter to the booted image's SVN. -/
  | svnCommit (req : Requester)
  /-- ENROLL (R606): WH_CMD ENROLL enrols a new owner key in the next OTP slot. -/
  | enroll (req : Requester)
  /-- ATTEST (R613): WH_CMD ATTEST writes a signed attestation report to shared SRAM. -/
  | attest (req : Requester)
  /-- NONCE (R600): WH_CMD NONCE issues a fresh nonce. -/
  | nonce (req : Requester)
  /-- DEBUG_UNLOCK (R615): WH_CMD DEBUG_UNLOCK checks a token and opens the debug scopes it names. -/
  | debugUnlock (req : Requester)
  /-- DEBUG_LOCK (R615): WH_CMD DEBUG_LOCK closes every debug scope. -/
  | debugLock (req : Requester)
  /-- CAL_SAVE (R599): WH_CMD CAL_SAVE writes every calibration value in service to the flash copy not loaded. -/
  | calSave (req : Requester)
  /-- WH_COMMAND_COMPLETE (R600): A Wellhead command ends with a result code and sets CMD_DONE or CMD_FAILED. -/
  | whCommandComplete (outcome : WhOutcome)
  /-- OTP_BURN_COMPLETE (R617): An OTP burn finishes and is verified, or ends with OTP_FAIL. -/
  | otpBurnComplete (verified : Bool)
  /-- TEST_SESSION_START (R614): EXTEST or an IEEE 1500 instruction starts a test session with the sparse matrix and every slot parked. -/
  | testSessionStart (ieee1500 : Bool)
  /-- TEST_SESSION_END (R614): A TAP reset ends the test session with a warm reset and every column parked. -/
  | testSessionEnd
  /-- CENSUS_SNAP (R625): CEN_CMD.SNAP captures a census at the cycle of the write, or is refused. -/
  | censusSnap (req : Requester)
  /-- SNAP_AT_EPOCH (R625): CEN_CMD.SNAP_AT_EPOCH arms a census capture at the next epoch instant. -/
  | snapAtEpoch (req : Requester)
  /-- CENSUS_ABORT (R626): CEN_CMD.ABORT ends a census copy with ABORTED. -/
  | censusAbort (req : Requester)
  /-- CENSUS_COPY_COMPLETE (R626): The census copy completes, DONE sets and CEN_SEQ increments. -/
  | censusCopyComplete
  /-- P4_COMPLETE (R118): The work of P4 (references settled, wells brought up, calibration restored) completes on a path with no host wait, ending P4 and entering P5. -/
  | p4Complete (failed : List (Fin 304))
  /-- PCIE_LINK_UP (R119): PCIe link training completes and the link reaches L0, so the endpoint answers requests. -/
  | pcieLinkUp
  /-- LANE_BLOCK_LOCK (R421): A peer lane in training reaches block lock and comes up, so HELLO exchange can begin. -/
  | laneBlockLock (lane : Fin 4)
  /-- HELLO_SEND (R429): Every 10 ms after training a member sends HELLO to each neighbour. -/
  | helloSend
  /-- STAGING_DEADLINE (R439): At T − 3.5 µs a member whose routed payload has not fully arrived votes NACK with NOT_STAGED. -/
  | stagingDeadline
  /-- PEAK_BUCKET_FILLED (R505): A class's shaper peak bucket refills to the head frame's L + OVH while the transmitter is free, so the port starts that frame. -/
  | peakBucketFilled (port : Fin 4) (cls : Fin 8)
  deriving DecidableEq, Repr

end Sys2Proof
end

