-- ==== Sys2Proof/Config.lean ====
section
/-! DEFINITION. What an implementation fixes and what the spec leaves open. Every constant here is opaque: it has no
body, so no proof can see a value of it. -/

namespace Sys2Proof

/-- A fresh open value: the spec states no value there, and the step that needs one reads and advances `State.fresh`
(assumption 2). Its consumer narrows it to the width of the field. -/
opaque Config.openNat : Nat → Nat

/-- A fresh open signed value (assumption 2). -/
opaque Config.openInt : Nat → Int

/-- GLB_SERIAL of R114: fixed per device, stated nowhere. -/
opaque Config.serial : DWord

/-- The stepping in GLB_PART [23:16] of R114. -/
opaque Config.stepping : Byte

/-- The minor revision of every page, PAGE_REV [7:0] of R87. -/
opaque Config.minorRevision : Byte

/-- Word `i` of the attestation public key (R610, R619). -/
opaque Config.attestKey : Nat → Word

/-- What byte `a` of DRAM reads as after the n-th loss of its contents, until something writes it (R131). -/
opaque Config.dramByte : Nat → Nat → Byte

/-- f of R200 for an attenuation in 0.01 dB, in 2^-24; its consumer brings it to within the error of 2^-16 that R200 allows
(assumption 7). -/
opaque Config.attenFraction : Nat → Nat

/-- Half of the differential code that a level calibration settles on from its two runs, between the bounds that they give
(R232, assumption 8). -/
opaque Config.calHalf : Int → Int → Int

/-- Which of the two nearest values an unstated rounding takes (assumption 9). -/
opaque Config.roundUp : Int → Nat → Bool

/-- Tap `k` of the resampler's filter for a step in 2^-14 source samples and a phase in 1/256 sample, in 2^-30: the spec gives
their number and what they achieve together, and does not list them (R217, assumption 10). -/
opaque Config.filterTap : Nat → Nat → Nat → Int

/-- The fill in KiB of a siphon stream's refill queue at an uptime, as DRAM keeps up with it (R220, R236, assumption 11). -/
opaque Config.queueFill : Nat → Nat → Nat

/-- What a byte of a pump's local memory holds after the n-th load of its firmware and tables (R131, R311, assumption 71). -/
opaque Config.pumpByte : Nat → Nat → Byte

/-- The trim that a tap well's converter adds to OFS, in 1/16 raw LSB, where it converts an input of its partner well (R337, measured at
test and held in OTP). -/
opaque Config.trimOfs : Nat → Int

/-- The trim that it adds to GAIN there (R337). -/
opaque Config.trimGain : Nat → Int

/-- How long an internal calibration of a well takes over a channel and range, in ns; its consumer keeps it to at most 100 µs
(R347). -/
opaque Config.calTime : Nat → Nat → Nat → Nat

/-- The extended-format value that a pump forms of a quotient by zero (assumption 12). -/
opaque Config.overZero : Int → Word

/-- 10^(-x/10) for x in 0.01 dB, in 2^-64; its consumer brings it to within 2^-48 of the exact value in proportion (R362, R369,
assumption 13). -/
opaque Config.dbGain : Int → Nat

/-- f of R200, in 2^-24, for an attenuation in 0.01 dB with the pilot's Δ = −10 log10(1 − m) added, m in 0.1 %; brought to within
the error of R200 (R380, assumption 7). -/
opaque Config.pilotFraction : Nat → Nat → Nat

/-- How many bytes a ring message of a type carries, for the count of numbers in it: the spec lays out no message (R422, R429,
assumption 53). -/
opaque Config.messageBytes : Nat → Nat → Nat

/-- SHAPE_SYNC_RPT, measured at test and stored in OTP (R225). -/
opaque Config.syncRpt : BitVec 16

/-- The lowest and highest protocol version that this device accepts (R430, R457), stated nowhere. -/
opaque Config.protoLow : Byte

/-- The highest of them. -/
opaque Config.protoHigh : Byte

end Sys2Proof
end

