-- ==== Sys2Proof/Machine/Bits.lean ====
section
/-! DEFINITION. Bit fields of register words and saturating counters. -/

namespace Sys2Proof

/-- Bits `lo + w - 1` to `lo` of a word, as a number. -/
def fld (x : Word) (lo w : Nat) : Nat := x.toNat / 2 ^ lo % 2 ^ w

/-- The word with bits `lo + w - 1` to `lo` replaced by the low `w` bits of `v`. -/
def setFld (x : Word) (lo w v : Nat) : Word :=
  BitVec.ofNat 32 (x.toNat - x.toNat / 2 ^ lo % 2 ^ w * 2 ^ lo + v % 2 ^ w * 2 ^ lo)

/-- Bit `i` of a word. -/
def bitOf (x : Word) (i : Nat) : Bool := x.getLsbD i

/-- A Bool as a bit. -/
def b2n (b : Bool) : Nat := if b then 1 else 0

/-- A word from a number, modulo 2^32. -/
def word (n : Nat) : Word := BitVec.ofNat 32 n

/-- One more, stopping at the largest value of a field of `w` bits. -/
def satInc (w n : Nat) : Nat := if n + 1 < 2 ^ w then n + 1 else 2 ^ w - 1

/-- `k` more, stopping at the largest value of a field of `w` bits. -/
def satAdd (w n k : Nat) : Nat := if n + k < 2 ^ w then n + k else 2 ^ w - 1

/-- A number brought into the range `lo` to `hi`. -/
def clampNat (lo hi n : Nat) : Nat := if n < lo then lo else if hi < n then hi else n

/-- An integer brought into the range `lo` to `hi`. -/
def clampInt (lo hi n : Int) : Int := if n < lo then lo else if hi < n then hi else n

/-- The signed value of the low `w` bits of `n`. -/
def signed (w n : Nat) : Int :=
  let m := n % 2 ^ w
  if m < 2 ^ (w - 1) then (m : Int) else (m : Int) - (2 ^ w : Nat)

/-- The low `w` bits of an integer in two's complement. -/
def unsignedOf (w : Nat) (i : Int) : Nat := (i % (2 ^ w : Nat)).toNat

/-- The low word of a 64-bit number. -/
def lo32 (n : Nat) : Word := word n

/-- The high word of a 64-bit number. -/
def hi32 (n : Nat) : Word := word (n / 2 ^ 32)

/-- A 64-bit number from its halves (R100). -/
def join64 (lo hi : Word) : Nat := lo.toNat + 2 ^ 32 * hi.toNat

/-- Byte `i` of a number, the least significant first. -/
def byteOf (n i : Nat) : Byte := BitVec.ofNat 8 (n / 2 ^ (8 * i))

/-- The number whose bytes, least significant first, are listed. -/
def ofBytes : List Byte → Nat
  | [] => 0
  | b :: bs => b.toNat + 256 * ofBytes bs

/-- The bytes of a number, least significant first. -/
def toBytes : Nat → Nat → List Byte
  | 0, _ => []
  | k + 1, n => BitVec.ofNat 8 n :: toBytes k (n / 256)

/-- The size of an access in bytes. -/
def AccessSize.bytes : AccessSize → Nat
  | .one => 1
  | .two => 2
  | .four => 4
  | .eight => 8

end Sys2Proof
end

