-- ==== Sys2Proof/Machine/FixedPoint.lean ====
section
/-! DEFINITION. Powers, logarithms and sines in fixed point, in units of 2^-64, for the rules that define a value by one of them
(R200, R262, R264, R298, R362, R369, R380, R555). Each result lies within 2^-56 of the exact value (assumption 70). -/

namespace Sys2Proof

/-- One, in fixed point. -/
def fixOne : Nat := 2 ^ 64

/-- A product of two fixed-point numbers, rounded down. -/
def fixMul (a b : Nat) : Nat := a * b / fixOne

/-- π, 2^-64. -/
def fixPi : Nat := 57952155664616982739

/-- ln 2, 2^-64. -/
def fixLn2 : Nat := 12786308645202655660

/-- ln 10, 2^-64. -/
def fixLn10 : Nat := 42475197918399869020

/-- e^-r for r below 1: `k` further terms of the series, the term before them being `t` with number `i`, added and subtracted in turn. -/
def expSeries (r : Nat) : Nat → Nat → Nat → Int → Int
  | 0, _, _, acc => acc
  | k + 1, i, t, acc =>
    let t1 := fixMul t r / (i + 1)
    expSeries r k (i + 1) t1 (if i % 2 = 0 then acc - t1 else acc + t1)

/-- e^-y. -/
def fixExpNeg (y : Nat) : Nat :=
  let n := y / fixLn2
  (expSeries (y - n * fixLn2) 26 0 fixOne fixOne).toNat / 2 ^ n

/-- The series z + z³/3 + z⁵/5 + … from the term `p` of number `i`. -/
def artanhSeries (z2 : Nat) : Nat → Nat → Nat → Nat
  | 0, _, _ => 0
  | k + 1, i, p => p / (2 * i + 1) + artanhSeries z2 k (i + 1) (fixMul p z2)

/-- ln of `num / den`, both positive. -/
def fixLn (num den : Nat) : Int :=
  let k : Int := (Nat.log2 num : Int) - Nat.log2 den
  let n := num * 2 ^ (-k).toNat
  let d := den * 2 ^ k.toNat
  let z := ((n : Int) - d).natAbs * fixOne / (n + d)
  let s := 2 * artanhSeries (fixMul z z) 32 0 z
  k * fixLn2 + (if d ≤ n then (s : Int) else -s)

/-- The series of the sine or cosine of `x`: the term before is `t`, of number `i`. -/
def sineSeries (x2 : Nat) : Nat → Nat → Nat → Int
  | 0, _, t => t
  | k + 1, i, t => (t : Int) - sineSeries x2 k (i + 2) (fixMul t x2 / ((i + 1) * (i + 2)))

/-- sin of `q`/2^64 of a quarter turn, from 0 to one quarter. -/
def quarterSine (q : Nat) : Int :=
  let x := fixMul q fixPi / 2
  sineSeries (fixMul x x) 14 1 x

/-- sin of `num / den` of a turn. -/
def fixSine (num : Int) (den : Nat) : Int :=
  let turn := (num % ((max 1 den : Nat) : Int)).toNat * 4 * fixOne / max 1 den
  let q := turn % fixOne
  match turn / fixOne with
  | 0 => quarterSine q
  | 1 => quarterSine (fixOne - q)
  | 2 => -quarterSine q
  | _ => -quarterSine (fixOne - q)

/-- The place, between `lo` and `lo + step`, at which the cosine of a quarter turn times it has fallen to `v`: bisection. -/
def arccosStep (v : Int) : Nat → Nat → Nat → Nat
  | 0, lo, _ => lo
  | k + 1, lo, step =>
    let mid := lo + step / 2
    if v ≤ quarterSine (fixOne - mid) then arccosStep v k mid (step / 2) else arccosStep v k lo (step / 2)

/-- (2 / π) arccos v, for v from 0 to 1. -/
def fixArccos (v : Nat) : Nat := if fixOne ≤ v then 0 else arccosStep v 60 0 fixOne

/-- 10^(-x / n); above one for a negative x. -/
def fixTenTo (x : Int) (n : Nat) : Nat :=
  let y := x.natAbs * fixLn10 / n
  if 0 ≤ x then fixExpNeg y else fixOne * fixOne / fixExpNeg y

/-- An open value brought to within `err` of a computed one. -/
def nearNat (exact err open_ : Nat) : Nat := clampNat (exact - err) (exact + err) open_

end Sys2Proof
end

