-- ==== Sys2Proof/Machine/SMap.lean ====
section
/-! DEFINITION. Sparse maps: lookup, update in canonical form, range removal. -/

namespace Sys2Proof

/-- What key `k` holds; an unlisted key reads as `d k`. -/
def SMap.get {α : Type} (d : Nat → α) (m : SMap α) (k : Nat) : α :=
  match m with
  | [] => d k
  | (k', v) :: r => if k' = k then v else SMap.get d r k

/-- Puts `v` at key `k` of a list in rising order, with no thought of defaults. -/
def SMap.put {α : Type} (m : SMap α) (k : Nat) (v : α) : SMap α :=
  match m with
  | [] => [(k, v)]
  | (k', v') :: r => if k < k' then (k, v) :: (k', v') :: r else if k = k' then (k, v) :: r else (k', v') :: SMap.put r k v

/-- Takes the entry of key `k` out. -/
def SMap.erase {α : Type} (m : SMap α) (k : Nat) : SMap α := m.filter fun e => !(e.1 == k)

/-- Writes `v` at key `k`, listing it only where it differs from the default. -/
def SMap.set {α : Type} [DecidableEq α] (d : Nat → α) (m : SMap α) (k : Nat) (v : α) : SMap α :=
  if v = d k then SMap.erase m k else SMap.put m k v

/-- Only the entries whose key passes the test. -/
def SMap.keep {α : Type} (p : Nat → Bool) (m : SMap α) : SMap α := m.filter fun e => p e.1

/-- The entries whose key lies in `[lo, lo + n)` taken out. -/
def SMap.dropRange {α : Type} (m : SMap α) (lo n : Nat) : SMap α :=
  SMap.keep (fun k => !(lo ≤ k && k < lo + n)) m

/-- The listed entries whose key lies in `[lo, lo + n)`. -/
def SMap.slice {α : Type} (m : SMap α) (lo n : Nat) : SMap α :=
  SMap.keep (fun k => lo ≤ k && k < lo + n) m

/-- Keys rise strictly above `b`. -/
def SMap.rising {α : Type} : Nat → SMap α → Bool
  | _, [] => true
  | b, (k, _) :: r => b ≤ k && SMap.rising (k + 1) r

/-- The canonical form: keys rise strictly and no entry equals the default. -/
def SMap.wf {α : Type} [DecidableEq α] (d : Nat → α) (m : SMap α) : Bool :=
  SMap.rising 0 m && m.all fun e => !decide (e.2 = d e.1)

end Sys2Proof
end

