-- ==== Sys2Proof/Machine/Numbers.lean ====
section
/-! DEFINITION. Rounding and fixed-point arithmetic shared by the families. -/

namespace Sys2Proof

/-- The nearest integer to `n / d`, ties to even. -/
def rneDiv (n : Int) (d : Nat) : Int :=
  let q := n / (d : Int)
  let r := n % (d : Int)
  if 2 * r < d then q else if (d : Int) < 2 * r then q + 1 else if q % 2 = 0 then q else q + 1

/-- `n / d` under a rounding that the spec does not state: one of the two neighbours (assumption 9). -/
def openDiv (n : Int) (d : Nat) : Int :=
  if n % (d : Int) = 0 then n / (d : Int) else if Config.roundUp n d then n / (d : Int) + 1 else n / (d : Int)

/-- f of R200 for an attenuation in 0.01 dB, in 2^-24, with an open error of at most 2^-16 (assumption 7). -/
def attenFraction (a : Nat) : Nat := min (2 ^ 24) (nearNat (fixArccos (fixTenTo a 2000) / 2 ^ 40) 255 (Config.attenFraction a))

/-- The same with the pilot's Δ added: the amplitude falls by the square root of 1 − m, m in 0.1 % (R380, assumption 7). -/
def pilotFraction (a m : Nat) : Nat :=
  let y := a * fixLn10 / 2000 + (-(fixLn (1000 - min m 999) 1000)).toNat / 2
  min (2 ^ 24) (nearNat (fixArccos (fixExpNeg y) / 2 ^ 40) 255 (Config.pilotFraction a m))

/-- 10^(-x/10) for x in 0.01 dB, in 2^-64 (R362, R369, assumption 13). -/
def dbGain (x : Int) : Nat :=
  let v := fixTenTo x 1000
  if x = 0 then v else nearNat v (v / 2 ^ 48) (Config.dbGain x)

/-- The magnitude of an integer. -/
def absI (n : Int) : Nat := n.natAbs

/-- A value `man * 2^exp`, exact (the exact sums of R270 to R272 and R281). -/
structure Dyadic where
  man : Int
  exp : Int
  deriving DecidableEq, Repr

/-- Zero. -/
def Dyadic.zero : Dyadic := ⟨0, 0⟩

/-- The exact sum. -/
def Dyadic.add (a b : Dyadic) : Dyadic :=
  let e := min a.exp b.exp
  ⟨a.man * 2 ^ (a.exp - e).toNat + b.man * 2 ^ (b.exp - e).toNat, e⟩

/-- The exact product. -/
def Dyadic.mul (a b : Dyadic) : Dyadic := ⟨a.man * b.man, a.exp + b.exp⟩

/-- The negative. -/
def Dyadic.neg (a : Dyadic) : Dyadic := ⟨-a.man, a.exp⟩

/-- The exact difference. -/
def Dyadic.sub (a b : Dyadic) : Dyadic := a.add b.neg

/-- Whether `a ≤ b`. -/
def Dyadic.le (a b : Dyadic) : Bool := decide ((b.sub a).man ≥ 0)

/-- The magnitude. -/
def Dyadic.abs (a : Dyadic) : Dyadic := ⟨(a.man.natAbs : Int), a.exp⟩

/-- `a` in units of `2^e`, rounded to nearest with ties to even. -/
def Dyadic.rneAt (a : Dyadic) (e : Int) : Int :=
  if e ≤ a.exp then a.man * 2 ^ (a.exp - e).toNat else rneDiv a.man (2 ^ (e - a.exp).toNat)

/-- `a` brought between two bounds. -/
def Dyadic.clamp (lo hi a : Dyadic) : Dyadic := if !lo.le a then lo else if !a.le hi then hi else a

end Sys2Proof
end

