-- ==== Sys2Proof/Machine/Regs.lean ====
section
/-! DEFINITION. The address of every register the spec names (R84 to R86 and each chapter's register map). -/

namespace Sys2Proof

/-- Base of the page of well index `w` (R84, R85). -/
def wellBase (w : Nat) : Nat := if w < 256 then 0x100000 + 0x1000 * w else 0x280000 + 0x1000 * (w - 256)


/-- Base address of a register page (R84, R85). -/
def pageBase (p : Page) : Nat :=
  match p.kind with
  | .glb => 0x0 | .pwr => 0x1000 | .clk => 0x2000 | .heat => 0x3000 | .flt => 0x4000 | .evt => 0x5000
  | .time => 0x6000 | .tmux => 0x7000 | .wellhead => 0x8000 | .xbar => 0x9000 | .ring => 0xA000 | .epoch => 0xB000
  | .route => 0xC000 | .verdict => 0xD000 | .capt => 0xE000 | .siphon => 0xF000
  | .mac => 0x10000 + 0x1000 * p.inst | .gate => 0x14000 + 0x1000 * p.inst | .police => 0x18000 + 0x1000 * p.inst
  | .cistern => 0x1C000 | .pcie => 0x20000 | .ddr => 0x21000 + 0x1000 * p.inst | .xspi => 0x25000 | .i2c => 0x26000
  | .census => 0x27000 | .tw => wellBase p.inst | .pw => wellBase (160 + p.inst) | .hw => wellBase (288 + p.inst)
  | .pe => 0x200000 + 0x1000 * p.inst | .col => 0x300000 + 0x10000 * p.inst

/-- R86, every page. -/
def Reg.PAGE_ID (p : Page) : Nat := pageBase p + 0x0

/-- R87, every page. -/
def Reg.PAGE_REV (p : Page) : Nat := pageBase p + 0x4

/-- R86, every page. -/
def Reg.CTRL (p : Page) : Nat := pageBase p + 0x8

/-- R86, every page. -/
def Reg.STATUS (p : Page) : Nat := pageBase p + 0xc

/-- R86, every page. -/
def Reg.INT_STATUS (p : Page) : Nat := pageBase p + 0x10

/-- R92, every page. -/
def Reg.INT_ENABLE (p : Page) : Nat := pageBase p + 0x14

/-- R86, every page. -/
def Reg.FAULT_STATUS (p : Page) : Nat := pageBase p + 0x18

/-- R106, every page. -/
def Reg.SHADOW_CTRL (p : Page) : Nat := pageBase p + 0x1c

/-- R106, every page. -/
def Reg.SHADOW_STATUS (p : Page) : Nat := pageBase p + 0x20

/-- R105, every page. -/
def Reg.GEN (p : Page) : Nat := pageBase p + 0x24

/-- R109, every page. -/
def Reg.PAGE_LOCK (p : Page) : Nat := pageBase p + 0x28

/-- R114. -/
def Reg.GLB_PART : Nat := 0x40

/-- R114. -/
def Reg.GLB_VARIANT : Nat := 0x44

/-- R114. -/
def Reg.GLB_SERIAL_LO : Nat := 0x48

/-- R114. -/
def Reg.GLB_SERIAL_HI : Nat := 0x4c

/-- R114. -/
def Reg.GLB_DECODE_ADDR : Nat := 0x50

/-- R114. -/
def Reg.GLB_DECODE_INFO : Nat := 0x54

/-- R114. -/
def Reg.GLB_LOCK_ADDR : Nat := 0x58

/-- R114. -/
def Reg.GLB_LOCK_INFO : Nat := 0x5c

/-- R114. -/
def Reg.GLB_UPTIME_LO : Nat := 0x60

/-- R114. -/
def Reg.GLB_UPTIME_HI : Nat := 0x64

/-- R149. -/
def Reg.GLB_RESET_CTRL : Nat := 0x100

/-- R149. -/
def Reg.GLB_PRIME_STATUS : Nat := 0x104

/-- R149. -/
def Reg.GLB_PRIME_CTRL : Nat := 0x108

/-- R149. -/
def Reg.GLB_CAL_DONE : Nat := 0x10c

/-- R149. -/
def Reg.GLB_RESET_CAUSE : Nat := 0x110

/-- R149. -/
def Reg.GLB_PRIME_MS : Nat := 0x114

/-- R67. -/
def Reg.CLK_SRC_STATUS : Nat := 0x2040

/-- R67. -/
def Reg.CLK_XREF_CTRL : Nat := 0x2044

/-- R68. -/
def Reg.PWR_VHTR_NOMINAL : Nat := 0x1040

/-- R68. -/
def Reg.PWR_MON_STATUS : Nat := 0x1044

/-- R639. -/
def Reg.PWR_RAIL_MV (i : Nat) : Nat := 0x1000 + 0x50 + 4 * i

/-- R68. -/
def Reg.PWR_DEVICE_MW : Nat := 0x1078

/-- R116. -/
def Reg.PCIE_BAR2_BASE : Nat := 0x20040

/-- R30. -/
def Reg.SLOT_CFG (s : Nat) : Nat := 0x1000000 + 64 * s + 0x0

/-- R184. -/
def Reg.EPOCH_DESC (i : Nat) : Nat := 0xb000 + 0x40 + 4 * i

/-- R184. -/
def Reg.EPOCH_SUBMIT : Nat := 0xb060

/-- R184. -/
def Reg.EPOCH_RESULT : Nat := 0xb064

/-- R184. -/
def Reg.EPOCH_RESULT_T_LO : Nat := 0xb068

/-- R184. -/
def Reg.EPOCH_RESULT_T_HI : Nat := 0xb06c

/-- R184. -/
def Reg.EPOCH_RESULT_NUM_LO : Nat := 0xb070

/-- R184. -/
def Reg.EPOCH_RESULT_NUM_HI : Nat := 0xb074

/-- R184. -/
def Reg.EPOCH_QUEUE_STATUS : Nat := 0xb078

/-- R184. -/
def Reg.EPOCH_CFG : Nat := 0xb07c

/-- R184. -/
def Reg.EPOCH_LAST_NUM_LO : Nat := 0xb080

/-- R184. -/
def Reg.EPOCH_LAST_NUM_HI : Nat := 0xb084

/-- R184. -/
def Reg.EPOCH_LAST_T_LO : Nat := 0xb088

/-- R184. -/
def Reg.EPOCH_LAST_T_HI : Nat := 0xb08c

/-- R184. -/
def Reg.EPOCH_LAST_STATUS : Nat := 0xb090

/-- R184. -/
def Reg.EPOCH_QUEUE_FLUSH : Nat := 0xb094

/-- R184. -/
def Reg.EPOCH_LOG_BASE : Nat := 0xb098

/-- R184. -/
def Reg.EPOCH_LOG_WR : Nat := 0xb09c

/-- R184. -/
def Reg.SCHED_CTRL : Nat := 0xb0a0

/-- R184. -/
def Reg.SCHED_LEN : Nat := 0xb0a4

/-- R184. -/
def Reg.SCHED_BASE_LO : Nat := 0xb0a8

/-- R184. -/
def Reg.SCHED_BASE_HI : Nat := 0xb0ac

/-- R184. -/
def Reg.SCHED_LEAD : Nat := 0xb0b0

/-- R180. -/
def Reg.SCHED_SKIPPED : Nat := 0xb0b4

/-- R184. -/
def Reg.SCHED_CYCLE_LO : Nat := 0xb0b8

/-- R184. -/
def Reg.SCHED_CYCLE_HI : Nat := 0xb0bc

/-- R184. -/
def Reg.EPOCH_BAD_PERM : Nat := 0xb0c0

/-- R175. -/
def Reg.SCHED_A (i : Nat) : Nat := 0xb000 + 0x400 + 4 * i

/-- R175. -/
def Reg.SCHED_B (i : Nat) : Nat := 0xb000 + 0x500 + 4 * i

/-- R184. -/
def Reg.EPOCH_QUEUE (i : Nat) : Nat := 0xb000 + 0x800 + 4 * i

/-- R188. -/
def Reg.ROUTE_NET : Nat := 0xc040

/-- R188. -/
def Reg.ROUTE_STATUS : Nat := 0xc044

/-- R188. -/
def Reg.ROUTE_FAIL : Nat := 0xc048

/-- R188. -/
def Reg.ROUTE_PRESET_CMD : Nat := 0xc04c

/-- R188. -/
def Reg.ROUTE_PRESET_RESULT : Nat := 0xc050

/-- R188. -/
def Reg.ROUTE_PRESET_IGNORED : Nat := 0xc054

/-- R188. -/
def Reg.ROUTE_PORT_MARK : Nat := 0xc058

/-- R188. -/
def Reg.ROUTE_STAGE_MAP (i : Nat) : Nat := 0xc000 + 0x80 + 4 * i

/-- R189. -/
def Reg.ROUTE_PORT_FAILED (i : Nat) : Nat := 0xc000 + 0x100 + 4 * i

/-- R196. -/
def Reg.EO_BAR (s : Nat) : Nat := 0x1000000 + 64 * s + 0x4

/-- R196. -/
def Reg.EO_CROSS (s : Nat) : Nat := 0x1000000 + 64 * s + 0x8

/-- R196. -/
def Reg.EO_TARGET (s : Nat) : Nat := 0x1000000 + 64 * s + 0xc

/-- R196. -/
def Reg.EO_PARK (s : Nat) : Nat := 0x1000000 + 64 * s + 0x10

/-- R196. -/
def Reg.EO_SEG_A (s : Nat) : Nat := 0x1000000 + 64 * s + 0x14

/-- R196. -/
def Reg.EO_SEG_B (s : Nat) : Nat := 0x1000000 + 64 * s + 0x18

/-- R196. -/
def Reg.EO_DITHER (s : Nat) : Nat := 0x1000000 + 64 * s + 0x1c

/-- R257. -/
def Reg.HTR_CFG (s : Nat) : Nat := 0x1000000 + 64 * s + 0x20

/-- R257. -/
def Reg.HTR_PARK (s : Nat) : Nat := 0x1000000 + 64 * s + 0x24

/-- R257. -/
def Reg.HTR_LIMIT (s : Nat) : Nat := 0x1000000 + 64 * s + 0x28

/-- R202. -/
def Reg.SHAPE_DIR (i : Nat) : Nat := 0x300000 + 0x8000 + 4 * i

/-- R234. -/
def Reg.EO_COL_CFG (c : Nat) : Nat := 0x300000 + 0x10000 * c + 0x200

/-- R234. -/
def Reg.EO_COL_STATUS (c : Nat) : Nat := 0x300000 + 0x10000 * c + 0x204

/-- R234. -/
def Reg.EO_COL_COUNT_A (c : Nat) : Nat := 0x300000 + 0x10000 * c + 0x208

/-- R234. -/
def Reg.EO_COL_COUNT_B (c : Nat) : Nat := 0x300000 + 0x10000 * c + 0x20c

/-- R234. -/
def Reg.EO_COL_COUNT_C (c : Nat) : Nat := 0x300000 + 0x10000 * c + 0x210

/-- R234. -/
def Reg.EO_COL_COUNT_CLR (c : Nat) : Nat := 0x300000 + 0x10000 * c + 0x218

/-- R234. -/
def Reg.EO_EVT_MASK (c : Nat) (i : Nat) : Nat := 0x300000 + 0x10000 * c + 0x220 + 4 * i

/-- R234. -/
def Reg.EO_EVT_JUMP (c : Nat) : Nat := 0x300000 + 0x10000 * c + 0x240

/-- R231. -/
def Reg.EO_CAL_CMD (c : Nat) : Nat := 0x300000 + 0x10000 * c + 0x250

/-- R234. -/
def Reg.EO_CAL_STATUS (c : Nat) : Nat := 0x300000 + 0x10000 * c + 0x254

/-- R212. -/
def Reg.EO_CH_JUMP (c : Nat) (i : Nat) : Nat := 0x300000 + 0x10000 * c + 0x4000 + 16 * i

/-- R234. -/
def Reg.EO_CH_STATE (c : Nat) (i : Nat) : Nat := 0x300000 + 0x10000 * c + 0x4004 + 16 * i

/-- R234. -/
def Reg.EO_CH_OUT (c : Nat) (i : Nat) : Nat := 0x300000 + 0x10000 * c + 0x4008 + 16 * i

/-- R234. -/
def Reg.EO_CH_FROM (c : Nat) (i : Nat) : Nat := 0x300000 + 0x10000 * c + 0x400c + 16 * i

/-- R234. -/
def Reg.EO_NCO (c : Nat) (i : Nat) : Nat := 0x300000 + 0x10000 * c + 0x6400 + 4 * i

/-- R235. -/
def Reg.SHAPE_IGNORED : Nat := 0x307000

/-- R235. -/
def Reg.SHAPE_DIR_CMD : Nat := 0x307004

/-- R235. -/
def Reg.SHAPE_DIR_RESULT : Nat := 0x307008

/-- R235. -/
def Reg.SHAPE_ALIGN_CTRL : Nat := 0x307010

/-- R235. -/
def Reg.SHAPE_ALIGN_STATUS : Nat := 0x307014

/-- R235. -/
def Reg.SHAPE_DEV_TRIM : Nat := 0x307018

/-- R235. -/
def Reg.SHAPE_SYNC_OFFSET : Nat := 0x30701c

/-- R235. -/
def Reg.SHAPE_SYNC_RPT : Nat := 0x307020

/-- R235. -/
def Reg.SHAPE_LOOP_DELAY : Nat := 0x307024

/-- R236. -/
def Reg.SIPH_START_T_LO : Nat := 0xf040

/-- R236. -/
def Reg.SIPH_START_T_HI : Nat := 0xf044

/-- R236. -/
def Reg.SIPH_ACTIVE : Nat := 0xf048

/-- R236. -/
def Reg.SIPH_UNDERRUNS : Nat := 0xf04c

/-- R236. -/
def Reg.SIPH_CFG (i : Nat) : Nat := 0xf000 + 0x400 + 32 * i

/-- R236. -/
def Reg.SIPH_STEP (i : Nat) : Nat := 0xf000 + 0x404 + 32 * i

/-- R236. -/
def Reg.SIPH_ADDR_LO (i : Nat) : Nat := 0xf000 + 0x408 + 32 * i

/-- R236. -/
def Reg.SIPH_ADDR_HI (i : Nat) : Nat := 0xf000 + 0x40c + 32 * i

/-- R236. -/
def Reg.SIPH_LEN (i : Nat) : Nat := 0xf000 + 0x410 + 32 * i

/-- R236. -/
def Reg.SIPH_REPEAT (i : Nat) : Nat := 0xf000 + 0x414 + 32 * i

/-- R236. -/
def Reg.SIPH_CMD (i : Nat) : Nat := 0xf000 + 0x418 + 32 * i

/-- R236. -/
def Reg.SIPH_STATUS (i : Nat) : Nat := 0xf000 + 0x41c + 32 * i

/-- R258. -/
def Reg.HTR_COL_CFG (c : Nat) : Nat := 0x300000 + 0x10000 * c + 0x100

/-- R258. -/
def Reg.HTR_COL_STATUS (c : Nat) : Nat := 0x300000 + 0x10000 * c + 0x104

/-- R258. -/
def Reg.HTR_COL_MW (c : Nat) : Nat := 0x300000 + 0x10000 * c + 0x108

/-- R258. -/
def Reg.HTR_COUNT_A (c : Nat) : Nat := 0x300000 + 0x10000 * c + 0x10c

/-- R258. -/
def Reg.HTR_COUNT_B (c : Nat) : Nat := 0x300000 + 0x10000 * c + 0x110

/-- R258. -/
def Reg.HTR_COUNT_CLR (c : Nat) : Nat := 0x300000 + 0x10000 * c + 0x118

/-- R253. -/
def Reg.HTR_FAULT_CLR (c : Nat) : Nat := 0x300000 + 0x10000 * c + 0x11c

/-- R256. -/
def Reg.HTR_CAL_CMD (c : Nat) : Nat := 0x300000 + 0x10000 * c + 0x120

/-- R256. -/
def Reg.HTR_CAL_STATUS (c : Nat) : Nat := 0x300000 + 0x10000 * c + 0x124

/-- R258. -/
def Reg.HTR_RCAL_A (c : Nat) (i : Nat) : Nat := 0x300000 + 0x10000 * c + 0x1000 + 8 * i

/-- R258. -/
def Reg.HTR_RCAL_B (c : Nat) (i : Nat) : Nat := 0x300000 + 0x10000 * c + 0x1004 + 8 * i

/-- R245. -/
def Reg.HTR_HOST (c : Nat) (i : Nat) : Nat := 0x300000 + 0x10000 * c + 0x5000 + 16 * i

/-- R258. -/
def Reg.HTR_STATE (c : Nat) (i : Nat) : Nat := 0x300000 + 0x10000 * c + 0x5004 + 16 * i

/-- R258. -/
def Reg.HTR_RB_A (c : Nat) (i : Nat) : Nat := 0x300000 + 0x10000 * c + 0x5008 + 16 * i

/-- R258. -/
def Reg.HTR_RB_B (c : Nat) (i : Nat) : Nat := 0x300000 + 0x10000 * c + 0x500c + 16 * i

/-- R258. -/
def Reg.HTR_ACC (c : Nat) (i : Nat) : Nat := 0x300000 + 0x10000 * c + 0x6000 + 4 * i

/-- R259. -/
def Reg.HTR_BUDGET : Nat := 0x307100

/-- R259. -/
def Reg.HTR_BUDGET_STATUS : Nat := 0x307104

/-- R259. -/
def Reg.HTR_TOTAL_MW : Nat := 0x307108

/-- R259. -/
def Reg.HTR_LIMITED_FRAMES : Nat := 0x30710c

/-- R302. -/
def Reg.CELL_CTRL (k : Nat) : Nat := 0x1800000 + 0x1000 * k + 0x0

/-- R302. -/
def Reg.CELL_STATUS (k : Nat) : Nat := 0x1800000 + 0x1000 * k + 0x4

/-- R302. -/
def Reg.CELL_MISS (k : Nat) : Nat := 0x1800000 + 0x1000 * k + 0x8

/-- R302. -/
def Reg.CELL_CLR (k : Nat) : Nat := 0x1800000 + 0x1000 * k + 0xc

/-- R302. -/
def Reg.CELL_UPDATES_LO (k : Nat) : Nat := 0x1800000 + 0x1000 * k + 0x10

/-- R302. -/
def Reg.CELL_UPDATES_HI (k : Nat) : Nat := 0x1800000 + 0x1000 * k + 0x14

/-- R302. -/
def Reg.CELL_COST (k : Nat) : Nat := 0x1800000 + 0x1000 * k + 0x18

/-- R302. -/
def Reg.CELL_X_HAT (k : Nat) (i : Nat) : Nat := 0x1800000 + 0x1000 * k + 0x40 + 4 * i

/-- R302. -/
def Reg.CELL_Z (k : Nat) (i : Nat) : Nat := 0x1800000 + 0x1000 * k + 0x70 + 4 * i

/-- R302. -/
def Reg.CELL_U (k : Nat) (i : Nat) : Nat := 0x1800000 + 0x1000 * k + 0x80 + 4 * i

/-- R302. -/
def Reg.CELL_R (k : Nat) (i : Nat) : Nat := 0x1800000 + 0x1000 * k + 0x90 + 4 * i

/-- R302. -/
def Reg.CELL_W (k : Nat) (i : Nat) : Nat := 0x1800000 + 0x1000 * k + 0xa0 + 4 * i

/-- R302. -/
def Reg.CELL_E (k : Nat) (i : Nat) : Nat := 0x1800000 + 0x1000 * k + 0xb0 + 4 * i

/-- R302. -/
def Reg.INJ_CFG (k : Nat) : Nat := 0x1800000 + 0x1000 * k + 0x200

/-- R302. -/
def Reg.INJ_AMP (k : Nat) : Nat := 0x1800000 + 0x1000 * k + 0x204

/-- R302. -/
def Reg.INJ_LEN (k : Nat) : Nat := 0x1800000 + 0x1000 * k + 0x208

/-- R302. -/
def Reg.INJ_REPEAT (k : Nat) : Nat := 0x1800000 + 0x1000 * k + 0x20c

/-- R302. -/
def Reg.INJ_F (k : Nat) : Nat := 0x1800000 + 0x1000 * k + 0x210

/-- R302. -/
def Reg.INJ_CMD (k : Nat) : Nat := 0x1800000 + 0x1000 * k + 0x214

/-- R302. -/
def Reg.INJ_STATUS (k : Nat) : Nat := 0x1800000 + 0x1000 * k + 0x218

/-- R302. -/
def Reg.INJ_START_T_LO (k : Nat) : Nat := 0x1800000 + 0x1000 * k + 0x220

/-- R302. -/
def Reg.INJ_START_T_HI (k : Nat) : Nat := 0x1800000 + 0x1000 * k + 0x224

/-- R302. -/
def Reg.INJ_TONE (k : Nat) (i : Nat) : Nat := 0x1800000 + 0x1000 * k + 0x240 + 4 * i

/-- R284. -/
def Reg.CELL_BANK (k : Nat) (i : Nat) : Nat := 0x1800000 + 0x1000 * k + 0x400 + 4 * i

/-- R265. -/
def Reg.PATH_TABLE (i : Nat) : Nat := 0x1c00000 + 4 * i

/-- R265. -/
def Reg.LIVE_PATH (i : Nat) : Nat := 0x1d00000 + 4 * i

/-- R301. -/
def Reg.LOOP_SLOT_CFG (s : Nat) : Nat := 0x1000000 + 64 * s + 0x2c

/-- R301. -/
def Reg.LOOP_SLOT_STATUS (s : Nat) : Nat := 0x1000000 + 64 * s + 0x30

/-- R301. -/
def Reg.LOOP_SLOT_Y (s : Nat) : Nat := 0x1000000 + 64 * s + 0x34

/-- R303. -/
def Reg.LOOP_TABLE_CMD (k : Nat) : Nat := 0x200000 + 0x1000 * k + 0x40

/-- R303. -/
def Reg.LOOP_TABLE_STATUS (k : Nat) : Nat := 0x200000 + 0x1000 * k + 0x44

/-- R303. -/
def Reg.LOOP_TABLE_TIME (k : Nat) : Nat := 0x200000 + 0x1000 * k + 0x48

/-- R303. -/
def Reg.LOOP_IGNORED (k : Nat) : Nat := 0x200000 + 0x1000 * k + 0x4c

/-- R303. -/
def Reg.PE_LOAD (k : Nat) : Nat := 0x200000 + 0x1000 * k + 0x50

/-- R303. -/
def Reg.PE_KERNEL_VER (k : Nat) : Nat := 0x200000 + 0x1000 * k + 0x54

/-- R323. -/
def Reg.TWIN_CFG (k : Nat) : Nat := 0x200000 + 0x1000 * k + 0x60

/-- R323. -/
def Reg.TWIN_CMD (k : Nat) : Nat := 0x200000 + 0x1000 * k + 0x64

/-- R323. -/
def Reg.TWIN_STATUS (k : Nat) : Nat := 0x200000 + 0x1000 * k + 0x68

/-- R323. -/
def Reg.HEALTH_MISMATCH (k : Nat) : Nat := 0x200000 + 0x1000 * k + 0x6c

/-- R323. -/
def Reg.HEALTH_CMP_LO (k : Nat) : Nat := 0x200000 + 0x1000 * k + 0x70

/-- R323. -/
def Reg.HEALTH_CMP_HI (k : Nat) : Nat := 0x200000 + 0x1000 * k + 0x74

/-- R323. -/
def Reg.HEALTH_DEV (k : Nat) : Nat := 0x200000 + 0x1000 * k + 0x78

/-- R323. -/
def Reg.HEALTH_TEST (k : Nat) : Nat := 0x200000 + 0x1000 * k + 0x7c

/-- R323. -/
def Reg.HEALTH_EVENTS (k : Nat) : Nat := 0x200000 + 0x1000 * k + 0x80

/-- R323. -/
def Reg.HEALTH_CLR (k : Nat) : Nat := 0x200000 + 0x1000 * k + 0x84

/-- R324. -/
def Reg.CLAIM_COL_STATUS (c : Nat) : Nat := 0x300000 + 0x10000 * c + 0x300

/-- R324. -/
def Reg.CLAIM_COUNT (c : Nat) : Nat := 0x300000 + 0x10000 * c + 0x304

/-- R324. -/
def Reg.CLAIM_COUNT_CLR (c : Nat) : Nat := 0x300000 + 0x10000 * c + 0x308

/-- R324. -/
def Reg.CLAIM (c : Nat) (i : Nat) : Nat := 0x300000 + 0x10000 * c + 0x2000 + 8 * i

/-- R324. -/
def Reg.CLAIM_STATE (c : Nat) (i : Nat) : Nat := 0x300000 + 0x10000 * c + 0x2004 + 8 * i

/-- R355. -/
def Reg.WELL_CFG (w : Nat) : Nat := wellBase w + 0x40

/-- R355. -/
def Reg.WELL_STATUS (w : Nat) : Nat := wellBase w + 0x44

/-- R355. -/
def Reg.WELL_COUNT (w : Nat) : Nat := wellBase w + 0x48

/-- R355. -/
def Reg.WELL_COUNT_CLR (w : Nat) : Nat := wellBase w + 0x4c

/-- R355. -/
def Reg.ILV_CTRL (w : Nat) : Nat := wellBase w + 0x50

/-- R355. -/
def Reg.ILV_LEN (w : Nat) : Nat := wellBase w + 0x54

/-- R355. -/
def Reg.ILV_STATUS (w : Nat) : Nat := wellBase w + 0x58

/-- R355. -/
def Reg.ILV_START_T_LO (w : Nat) : Nat := wellBase w + 0x60

/-- R355. -/
def Reg.ILV_START_T_HI (w : Nat) : Nat := wellBase w + 0x64

/-- R355. -/
def Reg.CAL_CMD (w : Nat) : Nat := wellBase w + 0x70

/-- R355. -/
def Reg.CAL_STATUS (w : Nat) : Nat := wellBase w + 0x74

/-- R355. -/
def Reg.CAL_TOL (w : Nat) : Nat := wellBase w + 0x78

/-- R355. -/
def Reg.PW_PLAUS_TOL (w : Nat) : Nat := wellBase w + 0x80

/-- R355. -/
def Reg.PW_PLAUS_COUNT (w : Nat) : Nat := wellBase w + 0x84

/-- R355. -/
def Reg.PW_PLAUS_STATUS (w : Nat) : Nat := wellBase w + 0x88

/-- R355. -/
def Reg.PW_PLAUS_CLR (w : Nat) : Nat := wellBase w + 0x8c

/-- R355. -/
def Reg.CH_CFG (w : Nat) (i : Nat) : Nat := wellBase w + 0x400 + 16 * i

/-- R355. -/
def Reg.CH_STATUS (w : Nat) (i : Nat) : Nat := wellBase w + 0x404 + 16 * i

/-- R355. -/
def Reg.CH_LAST (w : Nat) (i : Nat) : Nat := wellBase w + 0x408 + 16 * i

/-- R355. -/
def Reg.CH_CAL_TARGET (w : Nat) (i : Nat) : Nat := wellBase w + 0x40c + 16 * i

/-- R355. -/
def Reg.PM_READ (w : Nat) (i : Nat) : Nat := wellBase w + 0x600 + 4 * i

/-- R355. -/
def Reg.CH_CAL (w : Nat) (i : Nat) : Nat := wellBase w + 0x800 + 4 * i

/-- R356. -/
def Reg.HW_WELL_STATUS (h : Nat) : Nat := 0x2A0000 + 0x1000 * h + 0x44

/-- R356. -/
def Reg.HW_WELL_COUNT (h : Nat) : Nat := 0x2A0000 + 0x1000 * h + 0x48

/-- R356. -/
def Reg.HW_RESULT (h : Nat) (i : Nat) : Nat := 0x2A0000 + 0x1000 * h + 0x400 + 4 * i

/-- R387. -/
def Reg.VRD_CFG : Nat := 0xd040

/-- R387. -/
def Reg.VRD_PILOT_CFG : Nat := 0xd044

/-- R387. -/
def Reg.VRD_IPT_BASE : Nat := 0xd048

/-- R387. -/
def Reg.VRD_LOG_BASE : Nat := 0xd04c

/-- R387. -/
def Reg.VRD_LOG_WR : Nat := 0xd050

/-- R387. -/
def Reg.VRD_LAST_COUNT : Nat := 0xd054

/-- R387. -/
def Reg.VRD_LAST_MISS : Nat := 0xd058

/-- R387. -/
def Reg.VRD_LAST_EPOCH_LO : Nat := 0xd060

/-- R387. -/
def Reg.VRD_LAST_EPOCH_HI : Nat := 0xd064

/-- R387. -/
def Reg.VRD_ACT_COUNT : Nat := 0xd068

/-- R387. -/
def Reg.VRD_IDENT_STATUS : Nat := 0xd06c

/-- R387. -/
def Reg.VRD_IDENT_EPOCH_LO : Nat := 0xd070

/-- R387. -/
def Reg.VRD_IDENT_EPOCH_HI : Nat := 0xd074

/-- R387. -/
def Reg.VRD_COUNT_CLR : Nat := 0xd078

/-- R387. -/
def Reg.VRD_PLAN_BAD : Nat := 0xd07c

/-- R387. -/
def Reg.VRD_MON_DUP (i : Nat) : Nat := 0xd000 + 0x80 + 4 * i

/-- R366. -/
def Reg.VRD_PLAN (i : Nat) : Nat := 0xd000 + 0x400 + 4 * i

/-- R361. -/
def Reg.VRD_MON (i : Nat) : Nat := 0xd000 + 0x800 + 4 * i

/-- R389. -/
def Reg.DEMOD_CFG (w : Nat) (i : Nat) : Nat := wellBase w + 0xa00 + 16 * i

/-- R389. -/
def Reg.DEMOD_I (w : Nat) (i : Nat) : Nat := wellBase w + 0xa04 + 16 * i

/-- R389. -/
def Reg.DEMOD_Q (w : Nat) (i : Nat) : Nat := wellBase w + 0xa08 + 16 * i

/-- R389. -/
def Reg.DEMOD_MEAN (w : Nat) (i : Nat) : Nat := wellBase w + 0xa0c + 16 * i

/-- R390. -/
def Reg.PILOT_A (g : Nat) (i : Nat) : Nat := wellBase (160 + g) + 0xa00 + 8 * i

/-- R390. -/
def Reg.PILOT_B (g : Nat) (i : Nat) : Nat := wellBase (160 + g) + 0xa04 + 8 * i

/-- R416. -/
def Reg.CAPT_CFG : Nat := 0xe040

/-- R416. -/
def Reg.CAPT_CMD : Nat := 0xe044

/-- R416. -/
def Reg.CAPT_RESULT : Nat := 0xe048

/-- R416. -/
def Reg.CAPT_BW : Nat := 0xe04c

/-- R416. -/
def Reg.CAPT_DROPS : Nat := 0xe050

/-- R416. -/
def Reg.CAPT_ACTIVE (i : Nat) : Nat := 0xe000 + 0x60 + 4 * i

/-- R416. -/
def Reg.TRIG_CFG (i : Nat) : Nat := 0xe000 + 0x100 + 8 * i

/-- R416. -/
def Reg.TRIG_COMP (i : Nat) : Nat := 0xe000 + 0x104 + 8 * i

/-- R416. -/
def Reg.CAPT_ACK (i : Nat) : Nat := 0xe000 + 0x400 + 4 * i

/-- R416. -/
def Reg.CAPT_STAT (i : Nat) : Nat := 0xe000 + 0x800 + 8 * i

/-- R416. -/
def Reg.CAPT_WR (i : Nat) : Nat := 0xe000 + 0x804 + 8 * i

/-- R457. -/
def Reg.RING_CFG : Nat := 0xa040

/-- R457. -/
def Reg.RING_TIME_TOL : Nat := 0xa044

/-- R457. -/
def Reg.RING_STATUS : Nat := 0xa048

/-- R457. -/
def Reg.RING_CMD : Nat := 0xa04c

/-- R457. -/
def Reg.RING_PROTO : Nat := 0xa050

/-- R457. -/
def Reg.RING_FW_VER : Nat := 0xa054

/-- R457. -/
def Reg.RING_NACK : Nat := 0xa058

/-- R457. -/
def Reg.RING_NACK_EPOCH_LO : Nat := 0xa060

/-- R457. -/
def Reg.RING_NACK_EPOCH_HI : Nat := 0xa064

/-- R457. -/
def Reg.RING_COUNT : Nat := 0xa068

/-- R457. -/
def Reg.RING_COUNT_CLR : Nat := 0xa06c

/-- R457. -/
def Reg.RING_HEALTH_BASE : Nat := 0xa070

/-- R457. -/
def Reg.RING_CONFIG_DIGEST (i : Nat) : Nat := 0xa000 + 0x80 + 4 * i

/-- R457. -/
def Reg.RING_LANE (i : Nat) : Nat := 0xa000 + 0xa0 + 4 * i

/-- R457. -/
def Reg.RING_PEER_A (i : Nat) : Nat := 0xa000 + 0x100 + 16 * i

/-- R457. -/
def Reg.RING_PEER_B (i : Nat) : Nat := 0xa000 + 0x104 + 16 * i

/-- R457. -/
def Reg.RING_PEER_C (i : Nat) : Nat := 0xa000 + 0x108 + 16 * i

/-- R457. -/
def Reg.RING_PEER_D (i : Nat) : Nat := 0xa000 + 0x10c + 16 * i

/-- R480. -/
def Reg.TIME_INCR_LO : Nat := 0x6040

/-- R480. -/
def Reg.TIME_INCR_HI : Nat := 0x6044

/-- R480. -/
def Reg.TIME_SLEW_INCR_LO : Nat := 0x6048

/-- R480. -/
def Reg.TIME_SLEW_INCR_HI : Nat := 0x604c

/-- R480. -/
def Reg.TIME_SLEW_TICKS : Nat := 0x6050

/-- R480. -/
def Reg.TIME_CMD : Nat := 0x6054

/-- R480. -/
def Reg.TIME_STATUS : Nat := 0x6058

/-- R480. -/
def Reg.TIME_T_LO : Nat := 0x6060

/-- R480. -/
def Reg.TIME_T_HI : Nat := 0x6064

/-- R480. -/
def Reg.TIME_STEP_A_LO : Nat := 0x6068

/-- R480. -/
def Reg.TIME_STEP_A_HI : Nat := 0x606c

/-- R480. -/
def Reg.TIME_STEP_B : Nat := 0x6070

/-- R480. -/
def Reg.TIME_STEP_CFG : Nat := 0x6074

/-- R480. -/
def Reg.TIME_LAST_STEP_LO : Nat := 0x6078

/-- R480. -/
def Reg.TIME_LAST_STEP_HI : Nat := 0x607c

/-- R480. -/
def Reg.TIME_SNAP_SEC_LO : Nat := 0x6080

/-- R480. -/
def Reg.TIME_SNAP_SEC_HI : Nat := 0x6084

/-- R480. -/
def Reg.TIME_SNAP_NS : Nat := 0x6088

/-- R480. -/
def Reg.TIME_SNAP_FRAC : Nat := 0x608c

/-- R480. -/
def Reg.PPS_CFG : Nat := 0x6090

/-- R480. -/
def Reg.PPS_OFS : Nat := 0x6094

/-- R480. -/
def Reg.TS_TX_COMP (i : Nat) : Nat := 0x6000 + 0xa0 + 8 * i

/-- R480. -/
def Reg.TS_RX_COMP (i : Nat) : Nat := 0x6000 + 0xa4 + 8 * i

/-- R480. -/
def Reg.TIME_PTP_CFG (i : Nat) : Nat := 0x6000 + 0xc0 + 4 * i

/-- R513. -/
def Reg.MAC_CFG (n : Nat) : Nat := 0x10000 + 0x1000 * n + 0x40

/-- R513. -/
def Reg.MAC_STATUS (n : Nat) : Nat := 0x10000 + 0x1000 * n + 0x44

/-- R513. -/
def Reg.MAC_SA_LO (n : Nat) : Nat := 0x10000 + 0x1000 * n + 0x48

/-- R513. -/
def Reg.MAC_SA_HI (n : Nat) : Nat := 0x10000 + 0x1000 * n + 0x4c

/-- R513. -/
def Reg.MAC_DEFAULT_TAG (n : Nat) : Nat := 0x10000 + 0x1000 * n + 0x50

/-- R513. -/
def Reg.MAC_PCP_TC (n : Nat) : Nat := 0x10000 + 0x1000 * n + 0x54

/-- R513. -/
def Reg.MAC_TX_OVH (n : Nat) : Nat := 0x10000 + 0x1000 * n + 0x58

/-- R513. -/
def Reg.MAC_EPOCH_FRAME (n : Nat) : Nat := 0x10000 + 0x1000 * n + 0x60

/-- R513. -/
def Reg.MAC_EPOCH_DA_LO (n : Nat) : Nat := 0x10000 + 0x1000 * n + 0x64

/-- R513. -/
def Reg.MAC_EPOCH_DA_HI (n : Nat) : Nat := 0x10000 + 0x1000 * n + 0x68

/-- R513. -/
def Reg.MAC_RX_FRAMES (n : Nat) : Nat := 0x10000 + 0x1000 * n + 0x80

/-- R513. -/
def Reg.MAC_RX_DISCARDS (n : Nat) : Nat := 0x10000 + 0x1000 * n + 0x84

/-- R513. -/
def Reg.MAC_TX_FRAMES (n : Nat) : Nat := 0x10000 + 0x1000 * n + 0x88

/-- R513. -/
def Reg.MAC_TX_DROPS (n : Nat) : Nat := 0x10000 + 0x1000 * n + 0x8c

/-- R513. -/
def Reg.MAC_FEC (n : Nat) : Nat := 0x10000 + 0x1000 * n + 0x90

/-- R513. -/
def Reg.MAC_COUNT_CLR (n : Nat) : Nat := 0x10000 + 0x1000 * n + 0x94

/-- R513. -/
def Reg.MAC_MCAST (n : Nat) (i : Nat) : Nat := 0x10000 + 0x1000 * n + 0x100 + 4 * i

/-- R513. -/
def Reg.SHP_CIR (n : Nat) (i : Nat) : Nat := 0x10000 + 0x1000 * n + 0x400 + 16 * i

/-- R513. -/
def Reg.SHP_PIR (n : Nat) (i : Nat) : Nat := 0x10000 + 0x1000 * n + 0x404 + 16 * i

/-- R513. -/
def Reg.SHP_BURST (n : Nat) (i : Nat) : Nat := 0x10000 + 0x1000 * n + 0x408 + 16 * i

/-- R513. -/
def Reg.SHP_CFG (n : Nat) (i : Nat) : Nat := 0x10000 + 0x1000 * n + 0x40c + 16 * i

/-- R513. -/
def Reg.SHP_LEVEL_C (n : Nat) (i : Nat) : Nat := 0x10000 + 0x1000 * n + 0x480 + 8 * i

/-- R513. -/
def Reg.SHP_LEVEL_P (n : Nat) (i : Nat) : Nat := 0x10000 + 0x1000 * n + 0x484 + 8 * i

/-- R513. -/
def Reg.RING_BASE_LO (n : Nat) (i : Nat) : Nat := 0x10000 + 0x1000 * n + 0x800 + 64 * i

/-- R513. -/
def Reg.RING_BASE_HI (n : Nat) (i : Nat) : Nat := 0x10000 + 0x1000 * n + 0x804 + 64 * i

/-- R513. -/
def Reg.DMA_RING_CFG (n : Nat) (i : Nat) : Nat := 0x10000 + 0x1000 * n + 0x808 + 64 * i

/-- R513. -/
def Reg.DMA_RING_TAIL (n : Nat) (i : Nat) : Nat := 0x10000 + 0x1000 * n + 0x80c + 64 * i

/-- R513. -/
def Reg.DMA_RING_HEAD (n : Nat) (i : Nat) : Nat := 0x10000 + 0x1000 * n + 0x810 + 64 * i

/-- R513. -/
def Reg.DMA_RING_COUNT (n : Nat) (i : Nat) : Nat := 0x10000 + 0x1000 * n + 0x814 + 64 * i

/-- R514. -/
def Reg.GATE_CFG (n : Nat) : Nat := 0x14000 + 0x1000 * n + 0x40

/-- R514. -/
def Reg.GATE_STATUS (n : Nat) : Nat := 0x14000 + 0x1000 * n + 0x44

/-- R514. -/
def Reg.GATE_BASE_LO (n : Nat) : Nat := 0x14000 + 0x1000 * n + 0x48

/-- R514. -/
def Reg.GATE_BASE_HI (n : Nat) : Nat := 0x14000 + 0x1000 * n + 0x4c

/-- R514. -/
def Reg.GATE_CYCLE (n : Nat) : Nat := 0x14000 + 0x1000 * n + 0x50

/-- R514. -/
def Reg.GATE_LEN (n : Nat) : Nat := 0x14000 + 0x1000 * n + 0x54

/-- R514. -/
def Reg.GATE_CMD (n : Nat) : Nat := 0x14000 + 0x1000 * n + 0x58

/-- R514. -/
def Reg.GATE_SKIPPED (n : Nat) : Nat := 0x14000 + 0x1000 * n + 0x5c

/-- R514. -/
def Reg.GATE_OVERSIZE (n : Nat) (i : Nat) : Nat := 0x14000 + 0x1000 * n + 0x60 + 4 * i

/-- R514. -/
def Reg.GATE_ACTIVE_BASE_LO (n : Nat) : Nat := 0x14000 + 0x1000 * n + 0x70

/-- R514. -/
def Reg.GATE_ACTIVE_BASE_HI (n : Nat) : Nat := 0x14000 + 0x1000 * n + 0x74

/-- R514. -/
def Reg.GATE_ACTIVE_CYCLE (n : Nat) : Nat := 0x14000 + 0x1000 * n + 0x78

/-- R514. -/
def Reg.GCL_A (n : Nat) (i : Nat) : Nat := 0x14000 + 0x1000 * n + 0x400 + 4 * i

/-- R514. -/
def Reg.GCL_B (n : Nat) (i : Nat) : Nat := 0x14000 + 0x1000 * n + 0x800 + 4 * i

/-- R515. -/
def Reg.POLICE_COLOUR (n : Nat) : Nat := 0x18000 + 0x1000 * n + 0x40

/-- R515. -/
def Reg.POLICE_COUNT_CLR (n : Nat) : Nat := 0x18000 + 0x1000 * n + 0x50

/-- R515. -/
def Reg.POL_MATCH (n : Nat) (i : Nat) : Nat := 0x18000 + 0x1000 * n + 0x400 + 32 * i

/-- R515. -/
def Reg.POL_USE (n : Nat) (i : Nat) : Nat := 0x18000 + 0x1000 * n + 0x404 + 32 * i

/-- R515. -/
def Reg.POL_REMARK (n : Nat) (i : Nat) : Nat := 0x18000 + 0x1000 * n + 0x408 + 32 * i

/-- R515. -/
def Reg.POL_CIR (n : Nat) (i : Nat) : Nat := 0x18000 + 0x1000 * n + 0x40c + 32 * i

/-- R515. -/
def Reg.POL_PIR (n : Nat) (i : Nat) : Nat := 0x18000 + 0x1000 * n + 0x410 + 32 * i

/-- R515. -/
def Reg.POL_BURST (n : Nat) (i : Nat) : Nat := 0x18000 + 0x1000 * n + 0x414 + 32 * i

/-- R515. -/
def Reg.POL_LEVEL_C (n : Nat) (i : Nat) : Nat := 0x18000 + 0x1000 * n + 0x418 + 32 * i

/-- R515. -/
def Reg.POL_LEVEL_P (n : Nat) (i : Nat) : Nat := 0x18000 + 0x1000 * n + 0x41c + 32 * i

/-- R515. -/
def Reg.POL_COUNT (n : Nat) (i : Nat) : Nat := 0x18000 + 0x1000 * n + 0xc00 + 4 * i

/-- R516. -/
def Reg.CIS_POOL : Nat := 0x1c040

/-- R516. -/
def Reg.CIS_FLUSH : Nat := 0x1c044

/-- R516. -/
def Reg.CIS_FLUSH_PEND_LO : Nat := 0x1c048

/-- R516. -/
def Reg.CIS_FLUSH_PEND_HI : Nat := 0x1c04c

/-- R516. -/
def Reg.CIS_ECC_CORR : Nat := 0x1c050

/-- R516. -/
def Reg.CIS_ECC_UNCORR : Nat := 0x1c054

/-- R516. -/
def Reg.CIS_ECC_ADDR : Nat := 0x1c058

/-- R516. -/
def Reg.CIS_HOST_WRITES : Nat := 0x1c05c

/-- R516. -/
def Reg.CIS_COUNT_CLR : Nat := 0x1c060

/-- R516. -/
def Reg.CIS_Q_CFG (i : Nat) : Nat := 0x1c000 + 0x400 + 8 * i

/-- R516. -/
def Reg.CIS_Q_STATUS (i : Nat) : Nat := 0x1c000 + 0x404 + 8 * i

/-- R516. -/
def Reg.CIS_Q_DROPS (i : Nat) : Nat := 0x1c000 + 0x800 + 4 * i

/-- R532. -/
def Reg.EVT_CFG : Nat := 0x5040

/-- R532. -/
def Reg.EVT_FIRE : Nat := 0x5044

/-- R532. -/
def Reg.EVT_LOOP_INFO : Nat := 0x5048

/-- R532. -/
def Reg.EVT_COLLIDE : Nat := 0x504c

/-- R532. -/
def Reg.EVT_COUNT_CLR : Nat := 0x5050

/-- R532. -/
def Reg.EVT_TASK_CLR : Nat := 0x5054

/-- R532. -/
def Reg.EVT_PROD (i : Nat) : Nat := 0x5000 + 0x400 + 4 * i

/-- R532. -/
def Reg.EVT_TASK (i : Nat) : Nat := 0x5000 + 0x800 + 4 * i

/-- R532. -/
def Reg.EVT_TASK_STAT (i : Nat) : Nat := 0x5000 + 0xb00 + 4 * i

/-- R550. -/
def Reg.FLT_CFG : Nat := 0x4040

/-- R550. -/
def Reg.FLT_STATUS : Nat := 0x4044

/-- R538. -/
def Reg.FLT_REACT (i : Nat) : Nat := 0x4000 + 0x50 + 4 * i

/-- R550. -/
def Reg.FLT_FIRST : Nat := 0x4060

/-- R550. -/
def Reg.FLT_FIRST_T_LO : Nat := 0x4068

/-- R550. -/
def Reg.FLT_FIRST_T_HI : Nat := 0x406c

/-- R550. -/
def Reg.FLT_SAMECYCLE (i : Nat) : Nat := 0x4000 + 0x70 + 4 * i

/-- R550. -/
def Reg.FLT_FIRST_CLR : Nat := 0x407c

/-- R550. -/
def Reg.FLT_ACK : Nat := 0x4080

/-- R550. -/
def Reg.FLT_ACK_RESULT : Nat := 0x4084

/-- R550. -/
def Reg.FLT_RAISED (i : Nat) : Nat := 0x4000 + 0x90 + 4 * i

/-- R550. -/
def Reg.FLT_ACKED (i : Nat) : Nat := 0x4000 + 0xa0 + 4 * i

/-- R537. -/
def Reg.FLT_SEV (i : Nat) : Nat := 0x4000 + 0x100 + 4 * i

/-- R551. -/
def Reg.FLT_REC (i : Nat) : Nat := 0x4000 + 0x400 + 4 * i

/-- R570. -/
def Reg.HEAT_CFG : Nat := 0x3040

/-- R570. -/
def Reg.HEAT_STATUS : Nat := 0x3044

/-- R559. -/
def Reg.HEAT_DIE_LIMITS : Nat := 0x3048

/-- R559. -/
def Reg.HEAT_PIC_LIMITS : Nat := 0x304c

/-- R570. -/
def Reg.HEAT_RISE : Nat := 0x3050

/-- R570. -/
def Reg.HEAT_THR_ACT : Nat := 0x3054

/-- R570. -/
def Reg.HEAT_THR_BUDGET : Nat := 0x3058

/-- R570. -/
def Reg.HEAT_HOT_DIE : Nat := 0x305c

/-- R570. -/
def Reg.HEAT_HOT_PIC : Nat := 0x3060

/-- R570. -/
def Reg.HEAT_RESTART : Nat := 0x3064

/-- R570. -/
def Reg.HEAT_SHUT_T_LO : Nat := 0x3068

/-- R570. -/
def Reg.HEAT_SHUT_T_HI : Nat := 0x306c

/-- R570. -/
def Reg.HEAT_SHUT_INFO : Nat := 0x3070

/-- R570. -/
def Reg.HEAT_SHUT_TEMP : Nat := 0x3074

/-- R570. -/
def Reg.HEAT_DIE (i : Nat) : Nat := 0x3000 + 0x400 + 4 * i

/-- R570. -/
def Reg.HEAT_PIC (i : Nat) : Nat := 0x3000 + 0x500 + 4 * i

/-- R570. -/
def Reg.HEAT_PIC_COEF (i : Nat) : Nat := 0x3000 + 0x600 + 4 * i

/-- R588. -/
def Reg.XBAR_CFG : Nat := 0x9040

/-- R588. -/
def Reg.XBAR_STATUS : Nat := 0x9044

/-- R588. -/
def Reg.XBAR_TIMEOUT_INFO : Nat := 0x9048

/-- R588. -/
def Reg.XBAR_SPARSE_ERR : Nat := 0x904c

/-- R588. -/
def Reg.XBAR_ECC_CORR : Nat := 0x9050

/-- R588. -/
def Reg.XBAR_ECC_UNCORR : Nat := 0x9054

/-- R588. -/
def Reg.XBAR_ECC_ADDR : Nat := 0x9058

/-- R588. -/
def Reg.XBAR_COUNT_CLR : Nat := 0x905c

/-- R572. -/
def Reg.XBAR_QOS (i : Nat) : Nat := 0x9000 + 0x80 + 4 * i

/-- R588. -/
def Reg.XBAR_PRIO_A (i : Nat) : Nat := 0x9000 + 0x100 + 8 * i

/-- R588. -/
def Reg.XBAR_PRIO_B (i : Nat) : Nat := 0x9000 + 0x104 + 8 * i

/-- R619. -/
def Reg.WH_STATUS : Nat := 0x8040

/-- R619. -/
def Reg.WH_CMD : Nat := 0x8044

/-- R619. -/
def Reg.WH_ARG0 : Nat := 0x8048

/-- R619. -/
def Reg.WH_ARG1 : Nat := 0x804c

/-- R619. -/
def Reg.WH_BOOT_STATUS : Nat := 0x8050

/-- R619. -/
def Reg.WH_SEQ : Nat := 0x8054

/-- R619. -/
def Reg.WH_SVN : Nat := 0x8058

/-- R619. -/
def Reg.WH_KEYS : Nat := 0x805c

/-- R619. -/
def Reg.WH_ATTEST_REM : Nat := 0x8060

/-- R619. -/
def Reg.WH_ATTEST_INDEX : Nat := 0x8064

/-- R619. -/
def Reg.WH_ATTEST_BASE : Nat := 0x8068

/-- R619. -/
def Reg.WH_STAGE : Nat := 0x806c

/-- R619. -/
def Reg.WH_STAGED_KERNEL_VER : Nat := 0x8070

/-- R619. -/
def Reg.WH_DEBUG : Nat := 0x8074

/-- R619. -/
def Reg.WH_COUNTS : Nat := 0x8078

/-- R619. -/
def Reg.WH_NONCE (i : Nat) : Nat := 0x8000 + 0x80 + 4 * i

/-- R619. -/
def Reg.WH_ATTEST_PUB (i : Nat) : Nat := 0x8000 + 0x100 + 4 * i

/-- R619. -/
def Reg.WH_DATA (i : Nat) : Nat := 0x8000 + 0x400 + 4 * i

/-- R624. -/
def Reg.CEN_CMD : Nat := 0x27040

/-- R624. -/
def Reg.CEN_SEL : Nat := 0x27044

/-- R624. -/
def Reg.CEN_BASE : Nat := 0x27048

/-- R624. -/
def Reg.CEN_STATUS : Nat := 0x2704c

/-- R624. -/
def Reg.CEN_T_LO : Nat := 0x27050

/-- R624. -/
def Reg.CEN_T_HI : Nat := 0x27054

/-- R624. -/
def Reg.CEN_SIZE : Nat := 0x27058

/-- R632. -/
def Reg.TMUX_ATEST (i : Nat) : Nat := 0x7000 + 0x40 + 4 * i

/-- R632. -/
def Reg.TMUX_DTEST (i : Nat) : Nat := 0x7000 + 0x60 + 4 * i

end Sys2Proof
end

