-- ==== Sys2Proof/Machine/RegTable.lean ====
section
/-! DEFINITION. The address map and the register table: every register's place, access type, reset value and
writable bits, as the register maps of the spec list them (R84 to R97, R113 and each chapter's register map). -/

namespace Sys2Proof

/-- Access types of R94. `rwl` and `rwh` are the halves of a 64-bit RW pair (R102). -/
inductive Access where
  | ro | rw | rws | w1c | wo | rol | rwl | rwh
  deriving DecidableEq, Repr

/-- A row of a register map: first offset, stride and count of the instances, access type, reset value, the bits that
are not reserved, and whether the chapter names it a calibration value (R143). -/
structure RegDef where
  off : Nat
  stride : Nat
  count : Nat
  acc : Access
  reset : Nat
  mask : Nat
  cal : Bool
  deriving DecidableEq, Repr

/-- Register map of HDR (R105, R106, R109, R86, R87, R92). -/
def headerRegs : List RegDef := [
  ⟨0x0, 4, 1, .ro, 0x0, 0x0, false⟩,  -- PAGE_ID
  ⟨0x4, 4, 1, .ro, 0x100, 0x0, false⟩,  -- PAGE_REV
  ⟨0x8, 4, 1, .rw, 0x0, 0xd, false⟩,  -- CTRL
  ⟨0xc, 4, 1, .ro, 0x0, 0x0, false⟩,  -- STATUS
  ⟨0x10, 4, 1, .w1c, 0x0, 0x3ffffff, false⟩,  -- INT_STATUS
  ⟨0x14, 4, 1, .rw, 0x0, 0xffffffff, false⟩,  -- INT_ENABLE
  ⟨0x18, 4, 1, .w1c, 0x0, 0xffffffff, false⟩,  -- FAULT_STATUS
  ⟨0x1c, 4, 1, .wo, 0x0, 0x7, false⟩,  -- SHADOW_CTRL
  ⟨0x20, 4, 1, .ro, 0x0, 0x0, false⟩,  -- SHADOW_STATUS
  ⟨0x24, 4, 1, .ro, 0x0, 0x0, false⟩,  -- GEN
  ⟨0x28, 4, 1, .rw, 0x0, 0x3, false⟩]  -- PAGE_LOCK

/-- Register map of GLB (R114, R149). -/
def glbRegs : List RegDef := [
  ⟨0x40, 4, 1, .ro, 0x0, 0x0, false⟩,  -- GLB_PART
  ⟨0x44, 4, 1, .ro, 0x0, 0x0, false⟩,  -- GLB_VARIANT
  ⟨0x48, 4, 1, .rol, 0x0, 0x0, false⟩,  -- GLB_SERIAL_LO
  ⟨0x4c, 4, 1, .ro, 0x0, 0x0, false⟩,  -- GLB_SERIAL_HI
  ⟨0x50, 4, 1, .ro, 0x0, 0x0, false⟩,  -- GLB_DECODE_ADDR
  ⟨0x54, 4, 1, .ro, 0x0, 0x0, false⟩,  -- GLB_DECODE_INFO
  ⟨0x58, 4, 1, .ro, 0x0, 0x0, false⟩,  -- GLB_LOCK_ADDR
  ⟨0x5c, 4, 1, .ro, 0x0, 0x0, false⟩,  -- GLB_LOCK_INFO
  ⟨0x60, 4, 1, .rol, 0x0, 0x0, false⟩,  -- GLB_UPTIME_LO
  ⟨0x64, 4, 1, .ro, 0x0, 0x0, false⟩,  -- GLB_UPTIME_HI
  ⟨0x100, 4, 1, .wo, 0x0, 0xffff0001, false⟩,  -- GLB_RESET_CTRL
  ⟨0x104, 4, 1, .ro, 0x1, 0x0, false⟩,  -- GLB_PRIME_STATUS
  ⟨0x108, 4, 1, .rw, 0x6403, 0xff03, false⟩,  -- GLB_PRIME_CTRL
  ⟨0x10c, 4, 1, .wo, 0x0, 0x1, false⟩,  -- GLB_CAL_DONE
  ⟨0x110, 4, 1, .w1c, 0x1, 0x7f, false⟩,  -- GLB_RESET_CAUSE
  ⟨0x114, 4, 1, .ro, 0x0, 0x0, false⟩]  -- GLB_PRIME_MS

/-- Register map of CLK (R67). -/
def clkRegs : List RegDef := [
  ⟨0x40, 4, 1, .ro, 0x0, 0x0, false⟩,  -- CLK_SRC_STATUS
  ⟨0x44, 4, 1, .rw, 0x1, 0x1, false⟩]  -- CLK_XREF_CTRL

/-- Register map of PWR (R639, R68). -/
def pwrRegs : List RegDef := [
  ⟨0x40, 4, 1, .rw, 0x0, 0xfff, false⟩,  -- PWR_VHTR_NOMINAL
  ⟨0x44, 4, 1, .ro, 0x0, 0x0, false⟩,  -- PWR_MON_STATUS
  ⟨0x50, 4, 10, .ro, 0x0, 0x0, false⟩,  -- PWR_RAIL_MV
  ⟨0x78, 4, 1, .ro, 0x0, 0x0, false⟩]  -- PWR_DEVICE_MW

/-- Register map of PCIE (R116). -/
def pcieRegs : List RegDef := [
  ⟨0x40, 4, 1, .rw, 0x0, 0x7ff, false⟩]  -- PCIE_BAR2_BASE

/-- Register map of SLOT (R196, R257, R30, R301). -/
def slotRegs : List RegDef := [
  ⟨0x0, 4, 1, .rws, 0x0, 0x3ff0037, false⟩,  -- SLOT_CFG
  ⟨0x4, 4, 1, .rws, 0x0, 0xfff0fff, false⟩,  -- EO_BAR
  ⟨0x8, 4, 1, .rws, 0x0, 0xfff0fff, false⟩,  -- EO_CROSS
  ⟨0xc, 4, 1, .ro, 0x0, 0x0, false⟩,  -- EO_TARGET
  ⟨0x10, 4, 1, .rws, 0x0, 0xfff0fff, false⟩,  -- EO_PARK
  ⟨0x14, 4, 1, .rws, 0x0, 0x3ff03ff, false⟩,  -- EO_SEG_A
  ⟨0x18, 4, 1, .rws, 0x0, 0x3ff03ff, false⟩,  -- EO_SEG_B
  ⟨0x1c, 4, 1, .rws, 0x0, 0x803f07ff, false⟩,  -- EO_DITHER
  ⟨0x20, 4, 1, .rws, 0x0, 0x3, false⟩,  -- HTR_CFG
  ⟨0x24, 4, 1, .rws, 0x0, 0xffff, false⟩,  -- HTR_PARK
  ⟨0x28, 4, 1, .rws, 0x0, 0xffffffff, false⟩,  -- HTR_LIMIT
  ⟨0x2c, 4, 1, .rws, 0x0, 0xf, false⟩,  -- LOOP_SLOT_CFG
  ⟨0x30, 4, 1, .ro, 0x0, 0x0, false⟩,  -- LOOP_SLOT_STATUS
  ⟨0x34, 4, 1, .ro, 0x0, 0x0, false⟩]  -- LOOP_SLOT_Y

/-- Register map of EPOCH (R175, R180, R184). -/
def epochRegs : List RegDef := [
  ⟨0x40, 4, 8, .rw, 0x0, 0xffffffff, false⟩,  -- EPOCH_DESC
  ⟨0x60, 4, 1, .wo, 0x0, 0x1, false⟩,  -- EPOCH_SUBMIT
  ⟨0x64, 4, 1, .ro, 0x0, 0x0, false⟩,  -- EPOCH_RESULT
  ⟨0x68, 4, 1, .rol, 0x0, 0x0, false⟩,  -- EPOCH_RESULT_T_LO
  ⟨0x6c, 4, 1, .ro, 0x0, 0x0, false⟩,  -- EPOCH_RESULT_T_HI
  ⟨0x70, 4, 1, .rol, 0x0, 0x0, false⟩,  -- EPOCH_RESULT_NUM_LO
  ⟨0x74, 4, 1, .ro, 0x0, 0x0, false⟩,  -- EPOCH_RESULT_NUM_HI
  ⟨0x78, 4, 1, .ro, 0x0, 0x0, false⟩,  -- EPOCH_QUEUE_STATUS
  ⟨0x7c, 4, 1, .rw, 0x310, 0x73f, false⟩,  -- EPOCH_CFG
  ⟨0x80, 4, 1, .rol, 0x0, 0x0, false⟩,  -- EPOCH_LAST_NUM_LO
  ⟨0x84, 4, 1, .ro, 0x0, 0x0, false⟩,  -- EPOCH_LAST_NUM_HI
  ⟨0x88, 4, 1, .rol, 0x0, 0x0, false⟩,  -- EPOCH_LAST_T_LO
  ⟨0x8c, 4, 1, .ro, 0x0, 0x0, false⟩,  -- EPOCH_LAST_T_HI
  ⟨0x90, 4, 1, .ro, 0x0, 0x0, false⟩,  -- EPOCH_LAST_STATUS
  ⟨0x94, 4, 1, .wo, 0x0, 0x1, false⟩,  -- EPOCH_QUEUE_FLUSH
  ⟨0x98, 4, 1, .rw, 0x0, 0xffc000, false⟩,  -- EPOCH_LOG_BASE
  ⟨0x9c, 4, 1, .ro, 0x0, 0x0, false⟩,  -- EPOCH_LOG_WR
  ⟨0xa0, 4, 1, .rw, 0x0, 0x10, false⟩,  -- SCHED_CTRL
  ⟨0xa4, 4, 1, .rw, 0x0, 0x7f7f, false⟩,  -- SCHED_LEN
  ⟨0xa8, 4, 1, .rwl, 0x0, 0xfffffffc, false⟩,  -- SCHED_BASE_LO
  ⟨0xac, 4, 1, .rwh, 0x0, 0xffffffff, false⟩,  -- SCHED_BASE_HI
  ⟨0xb0, 4, 1, .rw, 0xc8, 0x1fff, false⟩,  -- SCHED_LEAD
  ⟨0xb4, 4, 1, .ro, 0x0, 0x0, false⟩,  -- SCHED_SKIPPED
  ⟨0xb8, 4, 1, .rol, 0x0, 0x0, false⟩,  -- SCHED_CYCLE_LO
  ⟨0xbc, 4, 1, .ro, 0x0, 0x0, false⟩,  -- SCHED_CYCLE_HI
  ⟨0xc0, 4, 1, .ro, 0x7ff, 0x0, false⟩,  -- EPOCH_BAD_PERM
  ⟨0x400, 4, 64, .rw, 0x0, 0xffffff3f, false⟩,  -- SCHED_A
  ⟨0x500, 4, 64, .rw, 0x0, 0xffffff3f, false⟩,  -- SCHED_B
  ⟨0x800, 4, 128, .ro, 0x0, 0x0, false⟩]  -- EPOCH_QUEUE

/-- Register map of ROUTE (R188, R189). -/
def routeRegs : List RegDef := [
  ⟨0x40, 4, 1, .rw, 0x0, 0xf, false⟩,  -- ROUTE_NET
  ⟨0x44, 4, 1, .ro, 0x0, 0x0, false⟩,  -- ROUTE_STATUS
  ⟨0x48, 4, 1, .ro, 0x7ff, 0x0, false⟩,  -- ROUTE_FAIL
  ⟨0x4c, 4, 1, .wo, 0x0, 0x33f, false⟩,  -- ROUTE_PRESET_CMD
  ⟨0x50, 4, 1, .ro, 0x0, 0x0, false⟩,  -- ROUTE_PRESET_RESULT
  ⟨0x54, 4, 1, .ro, 0x0, 0x0, false⟩,  -- ROUTE_PRESET_IGNORED
  ⟨0x58, 4, 1, .wo, 0x0, 0x83ff, false⟩,  -- ROUTE_PORT_MARK
  ⟨0x80, 4, 19, .rw, 0x0, 0x1f301f3, false⟩,  -- ROUTE_STAGE_MAP
  ⟨0x100, 4, 32, .w1c, 0x0, 0xffffffff, false⟩]  -- ROUTE_PORT_FAILED

/-- Register map of SHAPEDIR (R202). -/
def shapeDirRegs : List RegDef := [
  ⟨0x8000, 4, 4096, .rw, 0x0, 0xffffffff, false⟩]  -- SHAPE_DIR

/-- Register map of COL (R212, R231, R234, R245, R253, R256, R258, R324). -/
def colRegs : List RegDef := [
  ⟨0x200, 4, 1, .rw, 0x8, 0x3f, false⟩,  -- EO_COL_CFG
  ⟨0x204, 4, 1, .ro, 0x0, 0x0, false⟩,  -- EO_COL_STATUS
  ⟨0x208, 4, 1, .ro, 0x0, 0x0, false⟩,  -- EO_COL_COUNT_A
  ⟨0x20c, 4, 1, .ro, 0x0, 0x0, false⟩,  -- EO_COL_COUNT_B
  ⟨0x210, 4, 1, .ro, 0x0, 0x0, false⟩,  -- EO_COL_COUNT_C
  ⟨0x218, 4, 1, .wo, 0x0, 0x1, false⟩,  -- EO_COL_COUNT_CLR
  ⟨0x220, 4, 8, .rw, 0x0, 0xffffffff, false⟩,  -- EO_EVT_MASK
  ⟨0x240, 4, 1, .rw, 0x0, 0x83ff, false⟩,  -- EO_EVT_JUMP
  ⟨0x250, 4, 1, .wo, 0x0, 0x19ff, false⟩,  -- EO_CAL_CMD
  ⟨0x254, 4, 1, .ro, 0x0, 0x0, false⟩,  -- EO_CAL_STATUS
  ⟨0x4000, 16, 256, .wo, 0x0, 0xc3ff, false⟩,  -- EO_CH_JUMP
  ⟨0x4004, 16, 256, .ro, 0x0, 0x0, false⟩,  -- EO_CH_STATE
  ⟨0x4008, 16, 256, .ro, 0x0, 0x0, false⟩,  -- EO_CH_OUT
  ⟨0x400c, 16, 256, .ro, 0x0, 0x0, false⟩,  -- EO_CH_FROM
  ⟨0x6400, 4, 256, .ro, 0x0, 0x0, false⟩,  -- EO_NCO
  ⟨0x100, 4, 1, .rw, 0xa, 0x1f, false⟩,  -- HTR_COL_CFG
  ⟨0x104, 4, 1, .ro, 0x0, 0x0, false⟩,  -- HTR_COL_STATUS
  ⟨0x108, 4, 1, .ro, 0x0, 0x0, false⟩,  -- HTR_COL_MW
  ⟨0x10c, 4, 1, .ro, 0x0, 0x0, false⟩,  -- HTR_COUNT_A
  ⟨0x110, 4, 1, .ro, 0x0, 0x0, false⟩,  -- HTR_COUNT_B
  ⟨0x118, 4, 1, .wo, 0x0, 0x1, false⟩,  -- HTR_COUNT_CLR
  ⟨0x11c, 4, 1, .wo, 0x0, 0xf7ff, false⟩,  -- HTR_FAULT_CLR
  ⟨0x120, 4, 1, .wo, 0x0, 0x1, false⟩,  -- HTR_CAL_CMD
  ⟨0x124, 4, 1, .ro, 0x0, 0x0, false⟩,  -- HTR_CAL_STATUS
  ⟨0x1000, 8, 256, .rw, 0x0, 0xffff, true⟩,  -- HTR_RCAL_A
  ⟨0x1004, 8, 256, .rw, 0x0, 0xffff, true⟩,  -- HTR_RCAL_B
  ⟨0x5000, 16, 256, .wo, 0x0, 0xffff, false⟩,  -- HTR_HOST
  ⟨0x5004, 16, 256, .ro, 0x100000, 0x0, false⟩,  -- HTR_STATE
  ⟨0x5008, 16, 256, .ro, 0x0, 0x0, false⟩,  -- HTR_RB_A
  ⟨0x500c, 16, 256, .ro, 0x0, 0x0, false⟩,  -- HTR_RB_B
  ⟨0x6000, 4, 256, .ro, 0x0, 0x0, false⟩,  -- HTR_ACC
  ⟨0x300, 4, 1, .ro, 0x0, 0x0, false⟩,  -- CLAIM_COL_STATUS
  ⟨0x304, 4, 1, .ro, 0x0, 0x0, false⟩,  -- CLAIM_COUNT
  ⟨0x308, 4, 1, .wo, 0x0, 0x1, false⟩,  -- CLAIM_COUNT_CLR
  ⟨0x2000, 8, 64, .ro, 0x0, 0x0, false⟩,  -- CLAIM
  ⟨0x2004, 8, 64, .ro, 0x0, 0x0, false⟩]  -- CLAIM_STATE

/-- Register map of COL0 (R235, R259). -/
def col0Regs : List RegDef := [
  ⟨0x7000, 4, 1, .ro, 0x0, 0x0, false⟩,  -- SHAPE_IGNORED
  ⟨0x7004, 4, 1, .wo, 0x0, 0x103ff, false⟩,  -- SHAPE_DIR_CMD
  ⟨0x7008, 4, 1, .ro, 0x0, 0x0, false⟩,  -- SHAPE_DIR_RESULT
  ⟨0x7010, 4, 1, .wo, 0x0, 0x1, false⟩,  -- SHAPE_ALIGN_CTRL
  ⟨0x7014, 4, 1, .ro, 0x0, 0x0, false⟩,  -- SHAPE_ALIGN_STATUS
  ⟨0x7018, 4, 1, .rw, 0x0, 0xffff, true⟩,  -- SHAPE_DEV_TRIM
  ⟨0x701c, 4, 1, .ro, 0x0, 0x0, false⟩,  -- SHAPE_SYNC_OFFSET
  ⟨0x7020, 4, 1, .ro, 0x0, 0x0, false⟩,  -- SHAPE_SYNC_RPT
  ⟨0x7024, 4, 1, .ro, 0x0, 0x0, false⟩,  -- SHAPE_LOOP_DELAY
  ⟨0x7100, 4, 1, .rw, 0x4e20, 0xffff, false⟩,  -- HTR_BUDGET
  ⟨0x7104, 4, 1, .ro, 0xffff0000, 0x0, false⟩,  -- HTR_BUDGET_STATUS
  ⟨0x7108, 4, 1, .ro, 0x0, 0x0, false⟩,  -- HTR_TOTAL_MW
  ⟨0x710c, 4, 1, .ro, 0x0, 0x0, false⟩]  -- HTR_LIMITED_FRAMES

/-- Register map of SIPHON (R236). -/
def siphonRegs : List RegDef := [
  ⟨0x40, 4, 1, .rwl, 0x0, 0xfffffffc, false⟩,  -- SIPH_START_T_LO
  ⟨0x44, 4, 1, .rwh, 0x0, 0xffffffff, false⟩,  -- SIPH_START_T_HI
  ⟨0x48, 4, 1, .ro, 0x0, 0x0, false⟩,  -- SIPH_ACTIVE
  ⟨0x4c, 4, 1, .ro, 0x0, 0x0, false⟩,  -- SIPH_UNDERRUNS
  ⟨0x400, 32, 32, .rw, 0x0, 0xfffff, false⟩,  -- SIPH_CFG
  ⟨0x404, 32, 32, .rw, 0x0, 0xffff, false⟩,  -- SIPH_STEP
  ⟨0x408, 32, 32, .rwl, 0x0, 0xffffffc0, false⟩,  -- SIPH_ADDR_LO
  ⟨0x40c, 32, 32, .rwh, 0x0, 0x1f, false⟩,  -- SIPH_ADDR_HI
  ⟨0x410, 32, 32, .rw, 0x0, 0xffffffff, false⟩,  -- SIPH_LEN
  ⟨0x414, 32, 32, .rw, 0x0, 0xffff, false⟩,  -- SIPH_REPEAT
  ⟨0x418, 32, 32, .wo, 0x0, 0x7, false⟩,  -- SIPH_CMD
  ⟨0x41c, 32, 32, .ro, 0x0, 0x0, false⟩]  -- SIPH_STATUS

/-- Register map of CELL (R284, R302). -/
def cellRegs : List RegDef := [
  ⟨0x0, 4, 1, .rw, 0x0, 0xf, false⟩,  -- CELL_CTRL
  ⟨0x4, 4, 1, .ro, 0x0, 0x0, false⟩,  -- CELL_STATUS
  ⟨0x8, 4, 1, .ro, 0x0, 0x0, false⟩,  -- CELL_MISS
  ⟨0xc, 4, 1, .wo, 0x0, 0x3, false⟩,  -- CELL_CLR
  ⟨0x10, 4, 1, .rol, 0x0, 0x0, false⟩,  -- CELL_UPDATES_LO
  ⟨0x14, 4, 1, .ro, 0x0, 0x0, false⟩,  -- CELL_UPDATES_HI
  ⟨0x18, 4, 1, .ro, 0x0, 0x0, false⟩,  -- CELL_COST
  ⟨0x40, 4, 12, .ro, 0x0, 0x0, false⟩,  -- CELL_X_HAT
  ⟨0x70, 4, 4, .ro, 0x0, 0x0, false⟩,  -- CELL_Z
  ⟨0x80, 4, 4, .ro, 0x0, 0x0, false⟩,  -- CELL_U
  ⟨0x90, 4, 4, .ro, 0x0, 0x0, false⟩,  -- CELL_R
  ⟨0xa0, 4, 4, .ro, 0x0, 0x0, false⟩,  -- CELL_W
  ⟨0xb0, 4, 4, .ro, 0x0, 0x0, false⟩,  -- CELL_E
  ⟨0x200, 4, 1, .rw, 0x0, 0xfff07f7, false⟩,  -- INJ_CFG
  ⟨0x204, 4, 1, .rw, 0x0, 0xffffff, false⟩,  -- INJ_AMP
  ⟨0x208, 4, 1, .rw, 0x0, 0xffffff, false⟩,  -- INJ_LEN
  ⟨0x20c, 4, 1, .rw, 0x0, 0xffff, false⟩,  -- INJ_REPEAT
  ⟨0x210, 4, 1, .rw, 0x0, 0xffffffff, false⟩,  -- INJ_F
  ⟨0x214, 4, 1, .wo, 0x0, 0x3, false⟩,  -- INJ_CMD
  ⟨0x218, 4, 1, .ro, 0x0, 0x0, false⟩,  -- INJ_STATUS
  ⟨0x220, 4, 1, .rwl, 0x0, 0xffffffff, false⟩,  -- INJ_START_T_LO
  ⟨0x224, 4, 1, .rwh, 0x0, 0xffffffff, false⟩,  -- INJ_START_T_HI
  ⟨0x240, 4, 8, .rw, 0x0, 0xffffffff, false⟩,  -- INJ_TONE
  ⟨0x400, 4, 768, .rw, 0x0, 0xffffffff, false⟩]  -- CELL_BANK

/-- Register map of PE (R303, R323). -/
def peRegs : List RegDef := [
  ⟨0x40, 4, 1, .wo, 0x0, 0x7, false⟩,  -- LOOP_TABLE_CMD
  ⟨0x44, 4, 1, .ro, 0x0, 0x0, false⟩,  -- LOOP_TABLE_STATUS
  ⟨0x48, 4, 1, .ro, 0x0, 0x0, false⟩,  -- LOOP_TABLE_TIME
  ⟨0x4c, 4, 1, .ro, 0x0, 0x0, false⟩,  -- LOOP_IGNORED
  ⟨0x50, 4, 1, .ro, 0x0, 0x0, false⟩,  -- PE_LOAD
  ⟨0x54, 4, 1, .ro, 0x0, 0x0, false⟩,  -- PE_KERNEL_VER
  ⟨0x60, 4, 1, .rw, 0x40243, 0xfffff3, false⟩,  -- TWIN_CFG
  ⟨0x64, 4, 1, .wo, 0x0, 0x7, false⟩,  -- TWIN_CMD
  ⟨0x68, 4, 1, .ro, 0x0, 0x0, false⟩,  -- TWIN_STATUS
  ⟨0x6c, 4, 1, .ro, 0x0, 0x0, false⟩,  -- HEALTH_MISMATCH
  ⟨0x70, 4, 1, .rol, 0x0, 0x0, false⟩,  -- HEALTH_CMP_LO
  ⟨0x74, 4, 1, .ro, 0x0, 0x0, false⟩,  -- HEALTH_CMP_HI
  ⟨0x78, 4, 1, .ro, 0x0, 0x0, false⟩,  -- HEALTH_DEV
  ⟨0x7c, 4, 1, .ro, 0x0, 0x0, false⟩,  -- HEALTH_TEST
  ⟨0x80, 4, 1, .ro, 0x0, 0x0, false⟩,  -- HEALTH_EVENTS
  ⟨0x84, 4, 1, .wo, 0x0, 0x1, false⟩]  -- HEALTH_CLR

/-- Register map of WELL (R355, R389). -/
def wellRegs : List RegDef := [
  ⟨0x40, 4, 1, .rw, 0x6400, 0xff03, false⟩,  -- WELL_CFG
  ⟨0x44, 4, 1, .ro, 0x0, 0x0, false⟩,  -- WELL_STATUS
  ⟨0x48, 4, 1, .ro, 0x0, 0x0, false⟩,  -- WELL_COUNT
  ⟨0x4c, 4, 1, .wo, 0x0, 0x1, false⟩,  -- WELL_COUNT_CLR
  ⟨0x70, 4, 1, .wo, 0x0, 0xf0fffff, false⟩,  -- CAL_CMD
  ⟨0x74, 4, 1, .ro, 0x0, 0x0, false⟩,  -- CAL_STATUS
  ⟨0x78, 4, 1, .rw, 0x200a, 0xffff, false⟩,  -- CAL_TOL
  ⟨0x400, 16, 16, .rw, 0x5, 0x7, false⟩,  -- CH_CFG
  ⟨0x404, 16, 16, .ro, 0x1, 0x0, false⟩,  -- CH_STATUS
  ⟨0x408, 16, 16, .ro, 0x0, 0x0, false⟩,  -- CH_LAST
  ⟨0x40c, 16, 16, .rw, 0x0, 0x1ffffff, false⟩,  -- CH_CAL_TARGET
  ⟨0x800, 4, 64, .rw, 0x4008108, 0xffffffff, true⟩,  -- CH_CAL
  ⟨0xa00, 16, 16, .rw, 0x0, 0xff, true⟩,  -- DEMOD_CFG
  ⟨0xa04, 16, 16, .ro, 0x0, 0x0, false⟩,  -- DEMOD_I
  ⟨0xa08, 16, 16, .ro, 0x0, 0x0, false⟩,  -- DEMOD_Q
  ⟨0xa0c, 16, 16, .ro, 0x0, 0x0, false⟩]  -- DEMOD_MEAN

/-- The interleave registers of an even tap well (R355). -/
def ilvRegs : List RegDef := [
  ⟨0x50, 4, 1, .wo, 0x0, 0xf1f, false⟩,  -- ILV_CTRL
  ⟨0x54, 4, 1, .rw, 0x0, 0xffff, false⟩,  -- ILV_LEN
  ⟨0x58, 4, 1, .ro, 0x0, 0x0, false⟩,  -- ILV_STATUS
  ⟨0x60, 4, 1, .rwl, 0x0, 0xffffffff, false⟩,  -- ILV_START_T_LO
  ⟨0x64, 4, 1, .rwh, 0x0, 0xffffffff, false⟩]  -- ILV_START_T_HI

/-- The plausibility registers of a primary port well (R355). -/
def plausRegs : List RegDef := [
  ⟨0x80, 4, 1, .rw, 0x14000c8, 0xffffffff, false⟩,  -- PW_PLAUS_TOL
  ⟨0x84, 4, 1, .rw, 0x10, 0xff, false⟩,  -- PW_PLAUS_COUNT
  ⟨0x88, 4, 1, .ro, 0x0, 0x0, false⟩,  -- PW_PLAUS_STATUS
  ⟨0x8c, 4, 1, .wo, 0x0, 0x1, false⟩,  -- PW_PLAUS_CLR
  ⟨0x600, 4, 8, .ro, 0x0, 0x0, false⟩]  -- PM_READ

/-- Register map of HW (R356). -/
def hwRegs : List RegDef := [
  ⟨0x44, 4, 1, .ro, 0x0, 0x0, false⟩,  -- HW_WELL_STATUS
  ⟨0x48, 4, 1, .ro, 0x0, 0x0, false⟩,  -- HW_WELL_COUNT
  ⟨0x400, 4, 32, .ro, 0x0, 0x0, false⟩]  -- HW_RESULT

/-- Register map of VERDICT (R361, R366, R387). -/
def verdictRegs : List RegDef := [
  ⟨0x40, 4, 1, .rws, 0x10, 0xffff00ff, false⟩,  -- VRD_CFG
  ⟨0x44, 4, 1, .rw, 0xa00, 0x73f1f03, false⟩,  -- VRD_PILOT_CFG
  ⟨0x48, 4, 1, .rw, 0x0, 0xffe001, false⟩,  -- VRD_IPT_BASE
  ⟨0x4c, 4, 1, .rw, 0x0, 0xfff001, false⟩,  -- VRD_LOG_BASE
  ⟨0x50, 4, 1, .ro, 0x0, 0x0, false⟩,  -- VRD_LOG_WR
  ⟨0x54, 4, 1, .ro, 0x0, 0x0, false⟩,  -- VRD_LAST_COUNT
  ⟨0x58, 4, 1, .ro, 0x0, 0x0, false⟩,  -- VRD_LAST_MISS
  ⟨0x60, 4, 1, .rol, 0x0, 0x0, false⟩,  -- VRD_LAST_EPOCH_LO
  ⟨0x64, 4, 1, .ro, 0x0, 0x0, false⟩,  -- VRD_LAST_EPOCH_HI
  ⟨0x68, 4, 1, .ro, 0x0, 0x0, false⟩,  -- VRD_ACT_COUNT
  ⟨0x6c, 4, 1, .ro, 0x0, 0x0, false⟩,  -- VRD_IDENT_STATUS
  ⟨0x70, 4, 1, .rol, 0x0, 0x0, false⟩,  -- VRD_IDENT_EPOCH_LO
  ⟨0x74, 4, 1, .ro, 0x0, 0x0, false⟩,  -- VRD_IDENT_EPOCH_HI
  ⟨0x78, 4, 1, .wo, 0x0, 0x1, false⟩,  -- VRD_COUNT_CLR
  ⟨0x7c, 4, 1, .ro, 0x0, 0x0, false⟩,  -- VRD_PLAN_BAD
  ⟨0x80, 4, 16, .ro, 0x0, 0x0, false⟩,  -- VRD_MON_DUP
  ⟨0x400, 4, 256, .rws, 0x0, 0xffffffff, false⟩,  -- VRD_PLAN
  ⟨0x800, 4, 512, .rws, 0x0, 0xffff87ff, false⟩]  -- VRD_MON

/-- Register map of PWELL (R390). -/
def pilotRegs : List RegDef := [
  ⟨0xa00, 8, 8, .ro, 0x0, 0x0, false⟩,  -- PILOT_A
  ⟨0xa04, 8, 8, .ro, 0x0, 0x0, false⟩]  -- PILOT_B

/-- Register map of CAPT (R416). -/
def captRegs : List RegDef := [
  ⟨0x40, 4, 1, .rw, 0x0, 0xffc000, false⟩,  -- CAPT_CFG
  ⟨0x44, 4, 1, .wo, 0x0, 0xfff, false⟩,  -- CAPT_CMD
  ⟨0x48, 4, 1, .ro, 0x0, 0x0, false⟩,  -- CAPT_RESULT
  ⟨0x4c, 4, 1, .ro, 0x0, 0x0, false⟩,  -- CAPT_BW
  ⟨0x50, 4, 1, .ro, 0x0, 0x0, false⟩,  -- CAPT_DROPS
  ⟨0x60, 4, 8, .ro, 0x0, 0x0, false⟩,  -- CAPT_ACTIVE
  ⟨0x100, 8, 8, .rw, 0x1002, 0x3ffff07, false⟩,  -- TRIG_CFG
  ⟨0x104, 8, 8, .rw, 0x0, 0xffff, true⟩,  -- TRIG_COMP
  ⟨0x400, 4, 256, .rw, 0x0, 0xffffffff, false⟩,  -- CAPT_ACK
  ⟨0x800, 8, 256, .ro, 0x0, 0x0, false⟩,  -- CAPT_STAT
  ⟨0x804, 8, 256, .ro, 0x0, 0x0, false⟩]  -- CAPT_WR

/-- Register map of RING (R457). -/
def ringRegs : List RegDef := [
  ⟨0x40, 4, 1, .rw, 0x731, 0x7f7, false⟩,  -- RING_CFG
  ⟨0x44, 4, 1, .rw, 0x14, 0x3ff, false⟩,  -- RING_TIME_TOL
  ⟨0x48, 4, 1, .ro, 0x0, 0x0, false⟩,  -- RING_STATUS
  ⟨0x4c, 4, 1, .wo, 0x0, 0x37, false⟩,  -- RING_CMD
  ⟨0x50, 4, 1, .ro, 0x1, 0x0, false⟩,  -- RING_PROTO
  ⟨0x54, 4, 1, .ro, 0x0, 0x0, false⟩,  -- RING_FW_VER
  ⟨0x58, 4, 1, .ro, 0x0, 0x0, false⟩,  -- RING_NACK
  ⟨0x60, 4, 1, .rol, 0x0, 0x0, false⟩,  -- RING_NACK_EPOCH_LO
  ⟨0x64, 4, 1, .ro, 0x0, 0x0, false⟩,  -- RING_NACK_EPOCH_HI
  ⟨0x68, 4, 1, .ro, 0x0, 0x0, false⟩,  -- RING_COUNT
  ⟨0x6c, 4, 1, .wo, 0x0, 0x1, false⟩,  -- RING_COUNT_CLR
  ⟨0x70, 4, 1, .rw, 0x0, 0xfff000, false⟩,  -- RING_HEALTH_BASE
  ⟨0x80, 4, 4, .ro, 0x0, 0x0, false⟩,  -- RING_CONFIG_DIGEST
  ⟨0xa0, 4, 4, .ro, 0x0, 0x0, false⟩,  -- RING_LANE
  ⟨0x100, 16, 4, .ro, 0x0, 0x0, false⟩,  -- RING_PEER_A
  ⟨0x104, 16, 4, .ro, 0x0, 0x0, false⟩,  -- RING_PEER_B
  ⟨0x108, 16, 4, .ro, 0x0, 0x0, false⟩,  -- RING_PEER_C
  ⟨0x10c, 16, 4, .ro, 0x0, 0x0, false⟩]  -- RING_PEER_D

/-- Register map of TIME (R480). -/
def timeRegs : List RegDef := [
  ⟨0x40, 4, 1, .rwl, 0x0, 0xffffffff, false⟩,  -- TIME_INCR_LO
  ⟨0x44, 4, 1, .rwh, 0x2, 0xff, false⟩,  -- TIME_INCR_HI
  ⟨0x48, 4, 1, .rwl, 0x0, 0xffffffff, false⟩,  -- TIME_SLEW_INCR_LO
  ⟨0x4c, 4, 1, .rwh, 0x2, 0xff, false⟩,  -- TIME_SLEW_INCR_HI
  ⟨0x50, 4, 1, .rw, 0x0, 0xffffffff, false⟩,  -- TIME_SLEW_TICKS
  ⟨0x54, 4, 1, .wo, 0x0, 0xf, false⟩,  -- TIME_CMD
  ⟨0x58, 4, 1, .ro, 0x0, 0x0, false⟩,  -- TIME_STATUS
  ⟨0x60, 4, 1, .rol, 0x0, 0x0, false⟩,  -- TIME_T_LO
  ⟨0x64, 4, 1, .ro, 0x0, 0x0, false⟩,  -- TIME_T_HI
  ⟨0x68, 4, 1, .rwl, 0x0, 0xffffffff, false⟩,  -- TIME_STEP_A_LO
  ⟨0x6c, 4, 1, .rwh, 0x0, 0xffffffff, false⟩,  -- TIME_STEP_A_HI
  ⟨0x70, 4, 1, .rw, 0x0, 0x3fffffff, false⟩,  -- TIME_STEP_B
  ⟨0x74, 4, 1, .rw, 0x0, 0x1, false⟩,  -- TIME_STEP_CFG
  ⟨0x78, 4, 1, .rol, 0x0, 0x0, false⟩,  -- TIME_LAST_STEP_LO
  ⟨0x7c, 4, 1, .ro, 0x0, 0x0, false⟩,  -- TIME_LAST_STEP_HI
  ⟨0x80, 4, 1, .rol, 0x0, 0x0, false⟩,  -- TIME_SNAP_SEC_LO
  ⟨0x84, 4, 1, .ro, 0x0, 0x0, false⟩,  -- TIME_SNAP_SEC_HI
  ⟨0x88, 4, 1, .ro, 0x0, 0x0, false⟩,  -- TIME_SNAP_NS
  ⟨0x8c, 4, 1, .ro, 0x0, 0x0, false⟩,  -- TIME_SNAP_FRAC
  ⟨0x90, 4, 1, .rw, 0x6400, 0xff01, false⟩,  -- PPS_CFG
  ⟨0x94, 4, 1, .rw, 0x0, 0xffffffff, true⟩,  -- PPS_OFS
  ⟨0xa0, 8, 4, .rw, 0x0, 0xffff, true⟩,  -- TS_TX_COMP
  ⟨0xa4, 8, 4, .rw, 0x0, 0xffff, true⟩,  -- TS_RX_COMP
  ⟨0xc0, 4, 4, .rw, 0x0, 0x3f, false⟩]  -- TIME_PTP_CFG

/-- Register map of MAC (R513). -/
def macRegs : List RegDef := [
  ⟨0x40, 4, 1, .rw, 0x24000000, 0x3fff000f, false⟩,  -- MAC_CFG
  ⟨0x44, 4, 1, .ro, 0x0, 0x0, false⟩,  -- MAC_STATUS
  ⟨0x48, 4, 1, .rw, 0x0, 0xffffffff, false⟩,  -- MAC_SA_LO
  ⟨0x4c, 4, 1, .rw, 0x0, 0xffff, false⟩,  -- MAC_SA_HI
  ⟨0x50, 4, 1, .rw, 0x1, 0x7fff, false⟩,  -- MAC_DEFAULT_TAG
  ⟨0x54, 4, 1, .rw, 0xfac688, 0xffffff, false⟩,  -- MAC_PCP_TC
  ⟨0x58, 4, 1, .rw, 0x14, 0x3f, false⟩,  -- MAC_TX_OVH
  ⟨0x60, 4, 1, .rw, 0x0, 0xfff0003, false⟩,  -- MAC_EPOCH_FRAME
  ⟨0x64, 4, 1, .rw, 0x0, 0xffffffff, false⟩,  -- MAC_EPOCH_DA_LO
  ⟨0x68, 4, 1, .rw, 0x0, 0xffff, false⟩,  -- MAC_EPOCH_DA_HI
  ⟨0x80, 4, 1, .ro, 0x0, 0x0, false⟩,  -- MAC_RX_FRAMES
  ⟨0x84, 4, 1, .ro, 0x0, 0x0, false⟩,  -- MAC_RX_DISCARDS
  ⟨0x88, 4, 1, .ro, 0x0, 0x0, false⟩,  -- MAC_TX_FRAMES
  ⟨0x8c, 4, 1, .ro, 0x0, 0x0, false⟩,  -- MAC_TX_DROPS
  ⟨0x90, 4, 1, .ro, 0x0, 0x0, false⟩,  -- MAC_FEC
  ⟨0x94, 4, 1, .wo, 0x0, 0x1, false⟩,  -- MAC_COUNT_CLR
  ⟨0x100, 4, 32, .rw, 0x0, 0xffffffff, false⟩,  -- MAC_MCAST
  ⟨0x400, 16, 8, .rw, 0x0, 0x1ffffff, false⟩,  -- SHP_CIR
  ⟨0x404, 16, 8, .rw, 0x0, 0x1ffffff, false⟩,  -- SHP_PIR
  ⟨0x408, 16, 8, .rw, 0x0, 0xffffffff, false⟩,  -- SHP_BURST
  ⟨0x40c, 16, 8, .rw, 0x0, 0x1, false⟩,  -- SHP_CFG
  ⟨0x480, 8, 8, .ro, 0x0, 0x0, false⟩,  -- SHP_LEVEL_C
  ⟨0x484, 8, 8, .ro, 0x0, 0x0, false⟩,  -- SHP_LEVEL_P
  ⟨0x800, 64, 16, .rwl, 0x0, 0xffffffc0, false⟩,  -- RING_BASE_LO
  ⟨0x804, 64, 16, .rwh, 0x0, 0xffffffff, false⟩,  -- RING_BASE_HI
  ⟨0x808, 64, 16, .rw, 0x400, 0xf01, false⟩,  -- DMA_RING_CFG
  ⟨0x80c, 64, 16, .rw, 0x0, 0xfff, false⟩,  -- DMA_RING_TAIL
  ⟨0x810, 64, 16, .ro, 0x0, 0x0, false⟩,  -- DMA_RING_HEAD
  ⟨0x814, 64, 16, .ro, 0x0, 0x0, false⟩]  -- DMA_RING_COUNT

/-- Register map of GATE (R514). -/
def gateRegs : List RegDef := [
  ⟨0x40, 4, 1, .rw, 0x0, 0x1, false⟩,  -- GATE_CFG
  ⟨0x44, 4, 1, .ro, 0x0, 0x0, false⟩,  -- GATE_STATUS
  ⟨0x48, 4, 1, .rwl, 0x0, 0xffffffff, false⟩,  -- GATE_BASE_LO
  ⟨0x4c, 4, 1, .rwh, 0x0, 0xffffffff, false⟩,  -- GATE_BASE_HI
  ⟨0x50, 4, 1, .rw, 0x0, 0x3fffffff, false⟩,  -- GATE_CYCLE
  ⟨0x54, 4, 1, .rw, 0x0, 0x1ff, false⟩,  -- GATE_LEN
  ⟨0x58, 4, 1, .wo, 0x0, 0x3, false⟩,  -- GATE_CMD
  ⟨0x5c, 4, 1, .ro, 0x0, 0x0, false⟩,  -- GATE_SKIPPED
  ⟨0x60, 4, 4, .ro, 0x0, 0x0, false⟩,  -- GATE_OVERSIZE
  ⟨0x70, 4, 1, .rol, 0x0, 0x0, false⟩,  -- GATE_ACTIVE_BASE_LO
  ⟨0x74, 4, 1, .ro, 0x0, 0x0, false⟩,  -- GATE_ACTIVE_BASE_HI
  ⟨0x78, 4, 1, .ro, 0x0, 0x0, false⟩,  -- GATE_ACTIVE_CYCLE
  ⟨0x400, 4, 256, .rw, 0x0, 0xffffffff, false⟩,  -- GCL_A
  ⟨0x800, 4, 256, .rw, 0x0, 0xffffffff, false⟩]  -- GCL_B

/-- Register map of POLICE (R515). -/
def policeRegs : List RegDef := [
  ⟨0x40, 4, 1, .rws, 0x0, 0x1ffff, false⟩,  -- POLICE_COLOUR
  ⟨0x50, 4, 1, .wo, 0x0, 0x1, false⟩,  -- POLICE_COUNT_CLR
  ⟨0x400, 32, 64, .rws, 0x0, 0xffff7fff, false⟩,  -- POL_MATCH
  ⟨0x404, 32, 64, .rws, 0x0, 0x3f1f, false⟩,  -- POL_USE
  ⟨0x408, 32, 64, .rws, 0x0, 0xfff, false⟩,  -- POL_REMARK
  ⟨0x40c, 32, 64, .rws, 0x0, 0x1ffffff, false⟩,  -- POL_CIR
  ⟨0x410, 32, 64, .rws, 0x0, 0x1ffffff, false⟩,  -- POL_PIR
  ⟨0x414, 32, 64, .rws, 0x0, 0xffffffff, false⟩,  -- POL_BURST
  ⟨0x418, 32, 64, .ro, 0x0, 0x0, false⟩,  -- POL_LEVEL_C
  ⟨0x41c, 32, 64, .ro, 0x0, 0x0, false⟩,  -- POL_LEVEL_P
  ⟨0xc00, 4, 256, .ro, 0x0, 0x0, false⟩]  -- POL_COUNT

/-- Register map of CISTERN (R516). -/
def cisternRegs : List RegDef := [
  ⟨0x40, 4, 1, .ro, 0x0, 0x0, false⟩,  -- CIS_POOL
  ⟨0x44, 4, 1, .wo, 0x0, 0x13f, false⟩,  -- CIS_FLUSH
  ⟨0x48, 4, 1, .rol, 0x0, 0x0, false⟩,  -- CIS_FLUSH_PEND_LO
  ⟨0x4c, 4, 1, .ro, 0x0, 0x0, false⟩,  -- CIS_FLUSH_PEND_HI
  ⟨0x50, 4, 1, .ro, 0x0, 0x0, false⟩,  -- CIS_ECC_CORR
  ⟨0x54, 4, 1, .ro, 0x0, 0x0, false⟩,  -- CIS_ECC_UNCORR
  ⟨0x58, 4, 1, .ro, 0x0, 0x0, false⟩,  -- CIS_ECC_ADDR
  ⟨0x5c, 4, 1, .ro, 0x0, 0x0, false⟩,  -- CIS_HOST_WRITES
  ⟨0x60, 4, 1, .wo, 0x0, 0x1, false⟩,  -- CIS_COUNT_CLR
  ⟨0x400, 8, 64, .rws, 0x10000040, 0x7fff7fff, false⟩,  -- CIS_Q_CFG
  ⟨0x404, 8, 64, .ro, 0x0, 0x0, false⟩,  -- CIS_Q_STATUS
  ⟨0x800, 4, 64, .ro, 0x0, 0x0, false⟩]  -- CIS_Q_DROPS

/-- Register map of EVT (R532). -/
def evtRegs : List RegDef := [
  ⟨0x40, 4, 1, .rw, 0x3, 0x7, false⟩,  -- EVT_CFG
  ⟨0x44, 4, 1, .wo, 0x0, 0x1ff, false⟩,  -- EVT_FIRE
  ⟨0x48, 4, 1, .ro, 0x0, 0x0, false⟩,  -- EVT_LOOP_INFO
  ⟨0x4c, 4, 1, .ro, 0x0, 0x0, false⟩,  -- EVT_COLLIDE
  ⟨0x50, 4, 1, .wo, 0x0, 0x1, false⟩,  -- EVT_COUNT_CLR
  ⟨0x54, 4, 1, .wo, 0x0, 0x1, false⟩,  -- EVT_TASK_CLR
  ⟨0x400, 4, 256, .rws, 0x0, 0x80ff80ff, false⟩,  -- EVT_PROD
  ⟨0x800, 4, 192, .rws, 0x0, 0x80ff80ff, false⟩,  -- EVT_TASK
  ⟨0xb00, 4, 192, .ro, 0x0, 0x0, false⟩]  -- EVT_TASK_STAT

/-- Register map of FLT (R537, R538, R550, R551). -/
def fltRegs : List RegDef := [
  ⟨0x40, 4, 1, .rw, 0xc801, 0xffff03, false⟩,  -- FLT_CFG
  ⟨0x44, 4, 1, .ro, 0x0, 0x0, false⟩,  -- FLT_STATUS
  ⟨0x50, 4, 4, .rw, 0x0, 0x1f, false⟩,  -- FLT_REACT
  ⟨0x60, 4, 1, .ro, 0x0, 0x0, false⟩,  -- FLT_FIRST
  ⟨0x68, 4, 1, .rol, 0x0, 0x0, false⟩,  -- FLT_FIRST_T_LO
  ⟨0x6c, 4, 1, .ro, 0x0, 0x0, false⟩,  -- FLT_FIRST_T_HI
  ⟨0x70, 4, 3, .ro, 0x0, 0x0, false⟩,  -- FLT_SAMECYCLE
  ⟨0x7c, 4, 1, .wo, 0x0, 0x1, false⟩,  -- FLT_FIRST_CLR
  ⟨0x80, 4, 1, .wo, 0x0, 0x77f, false⟩,  -- FLT_ACK
  ⟨0x84, 4, 1, .ro, 0x0, 0x0, false⟩,  -- FLT_ACK_RESULT
  ⟨0x90, 4, 3, .ro, 0x0, 0x0, false⟩,  -- FLT_RAISED
  ⟨0xa0, 4, 3, .ro, 0x0, 0x0, false⟩,  -- FLT_ACKED
  ⟨0x100, 4, 96, .rw, 0x0, 0x3, false⟩,  -- FLT_SEV
  ⟨0x400, 4, 384, .ro, 0x0, 0x0, false⟩]  -- FLT_REC

/-- Register map of HEAT (R559, R570). -/
def heatRegs : List RegDef := [
  ⟨0x40, 4, 1, .rw, 0xa0500, 0xff0f00, false⟩,  -- HEAT_CFG
  ⟨0x44, 4, 1, .ro, 0x0, 0x0, false⟩,  -- HEAT_STATUS
  ⟨0x48, 4, 1, .rw, 0x7d7369, 0xffffff, false⟩,  -- HEAT_DIE_LIMITS
  ⟨0x4c, 4, 1, .rw, 0x5a5046, 0xffffff, false⟩,  -- HEAT_PIC_LIMITS
  ⟨0x50, 4, 1, .rw, 0x414, 0xffff, false⟩,  -- HEAT_RISE
  ⟨0x54, 4, 1, .rw, 0xb0b, 0xf0f, false⟩,  -- HEAT_THR_ACT
  ⟨0x58, 4, 1, .rw, 0x2710, 0xffff, false⟩,  -- HEAT_THR_BUDGET
  ⟨0x5c, 4, 1, .ro, 0x0, 0x0, false⟩,  -- HEAT_HOT_DIE
  ⟨0x60, 4, 1, .ro, 0x0, 0x0, false⟩,  -- HEAT_HOT_PIC
  ⟨0x64, 4, 1, .ro, 0x0, 0x0, false⟩,  -- HEAT_RESTART
  ⟨0x68, 4, 1, .rol, 0x0, 0x0, false⟩,  -- HEAT_SHUT_T_LO
  ⟨0x6c, 4, 1, .ro, 0x0, 0x0, false⟩,  -- HEAT_SHUT_T_HI
  ⟨0x70, 4, 1, .ro, 0x0, 0x0, false⟩,  -- HEAT_SHUT_INFO
  ⟨0x74, 4, 1, .ro, 0x0, 0x0, false⟩,  -- HEAT_SHUT_TEMP
  ⟨0x400, 4, 64, .ro, 0x0, 0x0, false⟩,  -- HEAT_DIE
  ⟨0x500, 4, 32, .ro, 0x0, 0x0, false⟩,  -- HEAT_PIC
  ⟨0x600, 4, 32, .rw, 0x0, 0xffffffff, false⟩]  -- HEAT_PIC_COEF

/-- Register map of XBAR (R572, R588). -/
def xbarRegs : List RegDef := [
  ⟨0x40, 4, 1, .rw, 0x640080, 0xffff0ff1, false⟩,  -- XBAR_CFG
  ⟨0x44, 4, 1, .ro, 0x0, 0x0, false⟩,  -- XBAR_STATUS
  ⟨0x48, 4, 1, .ro, 0x0, 0x0, false⟩,  -- XBAR_TIMEOUT_INFO
  ⟨0x4c, 4, 1, .ro, 0x0, 0x0, false⟩,  -- XBAR_SPARSE_ERR
  ⟨0x50, 4, 1, .ro, 0x0, 0x0, false⟩,  -- XBAR_ECC_CORR
  ⟨0x54, 4, 1, .ro, 0x0, 0x0, false⟩,  -- XBAR_ECC_UNCORR
  ⟨0x58, 4, 1, .ro, 0x0, 0x0, false⟩,  -- XBAR_ECC_ADDR
  ⟨0x5c, 4, 1, .wo, 0x0, 0x1, false⟩,  -- XBAR_COUNT_CLR
  ⟨0x80, 4, 14, .rw, 0x0, 0xf, false⟩,  -- XBAR_QOS
  ⟨0x100, 8, 14, .rw, 0x0, 0xffffffff, false⟩,  -- XBAR_PRIO_A
  ⟨0x104, 8, 14, .rw, 0x0, 0xffff, false⟩]  -- XBAR_PRIO_B

/-- Register map of WELLHEAD (R619). -/
def wellheadRegs : List RegDef := [
  ⟨0x40, 4, 1, .ro, 0x0, 0x0, false⟩,  -- WH_STATUS
  ⟨0x44, 4, 1, .wo, 0x0, 0xff, false⟩,  -- WH_CMD
  ⟨0x48, 4, 1, .rw, 0x0, 0xffffffff, false⟩,  -- WH_ARG0
  ⟨0x4c, 4, 1, .rw, 0x0, 0xffffffff, false⟩,  -- WH_ARG1
  ⟨0x50, 4, 1, .ro, 0x0, 0x0, false⟩,  -- WH_BOOT_STATUS
  ⟨0x54, 4, 1, .ro, 0x0, 0x0, false⟩,  -- WH_SEQ
  ⟨0x58, 4, 1, .ro, 0x0, 0x0, false⟩,  -- WH_SVN
  ⟨0x5c, 4, 1, .ro, 0x0, 0x0, false⟩,  -- WH_KEYS
  ⟨0x60, 4, 1, .ro, 0x0, 0x0, false⟩,  -- WH_ATTEST_REM
  ⟨0x64, 4, 1, .ro, 0x0, 0x0, false⟩,  -- WH_ATTEST_INDEX
  ⟨0x68, 4, 1, .rw, 0x0, 0xfff000, false⟩,  -- WH_ATTEST_BASE
  ⟨0x6c, 4, 1, .ro, 0x0, 0x0, false⟩,  -- WH_STAGE
  ⟨0x70, 4, 1, .ro, 0x0, 0x0, false⟩,  -- WH_STAGED_KERNEL_VER
  ⟨0x74, 4, 1, .ro, 0x0, 0x0, false⟩,  -- WH_DEBUG
  ⟨0x78, 4, 1, .ro, 0x0, 0x0, false⟩,  -- WH_COUNTS
  ⟨0x80, 4, 4, .ro, 0x0, 0x0, false⟩,  -- WH_NONCE
  ⟨0x100, 4, 17, .ro, 0x0, 0x0, false⟩,  -- WH_ATTEST_PUB
  ⟨0x400, 4, 768, .rw, 0x0, 0xffffffff, false⟩]  -- WH_DATA

/-- Register map of CENSUS (R624). -/
def censusRegs : List RegDef := [
  ⟨0x40, 4, 1, .wo, 0x0, 0x7, false⟩,  -- CEN_CMD
  ⟨0x44, 4, 1, .rw, 0x1ff, 0x1ff, false⟩,  -- CEN_SEL
  ⟨0x48, 4, 1, .rw, 0x0, 0xff, false⟩,  -- CEN_BASE
  ⟨0x4c, 4, 1, .ro, 0x0, 0x0, false⟩,  -- CEN_STATUS
  ⟨0x50, 4, 1, .rol, 0x0, 0x0, false⟩,  -- CEN_T_LO
  ⟨0x54, 4, 1, .ro, 0x0, 0x0, false⟩,  -- CEN_T_HI
  ⟨0x58, 4, 1, .ro, 0x0, 0x0, false⟩]  -- CEN_SIZE

/-- Register map of TMUX (R632). -/
def tmuxRegs : List RegDef := [
  ⟨0x40, 4, 2, .rw, 0x0, 0xfff000f, false⟩,  -- TMUX_ATEST
  ⟨0x60, 4, 8, .rw, 0x0, 0x1ffff, false⟩]  -- TMUX_DTEST

end Sys2Proof
end

