-- ==== Sys2Proof/Machine/AddressMap.lean ====
section
/-! DEFINITION. Address decode by variant, the lookup of a register's row and the reset word of every address
(R84, R85, R97, R112, R113). -/

namespace Sys2Proof

/-- What an address of BAR0 belongs to (R84). -/
inductive Target where
  | page (p : Page) (off : Nat)
  | slotShadow (s off : Nat)
  | slotActive (s off : Nat)
  | shape (off : Nat)
  | preset (off : Nat)
  | loopWin (off : Nat)
  | pumpMem (k off : Nat)
  | sram (off : Nat)
  | hole
  deriving DecidableEq, Repr

/-- The single-page blocks below 0x0001_0000, in address order (R84). -/
def lowPages : List PageKind :=
  [.glb, .pwr, .clk, .heat, .flt, .evt, .time, .tmux, .wellhead, .xbar, .ring, .epoch, .route, .verdict, .capt, .siphon]

/-- The page with well index `w` (R85). -/
def wellPage (w : Nat) : Page :=
  if w < 160 then ⟨.tw, w⟩ else if w < 288 then ⟨.pw, w - 160⟩ else ⟨.hw, w - 288⟩

/-- Address decode before the variant is looked at (R84, R85). -/
def decodeFull (a : Nat) : Target :=
  if a < 0x10000 then .page ⟨(lowPages[a / 0x1000]?).getD .glb, 0⟩ (a % 0x1000)
  else if a < 0x14000 then .page ⟨.mac, (a - 0x10000) / 0x1000⟩ (a % 0x1000)
  else if a < 0x18000 then .page ⟨.gate, (a - 0x14000) / 0x1000⟩ (a % 0x1000)
  else if a < 0x1C000 then .page ⟨.police, (a - 0x18000) / 0x1000⟩ (a % 0x1000)
  else if a < 0x1D000 then .page ⟨.cistern, 0⟩ (a % 0x1000)
  else if a < 0x20000 then .hole
  else if a < 0x21000 then .page ⟨.pcie, 0⟩ (a % 0x1000)
  else if a < 0x25000 then .page ⟨.ddr, (a - 0x21000) / 0x1000⟩ (a % 0x1000)
  else if a < 0x26000 then .page ⟨.xspi, 0⟩ (a % 0x1000)
  else if a < 0x27000 then .page ⟨.i2c, 0⟩ (a % 0x1000)
  else if a < 0x28000 then .page ⟨.census, 0⟩ (a % 0x1000)
  else if a < 0x100000 then .hole
  else if a < 0x200000 then .page (wellPage ((a - 0x100000) / 0x1000)) (a % 0x1000)
  else if a < 0x280000 then .page ⟨.pe, (a - 0x200000) / 0x1000⟩ (a % 0x1000)
  else if a < 0x2B0000 then .page (wellPage ((a - 0x280000) / 0x1000 + 256)) (a % 0x1000)
  else if a < 0x300000 then .hole
  else if a < 0x3A0000 then .page ⟨.col, (a - 0x300000) / 0x10000⟩ (a % 0x10000)
  else if a < 0x1000000 then .hole
  else if a < 0x1028000 then .slotShadow ((a - 0x1000000) / 64) (a % 64)
  else if a < 0x1080000 then .hole
  else if a < 0x10A8000 then .slotActive ((a - 0x1080000) / 64) (a % 64)
  else if a < 0x1100000 then .hole
  else if a < 0x1300000 then .shape (a - 0x1100000)
  else if a < 0x1400000 then .hole
  else if a < 0x1800000 then .preset (a - 0x1400000)
  else if a < 0x2000000 then .loopWin (a - 0x1800000)
  else if a < 0x4000000 then .pumpMem ((a - 0x2000000) / 0x40000) (a % 0x40000)
  else if a < 0x5000000 then .sram (a - 0x4000000)
  else .hole

/-- Number of columns of a variant (R2). -/
def Variant.columns : Variant → Nat
  | .pe2560 => 10
  | .pe1280 => 5

/-- Number of slots of a variant (R2). -/
def Variant.slots (v : Variant) : Nat := 256 * v.columns

/-- Number of loop cells of a variant (R2). -/
def Variant.cells (v : Variant) : Nat := 64 * v.columns

/-- Number of pumps of a variant (R2). -/
def Variant.pumps : Variant → Nat
  | .pe2560 => 128
  | .pe1280 => 64

/-- Number of tap wells of a variant (R2). -/
def Variant.tapWells (v : Variant) : Nat := 16 * v.columns

/-- Number of port monitors of a variant (R2). -/
def Variant.monitors : Variant → Nat
  | .pe2560 => 512
  | .pe1280 => 256

/-- Whether port well `g` is present (R2). -/
def Variant.hasPortWell (v : Variant) (g : Nat) : Bool :=
  match v with
  | .pe2560 => g < 128
  | .pe1280 => g < 32 || (96 ≤ g && g < 128)

/-- Whether a page is present on a variant (R2, R113). -/
def Page.present (v : Variant) (p : Page) : Bool :=
  match p.kind with
  | .col => p.inst < v.columns
  | .pe => p.inst < v.pumps
  | .tw => p.inst < v.tapWells
  | .pw => v.hasPortWell p.inst
  | .hw => p.inst < 16
  | .mac | .gate | .police | .ddr => p.inst < 4
  | _ => p.inst == 0

/-- Whether a decoded place is present on a variant (R113, R170, R283). -/
def Target.present (v : Variant) : Target → Bool
  | .page p _ => p.present v
  | .slotShadow s _ => s < v.slots
  | .slotActive s _ => s < v.slots
  | .shape _ => true
  | .preset off =>
    match v with
    | .pe2560 => true
    | .pe1280 =>
      let o := off % 0x10000
      !(0x10A0 ≤ o && o < 0x1140) && !(0x1E00 ≤ o && o < 0x2800)
  | .loopWin off =>
    match v with
    | .pe2560 => true
    | .pe1280 =>
      !(0x140000 ≤ off && off < 0x280000) && !(0x400000 ≤ off && off < 0x500000 && 0x1400 ≤ off % 0x4000 && off % 0x4000 < 0x2800) &&
        !(0x501400 ≤ off && off < 0x502800)
  | .pumpMem k _ => k < v.pumps
  | .sram _ => true
  | .hole => false

/-- Address decode by variant (R84, R112, R113). -/
def decodeAddr (v : Variant) (a : Nat) : Target :=
  let t := decodeFull a
  if t.present v then t else .hole

/-- The block's own register map, the column page's shared maps of COL_0 included. -/
def blockRegs (p : Page) : List RegDef :=
  match p.kind with
  | .glb => glbRegs | .pwr => pwrRegs | .clk => clkRegs | .heat => heatRegs | .flt => fltRegs | .evt => evtRegs
  | .time => timeRegs | .tmux => tmuxRegs | .wellhead => wellheadRegs | .xbar => xbarRegs | .ring => ringRegs
  | .epoch => epochRegs | .route => routeRegs | .verdict => verdictRegs | .capt => captRegs | .siphon => siphonRegs
  | .mac => macRegs | .gate => gateRegs | .police => policeRegs | .cistern => cisternRegs | .pcie => pcieRegs
  | .ddr | .xspi | .i2c => []
  | .census => censusRegs
  | .tw => if p.inst % 2 = 0 then wellRegs ++ ilvRegs else wellRegs
  | .pw => if p.inst < 64 then wellRegs ++ plausRegs ++ pilotRegs else wellRegs
  | .hw => hwRegs
  | .pe => peRegs
  | .col => if p.inst = 0 then colRegs ++ col0Regs ++ shapeDirRegs else colRegs

/-- Whether an offset is an instance of a row. -/
def RegDef.covers (d : RegDef) (o : Nat) : Bool :=
  d.off ≤ o && (o - d.off) % d.stride == 0 && (o - d.off) / d.stride < d.count

/-- The row of an offset in a register map. -/
def findIn (l : List RegDef) (o : Nat) : Option RegDef := l.find? fun d => d.covers o

/-- The row of an offset of a page, the header first (R86). -/
def pageReg (p : Page) (o : Nat) : Option RegDef := if o < 0x40 then findIn headerRegs o else findIn (blockRegs p) o

/-- The row of a place in BAR0; the windows that hold plain bytes have none. -/
def Target.reg : Target → Option RegDef
  | .page p o => pageReg p o
  | .slotShadow _ o => findIn slotRegs o
  | .loopWin o => if o < 0x280000 then findIn cellRegs (o % 0x1000) else none
  | _ => none

/-- The words of a row block at byte `o` of it, for rows of `stride` bytes: the header keeps EXP alone (R284, R285). -/
def rowMask (stride o : Nat) : Nat := if o % stride = 0 then 0xFF else 0xFFFFFFFF

/-- The bits that the word at byte `o` of a table bank holds; reserved ones read as zero (R95, R280, R284, R285). -/
def bankMask (o : Nat) : Nat :=
  if o < 0x40 then (if o = 0 then 0xFF7F else if o = 4 then 0xFFFF else if o = 8 then 0xFFFFFFFF else if o = 12 then 0xFFFFFF else 0)
  else if o < 0x190 then rowMask 28 (o - 0x40)
  else if o < 0x280 then rowMask 20 (o - 0x190)
  else if o < 0x310 then rowMask 12 (o - 0x280)
  else if o < 0x3F0 then rowMask 28 (o - 0x310)
  else if o < 0x480 then rowMask 12 (o - 0x3F0)
  else if o < 0x500 then (if o / 4 % 8 = 0 then 0xFFFFFFFF else if o / 4 % 8 < 6 then 0xFFFFFF else 0)
  else 0

/-- The writable bits of a word of a cell's region (R95, R285, R302). -/
def cellWordMask (o : Nat) (d : RegDef) : Nat := if 0x400 ≤ o then bankMask ((o - 0x400) % 0x600) else d.mask

/-- The row of an address. -/
def regAt (a : Nat) : Option RegDef := (decodeFull a).reg

/-- Whether an address holds an RW-S word. -/
def isShadowed (a : Nat) : Bool :=
  match regAt a with
  | some d => decide (d.acc = .rws)
  | none => false

/-- Blocks whose ENABLE reads as 1 and ignores writes (R88). -/
def PageKind.alwaysOn : PageKind → Bool
  | .glb | .pwr | .clk | .heat | .flt | .wellhead | .xbar => true
  | _ => false

/-- Pages whose CTRL.HOLD_THROUGH exists (the CTRL map of R86). -/
def PageKind.hasHold : PageKind → Bool
  | .col | .pe | .glb => true
  | _ => false

/-- The block type codes of R84 and R85. -/
def PageKind.code : PageKind → Nat
  | .glb => 0x01 | .pwr => 0x02 | .clk => 0x03 | .heat => 0x04 | .flt => 0x05 | .evt => 0x06 | .time => 0x07
  | .tmux => 0x08 | .wellhead => 0x09 | .xbar => 0x0A | .ring => 0x0B | .epoch => 0x0C | .route => 0x0D
  | .verdict => 0x0E | .capt => 0x0F | .siphon => 0x10 | .mac => 0x11 | .gate => 0x12 | .police => 0x13
  | .cistern => 0x14 | .pcie => 0x15 | .ddr => 0x16 | .xspi => 0x17 | .i2c => 0x18 | .census => 0x19
  | .tw => 0x20 | .pw => 0x21 | .hw => 0x22 | .pe => 0x30 | .col => 0x40

/-- Default severities of sources 0 to 74; reserved sources reset to 0 (R534, R550). -/
def defaultSeverity (n : Nat) : Nat :=
  ([2, 1, 3, 2, 3, 3, 3, 3, 3, 3, 2, 2, 2, 2, 0, 1, 3, 2, 0, 1, 3, 2, 1, 3, 1, 2, 2, 0, 2, 2, 0, 2, 1, 1, 1, 2, 2,
    1, 2, 1, 0, 1, 1, 1, 2, 1, 2, 1, 1, 1, 1, 1, 1, 1, 1, 0, 2, 0, 1, 1, 1, 2, 0, 1, 0, 2, 0, 2, 1, 3, 0, 0, 0, 1, 0][n]?).getD 0

/-- Reset QoS of the matrix masters (R572). -/
def defaultQos (m : Nat) : Nat := ([4, 3, 7, 7, 11, 2, 6, 14, 13, 8, 9, 10, 12, 12][m]?).getD 0

/-- Writable bits of word `k` of a segment directory entry (R202). -/
def shapeDirMask (k : Nat) : Nat := ([0x800FFFFF, 0xFFFF3FFF, 0x00FF0FFF, 0x000083FF][k]?).getD 0

/-- Writable bits of word `k` of verdict plan `n`; plan 0 ignores writes (R366). -/
def planMask (n k : Nat) : Nat :=
  if n = 0 then 0
  else ([0x3337, 0xFFFFFFFF, 0xFFFFFFFF, 0xFFFFFFFF, 0xFFFFFFFF, 0xFFFF, 0xF07, 0xFFF][k]?).getD 0

/-- The writable bits of a page register on a variant: the row's mask, with the words that differ by index and the
entries that R88, R523, R572 and R388 reserve. -/
def writeMask (v : Variant) (p : Page) (o : Nat) (d : RegDef) : Nat :=
  match p.kind with
  | .col => if 0x8000 ≤ o then shapeDirMask (o / 4 % 4) else d.mask
  | .verdict =>
    if 0x400 ≤ o && o < 0x800 then planMask ((o - 0x400) / 32) (o / 4 % 8)
    else if v = .pe1280 && 0xC00 ≤ o then 0 else d.mask
  | .mac => if 0x100 ≤ o && o < 0x180 && o % 8 = 4 then 0x8000FFFF else d.mask
  | .xbar =>
    if v = .pe1280 && (o = 0x80 + 4 * 13 || o = 0x100 + 8 * 13 || o = 0x104 + 8 * 13) then 0 else d.mask
  | .evt =>
    if 0x900 ≤ o && o < 0xB00 then 0
    else if v = .pe1280 then
      let i := (o - 0x400) / 4
      let j := (o - 0x800) / 4
      if 0x400 ≤ o && o < 0x800 then
        if (36 ≤ i && i < 56) || (76 ≤ i && i < 96) || (136 ≤ i && i < 176) || (192 ≤ i && i < 208) then 0 else d.mask
      else if 0x800 ≤ o && o < 0x900 then
        if j = 3 || j = 4 then 0 else if j = 2 then 0x80FF else if 36 ≤ j && j < 56 then 0 else d.mask
      else d.mask
    else d.mask
  | _ => d.mask

/-- The reset value of a page register (each chapter's register map). Where the spec gives none the value is zero:
DESIGN CHOICE, unsafe, assumption 1. -/
def pageResetNat (p : Page) (o : Nat) : Nat :=
  match pageReg p o with
  | none => 0
  | some d =>
    if o = 0 then p.kind.code * 0x10000 + p.inst
    else if o = 8 then if p.kind.alwaysOn then 1 else 0
    else
      match p.kind with
      | .verdict =>
        if 0x420 ≤ o && o < 0x800 then
          if o / 4 % 8 = 1 then 0x28A else if o / 4 % 8 = 7 then 0x64 else 0
        else if 0x400 ≤ o && o < 0x420 then 0 else d.reset
      | .flt =>
        if 0x50 ≤ o && o < 0x60 then ([0x00, 0x01, 0x05, 0x09][(o - 0x50) / 4]?).getD 0
        else if 0x100 ≤ o && o < 0x280 then defaultSeverity ((o - 0x100) / 4) else d.reset
      | .xbar => if 0x80 ≤ o && o < 0x100 then defaultQos ((o - 0x80) / 4) else d.reset
      | _ => d.reset

/-- The word an address reads as while nothing has changed it: its register's reset value, zero elsewhere. -/
def resetWord (a : Nat) : Word :=
  match decodeFull a with
  | .page p o => word (pageResetNat p o)
  | t => match t.reg with
    | some d => word d.reset
    | none => 0

end Sys2Proof
end

