-- ==== Sys2Proof/Machine/State.lean ====
section
/-! DEFINITION. The state of the block: registers and windows, the structured state behind them, the queue of waiting
commands, and the state right after reset. Plain data throughout. -/

namespace Sys2Proof.Machine

open Sys2Proof

/-- Why the machine stops with a fault. -/
inductive Fault where
  /-- Raised by no meaning of this model: every command of the table has an effect. Kept so that the type is inhabited;
  safe, since a fault only stops the machine. -/
  | none
  deriving DecidableEq, Repr

/-- Why a command has no meaning. -/
inductive Refusal where
  /-- Raised by a dispatch arm whose command has no meaning yet, under the command's mnemonic; safe, since the machine
  stops. -/
  | notModelled (mnemonic : String)
  deriving DecidableEq, Repr

/-- Run state of a block behind ENABLE, READY, BUSY and PENDING_ON (R89, R90). -/
inductive Phase where
  | off | starting | running | stopping | pendingOn | resetting
  deriving DecidableEq, Repr

/-- Read shadows, held low halves, frozen pages and block phases (R89 to R102). -/
structure Bus where
  /-- The pair address and high half that requester i's last low-half read stored (R100, R102); key i. -/
  latch : SMap (Option (Nat × Word))
  /-- The held low-half write of requester i to the pair at address a (R102); key i * 2^28 + a. -/
  held : SMap (Option Word)
  /-- The values that reads of a frozen page return (R91): RO and W1C words that differ from reset; key page base. -/
  frozen : SMap (Option (SMap Word))
  /-- The phase of each block; key page base. -/
  phase : SMap Phase
  deriving DecidableEq, Repr

/-- A commit of COL_c in progress (R33, R103): the captured shadow words and the cells yet to take them. -/
structure ColCommit where
  words : SMap Word
  cells : List Nat
  deriving DecidableEq, Repr

/-- What leaves the device: messages, read data, frames, host-memory writes and pin changes. -/
inductive Emission where
  /-- An MSI-X message on a vector (R92). -/
  | msix (vector : Nat)
  /-- Data returned to a requester for a read (R94, R100). -/
  | readData (req : Requester) (data : Nat)
  /-- An error answer to a requester (R112, R578, R581). -/
  | errorAnswer (req : Requester) (addr : Nat)
  /-- An Unsupported Request that the PCIe endpoint signals for a posted write (R112). -/
  | unsupportedRequest (addr : Nat)
  /-- An epoch frame enters the egress queues of R507: a notice, or a report. -/
  | epochFrame (notice : Bool) (payload : List Byte)
  /-- A message on the ring, by its type of R429, its destination mask and its content. -/
  | ring (kind : Nat) (mask : Nat) (content : List Nat)
  /-- A message of another member is forwarded, by its type, source and destination mask (R426). -/
  | forward (kind : Nat) (source : Nat) (mask : Nat)
  /-- An 8 ns SYNC pulse leaves on SYNC_OUT (R225). -/
  | syncPulse
  /-- An output TRIG pin changes at an uptime (R406). -/
  | trigPin (pin : Nat) (level : Bool) (uptime : Nat)
  /-- PPS_OUT changes (R473). -/
  | ppsOut (level : Bool)
  /-- A frame leaves a control port (R483). -/
  | frame (port : Nat) (bytes : List Byte)
  /-- The device writes host memory (R508 to R510). -/
  | hostMemory (addr : Nat) (bytes : List Byte)
  deriving DecidableEq, Repr

/-- Input pins past their filters, and what the device samples and drives (R71, R123). -/
structure Pins where
  pwrgood : Bool
  resetN : Bool
  clearN : Bool
  perstN : Bool
  /-- POS[1:0] as sampled (R71). -/
  pos : Nat
  /-- The driver-stage lockout of R56 and R124 is engaged. -/
  lockout : Bool
  /-- The PCIe link is in L0 (R119, R583). -/
  pcieUp : Bool
  /-- VDD is below 0.6 V, and VDDIO below 1.5 V: the lockout of R56. -/
  vddLow : Bool
  vddioLow : Bool
  /-- THERM_N is low (R123, R565). -/
  thermLow : Bool
  /-- JTAG_TRST_N is driven high, so that the TAP is out of reset (R71). -/
  trstN : Bool
  /-- DDRk_RESET_N is high (R123). -/
  ddrResetN : Bool
  deriving DecidableEq, Repr

/-- The PCIe endpoint's configuration space and MSI-X table, by dword (R131, R138); PCI Express lays them out, and no row writes them. -/
structure Endpoint where
  config : SMap Word
  msix : SMap Word
  deriving DecidableEq, Repr

/-- A routed cell of the Beneš network (R161 to R166): where it stands, its state, and the input ports whose paths leave on
its lines 2i and 2i + 1. -/
structure RouteCell where
  pos : Nat
  slot : Nat
  cross : Bool
  upper : Nat
  lower : Nat
  deriving DecidableEq, Repr

/-- The outcome of a routing job: the cells, or the reason, the first unroutable input (0x7FF for none), the slot and its
ring position (R165, R167). -/
structure RouteResult where
  cells : List RouteCell
  reason : Nat
  input : Nat
  slot : Nat
  pos : Nat
  deriving DecidableEq, Repr

/-- The route unit's work for an epoch (R168, R635). -/
inductive RouteJob where
  | none | waiting | running | done | lost
  deriving DecidableEq, Repr

/-- Where an accepted epoch stands (R159, R172). -/
inductive EpochPhase where
  | queued
  | committed
  | fast
  deriving DecidableEq, Repr

/-- A cell's staged state and path entry on this member (R172, R265). -/
structure StagedCell where
  slot : Nat
  cross : Bool
  path : Word
  deriving DecidableEq, Repr

/-- One accepted or generated epoch (R151 to R160). -/
structure Epoch where
  /-- The model's own serial, by which jobs and results name it. -/
  id : Nat
  num : Option Nat
  /-- T, or T′ once it is fixed. -/
  t : Nat
  fixed : Bool
  desc : List Word
  preset : Nat
  isInline : Bool
  vplan : Nat
  lead : Nat
  skew : Nat
  tag : Nat
  late : Bool
  noticeShort : Bool
  noticeSent : Bool
  /-- A generated schedule slot, or an override of one (R159, R179). -/
  scheduled : Bool
  override : Bool
  /-- The whole permutation, as the output of each input, of a routed epoch (R153). -/
  perm : List Nat
  routed : Bool
  job : RouteJob
  result : Option RouteResult
  /-- The cells of this member, once staged; and the bytes of its slot levels, brought into staging with them (R172). -/
  staged : Option (List StagedCell)
  levels : Option (List Host.Cell)
  /-- The moment at which the epoch is ready, in PTP nanoseconds (R157). -/
  readyAt : Option Nat
  phase : EpochPhase
  /-- The instant has passed and these columns have started their transitions. -/
  started : List Nat
  applied : Bool
  /-- Ring: the leader has sent PREPARE; the positions whose ACK it holds; the vote this member has sent. -/
  prepared : Bool
  acks : List Nat
  voted : Bool
  /-- On a follower: the epoch came by PREPARE, with the leader's digests. -/
  follower : Bool
  configDigest : List Byte
  payloadDigest : List Byte
  /-- On a follower: the serial by which the leader's PAYLOAD names the epoch. -/
  leaderSerial : Nat
  /-- On the leader: the positions whose COMMITTED it holds (R442). -/
  committedBy : List Nat
  /-- How far the clock has stepped since the epoch committed, in ns: `t` moves with the steps, reports do not (R472). -/
  shift : Int
  deriving DecidableEq, Repr

/-- A submission under the checks of R156: its descriptor and its acceptance time A. -/
structure Submission where
  desc : List Word
  accepted : Nat
  deriving DecidableEq, Repr

/-- A report to come (R183). -/
structure Report where
  num : Nat
  status : Nat
  flags : Nat
  instant : Nat
  tag : Nat
  preset : Nat
  vplan : Nat
  judged : Nat
  failing : Nat
  failed : Nat
  unroutable : Nat
  reason : Nat
  committed : Nat
  /-- This member led when the epoch was decided, so the report's frame is its own to send (R183, R454). -/
  lead : Bool
  deriving DecidableEq, Repr

/-- The running schedule (R175 to R181). -/
structure Schedule where
  /-- BASE in force, and the next slot to generate: its index and its instant. -/
  base : Nat
  next : Nat
  at_ : Nat
  /-- The instant of the first slot (R177, R181). -/
  first : Nat
  /-- The end of the running cycle after STOP_AT_CYCLE_END. -/
  stopAt : Option Nat
  /-- The instant at which a generated slot 0 of the pending bank takes over. -/
  switchAt : Option Nat
  /-- Ends of cycles whose slots are all generated and which have yet to complete. -/
  ends : List Nat
  deriving DecidableEq, Repr

/-- A preset preparation (R170, R634). -/
structure Preparation where
  preset : Nat
  job : RouteJob
  result : Option RouteResult
  /-- The first offending input and KIND of a port table that fails R153. -/
  badPerm : Option (Nat × Nat)
  /-- The uptime at which its job first started; it yields to routed epochs and goes on (R168, R188). -/
  started : Option Nat
  deriving DecidableEq, Repr

/-- Sequencer states of R207. -/
inductive SeqState where
  | hold | wake | ready | play | linger | stream | held | parked
  deriving DecidableEq, Repr

/-- Where a jump request comes from, lowest rank first (R212, R213). -/
inductive JumpSource where
  | host | event | verdict
  deriving DecidableEq, Repr

/-- A jump a channel keeps (R213). -/
structure Jump where
  target : Nat
  source : JumpSource
  deriving DecidableEq, Repr

/-- One electro-optic channel (R190 to R215). -/
structure EoChannel where
  state : SeqState
  /-- The 500 ns exit ramp runs (R192). -/
  exiting : Bool
  /-- HELD while still in fast mode (R207). -/
  heldFast : Bool
  /-- Parked by CLEAR_N or the PARK reaction, and not by its role alone (R210). -/
  forced : Bool
  /-- FROM and TO of R198, level words. -/
  lvlFrom : Word
  lvlTo : Word
  /-- The level in service, EO_TARGET (R197). -/
  target : Word
  /-- Codes at the pads (EO_CH_OUT). -/
  out : Word
  /-- A level word was committed in fast mode or in HELD: the level in service is taken by a direct step on the next entry into HOLD
  (R215). -/
  due : Bool
  /-- The segment playing or last played. -/
  seg : Nat
  /-- Plays of it that are complete (R211). -/
  plays : Nat
  /-- The uptime at which the present state, or the present play of the segment, began. -/
  since : Nat
  /-- The uptime at which the segment began, its plays before the present one included (R206). -/
  begun : Nat
  /-- The level output just before the segment or stream began (R216). -/
  before : Word
  /-- The SHAPE cycle of the jump request that began the play, and its source (R213). -/
  took : Option (Nat × JumpSource)
  /-- The pending jump (R213). -/
  jump : Option Jump
  clipped : Bool
  badLink : Bool
  /-- A changing channel of the committed epoch whose transition has yet to start (R193). -/
  changing : Bool
  /-- A SWITCH cell in the cross state (R197). -/
  cross : Bool
  /-- The attenuation in service of an ATTEN slot, in 0.01 dB (R197, R200). -/
  atten : Nat
  deriving DecidableEq, Repr

/-- The channel of an UNUSED slot: PARKED at code 0 (R29, R207). -/
def EoChannel.unused : EoChannel :=
  { state := .parked, exiting := false, heldFast := false, forced := false, lvlFrom := 0, lvlTo := 0, target := 0, out := 0, due := false,
    seg := 0, plays := 0, since := 0, begun := 0, before := 0, took := none, jump := none, clipped := false, badLink := false, changing := false, cross := false,
    atten := 0 }

/-- An EO level calibration in progress (R231, R232). -/
structure EoCal where
  tier : Nat
  maxIsCross : Bool
  /-- The uptime of its start. -/
  start : Nat
  deriving DecidableEq, Repr

/-- SYNC and the skew calibration (R225 to R230). -/
structure Align where
  /-- Departures of the last arrivals from expectation, newest first, in 15.625 ps. -/
  departures : List Int
  /-- The device trim in force (R209, R235). -/
  trim : Word
  /-- The next pulse follows a step of the leader's clock and is skipped (R470). -/
  skip : Bool
  /-- The uptime of the last SYNC arrival (R230). -/
  last : Nat
  /-- The uptime for which the last pulse stands, and the whole millisecond of PTP time that it marks (R225, R226). -/
  pulse : Option (Nat × Nat)
  /-- Λ and SHAPE_SYNC_RPT of each position, as the last skew calibration has them (R227). -/
  loopDelay : Nat
  rpts : List Nat
  /-- What the first pass of a calibration that runs has measured (R227). -/
  first : Option (Nat × List Nat)
  deriving DecidableEq, Repr

/-- Who gave the code accepted last under row 7 of R244 (HTR_STATE.SOURCE). -/
inductive CodeSource where
  | park | pump | host
  deriving DecidableEq, Repr

/-- The driver stage of one slot's heaters (R240 to R248). -/
structure Heater where
  /-- The 16-bit code accepted last under row 7. -/
  code : Nat
  source : CodeSource
  /-- The uptime of its arrival; and the codes before it that a frame start may still take, each with its arrival, newest first (R243). -/
  arrived : Nat
  earlier : List (Nat × Nat)
  /-- The code that was in force at the last frame start of HA, which HB takes too (R243). -/
  taken : Nat
  /-- The code held under row 5 (R130, R136, R137, R256). -/
  held : Option Nat
  /-- The most recent row 7 code was capped (R248). -/
  clipped : Bool
  deriving DecidableEq, Repr

/-- The driver stage of a slot that nothing has driven. -/
def Heater.zero : Heater := { code := 0, source := .park, arrived := 0, earlier := [], taken := 0, held := none, clipped := false }

/-- The PWM frame in progress of an output (R238, R261, R278): the uptime of its start, its m′, and the m′ of the frame before it. -/
structure HeaterFrame where
  start : Nat
  mag : Nat
  before : Nat
  deriving DecidableEq, Repr

/-- The place of a bank's read-back scan (R251): the output of the bank, 0 to 127, from which it goes on, and whether it has come round
since the column's last completed pass. -/
structure BankScan where
  next : Nat
  around : Bool
  deriving DecidableEq, Repr

/-- One pump's copy of a loop cell (R260, R306, R316). -/
structure LoopCopy where
  /-- The state estimate, twelve elements in extended format (R280). -/
  xHat : List Word
  /-- The integrators, four elements in extended format. -/
  z : List Word
  /-- The commands of the last update before R272; none before the first automatic update. -/
  u : List (Option Word)
  /-- The codes of the last update; none for a slot it wrote no code for. -/
  codes : List (Option Nat)
  /-- The slots whose last code was refused (R273). -/
  refused : List Bool
  /-- Consecutive updates of each slot above INNOV_LIM (R275). -/
  innov : List Nat
  /-- u_base of OBSERVE_ONLY, in extended format (R271). -/
  base : List Word
  /-- The loop tick of the last boundary that this pump computed. -/
  tick : Option Nat
  /-- The loop tick of the last boundary whose update reached the arbiter. -/
  received : Option Nat
  /-- The copy of R316 has been made, or was not needed. -/
  copied : Bool
  /-- Consecutive comparisons that count for R316. -/
  agreed : Nat
  /-- This pump has loaded the captured bank (R287). -/
  loaded : Bool
  deriving DecidableEq, Repr

/-- A copy with nothing in it. -/
def LoopCopy.empty : LoopCopy :=
  { xHat := List.replicate 12 0, z := List.replicate 4 0, u := List.replicate 4 none, codes := List.replicate 4 none,
    refused := List.replicate 4 false, innov := List.replicate 4 0, base := List.replicate 4 0, tick := none,
    received := none, copied := true, agreed := 0, loaded := false }

/-- A loop cell behind its region of the loop parameter window (R260 to R300). -/
structure LoopCell where
  /-- The primary pump's copy and the secondary pump's. -/
  primary : LoopCopy
  secondary : LoopCopy
  /-- The loop tick of the last boundary (R276). -/
  tick : Option Nat
  /-- Slots that take the bumpless preset in this boundary's update (R294). -/
  preset : List Bool
  /-- Slots that take it at the next boundary. -/
  presetDue : List Bool
  /-- R275 applies at the next boundary. -/
  diverge : Bool
  /-- The commit's capture: which slots R288 counts as in the loop. -/
  capture : Option (List Bool)
  /-- A test injection waits for its start (R299). -/
  injArmed : Bool
  /-- n of R298, the shift register of PRBS, and the value of this boundary in extended format. -/
  injN : Nat
  injShift : Nat
  injValue : Word
  /-- The pump that R312 permits to raise its claim: 0 primary, 1 secondary. -/
  permit : Option Nat
  /-- The cell was in automatic when it was orphaned, and host codes were accepted since (R319). -/
  wasAuto : Bool
  hostWrote : Bool
  /-- The cell's outputs are held until its first update (R130, R132). -/
  firstDue : Bool
  /-- The loop records of the last update (R300). -/
  record : List (List Byte)
  /-- Some slot was saturated by budget scaling at the last update (R304). -/
  budgetSat : Bool
  /-- The last comparison's boundary, or the boundary at which a pump in SYNC copied (R310, R316). -/
  compared : Option Nat
  /-- Consecutive mismatches (R310, R323). -/
  run : Nat
  /-- No pump will be in service at the next boundary: the cell is orphaned there, and parked where R137 says so (R318). -/
  orphanDue : Option Bool
  /-- The boundary at which the holder's update was missing last (R314, R324). -/
  missedAt : Option Nat
  deriving DecidableEq, Repr

/-- A cell that nothing has touched. -/
def LoopCell.empty : LoopCell :=
  { primary := LoopCopy.empty, secondary := LoopCopy.empty, tick := none, preset := List.replicate 4 false,
    presetDue := List.replicate 4 false, diverge := false, capture := none, injArmed := false, injN := 0, injShift := 0,
    injValue := 0, permit := none, wasAuto := false, hostWrote := false, firstDue := false, record := [], budgetSat := false, compared := none, run := 0, orphanDue := none, missedAt := none }

/-- Why a quick self-test runs (R315, R323). -/
inductive QuickTest where
  | host
  | mismatch
  deriving DecidableEq, Repr

/-- A pump behind its page (R287, R311 to R323). -/
structure Pump where
  /-- The uptime of the last commit's capture, and whether a cell has swapped in it (R290, R303). -/
  capturedAt : Nat
  swapped : Bool
  /-- Uptimes of its losses within 10 s, newest first (R316). -/
  losses : List Nat
  /-- TAKEBACK_NOW was written and not used up (R317). -/
  takebackNow : Bool
  /-- HANDING_OVER ends in LOADING (R322). -/
  update : Bool
  /-- The quick self-test that runs. -/
  quick : Option QuickTest
  /-- The version of its kernel firmware (R322). -/
  kernel : Word
  deriving DecidableEq, Repr

/-- A pump that nothing has touched. -/
def Pump.empty : Pump := { capturedAt := 0, swapped := false, losses := [], takebackNow := false, update := false, quick := none, kernel := 0 }

/-- What a well does other than its scan, over a span of uptime (R333, R353). -/
inductive WellUse where
  | shared (inputs : List Nat)
  | exclusive (inputs : List Nat)
  /-- Bound to an input of its pair, by TIER (R336). -/
  | bound (tier : Nat)
  /-- An internal calibration over channels and ranges, begun at an uptime (R347). -/
  | calibrating (channels ranges start : Nat)
  /-- No conversion: lost, disabled or not yet running. -/
  | idle
  deriving DecidableEq, Repr

/-- A span of a well's time away from the scan; one that goes on has no end. -/
structure WellSpan where
  use : WellUse
  from_ : Nat
  until_ : Option Nat
  deriving DecidableEq, Repr

/-- One entry of the input power table (R362, R363). -/
structure InputPower where
  /-- READING in 0.125 nA. -/
  reading : Nat
  /-- The monitor's LOSS in 0.01 dB. -/
  loss : Int
  stale : Bool
  implausible : Bool
  overRange : Bool
  remote : Bool
  /-- The ring position it came from. -/
  source : Nat
  /-- The uptime at the end of the microsecond that it covers, and that at which it was stored. -/
  time : Nat
  placed : Nat
  deriving DecidableEq, Repr

/-- A pin that a verdict plan has placed (R334, R372). -/
structure WellPin where
  well : Nat
  inputs : List Nat
  exclusive : Bool
  /-- Start and end in PTP nanoseconds. -/
  start : Nat
  stop : Nat
  deriving DecidableEq, Repr

/-- The phase of a calibration run (R347, R348). -/
inductive CalPhase where
  | internal | external | zero | held | full
  deriving DecidableEq, Repr

/-- A calibration run of a well (R347 to R351). -/
structure CalRun where
  phase : CalPhase
  channels : Nat
  ranges : Nat
  /-- The uptime at which ZERO_HELD set. -/
  heldAt : Nat
  /-- The uptime of its start, later by the pins that have held it up (R353). -/
  start : Nat
  deriving DecidableEq, Repr

/-- An armed or running binding of a tap well pair (R336). -/
structure Binding where
  mode : Nat
  tier : Nat
  bound : Bool
  /-- The generation its event outputs carry (R520, R524). -/
  gen : Nat
  /-- The uptime at which it ends; none binds until RELEASE. -/
  ends : Option Nat
  deriving DecidableEq, Repr

/-- How an item came out (R369, R371, R373). -/
inductive Judgement where
  | pass | failLow | failHigh | noSample | notJudged | abandoned
  deriving DecidableEq, Repr

/-- One item of a judged epoch (R368). -/
structure VerdictItem where
  tap : Bool
  /-- Output port, or slot. -/
  index : Nat
  /-- The monitor of an output item, and its LOSS as it stood at T − 2 µs (R367). -/
  monitor : Nat
  loss : Int
  /-- Its input port. -/
  input : Nat
  /-- The reference instant in 1/64 ns of PTP time (R370). -/
  reference : Nat
  /-- Offsets whose samples are yet to come, and the samples found in and out of window. -/
  left : List Nat
  inside : Nat
  outside : Nat
  result : Option Judgement
  deriving DecidableEq, Repr

/-- The epoch under verdict (R367 to R377). -/
structure VerdictEpoch where
  num : Nat
  t : Nat
  /-- The plan's words and VRD_CFG as they stood at T − 2 µs. -/
  plan : List Word
  cfg : Word
  items : List VerdictItem
  faulted : Bool
  failed : Bool
  deriving DecidableEq, Repr

/-- What a pilot decoder has heard of its frame (R384, R385): of each bit, the first bit first, the sum of the readings that count for it, in
0.125 nA, and their number; the sum and number of all of the frame's readings; and whether any was STALE. -/
structure PilotTally where
  bits : List (Nat × Nat)
  sum : Nat
  count : Nat
  stale : Bool
  deriving DecidableEq, Repr

/-- A decoder that has heard nothing. -/
def PilotTally.empty : PilotTally := { bits := List.replicate 32 (0, 0), sum := 0, count := 0, stale := false }

/-- The pilot decoders of an applied epoch (R384 to R386). -/
structure PilotDecode where
  num : Nat
  /-- The uptime at which the frame began. -/
  start : Nat
  /-- Monitors yet to give a result. -/
  left : List Nat
  /-- What each has heard, by monitor. -/
  heard : SMap PilotTally
  acted : Bool
  deriving DecidableEq, Repr

/-- A capture descriptor as read at ARM (R415). -/
structure CaptDesc where
  kind : Nat
  index : Nat
  continuous : Bool
  full : Bool
  comp : Nat
  tagged : Bool
  size : Nat
  hdrLog : Nat
  data : Nat
  header : Nat
  pre : Nat
  post : Nat
  trigKind : Nat
  trigNum : Nat
  records : Nat
  deriving DecidableEq, Repr

/-- Stream states of R413. -/
inductive CaptPhase where
  | idle | armed | post | running | done | fullStopped | error
  deriving DecidableEq, Repr

/-- A written unit that stands intact in the data ring: its place in the bytes written since ARM, its size, the number of its
first item, and its items. -/
structure CaptUnit where
  start : Nat
  size : Nat
  first : Nat
  items : List CaptItem
  deriving DecidableEq, Repr

/-- A trigger that a stream has taken (R400, R401): its instant, source (R408) and number, the uptime of its arrival, its
generation, and the triggers missed before it. -/
structure CaptTrigger where
  instant : Nat
  source : Nat
  num : Nat
  arrived : Nat
  gen : Nat
  missed : Nat
  deriving DecidableEq, Repr

/-- A record whose header is written: SEQ, and the bytes from its first unit to its last (R409). -/
structure CaptRecord where
  seq : Nat
  from_ : Nat
  to_ : Nat
  deriving DecidableEq, Repr

/-- A capture stream (R391 to R414). -/
structure CaptStream where
  desc : CaptDesc
  phase : CaptPhase
  /-- Headers written since ARM. -/
  seq : Nat
  /-- Bytes and items written since ARM. -/
  written : Nat
  count : Nat
  units : List CaptUnit
  /-- The first item of the next record that R402 counts as eligible. -/
  eligible : Nat
  trigger : Option CaptTrigger
  /-- The trigger instant of the record before, and the instant of the re-arm after it (R405). -/
  lastTrigger : Option Nat
  rearmed : Nat
  missed : Nat
  /-- Records not yet acknowledged, oldest first, and unacknowledged records overwritten since the previous header. -/
  records : List CaptRecord
  lost : Nat
  /-- Items written when the TIME clock last stepped (R408). -/
  stepAt : Option Nat
  stopAfter : Bool
  deriving DecidableEq, Repr

/-- A descriptor of zeros. -/
def CaptDesc.empty : CaptDesc :=
  { kind := 0, index := 0, continuous := false, full := false, comp := 0, tagged := false, size := 0, hdrLog := 0, data := 0,
    header := 0, pre := 0, post := 0, trigKind := 0, trigNum := 0, records := 0 }

/-- A stream that has never been armed. -/
def CaptStream.empty : CaptStream :=
  { desc := CaptDesc.empty, phase := .idle, seq := 0, written := 0, count := 0, units := [], eligible := 0, trigger := none,
    lastTrigger := none, rearmed := 0, missed := 0, records := [], lost := 0, stepAt := none, stopAfter := false }

/-- What this member knows of another position of the ring (R430, R444, R445, R449). -/
structure RingPeer where
  hello : Option Hello
  claim : Nat
  /-- The uptime of its last HEARTBEAT. -/
  heard : Option Nat
  epochNum : Nat
  /-- Its offset to the leader, in 1/16 ns. -/
  offset : Int
  takeback : Bool
  deriving DecidableEq, Repr

/-- A position of which nothing is known. -/
def RingPeer.empty : RingPeer := { hello := none, claim := 0, heard := none, epochNum := 0, offset := 0, takeback := false }

/-- A frame on a peer lane (R422, R423, R426): its link sequence number once it is sent, the times it has been replayed, its virtual
channel (0 CTRL, 1 TIME, 2 BULK), hop class and size, and whether it is forwarded. -/
structure LaneFrame where
  seq : Nat
  replays : Nat
  vc : Nat
  hopClass : Nat
  flits : Nat
  forwarded : Bool
  deriving DecidableEq, Repr

/-- A peer lane (R421, R423, R425, R427). -/
structure RingLane where
  /-- It retrains after a failure. -/
  probation : Bool
  /-- Frames sent and not acknowledged, in the order of their sending, which the lane keeps for replay. -/
  sent : List LaneFrame
  /-- Frames that wait to be sent, oldest first. -/
  waiting : List LaneFrame
  /-- Flits that the far end's receive buffer holds: of virtual channel v in hop class h at key 3v + h − 1, and of the shared pool at
  key 9. -/
  used : SMap Nat
  /-- Flit slots given to others since a waiting CTRL frame, and a waiting BULK frame with credits, last had one. -/
  sinceCtrl : Nat
  sinceBulk : Nat
  /-- The virtual channels whose last frame was a forwarded one. -/
  lastForwarded : List Nat
  /-- The uptime from which 2 µs without an acknowledgement count (R423). -/
  ackAt : Nat
  /-- The uptimes of the last CRC errors, newest first, at most 32 of them (R423). -/
  crcTimes : List Nat
  /-- The uptime at which the lane became FAILED, and that from which the 10 ms after its training count (R423). -/
  failedAt : Nat
  lockedAt : Option Nat
  deriving DecidableEq, Repr

/-- A lane with nothing on it. -/
def RingLane.empty : RingLane :=
  { probation := false, sent := [], waiting := [], used := [], sinceCtrl := 0, sinceBulk := 0, lastForwarded := [],
    ackAt := 0, crcTimes := [], failedAt := 0, lockedAt := none }

/-- A routed payload that the leader has sent (R438). -/
structure RingPayload where
  serial : Nat
  perm : List Nat
  cells : List StagedCell
  deriving DecidableEq, Repr

/-- A handover that waits for its boundary (R453): the successor, the uptime at which it was decided, and the whole millisecond
of PTP time at which it happens where no epoch commits. -/
structure Handover where
  target : Nat
  since : Nat
  at_ : Option Nat
  deriving DecidableEq, Repr

/-- The member's place in the ring (R418 to R458). -/
structure RingState where
  peers : SMap RingPeer
  lanes : SMap RingLane
  /-- The next link sequence number of the hop to the next position (key 0) and to the previous one (key 1). -/
  hopSeq : SMap Nat
  /-- Frames queued on each hop, whose lanes take them in turn (R421). -/
  hopTurn : SMap Nat
  handover : Option Handover
  incoming : Option HandoverState
  takebackPos : Option Nat
  /-- Presets yet to come in an adoption (R444). -/
  adopting : List Nat
  payloads : List RingPayload
  /-- Consecutive measurements within tolerance; the uptime of the last measurement, and of the first one out of tolerance since
  the offset was last within it (R445, R469). -/
  goodRun : Nat
  lastOffset : Option Nat
  overSince : Option Nat
  /-- The own offset to the leader, in 1/16 ns. -/
  offset : Int
  /-- ε of the last SYNC pulse, in 15.625 ps, and the leader's step count (R470). -/
  epsilon : Nat
  leaderSteps : Nat
  /-- The leader's increment in force, as its last HEARTBEAT gave it (R467, R470). -/
  leaderIncr : Option Nat
  /-- The uptime of the last frame from any member (R451). -/
  lastFrame : Nat
  /-- The claim is set aside until the member next joins (R451). -/
  aside : Bool
  /-- The uptime at which a message type last went out, for those sent at intervals, and of the last try to join under key 0 (R429,
  R432). -/
  sentAt : SMap (Option Nat)
  deriving DecidableEq, Repr

/-- The device's counters of time: core cycles (R114) and the TIME clock (R459 to R473). -/
structure Clock where
  /-- GLB_UPTIME: core cycles since the release of P0. -/
  uptime : Nat
  /-- Whether uptime counts: from P0 release. -/
  counting : Bool
  /-- Whether the TIME clock runs (R461, R462). -/
  running : Bool
  /-- SEC, modulo 2^64. -/
  sec : Nat
  /-- NS, 0 to 999,999,999. -/
  ns : Nat
  /-- FRAC, in 2^-32 ns. -/
  frac : Nat
  /-- The TIME_INCR in force outside a slew, in 2^-32 ns. -/
  incr : Nat
  /-- The increment of the slew in progress, and the ticks it has left (R464). -/
  slew : Option (Nat × Nat)
  /-- A TIME_INCR accepted during a slew, which takes effect when the slew ends (R464). -/
  incrNext : Option Nat
  /-- An accepted step yet to apply (R465): MODE, A, B, and the uptime it may apply at. -/
  step : Option (Nat × Nat × Nat × Nat)
  /-- PPS_OUT is high until this uptime (R473). -/
  ppsUntil : Option Nat
  /-- The number of steps since priming, which HEARTBEAT carries (R470). -/
  steps : Nat
  deriving DecidableEq, Repr

/-- Where a frame in the Cistern came from (R491, R493, R507, R509). -/
inductive FrameOrigin where
  | epoch
  /-- Transmit ring `cls` of the port, by descriptor index; TS_REQ. -/
  | ring (cls : Fin 8) (index : Nat) (stamp : Bool)
  /-- Received: arrival time in 2^-16 ns, TS_VALID, colour, REMARKED, and the policer (63 for none). -/
  | received (arrival : Nat) (stamped : Bool) (colour : Nat) (remarked : Bool) (policer : Nat)
  deriving DecidableEq, Repr

/-- A frame in a queue of the Cistern: its bytes, FCS included, and its cells (R494). -/
structure QFrame where
  origin : FrameOrigin
  bytes : List Byte
  cells : List Nat
  deriving DecidableEq, Repr

/-- A shaper's or policer's buckets, in 1/8,000,000 byte, as of an uptime (R489, R505). -/
structure Buckets where
  committed : Int
  peak : Int
  at_ : Nat
  deriving DecidableEq, Repr

/-- A gate list (R500): its bank, base and cycle in ns, and length; aligned to the schedule (R504). -/
structure GateList where
  bank : Nat
  base : Nat
  cycle : Nat
  len : Nat
  aligned : Bool
  deriving DecidableEq, Repr

/-- A port's gate: the list in force, and the pending list with its start instant (R503). -/
structure GateState where
  inForce : Option GateList
  pending : Option (GateList × Nat)
  deriving DecidableEq, Repr

/-- A gate before any list. -/
def GateState.empty : GateState := { inForce := none, pending := none }

/-- The control ports and the Cistern (R482 to R516). -/
structure PortState where
  /-- Frames of each queue, head first; key q of R494. A frame that is leaving stays at the head until it has left. -/
  queues : SMap (List QFrame)
  /-- The class of the frame that leaves a port and the uptime at which it ends; key port. -/
  leaving : SMap (Option (Nat × Nat))
  /-- Shaper buckets of class c of port n; key 8n + c; none: both full (R505). -/
  shapers : SMap (Option Buckets)
  /-- Policer buckets; key 64n + i; none: both full (R489). -/
  meters : SMap (Option Buckets)
  gates : SMap GateState
  /-- Fetched descriptors of transmit ring c of port n in ring order, and whether each is written back; key 16n + c. -/
  fetched : SMap (List (Nat × Bool))
  deriving DecidableEq, Repr

/-- An event on its way to a task input (R517, R519): the task, the generation, the channel that carries it and the core cycle of
its publication. -/
structure InFlight where
  task : Nat
  gen : Nat
  channel : Nat
  cycle : Nat
  deriving DecidableEq, Repr

/-- One publication of a channel in the present core cycle (R526). -/
structure Publication where
  channel : Nat
  gen : Nat
  /-- The producer that published first; none for a write of EVT_FIRE. -/
  producer : Option Nat
  cycle : Nat
  collided : Bool
  deriving DecidableEq, Repr

/-- The router's events in flight and the publications of the latest cycle (R517 to R527). -/
structure EvtState where
  inFlight : List InFlight
  published : List Publication
  deriving DecidableEq, Repr

/-- A FAULT_STATUS bit that has gone from 0 to 1, or a priming rule that has fired, on its way to the collector (R535, R536). -/
structure Raise where
  source : Nat
  inst : Nat
  page : Option Page
  uptime : Nat
  deriving DecidableEq, Repr

/-- The reactions of R538 that open a guard window. -/
inductive Reaction where
  | blockReset | takeover | park | hardStop
  deriving DecidableEq, Repr

/-- A guard window (R543): the reaction, the source it acts for, the pages in its scope, whether every page and priming
rule is in scope, and whether the reaction has completed. -/
structure Guard where
  reaction : Reaction
  source : Nat
  pages : List Page
  everything : Bool
  completed : Bool
  /-- The uptime at which it completed. -/
  at_ : Nat
  deriving DecidableEq, Repr

/-- The fault collector behind the FLT page (R534 to R552). Windows stand with the latest reaction first. -/
structure FltState where
  due : List Raise
  windows : List Guard
  deriving DecidableEq, Repr

/-- The two groups of sensors of R558. -/
inductive HeatGroup where
  | die | pic
  deriving DecidableEq, Repr

/-- What the HEAT block keeps of a sensor (R556, R561, R563, R564). -/
structure HeatSensor where
  /-- The last value in 1/16 °C; none before the first evaluation that gave one. -/
  value : Option Int
  /-- Consecutive evaluations that speak against its present FAULTY. -/
  faultRun : Nat
  /-- Consecutive evaluations at or above SHUTDOWN. -/
  shutRun : Nat
  /-- Values and uptimes of its evaluations over RISE_WIN, newest first. -/
  history : List (Nat × Int)
  /-- The uptime since which the rise has stayed at or below half the limit. -/
  calm : Option Nat
  /-- The uptime of its last evaluation (R558). -/
  evaluated : Option Nat
  deriving DecidableEq, Repr

/-- A sensor before its first evaluation. -/
def HeatSensor.empty : HeatSensor := { value := none, faultRun := 0, shutRun := 0, history := [], calm := none, evaluated := none }

/-- The HEAT block behind its page (R553 to R571). -/
structure HeatState where
  sensors : SMap HeatSensor
  /-- In THERMAL_DOWN: the uptime of the first evaluation since which every one has found the device cool (R567). -/
  cool : Option Nat
  /-- Uptimes of the thermal restarts since power-on or RESET_N, newest first (R568). -/
  restarts : List Nat
  deriving DecidableEq, Repr

/-- The kinds of priming path (R125). -/
inductive PathKind where
  | cold | thermal | warm | clock
  deriving DecidableEq, Repr

/-- The priming path in progress, or the last one (R117 to R150). -/
structure Prime where
  path : PathKind
  /-- The uptime of its start (R150). -/
  started : Nat
  /-- P4 waits for GLB_CAL_DONE (R143). -/
  waiting : Bool
  /-- Calibration words that have yet to take effect: loaded or written in P4 of a cold path, or written while CAL_MISSING is 1
  (R143, R145). -/
  calStaged : SMap (Option Word)
  /-- GLB_CAL_DONE has been written in P4 (R143). -/
  calDone : Bool
  /-- A host write has supplied calibration values in P4 (R145). -/
  calHost : Bool
  /-- The reset values that the configuration block has set, newest first (R597). -/
  config : List (Nat × Word)
  /-- The start of holdover of the system PLL (R65). -/
  holdover : Option Nat
  deriving DecidableEq, Repr

/-- An OTP burn in progress (R606, R608, R612, R617). -/
inductive Burn where
  | block
  | svn (target : Nat)
  | enroll (slot : Nat) (hash : List Byte) (revoke : Option Nat)
  deriving DecidableEq, Repr

/-- The Wellhead, its OTP and the boot flash (R589 to R619). -/
structure Wellhead where
  /-- The boot flash, by flash address (R591). -/
  flash : List Host.Cell
  /-- The command that runs: code, ARG0, ARG1 (R600). -/
  running : Option (Nat × Nat × Nat)
  burn : Option Burn
  /-- Owner key slots with a bit programmed, ENROLLED slots and REVOKED slots, as masks; and the hashes (R605). -/
  programmed : Nat
  enrolled : Nat
  revoked : Nat
  hashes : SMap (List Byte)
  /-- The security-version counter (R608). -/
  svn : Nat
  /-- Index-block bits blown, the block held, and its next index (R611, R612). -/
  blocks : Nat
  block : Option Nat
  nextIndex : Nat
  /-- The owner slot in service at the last boot, which images are judged by (R606). -/
  bootOwner : Option Nat
  /-- The slot booted, and the calibration copy loaded: 0 A, 1 B (R594, R598). -/
  booted : Option Nat
  calCopy : Option Nat
  /-- The nonce issued last and not used (R606). -/
  nonce : Option (List Byte)
  deriving DecidableEq, Repr

/-- A census copy in progress (R625 to R628): the area's base in shared SRAM and its length, and the words that are not zero, by their
place in the area. -/
structure CensusCopy where
  base : Nat
  size : Nat
  words : List (Nat × Word)
  deriving DecidableEq, Repr

/-- The whole state of the block. -/
structure State where
  /-- Which part this is (R2); fixed. -/
  variant : Variant
  /-- Every register word, and the shadow copy of every RW-S word, by BAR0 address; what is unlisted reads as its reset value. -/
  regs : SMap Word
  /-- The active copy of every RW-S word, by the address of its shadow (R103, R108). -/
  active : SMap Word
  /-- Byte windows of BAR0: shape library, preset store, shared SRAM (R84). -/
  mem : List Host.Cell
  /-- Device DRAM by device address (R116). -/
  dram : List Host.Cell
  /-- How many times the DRAM contents have been lost (R131); the bytes unlisted after the n-th loss are open. -/
  dramGen : Nat
  /-- The pumps' local memories, by BAR0 address; and how many times each pump has loaded its own, by pump: the bytes unlisted after the
  n-th load are open (R131, R311). -/
  pumpMem : List Host.Cell
  pumpGen : SMap Nat
  /-- Read shadows, held halves, frozen pages, block phases. -/
  bus : Bus
  /-- Commits of column pages in progress, by column. -/
  colCommit : SMap (Option ColCommit)
  /-- The model's own field: how many open values have been drawn (assumption 2). -/
  fresh : Nat
  /-- The model's own field: what has left the device, newest first (assumption 3). -/
  out : List Emission
  /-- The commands that are waiting, first in, first out. -/
  pending : List Instr
  /-- Pins. -/
  pins : Pins
  endpoint : Endpoint
  /-- A block reset of EPOCH waits for the committed epoch before its registers return to their reset values (R186). -/
  epochReset : Bool
  /-- Accepted, generated and committed epochs in the order of their instants (R159). -/
  epochs : List Epoch
  /-- Serial of the next epoch record. -/
  epochSerial : Nat
  /-- The last number given (R160). -/
  epochNumber : Nat
  /-- T_prev (R156). -/
  epochPrev : Option Nat
  /-- The submission being checked. -/
  submission : Option Submission
  /-- The record that EPOCH_RESULT speaks of. -/
  resultOf : Option Nat
  /-- Reports to come, in order. -/
  reports : List Report
  /-- The running schedule. -/
  schedule : Option Schedule
  /-- A preset preparation. -/
  preparation : Option Preparation
  /-- When the running routing job started. -/
  jobStart : Nat
  /-- The input connected to each output in service: key output, none before the first epoch (R368). -/
  connected : SMap (Option Nat)
  /-- Roles and pins of the other members' slots as last reported to the leader (R165): key 4096 * position + slot. -/
  ringRoles : SMap Word
  /-- A warm reset is requested (R127, R128), or a clock reset. -/
  warmRequested : Bool
  /-- The leader has sent HANDOVER_STATE and rejects submissions (R454). -/
  handedOff : Bool
  /-- Every EO channel, by slot; an unlisted slot's channel is that of an UNUSED slot. -/
  eo : SMap EoChannel
  /-- EO level calibrations in progress, by column. -/
  eoCal : SMap (Option EoCal)
  /-- The generation of events caused by a siphon stream that an event started, by stream (R520, R524). -/
  siphonGen : SMap Nat
  /-- Alignment across ring members. -/
  align : Align
  /-- The dither oscillators (R358): the uptime of the last entry into P5, where every phase is zero, and for a slot whose frequency has
  changed since, its phase at that change and the uptime of it. -/
  ncoOrigin : Nat
  /-- Those slots. -/
  nco : SMap (Option (Nat × Nat))
  /-- The driver stage of every slot's heaters, by slot. -/
  heaters : SMap Heater
  /-- The on-time, in PWM clocks, of the frame in progress of output h of column c; key 512 c + h (R239). -/
  onTime : SMap Nat
  /-- The read-back checks that failed at an output's last visit, as a mask; key 512 c + h (R253). -/
  rbFail : SMap Nat
  /-- Columns whose read-back calibration runs (R256). -/
  htrCal : SMap Bool
  /-- Loop cells, by cell. -/
  cells : SMap LoopCell
  /-- Pumps, by number. -/
  pumps : SMap Pump
  /-- The uptime of the entry into P5, from which the loop tick counts; none while the loops do not run (R276). -/
  loopOrigin : Option Nat
  /-- The power estimate of R13 for each cell, in watts, extended format; the estimate before it; and the uptime of the last refresh
  (R278). -/
  cellPower : SMap Word
  cellPowerWas : SMap Word
  cellPowerAt : Nat
  /-- The PWM frame in progress of each output; none before the first; key 512 c + h (R238, R278). -/
  frames : SMap (Option HeaterFrame)
  /-- The read-back scan of each bank; key 4 c + b (R251). -/
  rbScan : SMap BankScan
  /-- The input power table, by port (R362); and the entries that stood before, as far as a sample cutoff may look back, newest first
  (R278). -/
  inputPower : SMap (Option InputPower)
  inputWas : SMap (List InputPower)
  /-- The attenuation in service of each input, in 0.01 dB (R362). -/
  portAtten : SMap Nat
  /-- The version of the verified pump kernel that the Wellhead has staged (R322, R604). -/
  kernelStaged : Option Word
  /-- The uptime of cycle 0 of the WELL count; none until the first SYNC pulse after entry into P4 (R331). -/
  wellOrigin : Option Nat
  /-- What each well has done other than its scan, newest first; key well (R332, R333). -/
  wellSpans : SMap (List WellSpan)
  /-- The range changes of each channel, newest first: the range before, and the uptime; key 16 w + i (R329). -/
  rangeChanges : SMap (List (Nat × Nat))
  /-- The uptime of a primary port well's last publication (R342). -/
  published : SMap (Option Nat)
  /-- The uptime at which REF_SETTLED of a well rose last (R345). -/
  settledAt : SMap Nat
  /-- The uptime from which a well's present settle interval of 200 µs runs; none while its reference first settles in P4 (R345). -/
  settleFrom : SMap (Option Nat)
  /-- The uptime since which a slot's dither has run as it stands, but for what its channel's state tells (R268). -/
  ditherAt : SMap Nat
  /-- Pins placed and not begun, in order of start. -/
  pinsPlaced : List WellPin
  /-- The pin in force on a well, by well index. -/
  pin : SMap (Option WellPin)
  /-- The calibration run of a well, by well index. -/
  calRun : SMap (Option CalRun)
  /-- The binding of an interleave pair, by pair. -/
  binding : SMap (Option Binding)
  /-- Whether HW_15 found a reference outside its window: bandgap, REFIN, VDDA (R345). -/
  refOut : List Bool
  /-- The PB and PMB pads carry the programmed bias: P4 has enabled the wells since P0 (R328). -/
  biasOn : Bool
  /-- The epoch under verdict. -/
  verdict : Option VerdictEpoch
  /-- The pilot decoders at work. -/
  pilotDecode : Option PilotDecode
  /-- Bits of the present pilot frame that have begun; none before the first frame (R379 to R381). -/
  pilotBit : Option Nat
  /-- The uptimes at which pilot frames of the present run began anew, newest first (R381, R383). -/
  pilotStarts : List Nat
  /-- The number and instant of the epoch applied last. -/
  lastApplied : Option (Nat × Nat)
  /-- Capture streams, by number. -/
  streams : SMap CaptStream
  /-- The uptime at which an output TRIG pin's pulse starts, and at which it ends; the pin is high in between; by pin (R406). -/
  trigPulse : SMap (Option (Nat × Nat))
  /-- Bytes of DRAM in service (R116, R118). -/
  dramSize : Nat
  /-- The ring. -/
  ring : RingState
  /-- Uptime and the TIME clock. -/
  time : Clock
  /-- The control ports, their queues, shapers, policers, gates and rings. -/
  ports : PortState
  /-- Event routing. -/
  evt : EvtState
  /-- The fault collector's raises to come and guard windows. -/
  flt : FltState
  /-- Whether the die group, and the PIC group, is throttled (R561, R562). -/
  dieThrottled : Bool
  picThrottled : Bool
  /-- The heat supervision. -/
  heat : HeatState
  /-- Priming. -/
  prime : Prime
  /-- The Wellhead. -/
  wellhead : Wellhead
  /-- The census copy in progress. -/
  census : Option CensusCopy
  deriving DecidableEq, Repr

/-- The machine right after reset: power is applied and PWRGOOD has just risen, so the cold path stands in P0 (R118, R125). -/
def State.reset : State where
  variant := .pe2560
  regs := []
  active := []
  mem := []
  dram := []
  dramGen := 0
  pumpMem := []
  pumpGen := []
  bus := { latch := [], held := [], frozen := [], phase := [] }
  colCommit := []
  fresh := 0
  out := []
  pending := []
  pins := { pwrgood := true, resetN := true, clearN := true, perstN := true, pos := 0, lockout := true, pcieUp := false, vddLow := false, vddioLow := false, thermLow := false, trstN := false, ddrResetN := false }
  endpoint := { config := [], msix := [] }
  epochReset := false
  epochs := []
  epochSerial := 1
  epochNumber := 0
  epochPrev := none
  submission := none
  resultOf := none
  reports := []
  schedule := none
  preparation := none
  jobStart := 0
  connected := []
  ringRoles := []
  warmRequested := false
  handedOff := false
  eo := []
  eoCal := []
  siphonGen := []
  align := { departures := [], trim := 0, skip := false, last := 0, pulse := none, loopDelay := 0, rpts := [], first := none }
  ncoOrigin := 0
  nco := []
  heaters := []
  onTime := []
  rbFail := []
  htrCal := []
  cells := []
  pumps := []
  loopOrigin := none
  cellPower := []
  cellPowerWas := []
  cellPowerAt := 0
  frames := []
  rbScan := []
  inputPower := []
  inputWas := []
  portAtten := []
  kernelStaged := none
  wellOrigin := none
  wellSpans := []
  rangeChanges := []
  published := []
  settledAt := []
  settleFrom := []
  ditherAt := []
  pinsPlaced := []
  pin := []
  calRun := []
  binding := []
  refOut := [false, false, false]
  biasOn := false
  verdict := none
  pilotDecode := none
  pilotBit := none
  pilotStarts := []
  lastApplied := none
  streams := []
  trigPulse := []
  dramSize := 0
  ring := { peers := [], lanes := [], hopSeq := [], hopTurn := [], handover := none, incoming := none, takebackPos := none, adopting := [], payloads := [], goodRun := 0, lastOffset := none, overSince := none, offset := 0, epsilon := 0, leaderSteps := 0, lastFrame := 0, aside := false, sentAt := [], leaderIncr := none }
  time := { uptime := 0, counting := false, running := false, sec := 0, ns := 0, frac := 0, incr := 2 * 2 ^ 32, slew := none, incrNext := none, step := none, ppsUntil := none, steps := 0 }
  ports := { queues := [], leaving := [], shapers := [], meters := [], gates := [], fetched := [] }
  evt := { inFlight := [], published := [] }
  flt := { due := [], windows := [] }
  dieThrottled := false
  picThrottled := false
  heat := { sensors := [], cool := none, restarts := [] }
  prime := { path := .cold, started := 0, waiting := false, calStaged := [], calDone := false, calHost := false, config := [], holdover := none }
  wellhead := { flash := [], running := none, burn := none, programmed := 0, enrolled := 0, revoked := 0, hashes := [], svn := 0, blocks := 0, block := none, nextIndex := 0, bootOwner := none, booted := none, calCopy := none, nonce := none }
  census := none

end Sys2Proof.Machine
end

