-- ==== Sys2Proof/Machine/Ops.lean ====
section
/-! DEFINITION. The named operations over registers, windows, interrupts, faults, events and locks that every meaning
shares. -/

namespace Sys2Proof.Machine

open Sys2Proof

/-- The outcome of a step. -/
abbrev Out := Host.Outcome State Fault Refusal

/-! ### Registers -/

/-- The live word of an address: registers, and the shadow copy of an RW-S word (R94). -/
def reg (s : State) (a : Nat) : Word := SMap.get resetWord s.regs a

/-- Puts a word at an address. -/
def setReg (a : Nat) (v : Word) (s : State) : State := { s with regs := SMap.set resetWord s.regs a v }

/-- Changes the word at an address. -/
def modReg (a : Nat) (f : Word → Word) (s : State) : State := setReg a (f (reg s a)) s

/-- Bits `lo + w - 1` to `lo` of the word at an address. -/
def getF (s : State) (a lo w : Nat) : Nat := fld (reg s a) lo w

/-- Bit `i` of the word at an address. -/
def getBit (s : State) (a i : Nat) : Bool := bitOf (reg s a) i

/-- Writes a field of the word at an address. -/
def setF (a lo w v : Nat) (s : State) : State := setReg a (setFld (reg s a) lo w v) s

/-- Writes one bit of the word at an address. -/
def setB (a i : Nat) (b : Bool) (s : State) : State := setF a i 1 (b2n b) s

/-- Adds one to a counting field, which saturates. -/
def bumpF (a lo w : Nat) (s : State) : State := setF a lo w (satInc w (getF s a lo w)) s

/-- Adds `k` to a counting field, which saturates. -/
def addF (a lo w k : Nat) (s : State) : State := setF a lo w (satAdd w (getF s a lo w) k) s

/-- Adds one to a field that wraps. -/
def wrapF (a lo w : Nat) (s : State) : State := setF a lo w (getF s a lo w + 1) s

/-- The 64-bit number of a pair at a low address (R100). -/
def reg64 (s : State) (a : Nat) : Nat := join64 (reg s a) (reg s (a + 4))

/-- Writes both halves of a pair. -/
def setReg64 (a n : Nat) (s : State) : State := setReg (a + 4) (hi32 n) (setReg a (lo32 n) s)

/-- The active copy of an RW-S word, by its shadow's address (R103). -/
def act (s : State) (a : Nat) : Word := SMap.get resetWord s.active a

/-- Puts a word into the active copy. -/
def setAct (a : Nat) (v : Word) (s : State) : State := { s with active := SMap.set resetWord s.active a v }

/-- Bits of the active copy of an RW-S word. -/
def actF (s : State) (a lo w : Nat) : Nat := fld (act s a) lo w

/-- Applies an operation for each element of a list, in order. -/
def forEach {α : Type} (l : List α) (f : α → State → State) (s : State) : State := l.foldl (fun t x => f x t) s

/-- Acts only where the condition holds. -/
def whenB (b : Bool) (f : State → State) (s : State) : State := if b then f s else s

/-! ### Byte windows -/

/-- What an unlisted byte of a BAR0 window reads as: zero (assumption 4, DESIGN CHOICE, unsafe). -/
def memDefault : Nat → Byte := fun _ => 0

/-- A byte of a BAR0 window. -/
def memByte (s : State) (a : Nat) : Byte := SMap.get memDefault s.mem a

/-- Writes one byte of a BAR0 window. -/
def setMemByte (a : Nat) (b : Byte) (s : State) : State := { s with mem := SMap.set memDefault s.mem a b }

/-- Writes bytes from an address upwards. -/
def writeMem (a : Nat) (bs : List Byte) (s : State) : State :=
  match bs with
  | [] => s
  | b :: r => writeMem (a + 1) r (setMemByte a b s)

/-- A little-endian number of `n` bytes. -/
def readMem (s : State) (a n : Nat) : Nat := ofBytes ((List.range n).map fun i => memByte s (a + i))

/-- A byte of DRAM that nothing has written since the contents were last lost is open (R131, assumption 5). -/
def dramDefault (gen : Nat) : Nat → Byte := fun a => Config.dramByte gen a

/-- A byte of device DRAM. -/
def dramByte (s : State) (a : Nat) : Byte := SMap.get (dramDefault s.dramGen) s.dram a

/-- Puts bytes into device DRAM; every byte written stays listed, since no value is known to be the open one. -/
def writeDram (a : Nat) (bs : List Byte) (s : State) : State :=
  match bs with
  | [] => s
  | b :: r => writeDram (a + 1) r { s with dram := SMap.put s.dram a b }

/-- A little-endian number of `n` bytes of DRAM. -/
def readDram (s : State) (a n : Nat) : Nat := ofBytes ((List.range n).map fun i => dramByte s (a + i))

/-- The pump and the place in its local memory of a BAR0 address (R84). -/
def pumpPlace (a : Nat) : Nat × Nat := ((a - 0x2000000) / 0x40000, a % 0x40000)

/-- A byte of a pump's local memory; one that nothing has written since its last load is open (R131, R311, assumption 71). -/
def pumpByte (s : State) (a : Nat) : Byte :=
  SMap.get (fun _ => Config.pumpByte (SMap.get (fun _ => 0) s.pumpGen (pumpPlace a).1) (pumpPlace a).2) s.pumpMem a

/-- Puts bytes into the pumps' local memories. -/
def writePumpMem (a : Nat) (bs : List Byte) (s : State) : State :=
  match bs with
  | [] => s
  | b :: r => writePumpMem (a + 1) r { s with pumpMem := SMap.put s.pumpMem a b }

/-- A pump loads its firmware and tables into its local memory (R131, R311). -/
def reloadPump (k : Nat) (s : State) : State :=
  { s with
    pumpMem := SMap.dropRange s.pumpMem (0x2000000 + 0x40000 * k) 0x40000
    pumpGen := SMap.set (fun _ => 0) s.pumpGen k (SMap.get (fun _ => 0) s.pumpGen k + 1) }

/-! ### Open values and emissions -/

/-- The next open value, which nothing constrains (assumption 2). -/
def openNow (s : State) : Nat := Config.openNat s.fresh

/-- Marks the open value as drawn. -/
def draw (s : State) : State := { s with fresh := s.fresh + 1 }

/-- Something leaves the device. -/
def emit (e : Emission) (s : State) : State := { s with out := e :: s.out }

/-! ### Interrupts and faults -/

/-- Whether a page's interrupt request is active (R92). -/
def intActive (s : State) (p : Page) : Bool :=
  (reg s (Reg.INT_STATUS p) &&& reg s (Reg.INT_ENABLE p) &&& 0x03FFFFFF) != 0

/-- The page's message (R92). -/
def sendInt (p : Page) (s : State) : State := emit (.msix (getF s (Reg.INT_ENABLE p) 26 6)) s

/-- After a change that may make the request active: one message if it was not active before (R92). -/
def intEdge (p : Page) (before : State) (s : State) : State :=
  if !intActive before p && intActive s p then sendInt p s else s

/-- Sets an INT_STATUS bit of a page (R92). -/
def setInt (p : Page) (i : Nat) (s : State) : State := intEdge p s (setB (Reg.INT_STATUS p) i true s)

/-- The collector's source of a FAULT_STATUS bit (R534, R558, R583, R587, R618). -/
def faultSource (k : PageKind) (i : Nat) : Option Nat :=
  match k with
  | .clk => if i < 4 then some i else none
  | .pwr => if i < 10 then some (4 + i) else none
  | .heat => if i < 10 then some (14 + i) else none
  | .col => if i < 7 then some (24 + i) else if i = 8 then some 31 else none
  | .pe => if i < 4 then some (32 + i) else none
  | .tw | .pw | .hw => if i < 4 then some (36 + i) else none
  | .epoch => if i < 3 then some (40 + i) else none
  | .verdict => if i < 2 then some (43 + i) else none
  | .capt => if i = 0 then some 45 else none
  | .ring => if i < 5 then some (46 + i) else none
  | .time => if i = 0 then some 52 else none
  | .mac => if i = 0 then some 53 else none
  | .cistern => if i = 0 then some 54 else none
  | .evt => if i = 0 then some 55 else none
  | .ddr => if i < 3 then some (56 + i) else none
  | .pcie => if i < 4 then some (59 + i) else none
  | .xspi => if i = 0 then some 63 else none
  | .i2c => if i = 0 then some 64 else none
  | .xbar => if i < 3 then some (65 + i) else none
  | .wellhead => if i < 7 then some (68 + i) else none
  | _ => none

/-- A raise on its way to the collector (R535). -/
def sendRaise (source inst : Nat) (p : Option Page) (s : State) : State :=
  { s with flt := { s.flt with due := s.flt.due ++ [{ source := source, inst := inst, page := p, uptime := s.time.uptime }] } }

/-- Sets a FAULT_STATUS bit; a change from 0 to 1 is a raise (R535). -/
def setFault (p : Page) (i : Nat) (s : State) : State :=
  if getBit s (Reg.FAULT_STATUS p) i then s
  else
    let s' := setB (Reg.FAULT_STATUS p) i true s
    match faultSource p.kind i with
    | some n => sendRaise n p.inst (some p) s'
    | none => s'

/-! ### Block phases -/

/-- The phase of a block. -/
def phase (s : State) (p : Page) : Phase := SMap.get (fun _ => Phase.off) s.bus.phase (pageBase p)

/-- Whether a column page holds a commit in progress (SHADOW_STATUS.APPLYING). -/
def applying (s : State) (p : Page) : Bool := getBit s (Reg.SHADOW_STATUS p) 2

/-- Whether a commit of a page is in progress; a pump page's is that of its loop tables (R91, R637). -/
def committing (s : State) (p : Page) : Bool := applying s p || (p.kind == .pe && getBit s (Reg.LOOP_TABLE_STATUS p.inst) 0)

/-- READY, BUSY and PENDING_ON as the phase and a commit in progress give them (the STATUS map of R91). -/
def refreshStatus (p : Page) (s : State) : State :=
  let ph := phase s p
  let busy := committing s p || (match ph with | .starting | .stopping | .pendingOn | .resetting => true | _ => false)
  let on := ph == .pendingOn || (ph == .starting && getBit s (Reg.STATUS p) 2)
  setB (Reg.STATUS p) 2 on (setB (Reg.STATUS p) 1 busy (setB (Reg.STATUS p) 0 (ph == .running) s))

/-- Moves a block to a phase. -/
def setPhase (p : Page) (ph : Phase) (s : State) : State :=
  refreshStatus p { s with bus := { s.bus with phase := SMap.set (fun _ => Phase.off) s.bus.phase (pageBase p) ph } }

/-- CTRL.ENABLE of a page. -/
def enabled (s : State) (p : Page) : Bool := getBit s (Reg.CTRL p) 0

/-- CTRL.HOLD_THROUGH of a page. -/
def holdThrough (s : State) (p : Page) : Bool := getBit s (Reg.CTRL p) 3

/-! ### Locks and host writes -/

/-- The GLB page. -/
def glbPage : Page := ⟨.glb, 0⟩

/-- Whether a page is locked (R109). -/
def pageLocked (s : State) (p : Page) : Bool := getBit s (Reg.PAGE_LOCK p) 0

/-- The page whose lock covers a place (R110). -/
def lockPage : Target → Option Page
  | .page p _ => some p
  | .slotShadow n _ => some ⟨.col, n / 256⟩
  | .slotActive n _ => some ⟨.col, n / 256⟩
  | .pumpMem k _ => some ⟨.pe, k⟩
  | _ => none

/-- The requesters whose writes a lock stops (R110). -/
def lockBinds (req : Requester) : Bool := req == 0 || req == 1 || req == 5

/-- Records a write that a lock stopped (R111, R114). -/
def recordLocked (req : Requester) (a : Nat) (s : State) : State :=
  let first := !getBit s (Reg.INT_STATUS glbPage) 1
  let s1 := if first then setReg Reg.GLB_LOCK_INFO (word req.toNat) (setReg Reg.GLB_LOCK_ADDR (word a) s) else s
  setInt glbPage 1 (bumpF Reg.GLB_LOCK_INFO 16 16 s1)

/-- Records a decode error (R112, R114). -/
def recordDecode (req : Requester) (a : Nat) (write : Bool) (s : State) : State :=
  let first := !getBit s (Reg.INT_STATUS glbPage) 0
  let s1 := if first then setReg Reg.GLB_DECODE_INFO (word (req.toNat + 8 * b2n write)) (setReg Reg.GLB_DECODE_ADDR (word a) s) else s
  setInt glbPage 0 (bumpF Reg.GLB_DECODE_INFO 16 16 s1)

/-- The answer to a decode error by variant (R112). -/
def answerDecode (req : Requester) (a : Nat) (write : Bool) (s : State) : State :=
  match s.variant with
  | .pe2560 => if write then s else emit (.readData req 0) s
  | .pe1280 =>
    if req = 0 && write then emit (.unsupportedRequest a) s
    else if write && req != 1 then s
    else emit (.errorAnswer req a) s

/-- A decode error: recorded and answered (R112). -/
def decodeError (req : Requester) (a : Nat) (write : Bool) (s : State) : State :=
  answerDecode req a write (recordDecode req a write s)

/-! ### Who reaches what -/

/-- The stage of the priming path (R117, R148, R149). -/
def stage (s : State) : Nat := getF s Reg.GLB_PRIME_STATUS 0 4

/-- Whether a JTAG test session runs (R614). -/
def testSession (s : State) : Bool := getBit s Reg.WH_DEBUG 3

/-- Outputs are held at park and the epoch unit stands as under CLEAR_N low: CLEAR_N is low (R139, R140), the device is HALTED
(R147), or a test session runs (R614). -/
def parkForced (s : State) : Bool := !s.pins.clearN || stage s == 0xE || testSession s

/-- Whether only the sparse matrix exists (R577). -/
def sparse (s : State) : Bool := [1, 2, 0xE, 0xF].contains (stage s) || testSession s

/-- The XBAR page. -/
def xbarPage : Page := ⟨.xbar, 0⟩

/-- The matrix target behind a place of BAR0 (R572). -/
def matrixTarget : Target → Nat
  | .page p _ => match p.kind with
    | .tw | .pw | .hw => 1
    | .pe | .col => 2
    | _ => 0
  | .slotShadow _ _ | .slotActive _ _ => 2
  | .shape _ | .preset _ | .loopWin _ => 3
  | .pumpMem _ _ => 4
  | .sram _ => 5
  | .hole => 11

/-- Whether the sparse matrix carries a path (R577). -/
def sparsePath (s : State) (master target : Nat) : Bool :=
  if master = 0 && stage s = 0xF then false
  else if master = 2 then target == 0 || target == 5
  else if master = 0 || master = 1 || master = 5 then decide (target ≤ 2)
  else if master = 3 || master = 4 || master = 6 then decide (target ≤ 2) || target == 5
  else false

/-- Whether the matrix in force carries a path (R577). -/
def hasPath (s : State) (master target : Nat) : Bool := !sparse s || sparsePath s master target

/-- A request on a path that the matrix lacks: an error answer, recorded (R578). -/
def sparseError (req : Requester) (master target a : Nat) (s : State) : State :=
  let s1 := bumpF Reg.XBAR_SPARSE_ERR 16 16 (setF Reg.XBAR_SPARSE_ERR 0 8 (master + 16 * target) s)
  emit (.errorAnswer req a) (setInt xbarPage 1 s1)

/-- Whether an access of a requester arrives at all: from P1 onwards (R123), and over an established PCIe link. -/
def arrives (s : State) (req : Requester) : Bool := s.time.counting && (req != 0 || s.pins.pcieUp)

/-- What SMBus reaches while the system PLL is not locked: the I2C page, and reads of the HEAT and FLT words of which copies
stand in the I2C domain (R548, R571, R585). -/
def smbusReaches (t : Target) (write : Bool) : Bool :=
  match t with
  | .page p o => match p.kind with
    | .i2c => true
    | .flt => !write && ((0x60 ≤ o && o < 0x7C) || 0x400 ≤ o)
    | .heat => !write && (o == 0x44 || (0x5C ≤ o && o < 0x78) || (0x400 ≤ o && o < 0x580))
    | _ => false
  | _ => false

/-- Whether a requester's access to a place is answered with an error wherever it goes: JTAG without its scope (R615), and SMBus
while the system PLL is not locked (R585). -/
def barred (s : State) (req : Requester) (t : Target) (write : Bool) : Bool :=
  (req == 5 && !getBit s Reg.WH_DEBUG 0) || (req == 1 && !getBit s Reg.CLK_SRC_STATUS 2 && !smbusReaches t write)

/-- An access to a place of BAR0: nothing before it can arrive, an error answer where the requester is barred or the matrix has
no path, a decode error where nothing is there, otherwise the effect (R112, R578). -/
def access (req : Requester) (a : Nat) (write : Bool) (eff : State → State) (s : State) : State :=
  if !arrives s req then s
  else if barred s req (decodeAddr s.variant a) write then emit (.errorAnswer req a) s
  else
    match decodeAddr s.variant a with
    | .hole => decodeError req a write s
    | t => if hasPath s req.toNat (matrixTarget t) then eff s else sparseError req req.toNat (matrixTarget t) a s

/-- Whether a lock stops a requester's write to a place (R110), or the closed TMUX scope does (R615). -/
def lockStops (s : State) (req : Requester) (t : Target) : Bool :=
  lockBinds req &&
    match lockPage t with
    | some p => pageLocked s p || (p.kind == .tmux && !getBit s Reg.WH_DEBUG 1)
    | none => false

/-- A write to a place of BAR0: as every access, and ignored and recorded under a lock (R110, R111). -/
def hostWrite (req : Requester) (a : Nat) (eff : State → State) (s : State) : State :=
  access req a true
    (fun t => if lockStops t req (decodeAddr t.variant a) then recordLocked req a t else eff t) s

/-! ### Alignment and width (R97) -/

/-- Whether an access of `n` bytes is misaligned, or a narrow write to a page or the element table (R97). -/
def misfit (t : Target) (a n : Nat) (write : Bool) : Bool :=
  a % n != 0 ||
    (write && decide (n < 4) && match t with
      | .page _ _ | .slotShadow _ _ | .slotActive _ _ => true
      | _ => false)

/-- Whether an access is a decode error (R112). -/
def decodeFails (s : State) (a n : Nat) (write : Bool) : Bool :=
  let t := decodeAddr s.variant a
  t == .hole || misfit t a n write

/-- An access of `n` bytes to BAR0: decoded at the master's port before a path is chosen, and answered as a decode error where it is one
(R97, R112, R580). -/
def sizedAccess (req : Requester) (a n : Nat) (write : Bool) (eff : State → State) (s : State) : State :=
  if decodeFails s a n write && arrives s req && !barred s req (decodeAddr s.variant a) write then decodeError req a write s
  else access req a write eff s

/-- Whether an address is a page's PAGE_LOCK, which a lock never covers (R110). -/
def isPageLock (v : Variant) (a : Nat) : Bool :=
  match decodeAddr v a with
  | .page _ o => o == 0x28
  | _ => false

/-- A write access of `n` bytes: a decode error where it is one, ignored and recorded under a lock, otherwise the effect (R97, R110,
R111, R112). -/
def sizedWrite (req : Requester) (a n : Nat) (eff : State → State) (s : State) : State :=
  sizedAccess req a n true
    (fun t => if lockStops t req (decodeAddr t.variant a) && !isPageLock t.variant a then recordLocked req a t else eff t) s

end Sys2Proof.Machine
end

