-- ==== Sys2Proof/Machine/Events.lean ====
section
/-! DEFINITION. Event routing (R517 to R533): publication, delivery, losses, and the commands of the EVT page. -/

namespace Sys2Proof.Machine

open Sys2Proof

/-- The EVT page. -/
def evtPage : Page := ⟨.evt, 0⟩

/-- Whether the router routes: ENABLE is 1 and no block reset runs (R530). -/
def routing (s : State) : Bool := enabled s evtPage && !(phase s evtPage == .resetting)

/-- The routing entry of a producer as committed: its channel, where EN is 1 (R529, R532). -/
def producerChannel (s : State) (n : Nat) : Option Nat :=
  let e := actF s (Reg.EVT_PROD (n / 2)) (16 * (n % 2)) 16
  if e / 2 ^ 15 = 1 then some (e % 256) else none

/-- The entry of a task input: committed for inputs 0 to 127, the stream's subscription above (R522, R529). -/
def taskChannel (s : State) (n : Nat) : Option Nat :=
  let a := Reg.EVT_TASK (n / 2)
  let e := if n < 128 then actF s a (16 * (n % 2)) 16 else getF s a (16 * (n % 2)) 16
  if e / 2 ^ 15 = 1 then some (e % 256) else none

/-- Shows the subscription of CAPT_TRIG_n in its read-only entry (R522). -/
def setTaskChannel (n : Nat) (c : Option Nat) (s : State) : State :=
  setF (Reg.EVT_TASK (n / 2)) (16 * (n % 2)) 16 (match c with | some k => 2 ^ 15 + k | none => 0) s

/-- An event lost at a task input (R527, R528). -/
def taskLost (n : Nat) (s : State) : State :=
  let a := Reg.EVT_TASK_STAT (n / 2)
  setInt evtPage 1 (setF a (16 * (n % 2) + 15) 1 1 (bumpF a (16 * (n % 2)) 15 s))

/-- The task inputs subscribed to a channel (R518). -/
def subscribers (s : State) (c : Nat) : List Nat := (List.range 384).filter fun n => taskChannel s n == some c

/-- Adds an event for one task input; a second one of the same cycle is triggered once with the higher generation (R527). -/
def deliverLater (c gen : Nat) (n : Nat) (s : State) : State :=
  let t := s.time.uptime
  if s.evt.inFlight.any fun e => e.task == n && e.cycle == t then
    let merged := s.evt.inFlight.map fun e => if e.task == n && e.cycle == t then { e with gen := max e.gen gen } else e
    taskLost n { s with evt := { s.evt with inFlight := merged } }
  else
    { s with evt := { s.evt with inFlight := s.evt.inFlight ++ [{ task := n, gen := gen, channel := c, cycle := t }] } }

/-- Puts an event on a channel: one event a channel and cycle, with the highest generation. A further cause of the same producer
in the cycle is no second publication (R517, R519, R520, R526). -/
def carry (producer : Option Nat) (c gen : Nat) (s : State) : State :=
  let t := s.time.uptime
  let pubs := s.evt.published.filter fun q => q.cycle == t
  match pubs.find? fun q => q.channel == c with
  | some q =>
    let again := producer.isSome && q.producer == producer
    let merged := pubs.map fun r => if r.channel == c then { r with gen := max r.gen gen, collided := r.collided || !again } else r
    let flying := s.evt.inFlight.map fun e => if e.channel == c && e.cycle == t then { e with gen := max e.gen gen } else e
    let s1 := { s with evt := { published := merged, inFlight := flying } }
    let s2 := if q.collided then s1 else bumpF Reg.EVT_COLLIDE 0 16 s1
    if again then s1 else setF Reg.EVT_COLLIDE 16 8 c s2
  | none =>
    let s1 := { s with evt := { s.evt with published := { channel := c, gen := gen, producer := producer, cycle := t, collided := false } :: pubs } }
    forEach (subscribers s1 c) (deliverLater c gen) s1

/-- An event beyond GEN_LIMIT is dropped at its publication (R525). -/
def eventLoopDrop (producer gen : Nat) (s : State) : State :=
  let s1 := bumpF Reg.EVT_LOOP_INFO 16 16 (setF Reg.EVT_LOOP_INFO 12 4 gen (setF Reg.EVT_LOOP_INFO 0 10 producer s))
  setFault evtPage 0 (setInt evtPage 0 s1)

/-- A producer fires an event of a generation (R518, R524, R525, R530). -/
def publish (producer gen : Nat) (s : State) : State :=
  if !routing s then s
  else
    match producerChannel s producer with
    | none => s
    | some c =>
      let g := min gen 8
      if g > getF s Reg.EVT_CFG 0 3 then eventLoopDrop producer g s else carry (some producer) c g s

/-- EVT_FIRE (R532, R524): one event of generation 0 on the channel. -/
def execEvtFire (req : Requester) (channel : BitVec 8) (s : State) : Out :=
  .next (hostWrite req Reg.EVT_FIRE (fun t => if routing t then carry none channel.toNat 0 t else t) s)

/-- EVT_COUNT_CLR (R532). -/
def execEvtCountClr (req : Requester) (s : State) : Out :=
  .next (hostWrite req Reg.EVT_COUNT_CLR (fun t => setReg Reg.EVT_COLLIDE 0 (setReg Reg.EVT_LOOP_INFO 0 t)) s)

/-- EVT_TASK_CLR (R528, R532). -/
def execEvtTaskClr (req : Requester) (s : State) : Out :=
  .next (hostWrite req Reg.EVT_TASK_CLR
    (fun t => { t with regs := SMap.dropRange t.regs (Reg.EVT_TASK_STAT 0) (4 * 192) }) s)

end Sys2Proof.Machine
end

