-- ==== Sys2Proof/Machine/Time.lean ====
section
/-! DEFINITION. The TIME clock (R459 to R473, R480, R481): its ticks, the passing of time up to an instant, rate, slew
and step, and the commands of the TIME page. -/

namespace Sys2Proof.Machine

open Sys2Proof

/-- The TIME page. -/
def timePage : Page := ⟨.time, 0⟩

/-- The clock's whole reading in 2^-32 ns. -/
def Clock.total (c : Clock) : Nat := (c.sec * 1000000000 + c.ns) * 2 ^ 32 + c.frac

/-- The PTP nanosecond count (R460). -/
def ptpNow (s : State) : Nat := (s.time.sec * 1000000000 + s.time.ns) % 2 ^ 64

/-- A clock with its reading replaced; SEC wraps at 2^64 (R459). -/
def Clock.withTotal (c : Clock) (n : Nat) : Clock :=
  { c with sec := n / 2 ^ 32 / 1000000000 % 2 ^ 64, ns := n / 2 ^ 32 % 1000000000, frac := n % 2 ^ 32 }

/-- The increment in force once no slew runs (R464). -/
def Clock.restIncr (c : Clock) : Nat := c.incrNext.getD c.incr

/-- What `n` ticks add to the reading: the slew's ticks first (R459, R464). -/
def Clock.gain (c : Clock) (n : Nat) : Nat :=
  match c.slew with
  | some (i, l) => min n l * i + (n - l) * c.restIncr
  | none => n * c.incr

/-- The clock after `n` ticks of the TIME domain, 2 ns each of uptime; a stopped clock keeps its reading (R459, R462). -/
def Clock.after (c : Clock) (n : Nat) : Clock :=
  let c1 := if c.counting then { c with uptime := c.uptime + 2 * n } else c
  if c1.running then { c1.withTotal (c1.total + c1.gain n) with slew := c1.slew.map fun e => (e.1, e.2 - n) } else c1

/-- The increment in force (R464). -/
def Clock.incrNow (c : Clock) : Nat :=
  match c.slew with
  | some e => e.1
  | none => c.incr

/-- Lets `n` ticks pass. -/
def advanceTicks (n : Nat) (s : State) : State := { s with time := s.time.after n }

/-- The quotient rounded up. -/
def ceilDiv (a b : Nat) : Nat := (a + b - 1) / b

/-- How many ticks pass until the reading is at or past an instant in PTP nanoseconds (R471). -/
def Clock.ticksTo (c : Clock) (t : Nat) : Nat :=
  let d := t * 2 ^ 32 - c.total
  match c.slew with
  | some (i, l) => if d ≤ l * i then ceilDiv d i else l + ceilDiv (d - l * i) c.restIncr
  | none => ceilDiv d c.incr

/-- A command that falls at an instant of the TIME clock finds the clock at the first tick at or past it (R471,
assumption 6). -/
def advanceTo (t : Nat) (s : State) : State := if s.time.running then advanceTicks (s.time.ticksTo t) s else s

/-- A command that falls a fixed time after another finds at least that much uptime passed (assumption 6). -/
def advanceUptime (t : Nat) (s : State) : State := advanceTicks (ceilDiv (t - s.time.uptime) 2) s

/-- The oldest event on its way to a task input arrives, two core cycles after its publication: its generation and the state then, without it
(R519). -/
def takeEvent (n : Nat) (s : State) : Option (Nat × State) :=
  match s.evt.inFlight.find? fun e => e.task == n with
  | none => none
  | some e => some (e.gen, advanceUptime (e.cycle + 2) { s with evt := { s.evt with inFlight := s.evt.inFlight.erase e } })

/-- The range of an increment, 1.999 ns to 2.001 ns (R463). -/
def incrOk (n : Nat) : Bool := 0x1FFBE76C9 ≤ n && n ≤ 0x200418937

/-- Whether this member takes its time from the ring's leader (R467). -/
def ringDisciplined (s : State) : Bool := getBit s Reg.TIME_STATUS 2

/-- Counts a refused TIME write (R462, R466). -/
def timeRefuse (b : Nat) (s : State) : State := bumpF Reg.TIME_STATUS 16 16 (setB Reg.TIME_STATUS b true s)

/-- A clock priming (R461). -/
def clockPrime (s : State) : State :=
  let s1 := { s with time := { s.time with
    running := true, sec := 0, ns := 0, frac := 0, incr := 2 * 2 ^ 32, slew := none, incrNext := none, step := none, steps := 0 } }
  setReg64 Reg.TIME_INCR_LO (2 * 2 ^ 32) (setF Reg.TIME_STATUS 16 16 0 (setB Reg.TIME_STATUS 1 false (setB Reg.TIME_STATUS 0 false s1)))

/-- PPS_OUT goes low. -/
def ppsLow (s : State) : State :=
  if s.time.ppsUntil.isSome then emit (.ppsOut false) { s with time := { s.time with ppsUntil := none } } else s

/-- The end of a slew: TIME_INCR is in force again and SLEW_DONE sets (R464, R481). -/
def slewEnd (s : State) : State :=
  if s.time.slew.isSome then
    setInt timePage 2 (setB Reg.TIME_STATUS 1 false
      { s with time := { s.time with slew := none, incr := s.time.restIncr, incrNext := none } })
  else s

/-- ENABLE = 0 of TIME stops the clock, any slew and PPS_OUT (R462). -/
def timeStop (s : State) : State :=
  let s1 := ppsLow (slewEnd s)
  { s1 with time := { s1.time with running := false, step := none } }

/-- Whether TIME SOFT_RESET and ENABLE = 0 are ignored: EPOCH or some GATE_n is enabled (R462). -/
def timeHeld (s : State) : Bool := enabled s ⟨.epoch, 0⟩ || (List.range 4).any fun n => enabled s ⟨.gate, n⟩

/-- Starts a slew (R464). -/
def slewStart (i n : Nat) (s : State) : State :=
  setB Reg.TIME_STATUS 1 true { s with time := { s.time with slew := some (i, n) } }

/-- TIME_INCR takes a value, at once or at the end of a slew (R463, R464). -/
def setIncr (i : Nat) (s : State) : State :=
  let s1 := setReg64 Reg.TIME_INCR_LO i s
  if !s1.time.running then s1
  else if s1.time.slew.isSome then { s1 with time := { s1.time with incrNext := some i } }
  else { s1 with time := { s1.time with incr := i } }

/-- A write of TIME_INCR: accepted in range, otherwise ignored and counted (R463, R467). -/
def timeIncr (v : Nat) (s : State) : State :=
  if ringDisciplined s || !incrOk v then timeRefuse 4 s else setB Reg.TIME_STATUS 4 false (setIncr v s)

/-- Takes the held low half of a requester's pair write: its value and the state without it (R102). -/
def takeHeld (req : Requester) (a : Nat) (s : State) : Option Word × State :=
  let k := req.toNat * 2 ^ 28 + a
  (SMap.get (fun _ => none) s.bus.held k,
    { s with bus := { s.bus with held := SMap.set (fun _ => none) s.bus.held k none } })

/-- The reading once a step applies, with MODE, A and B (R465). -/
def Clock.stepped (c : Clock) (mode a b : Nat) : Clock :=
  if mode = 0 then { c with sec := a, ns := b, frac := 0 }
  else
    let n := (((c.sec * 1000000000 + c.ns : Nat) : Int) + signed 64 a) % ((2 ^ 64 * 1000000000 : Nat) : Int)
    { c with sec := n.toNat / 1000000000, ns := n.toNat % 1000000000 }

/-- The step itself: the clock, TIME_LAST_STEP, STEPPED and TIME_STEPPED (R465). -/
def applyStep (mode a b : Nat) (s : State) : State :=
  let before := ptpNow s
  let s1 := { s with
    time := { s.time.stepped mode a b with step := none, steps := s.time.steps + 1 }
    align := { s.align with pulse := none } }
  publish 0 0 (setInt timePage 0 (setReg64 Reg.TIME_LAST_STEP_LO ((ptpNow s1 + 2 ^ 64 - before) % 2 ^ 64) s1))

/-- The signed size of the last step in ns. -/
def lastStep (s : State) : Int := signed 64 (reg64 s Reg.TIME_LAST_STEP_LO)

/-- TIME_CMD.STEP (R462, R465 to R467). -/
def execStep (req : Requester) (s : State) : Out :=
  .next (hostWrite req Reg.TIME_CMD (fun t =>
    let mode := getF t Reg.TIME_STEP_CFG 0 1
    let b := getF t Reg.TIME_STEP_B 0 30
    if !t.time.running || ringDisciplined t || getBit t Reg.TIME_STATUS 0 || (mode == 0 && 1000000000 ≤ b) then timeRefuse 3 t
    else
      setB Reg.TIME_STATUS 0 true (setB Reg.TIME_STATUS 3 false
        { t with time := { t.time with step := some (mode, reg64 t Reg.TIME_STEP_A_LO, b, t.time.uptime + 10) } })) s)

/-- TIME_CMD.SNAP captures the clock's value, running or stopped (R462, R480). -/
def execSnap (req : Requester) (s : State) : Out :=
  .next (hostWrite req Reg.TIME_CMD (fun t =>
    setReg Reg.TIME_SNAP_FRAC (word t.time.frac) (setReg Reg.TIME_SNAP_NS (word t.time.ns)
      (setReg64 Reg.TIME_SNAP_SEC_LO t.time.sec t))) s)

/-- TIME_CMD.SLEW (R462, R464, R467). -/
def execSlew (req : Requester) (s : State) : Out :=
  .next (hostWrite req Reg.TIME_CMD (fun t =>
    let i := reg64 t Reg.TIME_SLEW_INCR_LO % 2 ^ 40
    let n := (reg t Reg.TIME_SLEW_TICKS).toNat
    if !t.time.running || ringDisciplined t || !incrOk i || n == 0 then timeRefuse 5 t
    else setB Reg.TIME_STATUS 5 false (slewStart i n t)) s)

/-- TIME_CMD.SLEW_ABORT ends a slew; none runs while ENABLE is 0 (R462, R464). -/
def execSlewAbort (req : Requester) (s : State) : Out := .next (hostWrite req Reg.TIME_CMD slewEnd s)

/-- A slew's tick count expires (R464). -/
def execSlewEnd (s : State) : Out :=
  .next (match s.time.slew with
    | some (_, n) => slewEnd (advanceTicks n s)
    | none => s)

/-- A write that completes TIME_INCR: both halves at once, or the high half with the held or current low half
(R102, R463). -/
def execTimeIncrWrite (req : Requester) (low : Option Word) (high : Word) (s : State) : Out :=
  .next (hostWrite req Reg.TIME_INCR_HI (fun t =>
    let h := takeHeld req Reg.TIME_INCR_LO t
    let lo := (low.orElse fun _ => h.1).getD (reg t Reg.TIME_INCR_LO)
    timeIncr (lo.toNat + 2 ^ 32 * (high.toNat % 256)) h.2) s)

/-- The next instant at which PPS_OUT rises: PTP count minus PPS_OFS a whole second (R473). -/
def ppsNext (s : State) : Nat :=
  let ofs := (signed 32 (reg s Reg.PPS_OFS).toNat % (1000000000 : Int)).toNat
  let now := ptpNow s + (if s.time.frac = 0 then 0 else 1)
  now + (ofs + 1000000000 - now % 1000000000) % 1000000000

/-- PPS_OUT rises and PPS fires (R473, R520). -/
def execPpsPulse (s : State) : Out :=
  .next (if s.time.running && getBit s Reg.PPS_CFG 0 && s.time.ppsUntil.isNone then
      let s1 := advanceTo (ppsNext s) s
      publish 1 0 (emit (.ppsOut true)
        { s1 with time := { s1.time with ppsUntil := some (s1.time.uptime + 1000 * getF s1 Reg.PPS_CFG 8 8) } })
    else s)

/-- PPS_OUT falls after WIDTH µs (R473). -/
def execPpsPulseEnd (s : State) : Out :=
  .next (match s.time.ppsUntil with
    | some t => ppsLow (advanceUptime t s)
    | none => s)

end Sys2Proof.Machine
end

