-- ==== Sys2Proof/Machine/Shaping.lean ====
section
/-! DEFINITION. Edge shaping (R190 to R237): levels, the sequencer of an EO channel, the shape library, the siphon, SYNC
alignment and EO level calibration. -/

namespace Sys2Proof.Machine

open Sys2Proof

/-! ### Pages, slots and levels -/

/-- COL_c. -/
def colPage (c : Nat) : Page := ⟨.col, c⟩

/-- The column page of a slot. -/
def slotCol (slot : Nat) : Page := colPage (slot / 256)

/-- Role codes of R30. -/
def roleUnused : Nat := 0
/-- SWITCH. -/
def roleSwitch : Nat := 1
/-- ATTEN. -/
def roleAtten : Nat := 2
/-- SPARE. -/
def roleSpare : Nat := 3

/-- The committed role of a slot (R29, R30). -/
def role (s : State) (slot : Nat) : Nat := actF s (Reg.SLOT_CFG slot) 0 2

/-- Whether a slot's role is SWITCH or ATTEN. -/
def driven (s : State) (slot : Nat) : Bool := role s slot == roleSwitch || role s slot == roleAtten

/-- The EP code of a level word (R196). -/
def ep (w : Word) : Nat := fld w 0 12

/-- The EN code of a level word (R196). -/
def en (w : Word) : Nat := fld w 16 12

/-- A level word (R196). -/
def level (p n : Nat) : Word := word (p + 2 ^ 16 * n)

/-- D of a level: its EP code minus its EN code (R194). -/
def diff (w : Word) : Int := (ep w : Int) - (en w : Int)

/-- A pad code limited to 0 to 4,095 (R199). -/
def padCode (v : Int) : Nat := (clampInt 0 4095 v).toNat

/-- A point between two levels, `num / den` of the way, rounded to the nearest codes (R199, R200). -/
def between (a b : Word) (num : Int) (den : Nat) : Word :=
  let pad := fun (x y : Nat) => padCode (rneDiv ((x : Int) * den + num * ((y : Int) - x)) den)
  level (pad (ep a) (ep b)) (pad (en a) (en b))

/-- The level of an attenuation in 0.01 dB (R200). -/
def attenLevel (s : State) (slot a : Nat) : Word :=
  between (act s (Reg.EO_BAR slot)) (act s (Reg.EO_CROSS slot)) (attenFraction a : Nat) (2 ^ 24)

/-- The park level of a slot by its role: code 0 for an UNUSED slot (R29, R139). -/
def parkLevel (s : State) (slot : Nat) : Word := if role s slot = roleUnused then 0 else act s (Reg.EO_PARK slot)

/-- The EO channel of a slot. -/
def channel (s : State) (slot : Nat) : EoChannel := SMap.get (fun _ => EoChannel.unused) s.eo slot

/-- Writes a channel. -/
def setChannel (slot : Nat) (ch : EoChannel) (s : State) : State :=
  { s with eo := SMap.set (fun _ => EoChannel.unused) s.eo slot ch }

/-- The level in service that a slot's role, cell state and attenuation give (R197). -/
def serviceLevel (s : State) (slot : Nat) (cross : Bool) (atten : Nat) : Word :=
  let r := role s slot
  if r = roleSwitch then if cross then act s (Reg.EO_CROSS slot) else act s (Reg.EO_BAR slot)
  else if r = roleAtten then attenLevel s slot atten
  else if r = roleSpare then act s (Reg.EO_PARK slot)
  else 0

/-- Sets a level without playing a transition: FROM, TO, the level in service and the pads take it (R198). -/
def EoChannel.stepTo (ch : EoChannel) (w : Word) : EoChannel := { ch with lvlFrom := w, lvlTo := w, target := w, out := w, due := false }

/-- Whether a channel is in fast mode (R191, R207). -/
def EoChannel.fast (ch : EoChannel) : Bool :=
  match ch.state with
  | .ready | .play | .linger | .stream => true
  | .held => ch.heldFast
  | _ => false

/-- The peak dither amplitude in force, and whether the limit of R194 applies. -/
def ditherAmp (s : State) (slot : Nat) : Nat × Bool :=
  let amp := actF s (Reg.EO_DITHER slot) 16 6
  let lim := absI (diff (act s (Reg.EO_CROSS slot)) - diff (act s (Reg.EO_BAR slot))) / 100
  if amp > lim then (lim, true) else (amp, false)

/-- Whether a slot is under EO calibration (R231, R233). -/
def underEoCal (s : State) (slot : Nat) : Bool :=
  match SMap.get (fun _ => none) s.eoCal (slot / 256) with
  | some c => c.tier == slot % 256
  | none => false

/-- Whether a stream that plays on a slot's channel adds its dither (R224, R236). -/
def streamDither (s : State) (slot : Nat) : Bool :=
  (channel s slot).state == .stream && (List.range 32).any fun n =>
    getF s (Reg.SIPH_STATUS n) 0 3 == 3 && getF s (Reg.SIPH_CFG n) 0 12 == slot && getBit s (Reg.SIPH_CFG n) 13

/-- Whether a channel carries dither: in HOLD, and in a stream that adds it (R195, R224); a held column has none until its first
update (R130). -/
def ditherOn (s : State) (slot : Nat) : Bool :=
  ((channel s slot).state == .hold || streamDither s slot) && bitOf (act s (Reg.EO_DITHER slot)) 31 &&
    actF s (Reg.EO_DITHER slot) 0 11 != 0 && !underEoCal s slot &&
    !(SMap.get (fun _ => LoopCell.empty) s.cells (slot / 4)).firstDue && !(phase s (slotCol slot) == .resetting)

/-- A slot's dither begins to run, or runs otherwise, now (R268). -/
def ditherFrom (slot : Nat) (s : State) : State := { s with ditherAt := SMap.set (fun _ => 0) s.ditherAt slot s.time.uptime }

/-- The frequency word of an oscillator (R358). -/
def ncoWord (khz : Nat) : Nat := (2 * khz * 2 ^ 32 + 1000000) / 2000000

/-- The phase of a slot's dither oscillator (R358). -/
def ncoPhase (s : State) (slot : Nat) : Nat :=
  let base := (SMap.get (fun _ => none) s.nco slot).getD (0, s.ncoOrigin)
  (base.1 + ncoWord (actF s (Reg.EO_DITHER slot) 0 11) * (s.time.uptime - base.2)) % 2 ^ 32

/-- The oscillator runs on from its phase where a commit has changed its frequency (R358). -/
def ncoChange (before : State) (slot : Nat) (s : State) : State :=
  if actF before (Reg.EO_DITHER slot) 0 11 = actF s (Reg.EO_DITHER slot) 0 11 then s
  else { s with nco := SMap.set (fun _ => none) s.nco slot (some (ncoPhase before slot, s.time.uptime)) }

/-! ### The segment directory -/

/-- Word `k` of segment entry `n` (R202). -/
def dirWord (s : State) (n k : Nat) : Word := reg s (Reg.SHAPE_DIR (4 * n + k))

/-- VALID of a segment. -/
def segValid (s : State) (n : Nat) : Bool := bitOf (dirWord s n 0) 31

/-- START of a segment. -/
def segStart (s : State) (n : Nat) : Nat := fld (dirWord s n 0) 0 20

/-- L of a segment, 1 to 16,384. -/
def segLen (s : State) (n : Nat) : Nat := fld (dirWord s n 1) 0 14 + 1

/-- STEP of a segment, 2.14. -/
def segStep (s : State) (n : Nat) : Nat := fld (dirWord s n 1) 16 16

/-- Sample `i` of the shape library in Q2.14 (R201). -/
def librarySample (s : State) (i : Nat) : Int := signed 16 (readMem s (0x1100000 + 2 * i) 2)

/-- v limited to −0.5 to +1.5 (R199). -/
def limitV (v : Int) : Int := clampInt (-8192) 24576 v

/-- A sample mapped between two levels (R199). -/
def mapSample (a b : Word) (v : Int) : Word := between a b (limitV v) 16384

/-- Whether mapping a sample limits it, before or after rounding (R199). -/
def sampleClips (a b : Word) (v : Int) : Bool :=
  let overRange := fun (x y : Nat) =>
    let r := rneDiv ((x : Int) * 16384 + limitV v * ((y : Int) - x)) 16384
    r < 0 || 4095 < r
  limitV v != v || overRange (ep a) (ep b) || overRange (en a) (en b)

/-- The level of the last source sample of a segment (R207, R216). -/
def segLastLevel (s : State) (n : Nat) (a b : Word) : Word :=
  mapSample a b (librarySample s (segStart s n + segLen s n - 1))

/-- SKEW of the epoch applied last, or else of EPOCH_CFG (R172, R209, R218). -/
def skewNow (s : State) : Nat :=
  match s.epochs.find? fun e => e.applied with
  | some e => e.skew
  | none => getF s Reg.EPOCH_CFG 0 6

/-- What the delay stage of a slot's column adds beyond whole output samples, in 1/256 of one (R218). -/
def fracDelay (s : State) (slot : Nat) : Nat :=
  ((((16 * (slot / 256) * skewNow s : Nat) : Int) + signed 16 s.align.trim.toNat) % 256).toNat

/-! ### The resampler (R199, R216 to R218) -/

/-- A sample mapped for one pad from code `x` to code `y`, unrounded, in 2^-14 code (R199). -/
def mapped (x y : Nat) (v : Int) : Int := (x : Int) * 16384 + limitV v * ((y : Int) - x)

/-- How many source samples the filter spans: 32 up to a step of 1, 32 output samples above it (R216, R217). -/
def filterSpan (step : Nat) : Nat := if step ≤ 0x4000 then 32 else (32 * step + 0x3FFF) / 0x4000

/-- A tap of the filter, in 2^-30; up to a step of 1, phase 0 has one tap of value 1 (R216, R217, assumption 10). -/
def filterTap (step phase k : Nat) : Int :=
  if step ≤ 0x4000 && phase = 0 then (if k = 15 then 2 ^ 30 else 0) else Config.filterTap (max 0x4000 step) phase k

/-- The filter's value over the source `x` at a position in 1/256 sample, in 2^-30 of the source's unit (R216, R217). -/
def filterAt (step : Nat) (x : Int → Int) (pos : Int) : Int :=
  let i := pos / 256
  let ph := (pos % 256).toNat
  if step ≤ 0x4000 && ph = 0 then x i * 2 ^ 30
  else ((List.range (filterSpan step)).map fun k => filterTap step ph k * x (i + k - ((filterSpan step / 2 : Nat) - 1 : Int))).sum

/-- Output sample `n` at a step, through the delay stage, in 2^-60 of the source's unit: the source position is n × step, truncated to
1/256 sample (R216 to R218). -/
def outputAt (step delay : Nat) (x : Int → Int) (n : Int) : Int :=
  let core := fun (m : Int) => filterAt step x (m * step / 64)
  if delay = 0 then core n * 2 ^ 30 else filterAt 0x4000 core (256 * n - delay)

/-- The code of a resampled value: rounded to nearest with ties to even, and limited (R199). -/
def outputCode (v : Int) : Nat := padCode (rneDiv v (2 ^ 74))

/-- Whether that limits it (R199). -/
def outputClips (v : Int) : Bool := let r := rneDiv v (2 ^ 74); r < 0 || 4095 < r

/-- The source values of one pad as a segment plays between two codes: the level output before it, its samples, and its last sample
(R216). -/
def segSource (s : State) (n x y before : Nat) (i : Int) : Int :=
  if i < 0 then (before : Int) * 16384 else mapped x y (librarySample s (segStart s n + min i.toNat (segLen s n - 1)))

/-- Output sample `k` of a segment on one pad, unrounded. -/
def segPad (s : State) (slot n x y before k : Nat) : Int := outputAt (segStep s n) (fracDelay s slot) (segSource s n x y before) k

/-- Output sample `k` of segment `n` on a slot's channel between two levels (R199, R216 to R218). -/
def segOutput (s : State) (slot n : Nat) (a b before : Word) (k : Nat) : Word :=
  let pad := fun (f : Word → Nat) => outputCode (segPad s slot n (f a) (f b) (f before) k)
  level (pad ep) (pad en)

/-- D: the output samples of one play of a segment (R216). -/
def segOutputs (s : State) (n : Nat) : Nat := (segLen s n * 0x4000 + segStep s n - 1) / max 1 (segStep s n)

/-- How many samples the device limits in the first `k` output samples of a play: a sample is counted once at a step of 1 with no
fractional delay, where it passes unchanged; otherwise source samples count before and output samples after resampling (R199). -/
def segClips (s : State) (slot n : Nat) (a b before : Word) (k : Nat) : Nat :=
  if segStep s n = 0x4000 && fracDelay s slot = 0 then
    ((List.range (min k (segLen s n))).filter fun i => sampleClips a b (librarySample s (segStart s n + i))).length
  else
    let taken := min (segLen s n) ((k * segStep s n + 0x3FFF) / 0x4000)
    let early := (List.range taken).filter fun i => let v := librarySample s (segStart s n + i); limitV v != v
    let late := (List.range k).filter fun i =>
      outputClips (segPad s slot n (ep a) (ep b) (ep before) i) || outputClips (segPad s slot n (en a) (en b) (en before) i)
    early.length + late.length

/-! ### What a channel plays -/

/-- The uptime at which the present play of a channel's segment ends. -/
def playEnd (s : State) (slot : Nat) : Nat := (channel s slot).since + 4 * segOutputs s (channel s slot).seg

/-- The output samples that a channel in PLAY has begun to present by an uptime (R191). -/
def playedBy (s : State) (slot u : Nat) : Nat :=
  min (segOutputs s (channel s slot).seg) ((u - (channel s slot).since + 3) / 4)

/-- The output of a channel in PLAY just before an uptime. -/
def playLevel (s : State) (slot u : Nat) : Word :=
  let ch := channel s slot
  let k := playedBy s slot u
  if k = 0 then ch.before else segOutput s slot ch.seg ch.lvlFrom ch.lvlTo ch.before (k - 1)

/-- The next output sample of the SHAPE grid (R214, assumption 6). -/
def nextSample (s : State) : Nat := (s.time.uptime / 4 + 1) * 4

/-- The SHAPE cycle of now (R213). -/
def shapeCycle (s : State) : Nat := s.time.uptime / 4

/-! ### Play groups -/

/-- The slots of a column. -/
def colSlots (c : Nat) : List Nat := (List.range 256).map fun t => 256 * c + t

/-- The play groups of a column apart from some slots: channels that began one segment at one output sample (R206). -/
def groupsBut (s : State) (c : Nat) (skip : Nat → Bool) : List (Nat × Nat) :=
  (colSlots c).foldl (fun acc n =>
    let ch := channel s n
    if ch.state == .play && !skip n && !acc.contains (ch.seg, ch.begun) then (ch.seg, ch.begun) :: acc else acc) []

/-- The groups that play in a column (R206). -/
def colGroups (s : State) (c : Nat) : List (Nat × Nat) := groupsBut s c fun _ => false

/-- What a segment's group counts: two above a step of 0x4000 (R206). -/
def groupWeight (s : State) (seg : Nat) : Nat := if segStep s seg > 0x4000 then 2 else 1

/-- Play groups in use, counted as R206 states. -/
def groupsInUse (s : State) (c : Nat) : Nat := ((colGroups s c).map fun e => groupWeight s e.1).sum

/-- Whether a segment may begin at an output sample beside the groups of a list: a group that begins it there plays already, or the
limit of 16 leaves room (R206). -/
def roomFor (s : State) (groups : List (Nat × Nat)) (seg begun : Nat) : Bool :=
  groups.contains (seg, begun) || (groups.map fun e => groupWeight s e.1).sum + groupWeight s seg ≤ 16

/-- Whether a channel's play ends by an uptime and does not begin again (R206, R211). -/
def leavesBy (s : State) (u n : Nat) : Bool :=
  let ch := channel s n
  let loop := fld (dirWord s ch.seg 2) 16 8
  playEnd s n ≤ u && (ch.jump.isSome || !(loop = 0xFF || ch.plays < loop))

/-- Whether a channel may begin a segment at an output sample: its own play no longer counts, nor do plays that end there
(R206). -/
def mayBegin (s : State) (slot seg begun : Nat) : Bool :=
  roomFor s (groupsBut s (slot / 256) fun n => n == slot || leavesBy s begun n) seg begun

/-! ### Counters of the EO bank -/

/-- Counts a dropped jump request (R212). -/
def jumpDropped (slot : Nat) (s : State) : State :=
  setInt (slotCol slot) 2 (bumpF (Reg.EO_COL_COUNT_A (slot / 256)) 16 16 s)

/-- Counts limited samples (R199). -/
def countClips (slot k : Nat) (s : State) : State :=
  if k = 0 then s
  else setInt (slotCol slot) 1 (setChannel slot { channel s slot with clipped := true }
    (addF (Reg.EO_COL_COUNT_A (slot / 256)) 0 16 k s))

/-- Counts a play group beyond the limit (R206). -/
def groupOverflow (slot : Nat) (s : State) : State :=
  setInt (slotCol slot) 4 (bumpF (Reg.EO_COL_COUNT_B (slot / 256)) 16 16 s)

/-- The samples that the present play of a channel has limited by an uptime (R199). -/
def playClips (s : State) (slot u : Nat) : Nat :=
  let ch := channel s slot
  segClips s slot ch.seg ch.lvlFrom ch.lvlTo ch.before (playedBy s slot u)

/-- Counts an abandoned chain (R199, R215). -/
def chainCut (slot : Nat) (s : State) : State :=
  setInt (slotCol slot) 5 (bumpF (Reg.EO_COL_COUNT_C (slot / 256)) 0 16 (countClips slot (playClips s slot s.time.uptime) s))

/-- Drops a pending jump, counted (R212, R215). -/
def dropPending (slot : Nat) (s : State) : State :=
  if (channel s slot).jump.isSome then jumpDropped slot (setChannel slot { channel s slot with jump := none } s) else s

/-! ### The sequencer -/

/-- The channel enters HOLD: a level that changed meanwhile takes effect by a direct step (R207, R215). -/
def enterHold (slot : Nat) (s : State) : State :=
  let ch := channel s slot
  let ch1 := if ch.due then ch.stepTo ch.target else { ch with out := ch.lvlTo }
  setChannel slot { ch1 with state := .hold, exiting := false, heldFast := false, since := s.time.uptime } s

/-- The level a channel outputs just before an uptime, at which what it plays ends. -/
def levelBefore (s : State) (slot u : Nat) : Word :=
  if (channel s slot).state == .play then playLevel s slot u else (channel s slot).out

/-- A segment begins on a channel from its FROM and TO, at an output sample (R206, R211, R214). -/
def beginPlay (slot seg begun : Nat) (s : State) : State :=
  let ch := channel s slot
  let w := levelBefore s slot begun
  let o := segOutput s slot seg ch.lvlFrom ch.lvlTo w 0
  setChannel slot { ch with
    state := .play, exiting := false, seg := seg, plays := 0, since := begun, begun := begun, before := w, took := none, out := o } s

/-- The chain halts: LINGER at the last source sample (R207, R211). -/
def chainHalt (slot at_ : Nat) (s : State) : State :=
  let ch := channel s slot
  setChannel slot { ch with state := .linger, since := at_, out := segLastLevel s ch.seg ch.lvlFrom ch.lvlTo } s

/-- A jump begins in fast mode at an output sample, or is dropped at the limit of play groups (R206, R214). -/
def takeJump (slot target begun : Nat) (s : State) : State :=
  let s1 := setChannel slot { channel s slot with jump := none } s
  if mayBegin s1 slot target begun then beginPlay slot target begun s1 else groupOverflow slot s1

/-- Rank of a jump source (R213). -/
def JumpSource.rank : JumpSource → Nat
  | .host => 0
  | .event => 1
  | .verdict => 2

/-- The target of a request: its own, or for DEFAULT the JUMP field of the segment playing or last played (R212). -/
def jumpTarget (s : State) (slot target : Nat) (dflt : Bool) : Option Nat :=
  if dflt then
    let w := dirWord s (channel s slot).seg 3
    if bitOf w 15 then some (fld w 0 10) else none
  else some target

/-- A request that begins to play at the next output sample; the channel keeps whose it was (R213, R214). -/
def jumpNow (slot target : Nat) (src : JumpSource) (s : State) : State :=
  let t := takeJump slot target (nextSample s) s
  if (channel t slot).state == .play then setChannel slot { channel t slot with took := some (shapeCycle s, src) } t else t

/-- A jump request with its target found valid meets the channel's state (R193, R212 to R214). Of requests in one SHAPE cycle that a
channel in READY or LINGER takes, the highest-ranked stands. -/
def placeJump (slot target : Nat) (src : JumpSource) (s : State) : State :=
  let ch := channel s slot
  let keep := fun (c : EoChannel) =>
    match c.jump with
    | none => setChannel slot { c with jump := some ⟨target, src⟩ } s
    | some j =>
      if src.rank > j.source.rank then jumpDropped slot (setChannel slot { c with jump := some ⟨target, src⟩ } s)
      else jumpDropped slot s
  match ch.state with
  | .play =>
    match ch.took with
    | some (c, first) =>
      if c != shapeCycle s then keep ch
      else if src.rank > first.rank then jumpDropped slot (jumpNow slot target src s)
      else jumpDropped slot s
    | none => keep ch
  | .wake => keep ch
  | .hold => setChannel slot { ch with state := .wake, since := s.time.uptime, jump := some ⟨target, src⟩ } s
  | .ready | .linger => jumpNow slot target src s
  | .stream | .held | .parked => jumpDropped slot s

/-- Whether a channel's outputs are held through a warm reset or a block reset of its column (R130, R136). -/
def channelHeld (s : State) (slot : Nat) : Bool :=
  (SMap.get (fun _ => LoopCell.empty) s.cells (slot / 4)).firstDue || phase s (slotCol slot) == .resetting

/-- A jump request (R212); a held channel keeps its level, and drops it (R130, R136, assumption 42). -/
def requestJump (slot target : Nat) (dflt : Bool) (src : JumpSource) (s : State) : State :=
  let st := (channel s slot).state
  if st == .stream || st == .held || st == .parked || underEoCal s slot || channelHeld s slot then jumpDropped slot s
  else
    match jumpTarget s slot target dflt with
    | none => jumpDropped slot s
    | some t => if segValid s t then placeJump slot t src s else jumpDropped slot s

/-- WAKE begins on a channel at an uptime; it outputs TO (R192, R193, R207). -/
def beginWake (slot at_ : Nat) (s : State) : State :=
  let ch := channel s slot
  setChannel slot { ch with state := .wake, exiting := false, since := at_, out := ch.lvlTo } s

/-- WAKE ends in READY at an uptime: CLIPPED and BAD_LINK clear (R207, R234). -/
def wakeReady (slot at_ : Nat) (s : State) : State :=
  setChannel slot { channel s slot with state := .ready, since := at_, clipped := false, badLink := false } s

/-- 1 µs after WAKE begins the channel is READY, and a waiting jump plays (R207, R214, R234). -/
def execWakeComplete (slot : Fin 2560) (s : State) : Out :=
  .next (let ch := channel s slot
    if ch.state == .wake then
      let s1 := wakeReady slot (ch.since + 1000) (advanceUptime (ch.since + 1000) s)
      match ch.jump with
      | some j => takeJump slot j.target (ch.since + 1000) s1
      | none => s1
    else s)

/-- READY with no start within 2 µs passes to LINGER, unless a transition is yet to start (R193, R207). -/
def execReadyTimeout (slot : Fin 2560) (s : State) : Out :=
  .next (let ch := channel s slot
    if ch.state == .ready && !ch.changing then
      setChannel slot { ch with state := .linger, since := ch.since + 2000 } (advanceUptime (ch.since + 2000) s)
    else s)

/-- The successor of a chain at an output sample: the next segment where END is NEXT and it is valid, else the chain halts (R206,
R211). -/
def followLink (slot at_ : Nat) (s : State) : State :=
  let ch := channel s slot
  let w := dirWord s ch.seg 2
  let next := fld w 0 10
  if fld w 10 2 = 1 then
    if segValid s next then
      if mayBegin s slot next at_ then beginPlay slot next at_ s else groupOverflow slot (chainHalt slot at_ s)
    else setChannel slot { channel (chainHalt slot at_ s) slot with badLink := true } (chainHalt slot at_ s)
  else chainHalt slot at_ s

/-- A segment plays again until LOOP + 1 plays are complete, then its link applies (R211). -/
def playOn (slot at_ : Nat) (s : State) : State :=
  let ch := channel s slot
  let loop := fld (dirWord s ch.seg 2) 16 8
  if loop = 0xFF || ch.plays < loop then
    setChannel slot { ch with plays := ch.plays + 1, since := at_, before := playLevel s slot at_, took := none } s
  else followLink slot at_ s

/-- The end of one play of a segment: a pending jump in place of what follows, unless the limit of play groups drops it; another
loop, the link or a halt (R206, R211, R214). -/
def execSegmentEnd (slot : Fin 2560) (s : State) : Out :=
  .next (let ch := channel s slot
    if ch.state == .play then
      let e := playEnd s slot
      let s1 := countClips slot (playClips s slot e) (advanceUptime e s)
      match ch.jump with
      | some j =>
        let s2 := takeJump slot j.target e s1
        if mayBegin s1 slot j.target e then s2 else playOn slot e s2
      | none => playOn slot e s1
    else s)

/-- EO_COL_CFG.LINGER of a slot's column, in ns. -/
def lingerTime (s : State) (slot : Nat) : Nat := 250 * getF s (Reg.EO_COL_CFG (slot / 256)) 0 6

/-- After LINGER the exit ramp begins; a HELD channel leaves fast mode (R207). -/
def execLingerExpiry (slot : Fin 2560) (s : State) : Out :=
  .next (let ch := channel s slot
    let e := ch.since + lingerTime s slot
    if ch.state == .linger && !ch.changing && !ch.exiting then setChannel slot { ch with exiting := true, since := e } (advanceUptime e s)
    else if ch.state == .held && ch.heldFast then setChannel slot { ch with heldFast := false, since := e } (advanceUptime e s)
    else s)

/-- Whether two levels differ by more than 2 LSB on either pad (R208). -/
def mismatched (a b : Word) : Bool :=
  absI ((ep a : Int) - ep b) > 2 || absI ((en a : Int) - en b) > 2

/-- The exit ramp ends: hold mode takes over at TO (R207, R208). -/
def execExitRampEnd (slot : Fin 2560) (s : State) : Out :=
  .next (let ch := channel s slot
    if ch.state == .linger && ch.exiting then
      enterHold slot (whenB (mismatched ch.out ch.lvlTo) (bumpF (Reg.EO_COL_COUNT_C (slot.val / 256)) 16 16) (advanceUptime (ch.since + 500) s))
    else s)

/-- A host write of EO_CH_JUMP with GO (R212). -/
def execEoChJump (req : Requester) (slot : Fin 2560) (target : BitVec 10) (dflt : Bool) (s : State) : Out :=
  .next (hostWrite req (Reg.EO_CH_JUMP (slot.val / 256) (slot.val % 256))
    (requestJump slot target.toNat dflt .host) s)

/-- The channels of a column that take its events (R234). -/
def eventSlots (s : State) (c : Nat) : List Nat :=
  (colSlots c).filter fun n => getBit s (Reg.EO_EVT_MASK c (n % 256 / 32)) (n % 32)

/-- The column's EO_JUMP_c task input receives its event, which is lost where the block refuses work (R212, R521, R528, R531). -/
def execEoJump (col : Fin 10) (s : State) : Out :=
  .next (match takeEvent col s with
    | none => s
    | some (_, s1) =>
      let a := Reg.EO_EVT_JUMP col
      let s2 := whenB (parkForced s1 || !(phase s1 (colPage col) == .running)) (taskLost col) s1
      forEach (eventSlots s2 col)
        (fun n t => requestJump n (getF s2 a 0 10) (getBit s2 a 15) .event t) s2)

/-- EO_COL_COUNT_CLR (R234). -/
def execEoColCountClr (req : Requester) (col : Fin 10) (s : State) : Out :=
  .next (hostWrite req (Reg.EO_COL_COUNT_CLR col)
    (fun t => setReg (Reg.EO_COL_COUNT_C col) 0 (setReg (Reg.EO_COL_COUNT_B col) 0 (setReg (Reg.EO_COL_COUNT_A col) 0 t))) s)

/-! ### Streams of the siphon -/

/-- The SIPHON page. -/
def siphonPage : Page := ⟨.siphon, 0⟩

/-- STATE of a stream (R236). -/
def streamState (s : State) (n : Nat) : Nat := getF s (Reg.SIPH_STATUS n) 0 3

/-- SLOT of a stream. -/
def streamSlot (s : State) (n : Nat) : Nat := getF s (Reg.SIPH_CFG n) 0 12

/-- Writes STATE of a stream and its bit of SIPH_ACTIVE: armed or playing (R236). -/
def setStreamState (n v : Nat) (s : State) : State :=
  setB Reg.SIPH_ACTIVE n (v == 1 || v == 2 || v == 3) (setF (Reg.SIPH_STATUS n) 0 3 v s)

/-- A level that FROM_SEL or TO_SEL chooses (R219). -/
def selLevel (s : State) (slot sel : Nat) : Word :=
  if sel = 0 then act s (Reg.EO_BAR slot) else if sel = 1 then act s (Reg.EO_CROSS slot)
  else if sel = 2 then act s (Reg.EO_PARK slot) else (channel s slot).target

/-- The DRAM address of a stream's region (R219, R236). -/
def streamBase (s : State) (n : Nat) : Nat := reg64 s (Reg.SIPH_ADDR_LO n) / 64 * 64 % 2 ^ 37

/-- Sample `i` of a stream on one pad, in 2^-14 code, before it is limited to codes (R199, R219). -/
def streamSample (s : State) (n : Nat) (f : Word → Nat) (i : Nat) : Int :=
  let slot := streamSlot s n
  if getBit s (Reg.SIPH_CFG n) 12 then (f (word (readDram s (streamBase s n + 4 * i) 4)) : Int) * 16384
  else mapped (f (selLevel s slot (getF s (Reg.SIPH_CFG n) 16 2))) (f (selLevel s slot (getF s (Reg.SIPH_CFG n) 18 2)))
    (signed 16 (readDram s (streamBase s n + 2 * i) 2))

/-- Sample `i` of a stream as a level word (R199, R219). -/
def streamLevel (s : State) (n i : Nat) : Word :=
  let pad := fun (f : Word → Nat) => padCode (rneDiv (streamSample s n f i) 16384)
  level (pad ep) (pad en)

/-- STEP of a stream. -/
def streamStep (s : State) (n : Nat) : Nat := getF s (Reg.SIPH_STEP n) 0 16

/-- LEN of a stream. -/
def streamLen (s : State) (n : Nat) : Nat := (reg s (Reg.SIPH_LEN n)).toNat

/-- A stream's source on one pad: the level before it, then its samples, one repetition after another (R216, R219). -/
def streamSource (s : State) (n : Nat) (f : Word → Nat) (i : Int) : Int :=
  if i < 0 then (f (channel s (streamSlot s n)).before : Int) * 16384 else streamSample s n f (i.toNat % max 1 (streamLen s n))

/-- Output sample `k` of a stream on one pad, unrounded. -/
def streamPad (s : State) (n : Nat) (f : Word → Nat) (k : Nat) : Int :=
  outputAt (streamStep s n) (fracDelay s (streamSlot s n)) (streamSource s n f) k

/-- Output sample `k` of a stream (R199, R216 to R219). -/
def streamOutput (s : State) (n k : Nat) : Word := level (outputCode (streamPad s n ep k)) (outputCode (streamPad s n en k))

/-- The output samples that a playing stream has begun to present by an uptime. -/
def streamedBy (s : State) (n u : Nat) : Nat := (u - (channel s (streamSlot s n)).since + 3) / 4

/-- The output samples that `m` source samples make (R216). -/
def streamOutputs (s : State) (n m : Nat) : Nat := (m * 0x4000 + streamStep s n - 1) / max 1 (streamStep s n)

/-- The repetitions that `k` output samples complete (R219, R236). -/
def streamReps (s : State) (n k : Nat) : Nat := min 65535 (k * streamStep s n / 0x4000 / max 1 (streamLen s n))

/-- The samples of a stream's first `k` outputs that the device limits, as of a segment (R199, R219). -/
def streamClips (s : State) (n k : Nat) : Nat :=
  let raw := getBit s (Reg.SIPH_CFG n) 12
  let source := fun (i : Nat) => signed 16 (readDram s (streamBase s n + 2 * (i % max 1 (streamLen s n))) 2)
  let clipped := fun (i : Nat) => outputClips (streamPad s n ep i) || outputClips (streamPad s n en i)
  let early := fun (i : Nat) => !raw && limitV (source i) != source i
  if streamStep s n = 0x4000 && fracDelay s (streamSlot s n) = 0 then ((List.range k).filter fun i => early i || clipped i).length
  else ((List.range ((k * streamStep s n + 0x3FFF) / 0x4000)).filter early).length + ((List.range k).filter clipped).length

/-- The stream whose STATE is not idle on a slot's channel (R221). -/
def streamOn (s : State) (slot : Nat) : Option Nat :=
  (List.range 32).find? fun n => streamState s n != 0 && streamSlot s n == slot

/-- The channel goes to HELD at a level, in fast mode for LINGER (R207, R222, R223). -/
def holdStream (n : Nat) (w : Word) (s : State) : State :=
  let slot := streamSlot s n
  setStreamState n 4 (setChannel slot { channel s slot with state := .held, heldFast := true, since := s.time.uptime, out := w } s)

/-- Counts the limited samples of a playing stream's first `k` outputs, and shows the repetitions that they complete (R199, R236). -/
def streamEnds (n k : Nat) (s : State) : State :=
  if streamState s n != 3 then s
  else countClips (streamSlot s n) (streamClips s n k) (setF (Reg.SIPH_STATUS n) 16 16 (streamReps s n k) (setF (Reg.SIPH_STATUS n) 8 8 0 s))

/-- Ends a stream with its channel left as it is: abandoned by a park, a role or an epoch (R215). -/
def abandonStream (slot : Nat) (preempt : Bool) (s : State) : State :=
  match streamOn s slot with
  | none => s
  | some n =>
    let s1 := setStreamState n 0 (streamEnds n (streamedBy s n s.time.uptime) s)
    if preempt then setInt siphonPage 2 (setB (Reg.SIPH_STATUS n) 5 true s1) else s1

/-- A throttled group selects measure `i` of HEAT_THR_ACT (R562, R570). -/
def throttle (s : State) (i : Nat) : Bool :=
  (s.dieThrottled && getBit s Reg.HEAT_THR_ACT i) || (s.picThrottled && getBit s Reg.HEAT_THR_ACT (8 + i))

/-- Whether GO is refused (R221, R562). -/
def goRefused (s : State) (n : Nat) : Bool :=
  let slot := streamSlot s n
  let step := getF s (Reg.SIPH_STEP n) 0 16
  let len := (reg s (Reg.SIPH_LEN n)).toNat
  let top := if getBit s (Reg.SIPH_CFG n) 12 then 0x2000 else 0x4000
  !(slot < s.variant.slots) || role s slot == roleUnused || (channel s slot).state == .parked || underEoCal s slot || channelHeld s slot ||
    (streamOn s slot).isSome || step < 0x400 || top < step || len == 0 || len % 32 != 0 || throttle s 0

/-- SIPH_n_CMD.GO: the stream begins to fill its queue (R220, R221, R237). -/
def execGo (req : Requester) (stream : Fin 32) (s : State) : Out :=
  .next (hostWrite req (Reg.SIPH_CMD stream) (fun t =>
    if streamState t stream != 0 || goRefused t stream then setB (Reg.SIPH_STATUS stream) 6 true t
    else setStreamState stream 1 (setReg (Reg.SIPH_STATUS stream) 0 t)) s)

/-- A stream becomes empty before its last sample, or starts with too little (R220, R222). -/
def siphonUnderrun (n : Nat) (w : Word) (s : State) : State :=
  let s1 := holdStream n w s
  let s2 := bumpF Reg.SIPH_UNDERRUNS 0 16 (setB (Reg.SIPH_STATUS n) 4 true (setB (Reg.SIPH_STATUS n) 3 true s1))
  publish 10 (SMap.get (fun _ => 0) s2.siphonGen n) (setInt siphonPage 1 s2)

/-- Whether a channel is not in fast mode, so that a stream on it begins with WAKE (R193). -/
def needsWake (ch : EoChannel) : Bool := ch.state == .hold || ch.state == .wake || (ch.state == .held && !ch.heldFast)

/-- A stream starts on its channel at a start instant with `fill` KiB in its queue, or is treated as an underrun. A channel in hold mode
begins WAKE 1 µs before and is READY at the start; a chain and a pending jump that the stream meets are abandoned (R193, R215, R216,
R220). -/
def startStream (n fill start : Nat) (s : State) : State :=
  let slot := streamSlot s n
  let ch := channel s slot
  let s1 := if needsWake ch then
      wakeReady slot start (advanceUptime start (if ch.state == .wake then s else beginWake slot (start - 1000) (advanceUptime (start - 1000) s)))
    else advanceUptime start s
  let s2 := setF (Reg.SIPH_STATUS n) 8 8 (min fill 64) s1
  if fill < 16 then siphonUnderrun n (levelBefore s2 slot start) s2
  else
    let s3 := dropPending slot s2
    let w := levelBefore s3 slot start
    let s4 := if (channel s3 slot).state == .play then chainCut slot s3 else s3
    let s5 := setChannel slot { channel s4 slot with
      state := .stream, exiting := false, clipped := false, badLink := false, since := start, before := w } s4
    setStreamState n 3 (setChannel slot { channel s5 slot with out := streamOutput s5 n 0 } s5)

/-- Brings the state to an EO output instant, given in 1/64 ns of PTP time with the device trim added: whole SHAPE cycles counted from the
last SYNC pulse, which left ε after its millisecond, at the leader's increment, or the member's own TIME clock while it has none
(R226, R230, R470). -/
def shapeStart (x : Nat) (s : State) : State :=
  match s.align.pulse with
  | some (u, t) =>
    if getBit s Reg.SHAPE_ALIGN_STATUS 4 then advanceTo ((x + 63) / 64) s
    else
      let leads := getF s Reg.RING_CFG 0 3 ≤ 1 || getBit s Reg.RING_STATUS 4
      let incr := if leads then s.time.incrNow else s.ring.leaderIncr.getD s.time.incrNow
      advanceUptime ((u : Int) + ((x : Int) - (64 * t + s.ring.epsilon : Nat)) * 2 ^ 25 / incr * 4).toNat s
  | none => advanceTo ((x + 63) / 64) s

/-- An armed stream reaches its start event (R220, R226): the instant of START_MODE 1 with the device trim, or its queue full in
START_MODE 0. -/
def execSiphonStreamStart (stream : Fin 32) (fill : Nat) (s : State) : Out :=
  .next (let mode := getF s (Reg.SIPH_CFG stream) 14 2
    if streamState s stream == 1 && mode != 2 then
      let at_ := (((64 * (reg64 s Reg.SIPH_START_T_LO / 4 * 4) : Nat) : Int) + signed 16 s.align.trim.toNat).toNat
      let start := if mode = 1 then (shapeStart at_ s).time.uptime else s.time.uptime
      startStream stream fill start { s with siphonGen := SMap.set (fun _ => 0) s.siphonGen stream 0 }
    else s)

/-- The SIPHON_START task input receives its event: a channel in hold mode wakes then, and its stream starts 1 µs later (R220, R521,
R528, assumption 11). -/
def execSiphonStart (fills : List StreamFill) (s : State) : Out :=
  .next (match takeEvent 10 s with
    | none => s
    | some (g, s1) =>
      let armed := (List.range 32).filter fun n => streamState s1 n == 1 && getF s1 (Reg.SIPH_CFG n) 14 2 == 2
      let wakes := armed.any fun n => needsWake (channel s1 (streamSlot s1 n))
      let start := s1.time.uptime + (if wakes then 1000 else 0)
      if armed.isEmpty then taskLost 10 s1
      else forEach armed (fun n t =>
        startStream n (((fills.find? fun e => e.stream == n).map StreamFill.fill).getD 64) start
          { t with siphonGen := SMap.set (fun _ => 0) t.siphonGen n (g + 1) }) s1)

/-- A playing stream's queue runs empty after `reps` repetitions and at sample `position` of the next (R222). -/
def execSiphonUnderrun (stream : Fin 32) (position reps : Nat) (s : State) : Out :=
  .next (if streamState s stream == 3 then
      let k := streamOutputs s stream (reps * streamLen s stream + position + 1)
      let s1 := advanceUptime ((channel s (streamSlot s stream)).since + 4 * k) s
      siphonUnderrun stream (streamLevel s stream position) (setF (Reg.SIPH_STATUS stream) 16 16 (min reps 65535) (streamEnds stream k s1))
    else s)

/-- A stream plays its last sample: HELD, STREAM_END and the event SIPHON_END (R223, R236, R520). -/
def siphonEnd (n : Nat) (w : Word) (s : State) : State :=
  publish 11 (SMap.get (fun _ => 0) s.siphonGen n) (setInt siphonPage 0 (holdStream n w s))

/-- The end of a stream's last repetition (R219, R223). -/
def execSiphonEnd (stream : Fin 32) (s : State) : Out :=
  .next (let rep := getF s (Reg.SIPH_REPEAT stream) 0 16
    if streamState s stream == 3 && rep != 0xFFFF then
      let k := streamOutputs s stream ((rep + 1) * streamLen s stream)
      let s1 := streamEnds stream k (advanceUptime ((channel s (streamSlot s stream)).since + 4 * k) s)
      siphonEnd stream (streamLevel s stream (streamLen s stream - 1)) (setF (Reg.SIPH_STATUS stream) 16 16 (min (rep + 1) 65535) s1)
    else s)

/-- Ends a stream at the next output sample, which a playing one holds as at its end; one that waits goes idle (R223). -/
def abortStream (n : Nat) (s : State) : State :=
  if streamState s n == 3 then
    let k := streamedBy s n s.time.uptime
    siphonEnd n (streamOutput s n k) (streamEnds n (k + 1) s)
  else if streamState s n == 1 || streamState s n == 2 then setStreamState n 0 s
  else s

/-- SIPH_n_CMD.ABORT (R223). -/
def execAbort (req : Requester) (stream : Fin 32) (s : State) : Out :=
  .next (hostWrite req (Reg.SIPH_CMD stream) (abortStream stream) s)

/-- SIPH_n_CMD.RELEASE: a HELD channel steps to the level in service and goes to HOLD (R223). -/
def execRelease (req : Requester) (stream : Fin 32) (s : State) : Out :=
  .next (hostWrite req (Reg.SIPH_CMD stream) (fun t =>
    if streamState t stream == 4 then
      let slot := streamSlot t stream
      let ch := channel t slot
      if ch.state == .held then
        setStreamState stream 0 (enterHold slot (setChannel slot (ch.stepTo ch.target) t))
      else setStreamState stream 0 t
    else t) s)

/-! ### Park and direct steps -/

/-- CHAIN_CUT, pending jump and stream of a channel that is taken out of what it plays (R215). -/
def abandon (slot : Nat) (s : State) : State :=
  let s1 := abandonStream slot false (dropPending slot s)
  if (channel s1 slot).state == .play then chainCut slot s1 else s1

/-- The channel enters PARKED at its slot's park level; `forced` for CLEAR_N and PARK, which only an epoch ends
(R139, R210, R215). -/
def eoPark (forced : Bool) (slot : Nat) (s : State) : State :=
  let s1 := abandon slot s
  let ch := channel s1 slot
  let ch1 := ch.stepTo (parkLevel s1 slot)
  let f := ch.forced || forced
  setChannel slot { ch1 with state := .parked, exiting := false, heldFast := false, changing := false, forced := f, since := s1.time.uptime } s1

/-- The slots the variant has. -/
def allSlots (s : State) : List Nat := List.range s.variant.slots

/-! ### The shape library -/

/-- Whether a byte range touches the samples of a valid segment (R204). -/
def segTouches (s : State) (lo n seg : Nat) : Bool :=
  segValid s seg && lo < 2 * (segStart s seg + segLen s seg) && 2 * segStart s seg < lo + n

/-- The lowest segment that protects a byte range of the library (R204). -/
def protector (s : State) (lo n : Nat) : Option Nat := (List.range 1024).find? fun k => segTouches s lo n k

/-- Counts an ignored write (R204, R235). -/
def shapeIgnored (seg : Nat) (s : State) : State := setF Reg.SHAPE_IGNORED 16 10 seg (bumpF Reg.SHAPE_IGNORED 0 16 s)

/-- A word of a directory entry written while its VALID is 0; END keeps its value on a reserved code (R96, R202). -/
def writeDirWord (n k : Nat) (v : Word) (s : State) : State :=
  let a := Reg.SHAPE_DIR (4 * n + k)
  let m := v &&& word (shapeDirMask k)
  let w := if k = 2 && fld m 10 2 ≥ 2 then setFld m 10 2 (fld (reg s a) 10 2) else m
  setReg a (if k = 0 then setFld w 31 1 0 else w) s

/-- A write of word 0 with VALID = 1: the checks of R203. -/
def validate (n : Nat) (v : Word) (s : State) : State :=
  let s1 := writeDirWord n 0 v s
  let result := fun (ok : Bool) (reason : Nat) (t : State) =>
    setReg Reg.SHAPE_DIR_RESULT (word (b2n ok + 2 * reason + 2 ^ 16 * n)) t
  if segStart s1 n + segLen s1 n - 1 > 1048575 then result false 2 s1
  else if segStep s1 n < 0x400 || 0x8000 < segStep s1 n then result false 3 s1
  else result true 0 (setB (Reg.SHAPE_DIR (4 * n)) 31 true s1)

/-- A write of word 0 with VALID = 1 to segment `seg` (R203, R204). -/
def execSegmentValidate (req : Requester) (seg : BitVec 10) (data : Word) (s : State) : Out :=
  .next (hostWrite req (Reg.SHAPE_DIR (4 * seg.toNat)) (fun t =>
    if segValid t seg.toNat then shapeIgnored seg.toNat t
    else if bitOf data 31 then validate seg.toNat data t
    else writeDirWord seg.toNat 0 data t) s)

/-- A write to one word of the directory (R202 to R204). -/
def writeDirAt (o : Nat) (v : Word) (t : State) : State :=
  let n := o / 16
  if segValid t n then shapeIgnored n t
  else if o % 16 / 4 = 0 && bitOf v 31 then validate n v t else writeDirWord n (o % 16 / 4) v t

/-- A write of `n` bytes to the shape library or the segment directory (R203, R204). -/
def shapeWrite (a n data : Nat) (s : State) : State :=
  match decodeAddr s.variant a with
  | .shape o =>
    match protector s o n with
    | some k => shapeIgnored k s
    | none => writeMem a (toBytes n data) s
  | .page ⟨.col, 0⟩ o =>
    if !(0x8000 ≤ o && o < 0xC000) then s
    else if n = 4 then writeDirAt (o - 0x8000) (lo32 data) s
    else
      let k := (o - 0x8000) / 16
      if segValid s k then shapeIgnored k s
      else writeDirAt (o - 0x8000) (lo32 data) (writeDirWord k (o % 16 / 4 + 1) (hi32 data) s)
  | _ => s

/-- SHAPE_LIBRARY_WRITE (R97, R204). -/
def execShapeLibraryWrite (req : Requester) (addr : BitVec 28) (size : AccessSize) (data : DWord) (s : State) : Out :=
  .next (sizedWrite req addr.toNat size.bytes (shapeWrite addr.toNat size.bytes data.toNat) s)

/-- Whether something names a segment (R205). -/
def segReferenced (s : State) (n : Nat) : Bool :=
  ((allSlots s).any fun k => driven s k &&
    (actF s (Reg.EO_SEG_A k) 0 10 == n || actF s (Reg.EO_SEG_A k) 16 10 == n || actF s (Reg.EO_SEG_B k) 0 10 == n ||
      actF s (Reg.EO_SEG_B k) 16 10 == n)) ||
  ((List.range s.variant.columns).any fun c => getF s (Reg.EO_EVT_JUMP c) 0 10 == n) ||
  s.eo.any fun e => (e.2.state == .play && e.2.seg == n) || (e.2.jump.map Jump.target) == some n

/-- SHAPE_DIR_CMD.INVALIDATE (R205, R235). -/
def execShapeDirInvalidate (req : Requester) (seg : BitVec 10) (s : State) : Out :=
  .next (hostWrite req Reg.SHAPE_DIR_CMD (fun t =>
    let n := seg.toNat
    if segReferenced t n then setReg Reg.SHAPE_DIR_RESULT (word (2 * 1 + 2 ^ 16 * n)) t
    else setReg Reg.SHAPE_DIR_RESULT (word (1 + 2 ^ 16 * n)) (setB (Reg.SHAPE_DIR (4 * n)) 31 false t)) s)

/-! ### Alignment -/

/-- Puts the low 16 bits of a signed number. -/
def word16 (i : Int) : Nat := unsignedOf 16 i

/-- A ring's size as the alignment sees it: one for a stand-alone device (R418). -/
def alignSize (s : State) : Nat := max 1 (getF s Reg.RING_CFG 0 3)

/-- How many hops a SYNC pulse has made on arriving here, from the leader's position; all of the ring for the leader's own (R63, R227). -/
def alignHops (s : State) : Nat :=
  let n := alignSize s
  let k := if n = 1 then 0 else (s.pins.pos + n - getF s Reg.RING_STATUS 2 2) % n
  if k = 0 then n else k

/-- The expected arrival after a pulse's instant, as a numerator over the ring's size, in 15.625 ps: k × (Λ − ΣRPT) / n plus the RPT of
each member between (R227). -/
def expectedArrival (s : State) (loopDelay : Nat) (rpts : List Nat) : Int :=
  let n := alignSize s
  let lead := if n = 1 then 0 else getF s Reg.RING_STATUS 2 2
  let rpt := fun (j : Nat) => ((rpts[(lead + j) % n]?).getD 0 : Nat)
  let sum := fun (m : Nat) => (((List.range m).filter fun j => j != 0).map rpt).sum
  let k := alignHops s
  (k : Int) * ((loopDelay : Int) - (sum n : Nat)) + ((n * sum k : Nat) : Int)

/-- θ: a measured arrival less the expected one; its rounding is open (R227, assumption 9). -/
def arrivalOffset (s : State) (loopDelay : Nat) (rpts : List Nat) (arrival : Int) : Int :=
  openDiv ((alignSize s : Int) * arrival - expectedArrival s loopDelay rpts) (alignSize s)

/-- How far an arrival departs from the calibrated expectation: the expected arrival for the present leader's position less the device
trim (R227, R230). -/
def departure (s : State) (arrival : Int) : Int :=
  arrivalOffset s s.align.loopDelay s.align.rpts arrival + signed 16 s.align.trim.toNat

/-- A SYNC pulse arrives, `arrival` × 15.625 ps after its instant on this member's grid (R225, R230, R235, R470). -/
def syncArrival (arrival : Int) (s : State) : State :=
  let s1 := setB Reg.SHAPE_ALIGN_STATUS 4 false s
  if s1.align.skip then { s1 with align := { s1.align with skip := false } }
  else
    let l := (departure s arrival :: s1.align.departures).take 16
    let s2 := { s1 with align := { s1.align with departures := l } }
    if l.length < 16 then s2
    else
      let s3 := setF Reg.SHAPE_SYNC_OFFSET 0 16 (word16 (openDiv l.sum 16)) s2
      if absI l.sum * 15625 > 50000 * 16 then setInt (colPage 0) 9 (setB Reg.SHAPE_ALIGN_STATUS 3 true s3) else s3

/-- The uptime and the whole millisecond of PTP time for which a pulse that arrives now stands (R225 to R227). -/
def pulseOrigin (s : State) : Nat × Nat :=
  (s.time.uptime - (expectedArrival s s.align.loopDelay s.align.rpts / (64 * (alignSize s : Int))).toNat, (ptpNow s + 500000) / 1000000 * 1000000)

/-- Two offsets agree within 10 ps (R227). -/
def thetaAgree (a b : Int) : Bool := absI (a - b) * 15625 ≤ 10000

/-- A skew calibration ends on this member: θ of both passes, and whether every other member agrees (R227, R235). -/
def skewCalComplete (theta1 theta2 : Int) (othersAgree : Bool) (s : State) : State :=
  let s1 := setB Reg.SHAPE_ALIGN_STATUS 1 true (setB Reg.SHAPE_ALIGN_STATUS 0 false s)
  let own := thetaAgree theta1 theta2
  let s2 := setB Reg.SHAPE_ALIGN_STATUS 2 (!own) s1
  let s3 := if own && othersAgree then setF Reg.SHAPE_DEV_TRIM 0 16 (word16 (-theta2)) s2 else s2
  setInt (colPage 0) 8 s3

/-! ### EO level calibration -/

/-- EO_CAL_CMD.START; what the channel plays is abandoned (R215, R231). -/
def execEoCalStart (req : Requester) (col : Fin 10) (tier : Fin 256) (darkOk maxIsCross : Bool) (s : State) : Out :=
  .next (hostWrite req (Reg.EO_CAL_CMD col) (fun t =>
    let slot := 256 * col.val + tier.val
    if (driven t slot && !darkOk) || (SMap.get (fun _ => none) t.eoCal col).isSome || parkForced t then
      setB (Reg.EO_CAL_STATUS col) 3 true t
    else
      let t1 := { t with eoCal := SMap.set (fun _ => none) t.eoCal col (some ⟨tier, maxIsCross, t.time.uptime⟩) }
      let t2 := abandon slot t1
      let ch := channel t2 slot
      let st := if ch.state == .parked then SeqState.parked else .hold
      setReg (Reg.EO_CAL_STATUS col) (word (1 + 256 * tier.val))
        (setChannel slot { ch with state := st, exiting := false, heldFast := false, changing := false } t2)) s)

/-- The differential code D of point `i` of the sweep (R232). -/
def sweepPoint (i : Nat) : Int := 16 * (i : Int) - 2730

/-- The turning points of a sweep in order: the index, and whether it is a maximum. Of equal neighbours the first counts (R232,
assumption 8). -/
def turningPoints (l : List Int) : List (Nat × Bool) :=
  let v := fun (i : Nat) => (l[i]?).getD 0
  (List.range (l.length - 2)).filterMap fun j =>
    let i := j + 1
    if v j < v i && v (i + 1) ≤ v i then some (i, true) else if v i < v j && v i ≤ v (i + 1) then some (i, false) else none

/-- The adjacent maximum and minimum whose midpoint lies nearest D = 0, as indices of the sweep (R232). -/
def chosenPair (l : List Int) : Option (Nat × Nat) :=
  let t := turningPoints l
  let pairs := (t.zip t.tail).filterMap fun e =>
    if e.1.2 && !e.2.2 then some (e.1.1, e.2.1) else if !e.1.2 && e.2.2 then some (e.2.1, e.1.1) else none
  let far := fun (e : Nat × Nat) => absI (sweepPoint e.1 + sweepPoint e.2)
  pairs.foldl (fun m e => match m with
    | none => some e
    | some b => if far e < far b then some e else some b) none

/-- The extreme of the parabola that fits best, by least squares, points from −64 to +64 codes in steps of 2 about D (R232). -/
def parabolaExtreme (d : Int) (l : List Int) : Rat :=
  let xs := l.mapIdx fun i y => ((2 * (i : Int) - 64), y)
  let s := fun (f : Int → Int → Int) => (xs.map fun e => f e.1 e.2).sum
  let n : Int := xs.length
  let sxx := s fun x _ => x * x
  let a : Int := n * s (fun x y => x * x * y) - sxx * s fun _ y => y
  let c : Int := n * s (fun x _ => x * x * x * x) - sxx * sxx
  let b : Int := s fun x y => x * y
  if a = 0 || sxx = 0 then (d : Rat) else (d : Rat) - (b * c : Rat) / (2 * a * sxx : Rat)

/-- The two extremes that a run finds, as differential codes: the maximum, then the minimum (R232). -/
def runExtremes (r : SweepRun) : Option (Rat × Rat) :=
  (chosenPair r.sweep).map fun e => (parabolaExtreme (sweepPoint e.1) r.nearMax, parabolaExtreme (sweepPoint e.2) r.nearMin)

/-- Two differential extremes agree within 8 mV (R190, R232). -/
def extremesAgree (a b : Rat) : Bool := decide (a - b ≤ (8 * 4096 : Rat) / 4500) && decide (b - a ≤ (8 * 4096 : Rat) / 4500)

/-- D/2 of the two runs' extremes, a whole code between their bounds (R232, assumption 8). -/
def calHalf (d1 d2 : Rat) : Int :=
  let lo := (min d1 d2 / 2).floor
  let hi := (max d1 d2 / 2).ceil
  clampInt lo hi (Config.calHalf lo hi)

/-- The level that a calibration writes for an extreme (R232). -/
def calLevel (d1 d2 : Rat) : Word := level (padCode (2048 + calHalf d1 d2)) (padCode (2048 - calHalf d1 d2))

/-- Writes a level word of both views (R232, R108). -/
def setLevelBoth (a : Nat) (w : Word) (s : State) : State := setAct a w (setReg a w s)

/-- A level calibration ends with what its two runs measured (R232 to R234). -/
def execEoCalComplete (col : Fin 10) (run1 run2 : SweepRun) (s : State) : Out :=
  .next (match SMap.get (fun _ => none) s.eoCal col with
    | none => s
    | some c =>
      let slot := 256 * col.val + c.tier
      let s1 := ditherFrom slot { s with eoCal := SMap.set (fun _ => none) s.eoCal col none }
      let fin := fun (st : Nat) (t : State) => setInt (colPage col) 0 (setReg (Reg.EO_CAL_STATUS col) (word (st + 256 * c.tier)) t)
      match runExtremes run1, runExtremes run2 with
      | some a, some b =>
        if extremesAgree a.1 b.1 && extremesAgree a.2 b.2 then
          let hi := calLevel a.1 b.1
          let lo := calLevel a.2 b.2
          let s2 := setLevelBoth (Reg.EO_BAR slot) (if c.maxIsCross then lo else hi)
            (setLevelBoth (Reg.EO_CROSS slot) (if c.maxIsCross then hi else lo) s1)
          let ch := channel s2 slot
          fin 2 (if ch.state == .parked then s2
            else setChannel slot { ch.stepTo (serviceLevel s2 slot ch.cross ch.atten) with state := .hold } s2)
        else fin 6 s1
      | _, _ => fin (2 + 4 + 16) s1)

/-! ### The pads (R56, R207, R234) -/

/-- Whether the driver-stage lockout holds the outputs: from power-on to P5, or while VDD or VDDIO is too low (R56, R124). -/
def lockedOut (s : State) : Bool := s.pins.lockout || s.pins.vddLow || s.pins.vddioLow

/-- Dither on a pad's code, `sign` times the sine of its oscillator; the rounding is open (R194, assumption 9). -/
def dithered (s : State) (slot code : Nat) (sign : Int) : Nat :=
  padCode ((code : Int) + openDiv (sign * (ditherAmp s slot).1 * fixSine (ncoPhase s slot) (2 ^ 32)) fixOne)

end Sys2Proof.Machine
end

