-- ==== Sys2Proof/Machine/HeaterDrive.lean ====
section
/-! DEFINITION. Heater drive (R238 to R259): codes and magnitudes, precedence at the driver stage, PWM frames, the
budget, read-back and protection. -/

namespace Sys2Proof.Machine

open Sys2Proof

/-- The driver stage of a slot. -/
def heater (s : State) (slot : Nat) : Heater := SMap.get (fun _ => Heater.zero) s.heaters slot

/-- Writes the driver stage of a slot. -/
def setHeater (slot : Nat) (h : Heater) (s : State) : State :=
  { s with heaters := SMap.set (fun _ => Heater.zero) s.heaters slot h }

/-- SPAN of a slot: bipolar or unipolar (R240, R257). -/
def bipolar (s : State) (slot : Nat) : Bool := bitOf (act s (Reg.HTR_CFG slot)) 0

/-- The park code of a slot (R257). -/
def parkCode (s : State) (slot : Nat) : Nat := actF s (Reg.HTR_PARK slot) 0 16

/-- The magnitudes of HA and HB for a code (R240). -/
def magnitudes (bip : Bool) (code : Nat) : Nat × Nat :=
  if bip then
    let c := signed 16 code
    if 0 ≤ c then (2 * c.toNat, 0) else (0, min 65535 (2 * c.natAbs))
  else (code, 0)

/-- A magnitude under a cap; 0 is no cap (R248). -/
def capped (cap m : Nat) : Nat := if cap = 0 then m else min cap m

/-- The magnitudes of a row 7 code under the slot's limits (R248). -/
def limitedMags (s : State) (slot code : Nat) : Nat × Nat :=
  let m := magnitudes (bipolar s slot) code
  (capped (actF s (Reg.HTR_LIMIT slot) 0 16) m.1, capped (actF s (Reg.HTR_LIMIT slot) 16 16) m.2)

/-- The code that the driver stage reports to the pump: the code itself, or the one whose magnitude is the cap (R248). -/
def reportedCode (s : State) (slot code : Nat) : Nat :=
  let m := magnitudes (bipolar s slot) code
  let l := limitedMags s slot code
  if m = l then code
  else if bipolar s slot then
    if 0 ≤ signed 16 code then l.1 / 2 else unsignedOf 16 (-(l.2 / 2 : Nat))
  else l.1

/-- Whether the device stands in a thermal shutdown (R148, R565). -/
def thermalDown (s : State) : Bool := getF s Reg.GLB_PRIME_STATUS 0 4 == 0xF

/-- The over-current latch of output h of a column, OVERCURRENT in its read-back word (R254). -/
def rbAddr (c h : Nat) : Nat := if h % 2 = 0 then Reg.HTR_RB_A c (h / 2) else Reg.HTR_RB_B c (h / 2)

/-- The latch of R254. -/
def latched (s : State) (c h : Nat) : Bool := getBit s (rbAddr c h) 20

/-- The over-temperature flag of the bank of a tier (R255). -/
def bankFlag (s : State) (c tier : Nat) : Bool := getBit s (Reg.HTR_COL_STATUS c) (tier / 64)

/-- What governs a slot's outputs (R244): rows 1, 2 and a bank flag open both; the row below gives a code. -/
inductive Govern where
  | opened
  | park (code : Nat)
  | held (code : Nat)
  | code (code : Nat) (source : CodeSource)
  deriving DecidableEq, Repr

/-- The governing row of a slot, the single-output latch of row 3 apart (R244). -/
def govern (s : State) (slot : Nat) : Govern :=
  let r := role s slot
  let h := heater s slot
  if lockedOut s || thermalDown s || bankFlag s (slot / 256) (slot % 256) then .opened
  else if parkForced s && r != roleUnused then .park (parkCode s slot)
  else
    match h.held with
    | some c => .held c
    | none =>
      if r = roleSpare then .park (parkCode s slot) else if r = roleUnused then .opened else .code h.code h.source

/-- The magnitudes at a slot's outputs before scaling (R240, R244, R248). -/
def slotMags (s : State) (slot : Nat) : Nat × Nat :=
  let cut := fun (m : Nat × Nat) =>
    (if latched s (slot / 256) (2 * (slot % 256)) then 0 else m.1, if latched s (slot / 256) (2 * (slot % 256) + 1) then 0 else m.2)
  match govern s slot with
  | .opened => (0, 0)
  | .park c => cut (magnitudes (bipolar s slot) c)
  | .held c => cut (magnitudes (bipolar s slot) c)
  | .code c _ => cut (limitedMags s slot c)

/-- The magnitude of output h of a column. -/
def outputMag (s : State) (c h : Nat) : Nat :=
  let m := slotMags s (256 * c + h / 2)
  if h % 2 = 0 then m.1 else m.2

/-- The code that drives a slot, whatever row gives it; an open slot drives code 0 (R35, R133). -/
def driverCode (s : State) (slot : Nat) : Nat :=
  match govern s slot with
  | .opened => 0
  | .park c => c
  | .held c => c
  | .code c _ => c

/-- Whether a slot takes updates: row 7 governs one of its outputs at least, and no read-back calibration refuses them (R245, R256). -/
def rowSeven (s : State) (slot : Nat) : Bool :=
  match govern s slot with
  | .code _ _ => !(latched s (slot / 256) (2 * (slot % 256)) && latched s (slot / 256) (2 * (slot % 256) + 1)) &&
      !SMap.get (fun _ => false) s.htrCal (slot / 256)
  | _ => false

/-- BUDGET_LIMIT of the present frame (R250). -/
def scaling (s : State) : Bool := getBit s Reg.HTR_BUDGET_STATUS 0

/-- k of the present frame (R249). -/
def scaleK (s : State) : Nat := getF s Reg.HTR_BUDGET_STATUS 16 16

/-- HTR_STATE of a slot as its governing row gives it (R258). -/
def htrStateWord (s : State) (slot : Nat) : Word :=
  let latch := latched s (slot / 256) (2 * (slot % 256)) && latched s (slot / 256) (2 * (slot % 256) + 1)
  let sc := scaling s && slotMags s slot != (0, 0)
  let make := fun (code src : Nat) (clip off : Bool) =>
    word (code + 2 ^ 16 * b2n clip + 2 ^ 17 * b2n sc + 2 ^ 18 * src + 2 ^ 20 * b2n off)
  match govern s slot with
  | .opened => make 0 0 (heater s slot).clipped true
  | .park c => make c 0 (heater s slot).clipped latch
  | .held _ => make (heater s slot).taken 3 (heater s slot).clipped (latch || role s slot == roleUnused)
  | .code _ src =>
    make (reportedCode s slot (heater s slot).taken) (match src with | .park => 0 | .pump => 1 | .host => 2) (heater s slot).clipped latch

/-- Whether a cap reduces a magnitude of a slot's row 7 code (R248). -/
def isCapped (s : State) (slot : Nat) : Bool := magnitudes (bipolar s slot) (heater s slot).code != limitedMags s slot (heater s slot).code

/-- CLIPPED and CLIP for a row 7 code that has come into force, or meets a new cap (R248, R258). -/
def noteClip (slot : Nat) (s : State) : State :=
  let clip := isCapped s slot
  whenB clip (bumpF (Reg.HTR_COUNT_A (slot / 256)) 0 16) (setHeater slot { heater s slot with clipped := clip } s)

/-- The codes of which a frame start from an uptime on may take one: those that came within 16 ns of it, and the last one before
(R243). -/
def stillDue (t : Nat) (l : List (Nat × Nat)) : List (Nat × Nat) :=
  (l.filter fun e => t < e.2 + 16) ++ (l.find? fun e => e.2 + 16 ≤ t).toList

/-- The row 7 code that a frame start of HA at an uptime takes: the last that arrived 16 ns before it (R243). -/
def Heater.codeAt (h : Heater) (u : Nat) : Nat :=
  (((h.code, h.arrived) :: h.earlier).find? fun e => e.2 + 16 ≤ u).elim h.taken Prod.fst

/-- The driver stage takes a code under row 7 (R243, R245, R248); it shows at the output's next frame start. -/
def acceptCode (slot code : Nat) (src : CodeSource) (s : State) : State :=
  let h := heater s slot
  let t := s.time.uptime
  noteClip slot (setHeater slot { h with code := code, source := src, arrived := t, earlier := stillDue t ((h.code, h.arrived) :: h.earlier) } s)

/-- A code that the device itself gives a slot, from now on and with no wait for its arrival; a held code becomes it too (R35, R246,
R247). -/
def presetCode (slot code : Nat) (s : State) : State :=
  let h := heater s slot
  noteClip slot (setHeater slot { h with
    code := code, source := .park, arrived := 0, earlier := [], taken := code, held := h.held.map fun _ => code } s)

/-- A code from a pump: ignored while a row above 7 governs both outputs (R245). -/
def pumpCode (slot code : Nat) (s : State) : State := if rowSeven s slot then acceptCode slot code .pump s else s

/-- MODE_ACTIVE of a cell: automatic (R293, R302). -/
def cellAuto (s : State) (cell : Nat) : Bool := getBit s (Reg.CELL_STATUS cell) 0

/-- Whether a slot's outputs are flagged STALE (R302). -/
def stale (s : State) (slot : Nat) : Bool := getBit s (Reg.CELL_STATUS (slot / 4)) (8 + slot % 4)

/-- STATUS.STALE of a column page: some cell of it is flagged (the STATUS map). -/
def refreshStale (c : Nat) (s : State) : State :=
  setB (Reg.STATUS (colPage c)) 3 ((List.range 64).any fun i => getF s (Reg.CELL_STATUS (64 * c + i)) 8 4 != 0) s

/-- Sets or clears a slot's STALE flag. -/
def setStale (b : Bool) (slot : Nat) (s : State) : State :=
  refreshStale (slot / 256) (setB (Reg.CELL_STATUS (slot / 4)) (8 + slot % 4) b s)

/-- A host write of HTR_HOST_t (R245). -/
def execHtrHostWrite (req : Requester) (slot : Fin 2560) (code : BitVec 16) (s : State) : Out :=
  .next (hostWrite req (Reg.HTR_HOST (slot.val / 256) (slot.val % 256)) (fun t =>
    if rowSeven t slot && !cellAuto t (slot.val / 4) then
      let k := slot.val / 4
      let cell := SMap.get (fun _ => LoopCell.empty) t.cells k
      acceptCode slot code.toNat .host { t with cells := SMap.set (fun _ => LoopCell.empty) t.cells k { cell with hostWrote := true } }
    else bumpF (Reg.HTR_COUNT_A (slot.val / 256)) 16 16 t) s)

/-! ### Frames and the budget -/

/-- The accumulator of an output: its field of HTR_ACC (R239, R258). -/
def accLow (h : Nat) : Nat := if h % 2 = 0 then 0 else 8

/-- m′ of R249, where scaling acts. -/
def scaledMag (s : State) (m : Nat) : Nat := if scaling s then m * scaleK s / 65536 else m

/-- φ: how many PWM clocks after the global frame boundary an output's frame begins (R238). -/
def frameOffset (c h : Nat) : Nat := (8 * (h % 128) + 2 * (h / 128) + c % 2) % 1024

/-- The first uptime from `u` on at which a frame of an output begins; global frame boundaries are the multiples of 2,048 ns of uptime
(R238, assumption 6). -/
def frameFrom (c h u : Nat) : Nat := u + (2 * frameOffset c h + 2048 - u % 2048) % 2048

/-- The PWM frame in progress of an output. -/
def frame (s : State) (c h : Nat) : Option HeaterFrame := SMap.get (fun _ => none) s.frames (512 * c + h)

/-- The next frame start of an output (R238). -/
def nextFrame (s : State) (c h : Nat) : Nat :=
  frameFrom c h (match frame s c h with
    | some f => max s.time.uptime (f.start + 1)
    | none => s.time.uptime)

/-- The code with which a slot's outputs begin a frame when HA starts at an uptime (R243, R244). -/
def codeFrom (s : State) (slot u : Nat) : Nat :=
  match govern s slot with
  | .opened => 0
  | .park c => c
  | .held c => c
  | .code _ _ => (heater s slot).codeAt u

/-- The code with which output h of a column begins a frame at an uptime: in bipolar span HB takes the code that HA took at its own
frame start, so that the two are never closed together (R243). -/
def startCode (s : State) (c h u : Nat) : Nat :=
  let slot := 256 * c + h / 2
  match govern s slot with
  | .opened => 0
  | .park k => k
  | _ => if h % 2 = 1 && bipolar s slot then (heater s slot).taken else codeFrom s slot u

/-- The magnitude of output h of a column for a code, under the row that governs and the latch of the output (R240, R244, R248). -/
def magOf (s : State) (c h code : Nat) : Nat :=
  let slot := 256 * c + h / 2
  let m := match govern s slot with
    | .opened => (0, 0)
    | .code _ _ => limitedMags s slot code
    | _ => magnitudes (bipolar s slot) code
  if latched s c h then 0 else if h % 2 = 0 then m.1 else m.2

/-- HA's frame start takes the slot's code for both outputs (R243). -/
def takeCode (slot : Nat) (s : State) : State := setHeater slot { heater s slot with taken := codeFrom s slot s.time.uptime } s

/-- An output begins its next frame: the latest code takes effect at HA, and the accumulator decides the on-time
(R238, R239, R243, R249). -/
def execPwmFrameStart (col : Fin 10) (output : Fin 512) (s : State) : Out :=
  .next (if col.val < s.variant.columns then
      let h := output.val
      let key := 512 * col.val + h
      let u := nextFrame s col h
      let s1 := advanceUptime u s
      let m := scaledMag s1 (magOf s1 col h (startCode s1 col h u))
      let a := Reg.HTR_ACC col (h / 2)
      let sum := getF s1 a (accLow h) 6 + m % 64
      let on := m / 64 + (if 64 ≤ sum then 1 else 0)
      let s2 := setF a (accLow h) 6 (sum % 64) { s1 with
        onTime := SMap.set (fun _ => 0) s1.onTime key on
        frames := SMap.set (fun _ => none) s1.frames key (some ⟨u, m, ((frame s1 col h).map HeaterFrame.mag).getD 0⟩) }
      whenB (h % 2 == 0) (takeCode (256 * col + h / 2)) s2
    else s)

/-- R_i of an output in 0.1 ohm: the last valid read-back, or 120 ohm (R249). -/
def outputRes (s : State) (c h : Nat) : Nat :=
  let w := reg s (rbAddr c h)
  if bitOf w 31 && fld w 0 16 != 0 then fld w 0 16 else 1200

/-- An output's magnitude as it will stand at its next frame start: HB's, in bipolar span, by the code of the frame start of HA before it
(R243, R249). -/
def nextMag (s : State) (c h : Nat) : Nat :=
  let slot := 256 * c + h / 2
  let u := nextFrame s c h
  if h % 2 = 1 && bipolar s slot && nextFrame s c (h - 1) < u then magOf s c h (codeFrom s slot (nextFrame s c (h - 1)))
  else magOf s c h (startCode s c h u)

/-- The estimate of a column's heater power in mW (R249). -/
def colPower (s : State) (v c : Nat) : Rat :=
  ((List.range 512).map fun h => ((nextMag s c h * v * v : Nat) : Rat) / ((65536 * 100 * outputRes s c h : Nat) : Rat)).sum

/-- A power in mW as a register shows it; the rounding is open (assumption 9). -/
def showMw (p : Rat) : Nat := min 65535 (openDiv p.num p.den).toNat

/-- B in mW: the lower of HTR_BUDGET and 18 A × V, and of HEAT_THR_BUDGET under a throttle (R249, R562). -/
def effectiveBudget (s : State) (v : Nat) : Nat :=
  let b := min (getF s Reg.HTR_BUDGET 0 16) (18 * v)
  if throttle s 3 then min b (getF s Reg.HEAT_THR_BUDGET 0 16) else b

/-- The budget at the next global frame boundary (R249, R250, R259). -/
def budgetAt (s : State) : State :=
    let v := getF s (Reg.PWR_RAIL_MV 5) 0 16
    let cols := List.range s.variant.columns
    let b := effectiveBudget s v
    if v = 0 then setReg Reg.HTR_BUDGET_STATUS 0xFFFF0000 (setReg Reg.HTR_TOTAL_MW 0 s)
    else
      let powers := cols.map fun c => colPower s v c
      let total := powers.sum
      let s1 := forEach (cols.zip powers) (fun e t => setF (Reg.HTR_COL_MW e.1) 0 16 (showMw e.2) t) s
      let s2 := setReg Reg.HTR_TOTAL_MW (word (showMw total + 2 ^ 16 * min b 65535)) s1
      if (b : Rat) < total then
        let k := ((65536 * b : Nat) / total : Rat).floor.toNat
        let s3 := setReg Reg.HTR_BUDGET_STATUS (word (1 + 2 ^ 16 * min k 65535)) (addF Reg.HTR_LIMITED_FRAMES 0 32 1 s2)
        if scaling s then s3 else setFault (colPage 0) 6 (setInt (colPage 0) 19 s3)
      else setReg Reg.HTR_BUDGET_STATUS 0xFFFF0000 s2

/-- The global frame boundary: the budget's evaluation (R249, assumption 6). -/
def execBudgetEvaluation (s : State) : Out := .next (budgetAt (advanceUptime (ceilDiv s.time.uptime 2048 * 2048) s))

/-! ### Read-back and protection -/

/-- Whether a visit samples the on-state: the frame's on-time is 200 clocks or more (R252). -/
def onState (s : State) (c h : Nat) : Bool := 200 ≤ SMap.get (fun _ => 0) s.onTime (512 * c + h)

/-- R = V / I of a visit in 0.1 ohm: by the sampled current, or by the probe's 100 µA; the rounding is open, and no current gives the
highest value (R252, assumptions 9 and 44). -/
def visitRes (s : State) (c h : Nat) (r : ReadBack) : Nat :=
  let i := if onState s c h then r.current else 100
  if i = 0 then 65535 else (openDiv ((10 * r.heater : Nat) : Int) i).toNat

/-- The switch drop V_B − V of an on-state visit, in µV (R252). -/
def switchDrop (r : ReadBack) : Int := (r.rail : Int) - r.heater

/-- The checks of R253 that a visit fails, as a mask: OPEN, SHORT, SWITCH_FAULT, DRIFT. -/
def rbChecks (s : State) (c h : Nat) (r : ReadBack) : Nat :=
  let on := onState s c h
  let res := visitRes s c h r
  let rcal := getF s (if h % 2 = 0 then Reg.HTR_RCAL_A c (h / 2) else Reg.HTR_RCAL_B c (h / 2)) 0 16
  let opened := res > 8000 || (on && r.current * 800 < r.heater)
  let sw := if on then (r.heater : Int) < switchDrop r else r.rail < 2 * r.heater
  let drift := rcal != 0 && absI ((res : Int) - rcal) * 100 > getF s (Reg.HTR_COL_CFG c) 0 5 * rcal
  b2n opened + 2 * b2n (decide (res < 900)) + 4 * b2n (decide sw) + 8 * b2n drift

/-- A check that failed on two consecutive visits sets its bits (R253, R258). -/
def readbackFail (c h i : Nat) (s : State) : State :=
  setInt (colPage c) 16 (setFault (colPage c) i (bumpF (Reg.HTR_COUNT_B c) 0 16 (setB (rbAddr c h) (16 + i) true s)))

/-- The outputs that read-back visits: none of UNUSED slots or of slots with RB_OFF (R251). -/
def rbEligible (s : State) (c h : Nat) : Bool :=
  let slot := 256 * c + h / 2
  c < s.variant.columns && role s slot != roleUnused && !bitOf (act s (Reg.HTR_CFG slot)) 1

/-- The scan of bank b of a column. -/
def bankScan (s : State) (c b : Nat) : BankScan := SMap.get (fun _ => ⟨0, false⟩) s.rbScan (4 * c + b)

/-- The outputs of a bank that read-back visits, in ascending h (R251). -/
def bankOutputs (s : State) (c b : Nat) : List Nat := ((List.range 128).map fun i => 128 * b + i).filter fun h => rbEligible s c h

/-- The output that a bank's scan visits next: the first from its place on, or else from the start (R251). -/
def nextVisit (s : State) (c b : Nat) : Option Nat :=
  let l := bankOutputs s c b
  (l.find? fun h => (bankScan s c b).next ≤ h % 128).or l.head?

/-- The scan of a bank goes on past output h. The column's pass is complete when each bank that has an output to visit has come round
(R251, R258). -/
def passOn (c b h : Nat) (s : State) : State :=
  let around := !((bankOutputs s c b).any fun k => h < k)
  let put := fun (k : Nat) (v : BankScan) (t : State) => { t with rbScan := SMap.set (fun _ => ⟨0, false⟩) t.rbScan (4 * c + k) v }
  let s1 := put b ⟨if around then 0 else h % 128 + 1, around || (bankScan s c b).around⟩ s
  if (List.range 4).all fun k => (bankScan s1 c k).around || (bankOutputs s1 c k).isEmpty then
    wrapF (Reg.HTR_COL_STATUS c) 16 16 (forEach (List.range 4) (fun k t => put k ⟨(bankScan t c k).next, false⟩ t) s1)
  else s1

/-- A visit of the output at which its bank's scan stands (R251 to R253). -/
def execReadbackVisit (col : Fin 10) (output : Fin 512) (sample : ReadBack) (s : State) : Out :=
  .next (
    let c := col.val
    let h := output.val
    if nextVisit s c (h / 128) == some h then
      let key := 512 * c + h
      let fails := rbChecks s c h sample
      let twice := fun i => fails / 2 ^ i % 2 = 1 && SMap.get (fun _ => 0) s.rbFail key / 2 ^ i % 2 = 1
      let s1 := setB (rbAddr c h) 31 true (setF (rbAddr c h) 0 16 (min (visitRes s c h sample) 65535)
        { s with rbFail := SMap.set (fun _ => 0) s.rbFail key fails })
      passOn c (h / 128) h (forEach ((List.range 4).filter fun i => twice i) (readbackFail c h) s1)
    else s)

/-- A switch limits for 1 µs: its latch sets and it opens (R254). -/
def execOvercurrent (col : Fin 10) (output : Fin 512) (s : State) : Out :=
  .next (if col.val < s.variant.columns then
      let c := col.val
      let h := output.val
      let s1 := setB (rbAddr c h) 20 true { s with onTime := SMap.set (fun _ => 0) s.onTime (512 * c + h) 0 }
      setInt (colPage c) 17 (setFault (colPage c) 4 (bumpF (Reg.HTR_COUNT_B c) 16 16 s1))
    else s)

/-- A bank's detector trips: all 128 outputs open (R255). -/
def execBankOt (col : Fin 10) (bank : Fin 4) (s : State) : Out :=
  .next (if col.val < s.variant.columns then
      let c := col.val
      let s1 := setB (Reg.HTR_COL_STATUS c) bank true
        { s with onTime := SMap.dropRange s.onTime (512 * c + 128 * bank.val) 128 }
      setInt (colPage c) 18 (setFault (colPage c) 5 s1)
    else s)

/-- Clears what read-back and over-current set on one output (R253, R254). -/
def clearOutput (c h : Nat) (s : State) : State :=
  setF (rbAddr c h) 16 5 0 { s with rbFail := SMap.set (fun _ => 0) s.rbFail (512 * c + h) 0 }

/-- HTR_FAULT_CLR; `hot` tells which bank detectors read above 120 °C, whose flags stay (R253 to R255, R258). -/
def execHtrFaultClr (req : Requester) (col : Fin 10) (data : BitVec 16) (hot : BitVec 4) (s : State) : Out :=
  .next (hostWrite req (Reg.HTR_FAULT_CLR col) (fun t =>
    let c := col.val
    let w := word data.toNat
    let tier := fld w 0 8
    let outs := if bitOf w 10 then List.range 512
      else (if bitOf w 8 then [2 * tier] else []) ++ (if bitOf w 9 then [2 * tier + 1] else [])
    let banks := (List.range 4).filter fun b => bitOf w (12 + b) && !hot.getLsbD b
    forEach banks (fun b u => setB (Reg.HTR_COL_STATUS c) b false u) (forEach outs (clearOutput c) t)) s)

/-- HTR_COUNT_CLR (R258). -/
def execHtrCountClr (req : Requester) (col : Fin 10) (s : State) : Out :=
  .next (hostWrite req (Reg.HTR_COUNT_CLR col)
    (fun t => setReg (Reg.HTR_COUNT_B col) 0 (setReg (Reg.HTR_COUNT_A col) 0 t)) s)

/-- The code that drives a slot below rows 1 to 3 (R244). -/
def lowerCode (s : State) (slot : Nat) : Nat :=
  if parkForced s then parkCode s slot
  else (heater s slot).held.getD (if role s slot = roleSpare then parkCode s slot else (heater s slot).code)

/-- Holds the code of a slot under row 5; an UNUSED slot has none (R130, R136, R137, R256). -/
def holdCode (slot : Nat) (s : State) : State :=
  if role s slot = roleUnused then s
  else setHeater slot { heater s slot with held := some (lowerCode s slot) } s

/-- Releases a held code (R246, R256). -/
def releaseCode (slot : Nat) (s : State) : State :=
  setHeater slot { heater s slot with held := none } s

/-! ### Park -/

/-- A slot's heaters go to the park code now: the accumulators clear, a held code is released and, for SWITCH and ATTEN,
the code accepted last becomes the park code (R139, R246). -/
def htrPark (slot : Nat) (s : State) : State :=
  let c := slot / 256
  let s0 := setHeater slot { heater s slot with held := none, taken := parkCode s slot } s
  let s1 := if driven s slot then presetCode slot (parkCode s0 slot) s0 else s0
  let s2 := setReg (Reg.HTR_ACC c (slot % 256)) 0 s1
  let m := slotMags s2 slot
  let now := fun (h m : Nat) (t : State) =>
    let f := (frame t c h).getD ⟨t.time.uptime, 0, 0⟩
    { t with
      onTime := SMap.set (fun _ => 0) t.onTime (512 * c + h) (m / 64)
      frames := SMap.set (fun _ => none) t.frames (512 * c + h) (some { f with mag := m }) }
  let h := 2 * (slot % 256)
  now (h + 1) (scaledMag s2 m.2) (now h (scaledMag s2 m.1) s2)

end Sys2Proof.Machine
end

