-- ==== Sys2Proof/Machine/PageReset.lean ====
section
/-! DEFINITION. What a block reset does to the words of a page (R90), and the fields that each chapter names as
surviving. -/

namespace Sys2Proof.Machine

open Sys2Proof

/-- The size of a register page in bytes (R84). -/
def pageSize (p : Page) : Nat :=
  match p.kind with
  | .col => 0x10000
  | _ => 0x1000

/-- The bits of the word at offset `o` that a block reset keeps (R90, R109, R143, R235, R253 to R255, R309, R345, R352, R354,
R414, R530, R568, R588, R635, R639); a column's accumulators and the Wellhead's read-only words show state that is not the page's. -/
def keptBits (p : Page) (o : Nat) : Nat :=
  if o = 0x08 then 0x9
  else if o = 0x28 then 0x3
  else if o < 0x40 then 0
  else if ((findIn (blockRegs p) o).map RegDef.cal).getD false then 0xFFFFFFFF
  else
    match p.kind with
    | .col =>
      if p.inst = 0 && 0x8000 ≤ o && o < 0xC000 then 0xFFFFFFFF
      else if 0x2000 ≤ o && o < 0x2200 then 0xFFFFFFFF
      else if 0x5000 ≤ o && o < 0x6000 && 8 ≤ o % 16 then 0x1F0000
      else if o = 0x104 then 0xF
      else if 0x6000 ≤ o && o < 0x6400 then 0xFFFFFFFF
      else 0
    | .route => if o = 0x40 || (0x80 ≤ o && o < 0x180) then 0xFFFFFFFF else 0
    | .evt => if o = 0x40 || 0xB00 ≤ o then 0xFFFFFFFF else 0
    | .tw | .pw => if o = 0x40 then 0xFFFFFFFF else if o = 0x44 then 0x11 else 0
    | .hw => if o = 0x44 then 0x11 else 0
    | .pwr => if 0x44 ≤ o then 0xFFFFFFFF else 0
    | .heat => if o = 0x64 then 0xFFFFFFFF else 0
    | .capt => if 0x800 ≤ o && o % 8 = 0 then 0xFFFFFFFF else 0
    | .xbar => if 0x44 ≤ o && o < 0x80 then 0xFFFFFFFF else 0
    | .wellhead => if o = 0x48 || o = 0x4C || o = 0x68 || 0x400 ≤ o then 0 else 0xFFFFFFFF
    | _ => 0

/-- The word left at an address of the page by a block reset. -/
def resetKeep (p : Page) (a : Nat) (v : Word) : Word :=
  let k := word (keptBits p (a - pageBase p))
  (v &&& k) ||| (resetWord a &&& ~~~k)

/-- Applies a word function to the listed words of an address range, in canonical form. -/
def mapRange (lo n : Nat) (f : Nat → Word → Word) (m : SMap Word) : SMap Word :=
  (m.map fun e => if lo ≤ e.1 && e.1 < lo + n then (e.1, f e.1 e.2) else e).filter fun e => !decide (e.2 = resetWord e.1)

/-- The shadows of a range take the active values (R106, R136). -/
def shadowFromActive (lo n : Nat) (s : State) : State :=
  let follow := fun (a : Nat) (v : Word) => if isShadowed a then act s a else v
  let regs := (SMap.keep isShadowed (SMap.slice s.active lo n)).foldl (fun m e => SMap.set resetWord m e.1 e.2) (mapRange lo n follow s.regs)
  { s with regs := regs }

/-- The registers of a page after a block reset (R90): FREEZE clears, shadow contents and any armed commit are discarded. The
active routing entries of EVT survive (R530), and the element table of a column keeps its active values (R136). -/
def resetPageRegs (p : Page) (s : State) : State :=
  let b := pageBase p
  let n := pageSize p
  let s1 := { s with
    regs := mapRange b n (resetKeep p) s.regs
    active := if p.kind = .evt then s.active else SMap.dropRange s.active b n
    bus := { s.bus with frozen := SMap.set (fun _ => none) s.bus.frozen b none } }
  let s2 := match p.kind with
    | .evt => shadowFromActive b n s1
    | .col => shadowFromActive (Reg.SLOT_CFG (256 * p.inst)) (64 * 256) s1
    | _ => s1
  if p.kind = .col && (SMap.get (fun _ => none) s.colCommit p.inst).isSome then setB (Reg.SHADOW_STATUS p) 2 true s2 else s2

/-! ### Census copies -/

/-- The first `n` words of a census image stand in its area (R626). -/
def censusStore (n : Nat) (c : CensusCopy) (s : State) : State :=
  let a := 0x4000000 + c.base
  let s1 := { s with mem := SMap.dropRange s.mem a (4 * n) }
  forEach (c.words.filter fun e => e.1 < n) (fun e t => writeMem (a + 4 * e.1) (toBytes 4 e.2.toNat) t) s1

/-- A census copy ends where it stands; how much of the area it has written is open (R626, assumption 2). -/
def censusStop (s : State) : State :=
  match s.census with
  | some c => draw (censusStore (openNow s % (c.size / 4 + 1)) c { s with census := none })
  | none => s

/-- Ends a census copy with ABORTED (R626). -/
def censusAbort (s : State) : State :=
  if s.census.isSome then setB Reg.CEN_STATUS 3 true (setB Reg.CEN_STATUS 0 false (censusStop s)) else s

end Sys2Proof.Machine
end

