-- ==== Sys2Proof/Machine/Samples.lean ====
section
/-! DEFINITION. The slots of the wells, calibrated samples and what one sample shows (R326 to R338, R347), and the lock-in demodulator
(R358, R359). -/

namespace Sys2Proof.Machine

open Sys2Proof

/-! ### Samples (R326, R327, R329) -/

/-- The range in use of a channel (R329, CH_STATUS). -/
def chRange (s : State) (w i : Nat) : Nat := getF s (Reg.CH_STATUS w i) 0 2

/-- The range changes of a channel. -/
def changesOf (s : State) (w i : Nat) : List (Nat × Nat) := SMap.get (fun _ => []) s.rangeChanges (16 * w + i)

/-- The range of a channel at an uptime (R329). -/
def rangeAt (s : State) (w i u : Nat) : Nat := (((changesOf s w i).filter fun e => u < e.2).getLast?.map Prod.fst).getD (chRange s w i)

/-- FS_r in 0.1 nA (R326). -/
def fullScale (r : Nat) : Nat := ([20000000, 2000000, 200000, 20000][r]?).getD 0

/-- The sample unit of a range in half picoamperes (R326). -/
def sampleUnit (r : Nat) : Nat := 125 * 10 ^ (3 - r)

/-- Half picoamperes in 0.125 nA. -/
def halfPico : Nat := 250

/-- The calibrated sample of a raw code of a channel on a range; a well that does not own the input adds its converter trim to the home
well's values (R327, R337). -/
def calibrated (s : State) (w i r raw : Nat) (by_ : Nat) : Int :=
  let c := reg s (Reg.CH_CAL w (4 * i + r))
  let ofs := signed 16 (fld c 16 16) + (if by_ = w then 0 else Config.trimOfs by_)
  let gain := (fld c 0 16 : Int) + (if by_ = w then 0 else Config.trimGain by_)
  clampInt (-32768) 32767 (rneDiv ((16 * (raw : Int) - ofs) * gain) 65536)

/-- The calibrated sample of a raw code on the range in use (R327). -/
def calSample (s : State) (w i raw : Nat) : Int := calibrated s w i (chRange s w i) raw w

/-- Whether a raw code carries OVER (R327). -/
def isOver (raw : BitVec 12) : Bool := decide (4090 ≤ raw.toNat)

/-- The calibration run of a well. -/
def calRun (s : State) (w : Nat) : Option CalRun := SMap.get (fun _ => none) s.calRun w

/-- Whether an external calibration flags an input STALE (R348). -/
def externalCal (s : State) (w i : Nat) : Bool :=
  match calRun s w with
  | some r => r.phase != .internal && r.channels / 2 ^ i % 2 == 1
  | none => false

/-- One sample of a channel shows in CH_LAST, CH_STATUS and INT_STATUS (R327, R355, R357). -/
def recordSample (w i : Nat) (raw : BitVec 12) (s : State) : State :=
  let v := calSample s w i raw.toNat
  let s1 := setReg (Reg.CH_LAST w i) (word (unsignedOf 16 v + 2 ^ 16 * chRange s w i + 2 ^ 20 * raw.toNat)) s
  let s2 := setB (Reg.CH_STATUS w i) 4 (!getBit s (Reg.WELL_STATUS w) 0) (setB (Reg.CH_STATUS w i) 3 (isOver raw) s1)
  whenB (isOver raw) (setInt (wellPage w) 5) s2

/-! ### The slots of a well (R330, R331, R333) -/

/-- The number of inputs of a tap or port well (R330); a housekeeping well has no channel registers (R356). -/
def wellInputs (w : Nat) : Nat := if w < 160 then 16 else if w < 288 then 8 else 0

/-- The inputs that a mask selects. -/
def maskInputs (w mask : Nat) : List Nat := (List.range (wellInputs w)).filter fun i => mask / 2 ^ i % 2 == 1

/-- The channel that an internal run calibrates at an uptime: channels in ascending order, and of each its ranges, each for the time it
takes (R347, assumption 47). -/
def calChannelAt (w channels ranges start u : Nat) : Option Nat :=
  let steps := (maskInputs w channels).flatMap fun i => (maskInputs w (ranges % 16)).map fun r => (i, min 100000 (Config.calTime w i r))
  let done := steps.foldl (fun (acc : Option Nat × Nat) e =>
    if acc.1.isSome then acc else if u < acc.2 + e.2 then (some e.1, acc.2) else (none, acc.2 + e.2)) (none, start)
  done.1

/-- What a well does at an uptime other than its scan. -/
def spanAt (s : State) (w u : Nat) : Option WellSpan :=
  (SMap.get (fun _ => []) s.wellSpans w).find? fun p => p.from_ ≤ u && (match p.until_ with | some e => u < e | none => true)

/-- The slot of the WELL count that begins first at or after an uptime (R331). -/
def slotFrom (origin u : Nat) : Nat := (u - origin + 24) / 25

/-- The inputs of a list in turn, one each second slot of one parity from slot `f` on: the one of slot `n`. -/
def halfTurn (l : List Nat) (f n : Nat) : Option Nat := l[(n - f) / 2 % max 1 l.length]?

/-- The others of a well in turn, from the input at which the scan stood at slot `f` (R333). -/
def othersFrom (w f : Nat) (pinned : List Nat) : List Nat :=
  let k := f % wellInputs w
  let l := (List.range (wellInputs w)).filter fun i => !pinned.contains i
  (l.filter fun i => k ≤ i) ++ l.filter fun i => i < k

/-- The front end, as well and input, of which a well produces a sample in slot `n` of the WELL count (R331, R333, R336, R347). -/
def slotInput (s : State) (origin w n : Nat) : Option (Nat × Nat) :=
  let u := origin + 25 * n
  match spanAt s w u with
  | none => some (w, n % wellInputs w)
  | some p =>
    let f := slotFrom origin p.from_
    match p.use with
    | .shared l => (if n % 2 = 0 then halfTurn l f n else halfTurn (othersFrom w f l) f n).map fun i => (w, i)
    | .exclusive l => (l[(n - f) % max 1 l.length]?).map fun i => (w, i)
    | .bound t => some (2 * (w / 2) + t / 16, t % 16)
    | .calibrating c r start =>
      match calChannelAt w c r start u with
      | some i => if n % 2 = 0 then none else (halfTurn (othersFrom w 0 [i]) 0 n).map fun j => (w, j)
      | none => some (w, n % wellInputs w)
    | .idle => none

/-- The sample instants of a front end by one well, in half nanoseconds of uptime, later than `a` and not later than `b`: the rising WELL
edges, and the edges 12.5 ns later where a tap well converts for its partner (R331, R337). -/
def edges (s : State) (w i by_ a b : Nat) : List Nat :=
  match s.wellOrigin with
  | none => []
  | some o =>
    let ofs := if by_ % 2 = 1 && by_ < 160 && (match spanAt s by_ (b / 2) with | some p => (match p.use with | .bound _ => true | _ => false) | none => false)
      then 25 else 0
    let lo := slotFrom o (a / 2 - 25)
    let l := (List.range ((b / 2 - a / 2) / 25 + 3)).map fun k => lo + k
    (l.filter fun n => slotInput s o by_ n == some (w, i)).filterMap fun n =>
      let t := 2 * (o + 25 * n) + ofs
      if a < t && t ≤ b then some t else none

/-- The other well of a tap pair, which converts a bound input too (R336). -/
def pairWell (w : Nat) : Nat := if w % 2 = 0 then w + 1 else w - 1

/-- Puts an instant and the well that converts at it in order of time. -/
def insertEdge (x : Nat × Nat) : List (Nat × Nat) → List (Nat × Nat)
  | [] => [x]
  | y :: r => if x.1 ≤ y.1 then x :: y :: r else y :: insertEdge x r

/-- Every conversion of a front end in a span of half nanoseconds, with the well that makes it, in order of time. -/
def conversions (s : State) (w i a b : Nat) : List (Nat × Nat) :=
  let own := (edges s w i w a b).map fun t => (t, w)
  if w < 160 then (edges s w i (pairWell w) a b).foldr (fun t l => insertEdge (t, pairWell w) l) own else own

/-- Whether a conversion is the one that a range change discards: the channel's first from the change on (R329). -/
def discarded (s : State) (w i t : Nat) : Bool :=
  (changesOf s w i).any fun e => 2 * e.2 ≤ t && (conversions s w i (2 * e.2 - 1) (t - 1)).isEmpty

/-- The samples of a front end in a span of half nanoseconds: their instants and the wells that made them (R329, R331). -/
def samplesIn (s : State) (w i a b : Nat) : List (Nat × Nat) := (conversions s w i a b).filter fun e => !discarded s w i e.1

/-- Whether the gaps of a list of instants are at most 800 ns. -/
def gapsClose : List Nat → Bool
  | a :: b :: r => decide (b ≤ a + 1600) && gapsClose (b :: r)
  | _ => true

/-- Whether a front end is in scan at every instant from uptime `a` to uptime `b`: a sample of it at or within 800 ns before (R332). -/
def inScan (s : State) (w i a b : Nat) : Bool :=
  let l := (samplesIn s w i (2 * a - 1601) (2 * b)).map Prod.fst
  match l.head?, l.getLast? with
  | some x, some y => decide (x ≤ 2 * a) && decide (2 * b ≤ y + 1600) && gapsClose l
  | _, _ => false

/-- The current of a sample in half picoamperes: v × u_r (R327, R337). -/
def sampleCurrent (s : State) (w i : Nat) (e : Nat × Nat) (raw : BitVec 12) : Int :=
  let r := rangeAt s w i (e.1 / 2)
  calibrated s w i r raw.toNat e.2 * (sampleUnit r : Nat)

/-- The samples of a span with the raw codes that the wells returned for them, as instants and currents. -/
def currents (s : State) (w i a b : Nat) (raws : List (BitVec 12)) : List (Nat × Int) :=
  ((samplesIn s w i a b).zip raws).map fun e => (e.1.1, sampleCurrent s w i e.1 e.2)

/-! ### Pilots (R379 to R383) -/

/-- One bit of CRC-8 with x^8 + x^2 + x + 1. -/
def crc8Bit (c : Nat) : Nat := if 128 ≤ c then Nat.xor (2 * c % 256) 7 else 2 * c

/-- CRC-8 over one more byte (R379). -/
def crc8Byte (c b : Nat) : Nat := Nat.repeat crc8Bit 8 (Nat.xor c b)

/-- The pilot frame of an input port (R379). -/
def pilotFrame (switchId port : Nat) : Nat :=
  let id := 1024 * switchId + port
  0xB4 * 2 ^ 24 + 2 ^ 8 * id + crc8Byte (crc8Byte 0 (id / 256)) (id % 256)

/-- Whether the pilot of an input plays a 0 bit at an uptime; frames repeat back to back, and a ramp counts as the bit it leads into
(R379, R381, R383). -/
def pilotZero (s : State) (port u : Nat) : Bool :=
  s.pilotBit.isSome && (match s.pilotStarts.find? fun t => t ≤ u with
    | some t => !(pilotFrame (getF s Reg.VRD_PILOT_CFG 16 6) port).testBit (31 - (u - t) / 16000 % 32)
    | none => false)

/-- 1 − m of the pilot (R369, R380). -/
def pilotFactor (s : State) : Rat := ((1000 - getF s Reg.VRD_PILOT_CFG 8 5 : Nat) : Rat) / (1000 : Rat)

/-- Whether a slot's own pilot dims its light at an uptime: an ATTEN slot in HOLD, in a 0 bit of its frame (R380, R383). -/
def ownPilot (s : State) (slot u : Nat) : Bool :=
  role s slot == roleAtten && (channel s slot).state == .hold && (channel s slot).since ≤ u &&
    pilotZero s (actF s (Reg.SLOT_CFG slot) 16 10) u

/-- The level of an ATTEN slot in a 0 bit of its pilot (R380). -/
def pilotDip (s : State) (slot : Nat) : Word :=
  between (act s (Reg.EO_BAR slot)) (act s (Reg.EO_CROSS slot)) (pilotFraction (channel s slot).atten (getF s Reg.VRD_PILOT_CFG 8 5) : Nat) (2 ^ 24)

/-- The level of a channel in HOLD: a change of its pilot's bit is a raised cosine over the bit's first microsecond (R380). -/
def pilotLevel (s : State) (slot : Nat) : Word :=
  let ch := channel s slot
  let u := s.time.uptime
  match s.pilotStarts.find? fun t => t ≤ u with
  | none => ch.out
  | some o =>
    let dt := (u - o) % 16000
    let port := actF s (Reg.SLOT_CFG slot) 16 10
    let was := pilotZero s port (u - dt - 1)
    let now := pilotZero s port u
    if s.pilotBit.isNone || role s slot != roleAtten || 1000 ≤ dt || was == now || u - dt ≤ ch.since then ch.out
    else
      let at_ := fun (dim : Bool) => if dim then pilotDip s slot else ch.lvlTo
      between (at_ was) (at_ now) (fixOne - fixSine (dt + 500) 2000) (2 * fixOne)

/-- What a channel outputs now, dither and calibration apart: the present sample of what it plays, or its level (R207, R216, R224,
R380). -/
def presentLevel (s : State) (slot : Nat) : Word :=
  let ch := channel s slot
  match ch.state with
  | .play => playLevel s slot (s.time.uptime + 1)
  | .stream =>
    match streamOn s slot with
    | some n => if streamState s n = 3 then streamOutput s n (streamedBy s n (s.time.uptime + 1) - 1) else ch.out
    | none => ch.out
  | .hold => pilotLevel s slot
  | _ => ch.out

/-- The codes at a channel's pads now: grounded under the lockout, the sweep of a level calibration, what plays, or the level with its
dither (R56, R194, R207, R216, R224, R232). -/
def padLevel (s : State) (slot : Nat) : Word :=
  let w := presentLevel s slot
  if lockedOut s then 0
  else if underEoCal s slot then
    let start := ((SMap.get (fun _ => none) s.eoCal (slot / 256)).map EoCal.start).getD 0
    let i := (s.time.uptime - start) / 25600
    let d := if i < 342 then sweepPoint i / 2 else (Config.openInt s.time.uptime) % 1366
    level (padCode (2048 + d)) (padCode (2048 - d))
  else if ditherOn s slot then level (dithered s slot (ep w) 1) (dithered s slot (en w) (-1))
  else w

/-- A tap current of a slot after the correction of R383. -/
def unpiloted (s : State) (slot u : Nat) (i : Rat) : Rat := if ownPilot s slot u then i / pilotFactor s else i

/-! ### The lock-in demodulator (R358, R359) -/

/-- What the demodulator computes over a window: the number of samples, and P̄, I and Q in half picoamperes. -/
structure Demod where
  count : Nat
  mean : Rat
  inPhase : Rat
  quad : Rat
  deriving DecidableEq

/-- The nominal group delay of a range in ns (R326, R359). -/
def groupDelay (r : Nat) : Nat := ([20, 20, 35, 70][r]?).getD 0

/-- ψ of a sample at a half nanosecond: the phase of the slot's oscillator, delayed by the front end and TRIM, in 1/2^33 turn (R359,
R389). -/
def samplePhase (s : State) (slot t : Nat) : Int :=
  let base := (SMap.get (fun _ => none) s.nco slot).getD (0, s.ncoOrigin)
  let delay := (groupDelay (rangeAt s (slot / 16) (slot % 16) (t / 2)) : Int) + signed 8 (getF s (Reg.DEMOD_CFG (slot / 16) (slot % 16)) 0 8)
  2 * (base.1 : Int) + (ncoWord (actF s (Reg.EO_DITHER slot) 0 11) : Int) * ((t : Int) - 2 * delay - (2 * base.2 : Nat))

/-- The demodulator of a slot over its samples (R359, R383). -/
def demodulate (s : State) (slot : Nat) (l : List (Nat × Int)) : Demod :=
  let xs := l.map fun e => (e.1, unpiloted s slot (e.1 / 2) (e.2 : Rat))
  let k : Rat := (max 1 l.length : Nat)
  let mean := (xs.map Prod.snd).sum / k
  let part := fun (lead : Int) =>
    (xs.map fun e => (e.2 - mean) * ((fixSine (samplePhase s slot e.1 + lead) (2 ^ 33) : Int) : Rat)).sum * (2 : Rat) / (k * ((fixOne : Nat) : Rat))
  { count := l.length, mean := mean, inPhase := part 0, quad := part (2 ^ 31) }

end Sys2Proof.Machine
end

