-- ==== Sys2Proof/Machine/LoopMath.lean ====
section
/-! DEFINITION. Number formats of the pumps, the presentation of operand vectors, the arithmetic bound and the table
banks of a loop cell (R280 to R285). -/

namespace Sys2Proof.Machine

open Sys2Proof

/-! ### Formats (R280) -/

/-- The value of a word in extended format. -/
def extValue (w : Word) : Dyadic := ⟨signed 24 (fld w 0 24), signed 8 (fld w 24 8) - 23⟩

/-- The value of a word in scalar format. -/
def scalarValue (w : Word) : Dyadic := ⟨signed 16 (fld w 0 16), signed 8 (fld w 16 8) - 15⟩

/-- One more than the exponent of the leading bit of a value; very low for zero. -/
def dyadicTop (a : Dyadic) : Int := if a.man = 0 then -1000 else a.exp + (Nat.log2 a.man.natAbs : Nat) + 1

/-- Whether every value, in units of `2^(e - f)`, rounds to a mantissa of `w` signed bits. -/
def mantissasFit (w f : Nat) (e : Int) (v : List Dyadic) : Bool :=
  v.all fun a => let m := a.rneAt (e - f); -(2 ^ (w - 1) : Int) ≤ m && m < (2 ^ (w - 1) : Int)

/-- The smallest exponent, −128 to 127, that holds the values (R280). -/
def sharedExp (w f : Nat) (v : List Dyadic) : Int :=
  let t := v.foldl (fun m a => max m (dyadicTop a)) (-128)
  let c := [t - 1, t, t + 1].filter fun e => -128 ≤ e && mantissasFit w f e v
  min 127 (c.headD 127)

/-- A mantissa limited to `w` signed bits, which matters at exponent 127 only. -/
def limitMan (w : Nat) (m : Int) : Int := clampInt (-(2 ^ (w - 1) : Int)) (2 ^ (w - 1) - 1 : Int) m

/-- A value rounded into the extended format. -/
def toExt (a : Dyadic) : Word :=
  let e := sharedExp 24 23 [a]
  word (unsignedOf 24 (limitMan 24 (a.rneAt (e - 23))) + 2 ^ 24 * unsignedOf 8 e)

/-- A value rounded into the scalar format. -/
def toScalar (a : Dyadic) : Word :=
  let e := sharedExp 16 15 [a]
  word (unsignedOf 16 (limitMan 16 (a.rneAt (e - 15))) + 2 ^ 16 * unsignedOf 8 e)

/-- An operand vector presented as a 16-bit block (R280). -/
def present (v : List Dyadic) : List Dyadic :=
  let e := sharedExp 16 15 v
  v.map fun a => ⟨limitMan 16 (a.rneAt (e - 15)), e - 15⟩

/-- A value in extended format under a rounding that the spec does not state: one of the two neighbours (assumption 9). -/
def toExtOpen (a : Dyadic) : Word :=
  let e := sharedExp 24 23 [a]
  let m := if e - 23 ≤ a.exp then a.rneAt (e - 23) else openDiv a.man (2 ^ (e - 23 - a.exp).toNat)
  word (unsignedOf 24 (limitMan 24 m) + 2 ^ 24 * unsignedOf 8 e)

/-- A dyadic over a number in extended format; a quotient by zero is open (assumption 12). -/
def extRatio (a : Dyadic) (den : Nat) : Word :=
  if den = 0 then Config.overZero a.man else toExtOpen ⟨openDiv (a.man * 2 ^ 40) den, a.exp - 40⟩

/-- A quotient in extended format; its rounding is open (assumption 9), and a quotient by zero is open (assumption 12). -/
def extQuotient (num : Int) (den : Nat) : Word :=
  if den = 0 then Config.overZero num
  else
    let up := 30 + Nat.log2 den
    let q := openDiv (num * 2 ^ up) den
    toExt ⟨q, -(up : Int)⟩

/-! ### The arithmetic bound (R281) -/

/-- The exact sum of a row's products. -/
def rowSum (p : List Dyadic) : Dyadic := p.foldl Dyadic.add Dyadic.zero

/-- The largest magnitude of a row's products. -/
def rowMax (p : List Dyadic) : Dyadic := p.foldl (fun m a => if m.le a.abs then a.abs else m) Dyadic.zero

/-- The extended result of a row: any extended value within 2^-13 of the largest product of the exact value, or the exact
value rounded where the bound holds none other (R281, assumption 14). -/
def openNear (exact bound : Dyadic) (seed : Int) : Word :=
  let b : Dyadic := ⟨bound.man, bound.exp - 13⟩
  let c := toExt (exact.add ⟨seed, min exact.exp b.exp - 40⟩)
  if ((extValue c).sub exact).abs.le b then c else toExt exact

/-- The products of two vectors. -/
def products (a b : List Dyadic) : List Dyadic := (a.zip b).map fun e => e.1.mul e.2

/-! ### Table banks (R284, R285) -/

/-- Word `w` of bank `b` of cell `k`. -/
def bankWord (s : State) (k b w : Nat) : Word := reg s (Reg.CELL_BANK k (384 * b + w))

/-- Byte `o` of a bank. -/
def bankByte (s : State) (k b o : Nat) : Byte := byteOf (bankWord s k b (o / 4)).toNat (o % 4)

/-- Element `j` of the row block at byte offset `o` of a bank (R285). -/
def rowElement (s : State) (k b o j : Nat) : Dyadic :=
  let h := fld (bankWord s k b ((o + 4 + 2 * j) / 4)) (16 * (j % 2)) 16
  ⟨signed 16 h, signed 8 (fld (bankWord s k b (o / 4)) 0 8) - 15⟩

/-- Row `i` of a matrix: its offset, row stride and number of elements (R284). -/
def matrixRow (s : State) (k b off stride n i : Nat) : List Dyadic :=
  (List.range n).map fun j => rowElement s k b (off + stride * i) j

/-- A row of A (R284). -/
def rowA (s : State) (k b n i : Nat) : List Dyadic := matrixRow s k b 0x040 28 n i
/-- A row of B. -/
def rowB (s : State) (k b i : Nat) : List Dyadic := matrixRow s k b 0x190 20 8 i
/-- A row of L. -/
def rowL (s : State) (k b i : Nat) : List Dyadic := matrixRow s k b 0x280 12 4 i
/-- A row of C. -/
def rowC (s : State) (k b n i : Nat) : List Dyadic := matrixRow s k b 0x310 28 n i
/-- A row of K. -/
def rowK (s : State) (k b n i : Nat) : List Dyadic := matrixRow s k b 0x380 28 n i
/-- A row of N. -/
def rowN (s : State) (k b i : Nat) : List Dyadic := matrixRow s k b 0x3F0 12 4 i
/-- A row of KZ. -/
def rowKZ (s : State) (k b i : Nat) : List Dyadic := matrixRow s k b 0x420 12 4 i
/-- A row of KW. -/
def rowKW (s : State) (k b i : Nat) : List Dyadic := matrixRow s k b 0x450 12 4 i

/-- Word `w` of the parameters of slot `i` (R284, R285). -/
def slotParam (s : State) (k b i w : Nat) : Word := bankWord s k b ((0x480 + 32 * i) / 4 + w)

/-- NSTATE of a bank. -/
def bankStates (s : State) (k b : Nat) : Nat := fld (bankWord s k b 0) 0 4

/-- KERNEL of a bank (R271). -/
def bankKernel (s : State) (k b : Nat) : Nat := fld (bankWord s k b 0) 4 3

/-- PERIOD of a bank in µs; 0 means 10 (R285). -/
def bankPeriod (s : State) (k b : Nat) : Nat := if fld (bankWord s k b 0) 8 6 = 0 then 10 else fld (bankWord s k b 0) 8 6

/-- One bit of CRC-32 of IEEE 802.3, reflected. -/
def crcBit (c : Nat) : Nat := if c % 2 = 1 then Nat.xor (c / 2) 0xEDB88320 else c / 2

/-- CRC-32 over one more byte. -/
def crcByte (c : Nat) (b : Byte) : Nat := Nat.repeat crcBit 8 (Nat.xor c b.toNat)

/-- CRC-32 of IEEE 802.3 over a list of bytes (R285). -/
def crc32 (bs : List Byte) : Nat := Nat.xor (bs.foldl crcByte 0xFFFFFFFF) 0xFFFFFFFF

/-- The bytes that LD_CRC covers: 0x000 to 0x4FF, with word 2 as zero (R285). -/
def crcBytes (s : State) (k b : Nat) : List Byte :=
  (List.range 0x500).map fun o => if 8 ≤ o && o < 12 then 0 else bankByte s k b o

/-- The reason for which a bank is refused before its load is looked at: 0 none, 1 CRC, 2 FIELD, 3 KZ (R288). -/
def bankFault (s : State) (k b : Nat) (inLoop : List Bool) : Nat :=
  let d := bankWord s k b 0
  let n := fld d 0 4
  let kern := fld d 4 3
  let per := fld d 8 6
  let offDiagonal := (List.range 4).any fun i => (List.range 4).any fun j => i != j && (rowElement s k b (0x420 + 12 * i) j).man != 0
  let zeroDiagonal := (List.range 4).any fun i => (inLoop[i]?).getD false && (rowElement s k b (0x420 + 12 * i) i).man == 0
  if bitOf d 15 && crc32 (crcBytes s k b) != (bankWord s k b 2).toNat then 1
  else if n = 0 || 12 < n || 4 ≤ kern || (per != 0 && (per < 4 || 40 < per)) then 2
  else if (kern = 1 || kern = 2) && (offDiagonal || zeroDiagonal) then 3
  else 0

end Sys2Proof.Machine
end

