-- ==== Sys2Proof/Machine/Loops.lean ====
section
/-! DEFINITION. Hold loops (R260 to R304): measurement, control law, boundaries, modes, table commits and test
injection. -/

namespace Sys2Proof.Machine

open Sys2Proof

/-! ### Cells and pumps -/

/-- PE_k. -/
def pumpPage (k : Nat) : Page := ⟨.pe, k⟩

/-- A loop cell. -/
def loopCell (s : State) (k : Nat) : LoopCell := SMap.get (fun _ => LoopCell.empty) s.cells k

/-- Writes a loop cell. -/
def setCell (k : Nat) (c : LoopCell) (s : State) : State := { s with cells := SMap.set (fun _ => LoopCell.empty) s.cells k c }

/-- A pump. -/
def pump (s : State) (k : Nat) : Pump := SMap.get (fun _ => Pump.empty) s.pumps k

/-- Writes a pump. -/
def setPump (k : Nat) (p : Pump) (s : State) : State := { s with pumps := SMap.set (fun _ => Pump.empty) s.pumps k p }

/-- The primary pump of a cell (R305). -/
def primaryPump (cell : Nat) : Nat := cell / 5

/-- The other pump of a pair (R305). -/
def twin (k : Nat) : Nat := if k % 2 = 0 then k + 1 else k - 1

/-- PUMP_STATE (R311). -/
def pumpState (s : State) (k : Nat) : Nat := getF s (Reg.TWIN_STATUS k) 0 3

/-- In service: SYNC or ACTIVE (R311). -/
def inService (s : State) (k : Nat) : Bool := pumpState s k == 3 || pumpState s k == 4

/-- Whether a pump computes the pair's updates (R311). -/
def computes (s : State) (k : Nat) : Bool := inService s k || pumpState s k == 5

/-- The side of a cell that a pump is: 0 primary, 1 secondary, none when the cell is not of its pair (R305). -/
def sideOf (k cell : Nat) : Option Nat :=
  if primaryPump cell = k then some 0 else if primaryPump cell = twin k then some 1 else none

/-- The pump on a side of a cell. -/
def pumpOf (cell side : Nat) : Nat := if side = 0 then primaryPump cell else twin (primaryPump cell)

/-- The column and index of a cell's arbiter words (R324). -/
def claimState (cell : Nat) : Nat := Reg.CLAIM_STATE (cell / 64) (cell % 64)

/-- The holder of a cell: 0 primary, 1 secondary (R308). -/
def holderSide (s : State) (cell : Nat) : Nat := getF s (claimState cell) 0 1

/-- The cells of a pump's page (R303). -/
def pumpCells (k : Nat) : List Nat := (List.range 5).map fun j => 5 * k + j

/-- The cells of a pump's pair (R305). -/
def pairCells (k : Nat) : List Nat := (List.range 10).map fun j => 10 * (k / 2) + j

/-- A pump's copy of a cell. -/
def LoopCell.copy (c : LoopCell) (side : Nat) : LoopCopy := if side = 0 then c.primary else c.secondary

/-- Replaces a pump's copy. -/
def LoopCell.withCopy (c : LoopCell) (side : Nat) (l : LoopCopy) : LoopCell :=
  if side = 0 then { c with primary := l } else { c with secondary := l }

/-- Changes one pump's copy of a cell. -/
def modCopy (cell side : Nat) (f : LoopCopy → LoopCopy) (s : State) : State :=
  setCell cell ((loopCell s cell).withCopy side (f ((loopCell s cell).copy side))) s

/-- The active bank of a cell (R286). -/
def activeBank (s : State) (cell : Nat) : Nat := getF s (Reg.CELL_STATUS cell) 1 1

/-- Whether a commit of the cell is pending (R287). -/
def cellPending (s : State) (cell : Nat) : Bool := getBit s (Reg.CELL_STATUS cell) 2

/-- The slots of a cell. -/
def cellSlots (cell : Nat) : List Nat := (List.range 4).map fun i => 4 * cell + i

/-- MEAS of a slot with R267 applied: 1 first harmonic, 2 tap power, 3 none; and MEAS_BAD. -/
def slotMeas (s : State) (slot : Nat) : Nat × Bool :=
  let m := actF s (Reg.LOOP_SLOT_CFG slot) 0 2
  if role s slot = roleSwitch then if m = 0 then (1, false) else if m = 2 then (3, true) else (m, false)
  else if role s slot = roleAtten then if m = 0 then (2, false) else if m = 1 then (3, true) else (m, false)
  else (3, false)

/-- LOOP_SLOT_STATUS.MEAS_BAD while a slot's MEAS does not fit its role (R267, R301). -/
def showMeasBad (slot : Nat) (s : State) : State := setB (Reg.LOOP_SLOT_STATUS slot) 9 (slotMeas s slot).2 s

/-- Whether a slot is in the loop: SWITCH or ATTEN with EXCLUDE = 0 (R262, R301). -/
def slotInLoop (s : State) (slot : Nat) : Bool := driven s slot && actF s (Reg.LOOP_SLOT_CFG slot) 3 1 == 0

/-- The column of a cell is under a block reset (R136). -/
def columnResetting (s : State) (cell : Nat) : Bool := phase s (colPage (cell / 64)) == .resetting

/-! ### Load (R291, R292) -/

/-- Cycles of one update (R291). -/
def updateCost (s : State) (cell bank : Nat) : Nat :=
  if (cellSlots cell).any fun n => slotInLoop s n then
    let n := bankStates s cell bank
    match bankKernel s cell bank with
    | 1 => 110 + (n * n + 20 * n + 48 + 3) / 4
    | 2 => 122
    | 3 => 110 + (n * n + 16 * n + 3) / 4
    | _ => 0
  else 0

/-- A cell's load as a fraction of one pump (R291). -/
def cellLoad (s : State) (cell bank : Nat) : Rat := (updateCost s cell bank : Rat) / ((1000 * bankPeriod s cell bank : Nat) : Rat)

/-- A load as a register shows it, in 0.01 %; the rounding is open (assumption 9). -/
def showLoad (w : Nat) (l : Rat) : Nat := min (2 ^ w - 1) (openDiv (10000 * l.num) l.den).toNat

/-- The load of a pump's primary cells on their active banks. -/
def pumpLoad (s : State) (k : Nat) : Rat := ((pumpCells k).map fun m => cellLoad s m (activeBank s m)).sum

/-- Shows CELL_COST, and PE_LOAD of both pumps of the pair (R302, R303). -/
def refreshLoad (cell : Nat) (s : State) : State :=
  let b := activeBank s cell
  let p := primaryPump cell
  let pair := pumpLoad s p + pumpLoad s (twin p)
  let show_ := fun (k : Nat) (t : State) => setReg (Reg.PE_LOAD k) (word (showLoad 14 (pumpLoad s k) + 2 ^ 16 * showLoad 14 pair)) t
  show_ (twin p) (show_ p (setReg (Reg.CELL_COST cell) (word (min 65535 (updateCost s cell b) + 2 ^ 16 * showLoad 16 (cellLoad s cell b))) s))

/-! ### STALE (R269, R318) -/

/-- STATUS.STALE of a pump page: some slot of its primary cells is flagged (R269). -/
def refreshPumpStale (k : Nat) (s : State) : State :=
  setB (Reg.STATUS (pumpPage k)) 3 ((pumpCells k).any fun m => getF s (Reg.CELL_STATUS m) 8 4 != 0) s

/-- Flags a slot STALE, or not, wherever the flag shows (R269, R301, R302). -/
def markStale (b : Bool) (slot : Nat) (s : State) : State :=
  refreshPumpStale (primaryPump (slot / 4)) (setStale b slot (setB (Reg.LOOP_SLOT_STATUS slot) 1 b s))

/-! ### Modes and injection ends -/

/-- Ends a test injection as DONE or ABORTED (R299, R304). -/
def injEnd (aborted : Bool) (cell : Nat) (s : State) : State :=
  let a := Reg.INJ_STATUS cell
  if getBit s a 0 || (loopCell s cell).injArmed then
    let s1 := setB a 0 false (setB a (if aborted then 2 else 1) true s)
    let s2 := setB (Reg.CELL_STATUS cell) 4 false (setCell cell { loopCell s1 cell with injArmed := false, injValue := 0 } s1)
    setInt (pumpPage (primaryPump cell)) 2 s2
  else s

/-- ORPHAN of a cell. -/
def orphaned (s : State) (cell : Nat) : Bool := getBit s (claimState cell) 1

/-- COMPARING of a cell: both pumps in service and the cell in automatic (R310, R321, R324). -/
def showComparing (cell : Nat) (s : State) : State :=
  let p := primaryPump cell
  setB (claimState cell) 2 (inService s p && inService s (twin p) && cellAuto s cell && !orphaned s cell) s

/-- MODE_ACTIVE of a cell, the AUTOMATIC of its slots, and COMPARING (R293, R301, R302, R324). -/
def setAuto (b : Bool) (cell : Nat) (s : State) : State :=
  showComparing cell (forEach (cellSlots cell) (fun n t => setB (Reg.LOOP_SLOT_STATUS n) 14 b t) (setB (Reg.CELL_STATUS cell) 0 b s))

/-- The cell leaves automatic: MODE_ACTIVE clears and an injection aborts (R293, R299). -/
def leaveAuto (cell : Nat) (s : State) : State := injEnd true cell (setAuto false cell s)

/-- The device forces a cell to manual and clears MODE (R295). -/
def forceManual (cell : Nat) (s : State) : State := leaveAuto cell (setB (Reg.CELL_CTRL cell) 0 false s)

/-- Every slot of the cell takes the bumpless preset now (R294). -/
def presetAll (cell : Nat) (s : State) : State := setCell cell { loopCell s cell with preset := List.replicate 4 true } s

/-- A slot joins the loop: its preset is due at the next boundary (R35, R247, R294). -/
def presetSlot (slot : Nat) (s : State) : State :=
  let c := loopCell s (slot / 4)
  setCell (slot / 4) { c with presetDue := c.presetDue.set (slot % 4) true } s

/-- Clears the state of a slot that leaves the loop (R34, R262). -/
def leaveLoop (slot : Nat) (s : State) : State :=
  let drop := fun (l : LoopCopy) => { l with z := l.z.set (slot % 4) 0, u := l.u.set (slot % 4) none, refused := l.refused.set (slot % 4) false }
  modCopy (slot / 4) 1 drop (modCopy (slot / 4) 0 drop s)

/-! ### Table commits (R286 to R290) -/

/-- The cells of a pump's page whose commit is pending. -/
def pendingCells (s : State) (k : Nat) : List Nat := (pumpCells k).filter fun m => cellPending s m

/-- Shows which cells are pending, and ends the commit when none is left (R290, R304). -/
def refreshCommit (k : Nat) (s : State) : State :=
  let mask := ((pendingCells s k).map fun m => 2 ^ (m % 5)).sum
  let a := Reg.LOOP_TABLE_STATUS k
  let was := getBit s a 0
  let s1 := refreshStatus (pumpPage k) (setF a 8 5 mask (setB a 0 (mask != 0) (setB (Reg.STATUS (pumpPage k)) 4 (mask != 0) s)))
  if was && mask == 0 then
    let s2 := if (pump s1 k).swapped then wrapF (Reg.GEN (pumpPage k)) 0 16 s1 else s1
    setInt (pumpPage k) 0 s2
  else s1

/-- A captured bank is refused (R288, R304). -/
def refuseBank (reason cell : Nat) (s : State) : State :=
  let k := primaryPump cell
  let s1 := setF (Reg.CELL_STATUS cell) 5 3 reason (setB (Reg.CELL_STATUS cell) 2 false (setB (Reg.CELL_CTRL cell) 1 false s))
  let s2 := setB (Reg.LOOP_TABLE_STATUS k) (16 + cell % 5) true (setCell cell { loopCell s1 cell with capture := none } s1)
  refreshCommit k (setInt (pumpPage k) 1 s2)

/-- Whether a swap of the cell would take the pair above 0.45 (R288, R292). -/
def overLoad (s : State) (cell : Nat) : Bool :=
  let others := ((pairCells (primaryPump cell)).filter fun m => m != cell).map fun m => cellLoad s m (activeBank s m)
  (45 : Rat) / 100 < others.sum + cellLoad s cell (1 - activeBank s cell)

/-- The check of a captured bank: the first reason of R288, 0 for none. -/
def captureFault (s : State) (cell : Nat) : Nat :=
  let f := bankFault s cell (1 - activeBank s cell) ((loopCell s cell).capture.getD [])
  if f != 0 then f
  else if overLoad s cell then 4
  else if !inService s (primaryPump cell) && !inService s (twin (primaryPump cell)) then 5
  else 0

/-- A pump, of the pair in service, has loaded and checked a captured cell's other bank (R287, R288). -/
def execTableBankLoaded (pump : Fin 128) (cell : Fin 640) (s : State) : Out :=
  .next (
    let m := cell.val
    match sideOf pump m with
    | none => s
    | some side =>
      if !cellPending s m || !(m < s.variant.cells) then s
      else
        let f := captureFault s m
        if f != 0 then refuseBank f m s
        else if inService s pump then modCopy m side (fun l => { l with loaded := true }) s
        else s)

/-- Whether every pump of the pair in service has loaded the captured bank (R287, R320). -/
def bankReady (s : State) (cell : Nat) : Bool :=
  let c := loopCell s cell
  let p := primaryPump cell
  (inService s p || inService s (twin p)) && (!inService s p || c.primary.loaded) && (!inService s (twin p) || c.secondary.loaded)

/-- The swap of a pending cell (R289, R290, R295, R296, R303). -/
def swapBank (cell : Nat) (s : State) : State :=
  let k := primaryPump cell
  let old := activeBank s cell
  let new := 1 - old
  let keep := bitOf (bankWord s cell new 0) 14 && bankStates s cell new == bankStates s cell old
  let fresh := fun (l : LoopCopy) => { l with loaded := false, xHat := if keep then l.xHat else List.replicate 12 0 }
  let s1 := modCopy cell 1 fresh (modCopy cell 0 fresh s)
  let s2 := setB (Reg.CELL_STATUS cell) 1 (new == 1) (setB (Reg.CELL_STATUS cell) 2 false (setB (Reg.CELL_CTRL cell) 1 false s1))
  let s3 := setF (Reg.CELL_STATUS cell) 16 16 (fld (bankWord s cell new 1) 0 16) (setReg64 (Reg.CELL_UPDATES_LO cell) 0 s2)
  let s4 := setPump k { pump s3 k with swapped := true } (setCell cell { loopCell s3 cell with capture := none } s3)
  let s5 := injEnd true cell (setF (Reg.LOOP_TABLE_TIME k) 0 16 (min 65535 ((s.time.uptime - (pump s k).capturedAt) / 1000)) s4)
  let s6 := if bankKernel s5 cell new = 0 then (if cellAuto s5 cell then forceManual cell s5 else setB (Reg.CELL_CTRL cell) 0 false s5)
    else if cellAuto s5 cell then presetAll cell s5 else s5
  refreshLoad cell (refreshCommit k s6)

/-- Captures the ready cells of a pump (R287, R288). -/
def loopCapture (k : Nat) (s : State) : State :=
  let ready := (pumpCells k).filter fun m => m < s.variant.cells && getBit s (Reg.CELL_CTRL m) 1 && !cellPending s m
  let flags := fun (m : Nat) => (cellSlots m).map fun n => slotInLoop s n && (slotMeas s n).1 != 3
  let take := fun (m : Nat) (t : State) =>
    let c := loopCell t m
    setF (Reg.CELL_STATUS m) 5 3 0 (setB (Reg.CELL_STATUS m) 2 true
      (setCell m { c with capture := some (flags m), primary := { c.primary with loaded := false }, secondary := { c.secondary with loaded := false } } t))
  let s1 := forEach ready take s
  if ready.isEmpty then s1
  else
    let s2 := if getBit s (Reg.LOOP_TABLE_STATUS k) 0 then s1
      else setF (Reg.LOOP_TABLE_STATUS k) 16 5 0 (setPump k { pump s1 k with capturedAt := s1.time.uptime, swapped := false } s1)
    refreshCommit k s2

/-- LOOP_TABLE_CMD.COMMIT (R287, R638); an armed capture is withdrawn, as under R106. -/
def execLoopCommit (req : Requester) (pump : Fin 128) (s : State) : Out :=
  .next (hostWrite req (Reg.LOOP_TABLE_CMD pump) (fun t => loopCapture pump (setB (Reg.LOOP_TABLE_STATUS pump) 1 false t)) s)

/-- LOOP_TABLE_CMD.COMMIT_AT_EPOCH (R287). -/
def execLoopCommitAtEpoch (req : Requester) (pump : Fin 128) (s : State) : Out :=
  .next (hostWrite req (Reg.LOOP_TABLE_CMD pump) (fun t => setB (Reg.LOOP_TABLE_STATUS pump) 1 true t) s)

/-- LOOP_TABLE_CMD.DISARM (R638). -/
def execDisarm (req : Requester) (pump : Fin 128) (s : State) : Out :=
  .next (hostWrite req (Reg.LOOP_TABLE_CMD pump) (fun t => setB (Reg.LOOP_TABLE_STATUS pump) 1 false t) s)

/-- An epoch instant meets a pump's armed capture under the conditions of R106 (R287). -/
def loopEpochCapture (k : Nat) (s : State) : State :=
  if !getBit s (Reg.LOOP_TABLE_STATUS k) 1 then s
  else if getBit s (Reg.LOOP_TABLE_STATUS k) 0 then s
  else loopCapture k (setB (Reg.LOOP_TABLE_STATUS k) 1 false s)

/-- A commit of a pump page is abandoned by a warm or clock reset (R637). -/
def loopAbandon (k : Nat) (s : State) : State :=
  let drop := fun (m : Nat) (t : State) => setCell m { loopCell t m with capture := none } (setB (Reg.CELL_STATUS m) 2 false t)
  refreshStatus (pumpPage k) (setF (Reg.LOOP_TABLE_STATUS k) 8 5 0 (setF (Reg.LOOP_TABLE_STATUS k) 0 2 0 (forEach (pumpCells k) drop s)))

/-! ### Test injection (R298, R299) -/

/-- One step of the ITU-T O.150 shift register of an order code; the taps are PRESUMED (assumption 15). -/
def prbsNext (order shift : Nat) : Nat :=
  let p := ([(7, 6), (9, 5), (11, 9), (15, 14), (23, 18), (31, 28)][order]?).getD (7, 6)
  let b := Nat.xor (shift / 2 ^ (p.1 - 1) % 2) (shift / 2 ^ (p.2 - 1) % 2)
  (2 * shift + b) % 2 ^ p.1

/-- The shift register seeded with ones. -/
def prbsSeed (order : Nat) : Nat := 2 ^ (([7, 9, 11, 15, 23, 31][order]?).getD 7) - 1

/-- A phase in turns, within one turn. -/
def turn (num : Int) (den : Nat) : Int × Nat := (num % (den : Int), den)

/-- φ_n of a chirp: φ_0 = 0, and each update adds f_n / 65,536 of a turn (R298). -/
def chirpPhase (f0 f1 len n : Nat) : Int × Nat :=
  turn (2 * len * n * f0 + n * (n - 1 : Nat) * ((f1 : Int) - f0)) (2 * len * 65536)

/-- The phase of a tone of a multisine (R298). -/
def tonePhase (tone : Word) (len n : Nat) : Int × Nat := turn (65536 * fld tone 0 16 * n + fld tone 16 16 * len : Nat) (65536 * len)

/-- The sine of a phase, in 2^-64. -/
def phaseSine (p : Int × Nat) : Int := fixSine p.1 p.2

/-- The injection's value of this boundary: exact for PRBS; for a chirp or a multisine the sines of R298, with an open rounding
(assumptions 9 and 70). -/
def injDraw (cell : Nat) (s : State) : State :=
  let c := loopCell s cell
  let amp := scalarValue (reg s (Reg.INJ_AMP cell))
  let top := ([7, 9, 11, 15, 23, 31][getF s (Reg.INJ_CFG cell) 8 3]?).getD 7
  if getF s (Reg.INJ_CFG cell) 0 2 = 2 then
    setCell cell { c with injValue := toExt (if c.injShift / 2 ^ (top - 1) % 2 = 1 then amp else amp.neg) } s
  else
    let len := getF s (Reg.INJ_LEN cell) 0 24
    let tones := getF s (Reg.INJ_CFG cell) 24 4
    let v := if getF s (Reg.INJ_CFG cell) 0 2 = 3 then
        let sum := ((List.range (min tones 8)).map fun t => phaseSine (tonePhase (reg s (Reg.INJ_TONE cell t)) len c.injN)).sum
        extRatio (amp.mul ⟨sum, -64⟩) tones
      else toExtOpen (amp.mul ⟨phaseSine (chirpPhase (getF s (Reg.INJ_F cell) 0 16) (getF s (Reg.INJ_F cell) 16 16) len c.injN), -64⟩)
    setCell cell { c with injValue := v } s

/-- The injection at a boundary: it starts, goes on to the next n, or ends after its last run (R298, R299). -/
def injBoundary (cell : Nat) (s : State) : State :=
  let c := loopCell s cell
  let a := Reg.INJ_STATUS cell
  let start := reg64 s (Reg.INJ_START_T_LO cell)
  let order := getF s (Reg.INJ_CFG cell) 8 3
  if c.injArmed then
    if start = 0 || start < ptpNow s then
      injDraw cell (setB (Reg.CELL_STATUS cell) 4 true (setF a 16 16 0 (setB a 0 true
        (setCell cell { c with injArmed := false, injN := 0, injShift := prbsSeed order } s))))
    else s
  else if getBit s a 0 then
    let n := c.injN + 1
    if n < getF s (Reg.INJ_LEN cell) 0 24 then
      let held := n % (getF s (Reg.INJ_CFG cell) 16 8 + 1) != 0
      injDraw cell (setCell cell { c with injN := n, injShift := if held then c.injShift else prbsNext order c.injShift } s)
    else
      let runs := getF s a 16 16 + 1
      let rep := getF s (Reg.INJ_REPEAT cell) 0 16
      let s1 := setF a 16 16 (min runs 65535) s
      if rep != 0xFFFF && rep < runs then injEnd false cell s1
      else injDraw cell (setCell cell { loopCell s1 cell with injN := 0, injShift := prbsSeed order } s1)
  else s

/-- INJ_CMD.GO (R299). -/
def execInjGo (req : Requester) (cell : Fin 640) (s : State) : Out :=
  .next (hostWrite req (Reg.INJ_CMD cell) (fun t =>
    let m := cell.val
    let cfg := Reg.INJ_CFG m
    let kern := bankKernel t m (activeBank t m)
    let slots := (List.range 4).any fun i => getBit t cfg (4 + i) && slotInLoop t (4 * m + i)
    if !cellAuto t m || kern == 0 || (getBit t cfg 2 && kern == 3) || getF t cfg 0 2 == 0 || getF t (Reg.INJ_LEN m) 0 24 == 0 || !slots
    then setB (Reg.INJ_STATUS m) 3 true t
    else setF (Reg.INJ_STATUS m) 1 3 0 (setCell m { loopCell t m with injArmed := true } t)) s)

/-- INJ_CMD.STOP (R299). -/
def execInjStop (req : Requester) (cell : Fin 640) (s : State) : Out :=
  .next (hostWrite req (Reg.INJ_CMD cell) (injEnd false cell) s)

/-- CELL_CLR (R302). -/
def execCellClr (req : Requester) (cell : Fin 640) (data : BitVec 2) (s : State) : Out :=
  .next (hostWrite req (Reg.CELL_CLR cell) (fun t =>
    whenB (data.getLsbD 1) (setB (Reg.CELL_STATUS cell) 3 false) (whenB (data.getLsbD 0) (setReg (Reg.CELL_MISS cell) 0) t)) s)

/-! ### The measurement (R264 to R269) -/

/-- The entry of the input power table for a port, as it stood at an uptime (R278, R362). -/
def inputEntry (s : State) (port u : Nat) : Option InputPower :=
  ((SMap.get (fun _ => none) s.inputPower port).toList ++ SMap.get (fun _ => []) s.inputWas port).find? fun e => e.placed ≤ u

/-- What the device knew of the light at a port at an uptime: none when UNKNOWN (R268, R362, R363). -/
def inputAt (s : State) (port u : Nat) : Option InputPower :=
  (inputEntry s port u).filter fun e => !(e.stale || e.implausible || e.time + 50000 < u)

/-- What the device knows of the light at a port now. -/
def inputKnown (s : State) (port : Nat) : Option InputPower := inputAt s port s.time.uptime

/-- An entry of the input power table is replaced; the entries that a cutoff 1 µs back or a verdict's sample may need stay (R278, R369). -/
def storeInput (port : Nat) (e : InputPower) (s : State) : State :=
  let old := (SMap.get (fun _ => none) s.inputPower port).toList ++ SMap.get (fun _ => []) s.inputWas port
  let recent := old.filter fun x => s.time.uptime < x.placed + 4000
  { s with
    inputPower := SMap.set (fun _ => none) s.inputPower port (some e)
    inputWas := SMap.set (fun _ => []) s.inputWas port (recent ++ ((old.find? fun x => x.placed + 4000 ≤ s.time.uptime).toList)) }

/-- Π of an input, in 0.125 nA (R362, assumption 13). -/
def inputPiExact (s : State) (port : Nat) (e : InputPower) : Dyadic :=
  ⟨e.reading * (dbGain (e.loss + (SMap.get (fun _ => 0) s.portAtten port : Nat)) : Nat), -64⟩

/-- The result of a slot's measurement: y in extended format, whether there is one, and the marks of R268. -/
structure Measured where
  y : Word
  formed : Bool
  inLoop : Bool
  stale : Bool
  unsettled : Bool
  noDither : Bool
  dark : Bool
  blind : Bool
  none : Bool
  deriving DecidableEq, Repr

/-- A hold mark (R268). -/
def Measured.hold (m : Measured) : Bool := m.stale || m.unsettled

/-- The measurement is missing (R269). -/
def Measured.missing (m : Measured) : Bool := m.hold || m.noDither || m.dark || m.blind || m.none

/-- 10^12 picoamperes in an ampere. -/
def picoAmperes (a : Dyadic) : Dyadic := a.mul ⟨1000000000000, 0⟩

/-- `num` over a dyadic, as numerator and denominator with the sign in the numerator. -/
def overDyadic (num : Int) (d : Dyadic) : Int × Nat :=
  let n := if d.exp < 0 then num * 2 ^ (-d.exp).toNat else num
  let m := if d.exp < 0 then d.man else d.man * 2 ^ d.exp.toNat
  if m < 0 then (-n, m.natAbs) else (n, m.natAbs)

/-- The sample cutoff of an update, 1 µs before its boundary (R277). -/
def cutoff (s : State) : Nat := s.time.uptime - 1000

/-- The start of a slot's measurement window, in half nanoseconds: the largest whole number of dither periods that fits in PERIOD for a
SWITCH slot, else PERIOD, before the cutoff (R277). -/
def windowStart (s : State) (slot bank : Nat) : Nat :=
  let p := bankPeriod s (slot / 4) bank
  let f := actF s (Reg.EO_DITHER slot) 0 11
  2 * cutoff s - (if role s slot = roleSwitch then 2000000 * (p * f / 1000) / max 1 f else 2000 * p)

/-- What the demodulator makes of the raw codes of a slot's tap over the window (R277, R359). -/
def tapDemod (s : State) (slot bank : Nat) (raws : List (BitVec 12)) : Demod :=
  demodulate s slot (currents s (slot / 16) (slot % 16) (windowStart s slot bank) (2 * cutoff s) raws)

/-- D of a SWITCH slot in picoamperes, none where the path or a power is unknown (R264, R265). -/
def switchNorm (s : State) (slot bank : Nat) : Option Dyadic :=
  let p := reg s (Reg.LIVE_PATH slot)
  let k := scalarValue (slotParam s (slot / 4) bank (slot % 4) 1)
  if actF s (Reg.LOOP_SLOT_CFG slot) 2 1 = 1 then some (picoAmperes (scalarValue (slotParam s (slot / 4) bank (slot % 4) 2)))
  else if !bitOf p 31 then none
  else
    match inputAt s (fld p 0 10) (cutoff s), inputAt s (fld p 16 10) (cutoff s) with
    | some t, some o => some (k.mul (Dyadic.mul ⟨125, 0⟩ ((inputPiExact s (fld p 0 10) t).sub (inputPiExact s (fld p 16 10) o))))
    | _, _ => none

/-- D_A of an ATTEN slot in picoamperes, none where P_in is unknown (R266). -/
def attenNorm (s : State) (slot bank : Nat) : Option Dyadic :=
  let k := scalarValue (slotParam s (slot / 4) bank (slot % 4) 1)
  if actF s (Reg.LOOP_SLOT_CFG slot) 2 1 = 1 then some (picoAmperes (scalarValue (slotParam s (slot / 4) bank (slot % 4) 2)))
  else (inputAt s (actF s (Reg.SLOT_CFG slot) 16 10) (cutoff s)).map fun e => k.mul ⟨125 * (e.reading : Int), 0⟩

/-- A normaliser below D_MIN (R268). -/
def belowMin (s : State) (slot bank : Nat) (d : Dyadic) : Bool :=
  !(picoAmperes (scalarValue (slotParam s (slot / 4) bank (slot % 4) 3))).le d

/-- The measurement of a slot over the window ending at the cutoff, from the raw codes of its tap (R256, R264 to R269). -/
def measure (s : State) (slot bank : Nat) (raws : List (BitVec 12)) : Measured :=
  let inLoop := slotInLoop s slot
  let meas := slotMeas s slot
  let norm1 := actF s (Reg.LOOP_SLOT_CFG slot) 2 1 == 1
  let w := slot / 16
  let start := (windowStart s slot bank + 1) / 2
  let x := tapDemod s slot bank raws
  let stale := x.count == 0 || !inScan s w (slot % 16) start (cutoff s) || externalCal s w (slot % 16) || underEoCal s slot ||
    SMap.get (fun _ => false) s.htrCal (slot / 256)
  let unsettled := !getBit s (Reg.WELL_STATUS w) 0 || decide (start < SMap.get (fun _ => 0) s.settledAt w)
  let base : Measured := { y := 0, formed := false, inLoop := inLoop, stale := stale, unsettled := unsettled, noDither := false, dark := false, blind := false, none := false }
  if meas.1 = 3 then { base with none := true }
  else if meas.1 = 1 then
    let span := absI (diff (act s (Reg.EO_CROSS slot)) - diff (act s (Reg.EO_BAR slot)))
    let noDither := !ditherOn s slot || decide (start < max (channel s slot).since (SMap.get (fun _ => 0) s.ditherAt slot))
    match switchNorm s slot bank with
    | none => { base with noDither := noDither, blind := true }
    | some d =>
      let blind := !norm1 && belowMin s slot bank d.abs
      let i := x.inPhase
      let q := overDyadic (-(i.num * (span : Int) * (fixOne : Nat))) (d.mul ⟨((2 * i.den * fixPi * (ditherAmp s slot).1 : Nat) : Int), 0⟩)
      { base with y := extQuotient q.1 q.2, formed := x.count != 0, noDither := noDither, blind := blind }
  else
    match attenNorm s slot bank with
    | none => { base with dark := true }
    | some d =>
      let q := overDyadic x.mean.num (d.mul ⟨((2 * x.mean.den : Nat) : Int), 0⟩)
      { base with y := extQuotient q.1 q.2, formed := x.count != 0, dark := !norm1 && belowMin s slot bank d }

/-! ### The input vector (R261, R262) -/

/-- The heater magnitudes as applied at a slot, in 1/65,536, with an output that R274 counts as fixed at zero (R261). -/
def appliedMags (s : State) (slot : Nat) : Nat × Nat :=
  let c := slot / 256
  let dead := fun (h : Nat) => fld (reg s (rbAddr c h)) 16 3 != 0
  let m := slotMags s slot
  (if dead (2 * (slot % 256)) then 0 else scaledMag s m.1, if dead (2 * (slot % 256) + 1) then 0 else scaledMag s m.2)

/-- The applied actuator value (R261). -/
def applied (s : State) (slot : Nat) : Dyadic := ⟨((appliedMags s slot).1 : Int) - (appliedMags s slot).2, -16⟩

/-- The span's multiplier of an actuator value (R261, R272). -/
def spanBits (s : State) (slot : Nat) : Nat := if bipolar s slot then 15 else 16

/-- A code as an actuator value (R261). -/
def codeValue (s : State) (slot code : Nat) : Dyadic :=
  if bipolar s slot then ⟨signed 16 code, -15⟩ else ⟨(code % 65536 : Nat), -16⟩

/-- u as an integer code before the limit to the span's range (R272). -/
def unlimitedCode (s : State) (slot : Nat) (u : Dyadic) : Int := u.rneAt (-(spanBits s slot : Int))

/-- u as a code (R272). -/
def codeOf (s : State) (slot : Nat) (u : Dyadic) : Nat :=
  let n := unlimitedCode s slot u
  if bipolar s slot then unsignedOf 16 (clampInt (-32768) 32767 n) else (clampInt 0 65535 n).toNat

/-- m′ of an output in its last frame that began before an uptime (R278, assumption 14). -/
def frameMagAt (s : State) (key u : Nat) : Nat :=
  match SMap.get (fun _ => none) s.frames key with
  | some f => if f.start < u then f.mag else f.before
  | none => 0

/-- The sum of m′ / 65,536 over a cell's eight outputs, as of an uptime (R261, R278). -/
def cellHeat (s : State) (cell u : Nat) : Dyadic := ⟨(((List.range 8).map fun i => frameMagAt s (8 * cell + i) u).sum : Nat), -16⟩

/-- The estimate of R13 for a cell refreshed last before an uptime (R278). -/
def powerBefore (s : State) (cell u : Nat) : Word := SMap.get (fun _ => 0) (if s.cellPowerAt < u then s.cellPower else s.cellPowerWas) cell

/-- w of a cell at the sample cutoff (R261, R278). -/
def disturbance (s : State) (cell : Nat) : List Dyadic :=
  let there := fun (b : Bool) (m : Nat) => if b then cellHeat s m (cutoff s) else Dyadic.zero
  [there (cell % 64 != 0) (cell - 1), there (cell % 64 != 63) (cell + 1),
    (there (64 ≤ cell) (cell - 64)).add (there (cell + 64 < s.variant.cells) (cell + 64)),
    extValue (powerBefore s cell (cutoff s))]

/-- r of a slot in extended format (R262, R263), without injection. -/
def slotRef (s : State) (slot bank : Nat) : Word :=
  if !slotInLoop s slot then 0
  else if role s slot = roleSwitch then toExt (scalarValue (slotParam s (slot / 4) bank (slot % 4) 4))
  else toExtOpen ⟨(fixTenTo (channel s slot).atten 1000 : Nat), -64⟩

/-- u_ff of a slot (R262, R263). -/
def slotFeed (s : State) (slot bank : Nat) : Dyadic :=
  if !slotInLoop s slot then Dyadic.zero
  else
    let w := slotParam s (slot / 4) bank (slot % 4) 0
    codeValue s slot (if role s slot = roleSwitch && (channel s slot).cross then fld w 16 16 else fld w 0 16)

/-! ### The update (R270 to R274) -/

/-- What an update works with: the bank, the measurements and the vectors of R260. -/
structure Frame where
  cell : Nat
  bank : Nat
  kernel : Nat
  n : Nat
  auto : Bool
  meas : List Measured
  applied : List Dyadic
  w : List Dyadic
  r : List Word
  deriving DecidableEq, Repr

/-- Element `i` of a list of words, zero past its end. -/
def wordAt (l : List Word) (i : Nat) : Word := (l[i]?).getD 0

/-- Element `i` of a vector, zero past its end. -/
def valueAt (l : List Dyadic) (i : Nat) : Dyadic := (l[i]?).getD Dyadic.zero

/-- The measurement of slot `i`. -/
def Frame.m (f : Frame) (i : Nat) : Measured :=
  (f.meas[i]?).getD { y := 0, formed := false, inLoop := false, stale := false, unsettled := false, noDither := false, dark := false, blind := false, none := true }

/-- Slot number of index `i`. -/
def Frame.slot (f : Frame) (i : Nat) : Nat := 4 * f.cell + i

/-- The injection's share of slot `i` at a point: 0 actuator, 1 reference (R298). -/
def injAt (s : State) (cell point i : Nat) : Dyadic :=
  let cfg := Reg.INJ_CFG cell
  if getBit s (Reg.INJ_STATUS cell) 0 && getF s cfg 2 1 == point && getBit s cfg (4 + i) then extValue (loopCell s cell).injValue
  else Dyadic.zero

/-- The vectors of a cell at a boundary. -/
def loopFrame (s : State) (cell : Nat) (taps : List (List (BitVec 12))) : Frame :=
  let b := activeBank s cell
  let n := bankStates s cell b
  { cell := cell, bank := b, kernel := bankKernel s cell b, n := if n ≤ 12 then n else 0, auto := cellAuto s cell
    meas := (List.range 4).map fun i => measure s (4 * cell + i) b ((taps[i]?).getD [])
    applied := (cellSlots cell).map fun k => applied s k
    w := disturbance s cell
    r := (List.range 4).map fun i =>
      let r := slotRef s (4 * cell + i) b
      let j := injAt s cell 1 i
      if j.man = 0 || !slotInLoop s (4 * cell + i) then r else toExt ((extValue r).add j) }

/-- The masked innovation e (R270), in extended format; its rounding follows the bound of R281 (assumption 14). -/
def innovation (s : State) (f : Frame) (l : LoopCopy) : List Word :=
  let x := present ((l.xHat.take f.n).map extValue)
  (List.range 4).map fun i =>
    if !(f.m i).inLoop || (f.m i).missing then 0
    else
      let p := products (rowC s f.cell f.bank f.n i) x
      openNear ((extValue (f.m i).y).sub (rowSum p)) (rowMax p) (Config.openInt (s.fresh + i))

/-- The observer's next estimate (R270). -/
def observe (s : State) (f : Frame) (l : LoopCopy) (e : List Word) : List Word :=
  let x := present ((l.xHat.take f.n).map extValue)
  let a := present (f.applied ++ f.w)
  let ev := present (e.map extValue)
  ((List.range f.n).map fun j =>
    let p := products (rowA s f.cell f.bank f.n j) x ++ products (rowB s f.cell f.bank j) a ++ products (rowL s f.cell f.bank j) ev
    openNear (rowSum p) (rowMax p) (Config.openInt (s.fresh + 4 + j))) ++ List.replicate (12 - f.n) 0

/-- The products of u's row but those of KZ, and the addends u_ff or u_base (R270, R271). -/
def commandTerms (s : State) (f : Frame) (l : LoopCopy) (x : List Word) (i : Nat) : List Dyadic × Dyadic :=
  let xv := present ((x.take f.n).map extValue)
  let rv := f.r.map extValue
  let kw := products (rowKW s f.cell f.bank i) (present f.w)
  let inj := injAt s f.cell 0 i
  if f.kernel = 3 then ([], (extValue (wordAt l.base i)).add inj)
  else if f.kernel = 2 then
    let d := (List.range 4).map fun j =>
      if !(f.m j).inLoop || (f.m j).missing then Dyadic.zero else (valueAt rv j).sub (extValue (f.m j).y)
    (products (rowN s f.cell f.bank i) (present d) ++ kw, (slotFeed s (f.slot i) f.bank).add inj)
  else
    let k := (products (rowK s f.cell f.bank f.n i) xv).map Dyadic.neg
    (k ++ products (rowN s f.cell f.bank i) (present rv) ++ kw, (slotFeed s (f.slot i) f.bank).add inj)

/-- The step that the integrator would take, KZ_ii × (r_i − y_i), as a sign (R273, R274). -/
def integralSign (s : State) (f : Frame) (i : Nat) : Int :=
  let d := (extValue (wordAt f.r i)).sub (extValue (f.m i).y)
  ((rowElement s f.cell f.bank (0x420 + 12 * i) i).mul d).man.sign

/-- The direction of saturation of slot `i` at the previous boundary: the sign of u_i, as a code, minus the applied value
(R273, assumption 17). -/
def saturation (s : State) (f : Frame) (l : LoopCopy) (i : Nat) : Int :=
  match (l.u[i]?).getD none with
  | none => 0
  | some u => (Dyadic.sub ⟨unlimitedCode s (f.slot i) (extValue u), -(spanBits s (f.slot i) : Int)⟩ (valueAt f.applied i)).man.sign

/-- Whether output h of a slot counts as an actuator fixed at zero (R274). -/
def outputDead (s : State) (slot h : Nat) : Bool :=
  fld (reg s (rbAddr (slot / 256) (2 * (slot % 256) + h))) 16 3 != 0 || latched s (slot / 256) (2 * (slot % 256) + h) ||
    bankFlag s (slot / 256) (slot % 256)

/-- R274: the integrator would raise the magnitude of a dead output. -/
def raisesDead (s : State) (f : Frame) (i : Nat) : Bool :=
  let g := integralSign s f i
  let a := (valueAt f.applied i).man
  let slot := f.slot i
  (outputDead s slot 0 && decide (0 < g) && (!bipolar s slot || decide (0 ≤ a))) ||
    (outputDead s slot 1 && bipolar s slot && decide (g < 0) && decide (a ≤ 0))

/-- Whether z_i is frozen in this update (R269, R273, R274). -/
def frozen (s : State) (f : Frame) (l : LoopCopy) (i : Nat) : Bool :=
  let d := saturation s f l i
  (f.m i).inLoop && ((f.m i).missing || (l.refused[i]?).getD false || (d != 0 && integralSign s f i == d) || raisesDead s f i)

/-- The clamp of an integration step, which never moves z_i out of the range or further out of it (R270). -/
def clampStep (z lim n : Dyadic) : Dyadic :=
  let hi := lim.abs
  let lo := hi.neg
  Dyadic.clamp (if z.le lo then z else lo) (if hi.le z then z else hi) n

/-- z_i after this update: the bumpless preset, a frozen value or an integration step (R270, R294). -/
def nextZ (s : State) (f : Frame) (l : LoopCopy) (x : List Word) (preset : Bool) (i : Nat) : Word :=
  let kz := rowElement s f.cell f.bank (0x420 + 12 * i) i
  let z := wordAt l.z i
  if !(f.m i).inLoop then 0
  else if f.kernel = 3 then z
  else if preset then
    if kz.man = 0 then 0
    else
      let t := commandTerms s f l x i
      let d := ((valueAt f.applied i).sub t.2).sub (rowSum t.1)
      let q := overDyadic d.man ⟨kz.man, kz.exp - d.exp⟩
      extQuotient q.1 q.2
  else if frozen s f l i then z
  else if kz.man = 0 then 0
  else
    let step := (extValue (wordAt f.r i)).sub (extValue (f.m i).y)
    let sum := openNear ((extValue z).add step) (rowMax [extValue z, extValue (wordAt f.r i), extValue (f.m i).y]) (Config.openInt (s.fresh + 16 + i))
    toExt (clampStep (extValue z) (scalarValue (slotParam s f.cell f.bank i 5)) (extValue sum))

/-- u_i of this update (R270, R271); in a bumpless preset the code is within one LSB of the code in place (R294). -/
def nextU (s : State) (f : Frame) (l : LoopCopy) (x z : List Word) (preset : Bool) (i : Nat) : Word :=
  let t := commandTerms s f l x i
  let kz := if f.kernel = 3 then [] else products (rowKZ s f.cell f.bank i) (present (z.map extValue))
  let p := t.1 ++ kz
  let exact := (rowSum p).add t.2
  let u := openNear exact (rowMax p) (Config.openInt (s.fresh + 20 + i))
  let place := (valueAt f.applied i).rneAt (-(spanBits s (f.slot i) : Int))
  let c := unlimitedCode s (f.slot i) (extValue u)
  if preset && (absI (c - place) > 1) then toExt (valueAt f.applied i) else u

/-- The outcome of an update: the new copy, the innovation, what is frozen and what is saturated. -/
structure Computed where
  copy : LoopCopy
  e : List Word
  z0 : List Bool
  sat : List Bool
  deriving DecidableEq, Repr

/-- Consecutive updates above INNOV_LIM (R275). -/
def countInnov (s : State) (f : Frame) (l : LoopCopy) (e : List Word) (i : Nat) : Nat :=
  let lim := scalarValue (bankWord s f.cell f.bank 3)
  if lim.man != 0 && !((extValue (wordAt e i)).abs.le lim.abs) then (l.innov[i]?).getD 0 + 1 else 0

/-- The kernel update of one pump (R270, R271). -/
def compute (s : State) (f : Frame) (l : LoopCopy) (preset : List Bool) : Computed :=
  let pre := fun i => (preset[i]?).getD false
  let e := if f.kernel = 1 || f.kernel = 3 then innovation s f l else List.replicate 4 0
  let x := if f.kernel = 1 || f.kernel = 3 then observe s f l e else l.xHat
  let l1 := { l with base := (List.range 4).map fun i => if pre i then toExt (valueAt f.applied i) else wordAt l.base i }
  let innov := (List.range 4).map fun i => countInnov s f l e i
  if !f.auto || f.kernel = 0 then
    { copy := { l1 with xHat := x, innov := innov, u := List.replicate 4 none, codes := List.replicate 4 none }
      e := e, z0 := List.replicate 4 false, sat := List.replicate 4 false }
  else
    let z := (List.range 4).map fun i => nextZ s f l1 x (pre i) i
    let u := (List.range 4).map fun i => nextU s f l1 x z (pre i) i
    let codes := (List.range 4).map fun i =>
      if (f.m i).inLoop && !(f.m i).hold then some (codeOf s (f.slot i) (extValue (wordAt u i))) else none
    { copy := { l1 with xHat := x, z := z, innov := innov, u := u.map some, codes := codes }
      e := e
      z0 := (List.range 4).map fun i => f.kernel != 3 && !pre i && frozen s f l1 i
      sat := (List.range 4).map fun i => (f.m i).inLoop && saturation s f l1 i != 0 }

/-! ### What an update shows (R300 to R304) -/

/-- LOOP_SLOT_STATUS and LOOP_SLOT_Y of slot `i` after an update; where no y could be formed, the word is open (R301, assumption 12). -/
def showSlot (f : Frame) (c : Computed) (i : Nat) (s : State) : State :=
  let slot := f.slot i
  let m := f.m i
  let b := fun (j : Nat) (v : Bool) => 2 ^ j * b2n v
  let at_ := fun (l : List Bool) => (l[i]?).getD false
  let actFault := m.inLoop && (outputDead s slot 0 || outputDead s slot 1)
  let marks := if m.inLoop then b 1 m.hold + b 2 m.noDither + b 3 m.dark + b 4 m.blind + b 5 m.unsettled else 0
  let v := b2n m.inLoop + marks + b 6 (at_ c.z0) + b 7 (at_ c.sat) + b 8 actFault + b 9 (slotMeas s slot).2 +
    2 ^ 11 * f.kernel + b 14 f.auto
  let s1 := setReg (Reg.LOOP_SLOT_STATUS slot) (setFld (word v) 16 16 (getF s (Reg.LOOP_SLOT_STATUS slot) 16 16)) s
  let y := if m.formed then toScalar (extValue m.y) else word (Config.openNat (s.fresh + 24 + i) % 2 ^ 24)
  let s2 := whenB m.inLoop (setReg (Reg.LOOP_SLOT_Y slot) y) s1
  markStale (m.inLoop && m.hold) slot s2

/-- The bytes of a word. -/
def wordBytes (w : Word) : List Byte := toBytes 4 w.toNat

/-- A mask of four flags. -/
def mask4 (f : Nat → Bool) : Nat := ((List.range 4).map fun i => 2 ^ i * b2n (f i)).sum

/-- The loop records of an update (R300). -/
def loopRecord (s : State) (f : Frame) (c : Computed) (t : Nat) : List (List Byte) :=
  let head := wordBytes (word t) ++
    wordBytes (word (f.cell + 2 ^ 10 * mask4 (fun i => (f.m i).inLoop && (f.m i).hold) +
      2 ^ 14 * mask4 (fun i => (f.m i).inLoop && (f.m i).missing && !(f.m i).hold) +
      2 ^ 18 * mask4 (fun i => (c.sat[i]?).getD false) + 2 ^ 22 * b2n f.auto))
  let io := head ++ ((List.range 4).map fun i => wordBytes (f.m i).y).flatten ++ (f.r.map wordBytes).flatten ++
    ((List.range 4).map fun i => toBytes 2 (((c.copy.codes[i]?).getD none).getD 0)).flatten ++
    wordBytes (loopCell s f.cell).injValue ++ List.replicate 12 0
  let st := head ++ (c.copy.xHat.map wordBytes).flatten ++ List.replicate 8 0
  match getF s (Reg.CELL_CTRL f.cell) 2 2 with
  | 0 => []
  | 1 => [io]
  | 2 => [st]
  | _ => [io, st]

/-- Whether budget scaling keeps slot `i` from its command: it is saturated, and scaling lowers its magnitudes (R304). -/
def budgetSaturated (s : State) (f : Frame) (c : Computed) (i : Nat) : Bool :=
  let m := slotMags s (f.slot i)
  (c.sat[i]?).getD false && (scaledMag s m.1 != m.1 || scaledMag s m.2 != m.2)

/-- What the holder's update shows in the cell's region (R302, R304). -/
def showCell (f : Frame) (c : Computed) (t : Nat) (s : State) : State :=
  let k := f.cell
  let put := fun (a : Nat) (l : List Word) (u : State) => forEach ((List.range l.length).zip l) (fun e v => setReg (a + 4 * e.1) e.2 v) u
  let s1 := put (Reg.CELL_E k 0) c.e (put (Reg.CELL_W k 0) (f.w.map toExt) (put (Reg.CELL_R k 0) f.r
    (put (Reg.CELL_U k 0) (c.copy.u.map fun u => u.getD 0) (put (Reg.CELL_Z k 0) c.copy.z (put (Reg.CELL_X_HAT k 0) c.copy.xHat s)))))
  let s2 := forEach (List.range 4) (showSlot f c) s1
  let s3 := whenB ((List.range 4).any fun i => (f.m i).inLoop && (f.m i).missing) (bumpF (Reg.CELL_MISS k) 0 16) s2
  let s4 := whenB (c.z0.any id) (bumpF (Reg.CELL_MISS k) 16 16) s3
  let s5 := setReg64 (Reg.CELL_UPDATES_LO k) (reg64 s4 (Reg.CELL_UPDATES_LO k) + 1) s4
  let sat := (List.range 4).any fun i => budgetSaturated s5 f c i
  let first := sat && !(pumpCells (primaryPump k)).any fun m => (loopCell s5 m).budgetSat
  let s6 := whenB first (setInt (pumpPage (primaryPump k)) 4) s5
  refreshLoad k (setCell k { loopCell s6 k with record := loopRecord s6 f c t, budgetSat := sat } s6)

end Sys2Proof.Machine
end

