-- ==== Sys2Proof/Machine/Pumps.lean ====
section
/-! DEFINITION. Twin pumps, claims and degraded operation (R305 to R324). -/

namespace Sys2Proof.Machine

open Sys2Proof

/-! ### What shows of a pair -/

/-- The registered claim of a side (R308, R324). -/
def claimOf (s : State) (cell side : Nat) : Nat := getF s (Reg.CLAIM (cell / 64) (cell % 64)) (16 * side) 16

/-- Registers a claim. -/
def setClaim (cell side v : Nat) (s : State) : State := setF (Reg.CLAIM (cell / 64) (cell % 64)) (16 * side) 16 v s

/-- Claim `a` is higher than claim `b` (R308). -/
def claimHigher (a b : Nat) : Bool := let d := (a + 65536 - b) % 65536; 1 ≤ d && d ≤ 32767

/-- The pump that holds a cell (R306). -/
def holds (s : State) (k cell : Nat) : Bool := !orphaned s cell && pumpOf cell (holderSide s cell) == k

/-- A mask over a pump's five cells. -/
def cellMask (k : Nat) (f : Nat → Bool) : Nat := ((pumpCells k).map fun m => 2 ^ (m % 5) * b2n (f m)).sum

/-- HOLDS, CARRIES, TWIN_IN_SERVICE and STATUS.DEGRADED of a pump (R321, R323). -/
def showPump (k : Nat) (s : State) : State :=
  let a := Reg.TWIN_STATUS k
  let s1 := setF a 9 5 (cellMask (twin k) (holds s k)) (setF a 4 5 (cellMask k (holds s k)) (setB a 3 (inService s (twin k)) s))
  setB (Reg.STATUS (pumpPage k)) 5 (!inService s (twin k)) s1

/-- CLAIM_COL_STATUS (R324). -/
def showClaims (c : Nat) (s : State) : State :=
  let cells := (List.range 64).map fun i => 64 * c + i
  let o := (cells.filter fun m => orphaned s m).length
  let h := (cells.filter fun m => !orphaned s m && holderSide s m == 1).length
  setReg (Reg.CLAIM_COL_STATUS c) (word (o + 2 ^ 8 * h)) s

/-- Everything that shows of a pair. -/
def refreshPair (k : Nat) (s : State) : State :=
  let cells := pairCells k
  let s1 := forEach cells showComparing (showPump (twin k) (showPump k s))
  showClaims ((10 * (k / 2) + 9) / 64) (showClaims (10 * (k / 2) / 64) s1)

/-- Changes PUMP_STATE. -/
def setPumpState (k v : Nat) (s : State) : State := setF (Reg.TWIN_STATUS k) 0 3 v s

/-! ### Loss, handover and orphans -/

/-- HELD of GLB_PRIME_STATUS: some cell's outputs are still held (R130). -/
def anyHeld (s : State) : Bool := s.cells.any fun e => e.2.firstDue

/-- A code held for a first update that cannot come stays as the slot's own code, open loop (R132, R318). -/
def keepHeld (slot : Nat) (s : State) : State :=
  match (heater s slot).held with
  | some c => setHeater slot { heater s slot with code := c, arrived := 0, earlier := [], taken := c, held := none } s
  | none => s

/-- A cell is orphaned (R132, R318); `park` where R137 parks it. -/
def orphan (park : Bool) (cell : Nat) (s : State) : State :=
  if orphaned s cell then s
  else
    let c := loopCell s cell
    let s0 := whenB c.firstDue (forEach (cellSlots cell) keepHeld) s
    let s1 := setCell cell { c with wasAuto := cellAuto s cell, hostWrote := false, permit := none, orphanDue := none, firstDue := false } s0
    let s2 := forceManual cell (setB Reg.GLB_PRIME_STATUS 4 (anyHeld s1) s1)
    let s3 := forEach (cellSlots cell) (markStale true) (whenB park (forEach (cellSlots cell) htrPark) s2)
    let p := colPage (cell / 64)
    setFault p 8 (setInt p 22 (setB (claimState cell) 1 true s3))

/-- No pump of the pair will be in service at the cell's next boundary: the cell is orphaned there (R318). -/
def orphanNext (park : Bool) (cell : Nat) (s : State) : State :=
  if orphaned s cell then s else setCell cell { loopCell s cell with orphanDue := some park } s

/-- Cells that waited for a pump to take them lose it: those that nobody else can take are orphaned at their next boundaries
(R312, R318). -/
def dropPermits (k : Nat) (park : Bool) (s : State) : State :=
  let waiting := (pairCells k).filter fun m => (loopCell s m).permit.isSome && (loopCell s m).permit == sideOf k m
  let drop := fun (m : Nat) (t : State) =>
    let t1 := setCell m { loopCell t m with permit := none } t
    if inService t (twin k) then t1 else orphanNext park m t1
  forEach waiting drop s

/-- The cells a pump holds pass to its twin at their next boundaries, or are orphaned there (R312, R318). -/
def passCells (k : Nat) (park : Bool) (s0 : State) : State :=
  let s := dropPermits k park s0
  let held := (pairCells k).filter fun m => m < s.variant.cells && holds s k m
  if inService s (twin k) then
    forEach held (fun m t => setCell m { loopCell t m with permit := sideOf (twin k) m, orphanDue := none } t) s
  else forEach held (orphanNext park) s

/-- Losses of a pump within the last 10 s (R316). -/
def recentLosses (s : State) (k : Nat) : List Nat := (pump s k).losses.filter fun t => s.time.uptime < t + 10000000000

/-- A pump is lost (R313, R316): its cells pass, its page is block-reset, and it goes to LOADING, or to FAILED_HELD at the
third loss within 10 s, or to OFF where ENABLE is 0. Only a block reset parks cells (R137, R318). -/
def pumpLost (k cause : Nat) (s : State) : State :=
  let losses := s.time.uptime :: recentLosses s k
  let p := pumpPage k
  let s1 := setPump k { pump s k with losses := losses, update := false, quick := none, takebackNow := false } (setPumpState k 0 s)
  let s2 := passCells k (cause == 6 && !holdThrough s p) s1
  let s3 := resetPageRegs p s2
  let failed := decide (3 ≤ losses.length)
  let s4 := setPumpState k (if failed then 6 else if enabled s p then 1 else 0) (setF (Reg.TWIN_STATUS k) 16 4 cause (setF (Reg.TWIN_STATUS k) 20 2 (min 3 losses.length) s3))
  let s5 := setPhase p (if failed || !enabled s p then .off else .starting) s4
  let s6 := setInt p 8 (setFault p 1 s5)
  let s7 := whenB failed (setFault p 3) s6
  refreshPair k (setInt (pumpPage (twin k)) 10 (refreshCommit k s7))

/-- A pump that hands over and holds nothing any more goes to OFF, or to LOADING for FW_UPDATE (R311, R322). -/
def finishHandover (k : Nat) (s : State) : State :=
  if pumpState s k = 5 && !((pairCells k).any fun m => holds s k m) then
    let p := pump s k
    if p.update then
      let s1 := setPump k { p with update := false, kernel := s.kernelStaged.getD p.kernel } s
      refreshPair k (setPhase (pumpPage k) .starting (setPumpState k 1 s1))
    else if phase s (pumpPage k) == .pendingOn then
      refreshPair k (setPhase (pumpPage k) .starting (setPumpState k 1 s))
    else refreshPair k (setPhase (pumpPage k) .off (setPumpState k 0 s))
  else s

/-- ENABLE written 0, or FW_UPDATE, on a pump in service (R311, R313). -/
def handOver (k : Nat) (update : Bool) (s : State) : State :=
  let s1 := setPump k { pump s k with update := update, quick := none } (setF (Reg.TWIN_STATUS k) 16 4 7 (setPumpState k 5 s))
  let s2 := setInt (pumpPage (twin k)) 10 (passCells k false s1)
  refreshPair k (finishHandover k s2)

/-- ENABLE written 1 to a pump in OFF or FAILED_HELD starts LOADING (R323); in HALTED and in a thermal shutdown the pumps stay stopped
(R147, R564). -/
def pumpStart (k : Nat) (s : State) : State :=
  if (pumpState s k = 0 || pumpState s k = 6) && stage s != 0xE && stage s != 0xF then
    refreshPair k (setPhase (pumpPage k) .starting (setPumpState k 1 s))
  else s

/-- A pump that leaves service with no cells to hand over stops at once (R311). -/
def pumpStop (k : Nat) (s : State) : State :=
  if inService s k then handOver k false s
  else if pumpState s k = 5 then setPump k { pump s k with update := false } s
  else refreshPair k (setPhase (pumpPage k) .off (setPumpState k 0 s))

/-! ### The claim arbiter -/

/-- Whether a raise is permitted to a side (R312, R317, R319, R320). -/
def raisePermitted (s : State) (cell side : Nat) : Bool :=
  let c := loopCell s cell
  let p := primaryPump cell
  if c.permit = some side then true
  else
    side == 0 && pumpState s p == 4 && !orphaned s cell && holderSide s cell == 1 &&
      (getBit s (Reg.TWIN_CFG p) 0 || (pump s p).takebackNow) && (!cellPending s cell || c.primary.loaded)

/-- Whether the driver stage refuses the code of slot `i` shows in both pumps' copies (R273). -/
def setRefused (cell i : Nat) (b : Bool) (s : State) : State :=
  let put := fun (x : LoopCopy) => { x with refused := x.refused.set i b }
  modCopy cell 1 put (modCopy cell 0 put s)

/-- The driver stage meets the codes of an update (R245, R308, R273, R301). -/
def passCodes (side cell : Nat) (s : State) : State :=
  let l := (loopCell s cell).copy side
  if !cellAuto s cell then s
  else
    forEach (List.range 4) (fun i t =>
      let slot := 4 * cell + i
      match (l.codes[i]?).getD none with
      | none => setRefused cell i false t
      | some code =>
        let ok := rowSeven t slot
        let t1 := setRefused cell i (!ok) t
        if ok then pumpCode slot code (setF (Reg.LOOP_SLOT_STATUS slot) 16 16 code t1) else t1) s

/-- A raise is registered: the pump becomes the holder (R308, R312, R317, R319, R323, R324). -/
def takeCell (side cell claim : Nat) (s : State) : State :=
  let c := loopCell s cell
  let p := primaryPump cell
  let was := orphaned s cell
  let back := c.permit != some side
  let s1 := setF (claimState cell) 0 1 side (setClaim cell side claim s)
  let s2 := setCell cell { loopCell s1 cell with permit := none, orphanDue := none } s1
  let s3 := if was then forEach (cellSlots cell) (markStale false) (setB (claimState cell) 1 false s2) else s2
  let s4 := if back then setInt (pumpPage p) 9 (bumpF (Reg.HEALTH_EVENTS p) 16 16 s3)
    else if was then s3 else bumpF (Reg.HEALTH_EVENTS p) 0 16 s3
  let s5 := whenB (getBit s (claimState cell) 3) (bumpF (Reg.CLAIM_COUNT (cell / 64)) 16 16) s4
  let s6 := setInt (colPage (cell / 64)) 21 s5
  let left := (pumpCells p).any fun m => !orphaned s6 m && holderSide s6 m == 1
  let s7 := if back && !left then setPump p { pump s6 p with takebackNow := false } s6 else s6
  refreshPair p (finishHandover (twin (pumpOf cell side)) s7)

/-- The difference of two codes of a slot in LSB (R310). -/
def codeDiff (s : State) (slot a b : Nat) : Nat :=
  if bipolar s slot then absI (signed 16 a - signed 16 b) else absI ((a : Int) - b)

/-- The largest difference of a shadow update from the holder's, with its slot (R310). -/
def largestDiff (s : State) (cell : Nat) : Nat × Nat :=
  let c := loopCell s cell
  (List.range 4).foldl (fun best i =>
    match (c.primary.codes[i]?).getD none, (c.secondary.codes[i]?).getD none with
    | some a, some b =>
      let d := codeDiff s (4 * cell + i) a b
      if slotInLoop s (4 * cell + i) && best.1 < d then (d, 4 * cell + i) else best
    | _, _ => best) (0, 4 * cell)

/-- The pair-wide fields of TWIN_CFG: MISMATCH_RUN, CMP_TOL and SYNC_UPDATES of the even pump's page (R323). -/
def pairCfg (s : State) (k lo w : Nat) : Nat := getF s (Reg.TWIN_CFG (k / 2 * 2)) lo w

/-- Both pumps of a pair run the quick self-test (R315). -/
def quickTest (why : QuickTest) (k : Nat) (s : State) : State :=
  setPump k { pump s k with quick := some why } (bumpF (Reg.HEALTH_TEST k) 24 8 s)

/-- A mismatch run reaches MISMATCH_RUN (R315). -/
def mismatchRun (cell : Nat) (s : State) : State :=
  let p := primaryPump cell
  let q := twin p
  if reg s (Reg.PE_KERNEL_VER p) != reg s (Reg.PE_KERNEL_VER q) then s
  else if pumpState s p = 4 && pumpState s q = 4 then quickTest .mismatch q (quickTest .mismatch p s)
  else if pumpState s p = 3 then pumpLost p 4 s
  else if pumpState s q = 3 then pumpLost q 4 s
  else s

/-- A pump in SYNC enters ACTIVE once every cell of its pair meets R316 (R311). -/
def syncDone (k : Nat) (s : State) : State :=
  let need := 16 * pairCfg s k 16 8
  let met := fun (m : Nat) => match sideOf k m with
    | some side => ((loopCell s m).copy side).copied && need ≤ ((loopCell s m).copy side).agreed
    | none => true
  if pumpState s k = 3 && inService s (twin k) && ((pairCells k).filter fun m => m < s.variant.cells).all met then
    refreshPair k (setPumpState k 4 s)
  else s

/-- Both pumps of a cell's pair enter ACTIVE where they have met R316: the shadow, and a holder that took its cells in SYNC
(R311, R316, R320). -/
def syncBoth (cell shadow : Nat) (s : State) : State := syncDone (pumpOf cell (1 - shadow)) (syncDone (pumpOf cell shadow) s)

/-- The comparison of a boundary, once both pumps' updates have come; it counts towards R316 for either pump
(R310, R316, R320, R323, R324). -/
def shadowCompare (cell t : Nat) (s : State) : State :=
  let p := primaryPump cell
  let shadow := 1 - holderSide s cell
  let a := claimState cell
  let count := fun (ok : Bool) (u : State) =>
    let step := fun (l : LoopCopy) => { l with agreed := if ok then l.agreed + 1 else 0 }
    let u1 := modCopy cell (1 - shadow) step (modCopy cell shadow step u)
    setF a 8 8 (min 255 (((loopCell u1 cell).copy shadow).agreed / 16)) u1
  let s0 := setCell cell { loopCell s cell with compared := some t } s
  let versions := reg s (Reg.PE_KERNEL_VER p) != reg s (Reg.PE_KERNEL_VER (twin p))
  if !cellAuto s cell then syncBoth cell shadow (count true s0)
  else
    let d := largestDiff s0 cell
    let dev := Reg.HEALTH_DEV p
    let s1 := setReg64 (Reg.HEALTH_CMP_LO p) (reg64 s0 (Reg.HEALTH_CMP_LO p) + 1) s0
    let s2 := if getF s1 dev 0 16 < d.1 then setReg dev (word (min 65535 d.1 + 2 ^ 16 * d.2)) s1 else s1
    let runIs := fun (n : Nat) (u : State) => setF a 4 4 (min 15 n) (setCell cell { loopCell u cell with run := n } u)
    if d.1 ≤ pairCfg s p 8 8 then syncBoth cell shadow (count true (runIs 0 s2))
    else
      let run := (loopCell s2 cell).run + 1
      let h := Reg.HEALTH_MISMATCH p
      let s3 := runIs run (bumpF h 0 16 s2)
      let s4 := setInt (pumpPage p) 11 (setF h 16 8 (max (getF s3 h 16 8) (min 255 run)) s3)
      let s5 := syncBoth cell shadow (count versions s4)
      if run = pairCfg s p 4 4 then mismatchRun cell s5 else s5

/-- After an update has come: the comparison, once both have (R310). -/
def compareIfBoth (cell : Nat) (s : State) : State :=
  let c := loopCell s cell
  let p := primaryPump cell
  match c.primary.received, c.secondary.received with
  | some a, some b =>
    if a = b && c.compared != some a && inService s p && inService s (twin p) && c.primary.copied && c.secondary.copied
    then shadowCompare cell a s else s
  | _, _ => s

/-- A shadow update passes: what the driver stage says of the holder's codes stands for the shadow's too (R273, R308). -/
def passShadow (side cell : Nat) (s : State) : State :=
  modCopy cell side (fun l => { l with refused := ((loopCell s cell).copy (1 - side)).refused }) s

/-- The arbiter meets one update (R308). A raise to a claim that already stands is the take of an orphan by the pump that held it last
(R319). -/
def arbitrate (side cell claim : Nat) (s : State) : State :=
  let own := claimOf s cell side
  let other := claimOf s cell (1 - side)
  if claim = (other + 1) % 65536 && (claim != own || orphaned s cell) && raisePermitted s cell side then
    passCodes side cell (takeCell side cell claim s)
  else if claim = own then
    if orphaned s cell then s else if holderSide s cell = side then passCodes side cell s else passShadow side cell s
  else
    bumpF (Reg.CLAIM_COUNT (cell / 64)) 0 16 (modCopy cell side (fun l => { l with refused := List.replicate 4 true }) s)

/-- A pump's update of its latest boundary reaches the claim arbiter (R307, R308, R310). -/
def execClaimUpdate (pump : Fin 128) (cell : Fin 640) (claim : BitVec 16) (s : State) : Out :=
  .next (
    let m := cell.val
    match sideOf pump m with
    | none => s
    | some side =>
      if !(m < s.variant.cells) || s.loopOrigin.isNone || columnResetting s m || !computes s pump then s
      else
        let s1 := arbitrate side m claim.toNat s
        let s2 := modCopy m side (fun l => { l with received := l.tick }) s1
        let c := loopCell s2 m
        compareIfBoth m (whenB (holderSide s2 m = side && (c.copy side).tick != c.missedAt) (setB (claimState m) 3 false) s2))

/-! ### Errors and tests -/

/-- An uncorrectable ECC error in a pump's local memory (R313). -/
def execPumpEccError (pump : Fin 128) (s : State) : Out :=
  .next (if computes s pump then pumpLost pump 2 s else s)

/-- The background self-test ends (R313, R323). -/
def execBackgroundSelfTest (pump : Fin 128) (pass : Bool) (s : State) : Out :=
  .next (if !inService s pump then s
    else if pass then wrapF (Reg.HEALTH_TEST pump) 0 16 s
    else
      let s1 := pumpLost pump 3 s
      bumpF (Reg.HEALTH_TEST pump) 16 8 s1)

/-- One pump's outcome of a quick self-test: after a mismatch a failing pump is lost (R315, R323). -/
def quickOutcome (k : Nat) (pass : Bool) (s : State) : State :=
  match (pump s k).quick with
  | none => s
  | some why =>
    let s1 := setPump k { pump s k with quick := none } s
    if pass then s1
    else match why with
      | .mismatch => bumpF (Reg.HEALTH_TEST k) 16 8 (pumpLost k 4 s1)
      | .host => bumpF (Reg.HEALTH_TEST k) 16 8 s1

/-- The quick self-tests of a pair end (R315); the pair's fault shows in its even pump's page (assumption 18). -/
def execQuickSelfTestComplete (pair : Fin 64) (evenPass oddPass : Bool) (s : State) : Out :=
  .next (
    let e := 2 * pair.val
    let ran := fun (k : Nat) => (pump s k).quick == some QuickTest.mismatch
    let disagree := ran e && ran (e + 1) && evenPass && oddPass
    whenB disagree (setFault (pumpPage e) 2) (quickOutcome (e + 1) oddPass (quickOutcome e evenPass s)))

/-- A pump in LOADING has loaded: SELF_TEST (R311). -/
def execPumpLoadComplete (pump : Fin 128) (s : State) : Out :=
  .next (if pumpState s pump = 1 then
      setReg (Reg.PE_KERNEL_VER pump) (Machine.pump s pump).kernel (setPumpState pump 2 (reloadPump pump s))
    else s)

/-- A pump enters SYNC: it copies its cells from a twin that computes, takes orphans, and takes cells that would have been orphaned at
their next boundary (R312, R316, R318, R319, R320). -/
def enterSync (k : Nat) (s : State) : State :=
  let other := computes s (twin k)
  let s0 := setPumpState k 3 s
  let s1 := if phase s (pumpPage k) == .resetting then s0 else setPhase (pumpPage k) .running s0
  let cells := (pairCells k).filter fun m => m < s.variant.cells
  let s2 := forEach cells (fun m t =>
    match sideOf k m with
    | none => t
    | some side =>
      let c := loopCell t m
      let l := c.copy side
      let c1 := c.withCopy side { l with copied := !other, agreed := 0, received := none, xHat := if other then l.xHat else List.replicate 12 0 }
      let o := c1.copy (1 - side)
      let c2 := c1.withCopy (1 - side) { o with agreed := 0 }
      let free := match c2.permit with
        | none => true
        | some q => !inService t (pumpOf m q)
      let due := c2.orphanDue.isSome
      setCell m { c2 with orphanDue := none, permit := if (orphaned t m && free) || due then some side else c2.permit } t) s1
  refreshPair k s2

/-- A pump's self-test ends (R311). -/
def execPumpSelfTestComplete (pump : Fin 128) (pass : Bool) (s : State) : Out :=
  .next (if pumpState s pump = 2 then
      if pass then enterSync pump s else bumpF (Reg.HEALTH_TEST pump) 16 8 (pumpLost pump 3 s)
    else s)

/-! ### Commands of the page -/

/-- TWIN_CMD.FW_UPDATE (R322). -/
def execFwUpdate (req : Requester) (pump : Fin 128) (s : State) : Out :=
  .next (hostWrite req (Reg.TWIN_CMD pump) (fun t =>
    if pumpState t pump = 4 && pumpState t (twin pump) = 4 && t.kernelStaged.isSome then
      handOver pump true (setB (Reg.TWIN_STATUS pump) 14 false t)
    else setB (Reg.TWIN_STATUS pump) 14 true t) s)

/-- TWIN_CMD.SELF_TEST (R323). -/
def execSelfTest (req : Requester) (pump : Fin 128) (s : State) : Out :=
  .next (hostWrite req (Reg.TWIN_CMD pump) (fun t =>
    if inService t pump && (Machine.pump t pump).quick.isNone then quickTest .host pump t else t) s)

/-- TWIN_CMD.TAKEBACK_NOW (R317). -/
def execTakebackNow (req : Requester) (pump : Fin 128) (s : State) : Out :=
  .next (hostWrite req (Reg.TWIN_CMD pump) (fun t => setPump pump { Machine.pump t pump with takebackNow := true } t) s)

/-- HEALTH_CLR (R323). -/
def execHealthClr (req : Requester) (pump : Fin 128) (s : State) : Out :=
  .next (hostWrite req (Reg.HEALTH_CLR pump) (fun t =>
    setReg (Reg.HEALTH_MISMATCH pump) 0 (setReg64 (Reg.HEALTH_CMP_LO pump) 0 (setReg (Reg.HEALTH_DEV pump) 0
      (setReg (Reg.HEALTH_TEST pump) 0 (setReg (Reg.HEALTH_EVENTS pump) 0 t))))) s)

/-- CLAIM_COUNT_CLR (R324). -/
def execClaimCountClr (req : Requester) (col : Fin 10) (s : State) : Out :=
  .next (hostWrite req (Reg.CLAIM_COUNT_CLR col) (fun t => setReg (Reg.CLAIM_COUNT col) 0 t) s)

/-! ### The read-back calibration of a column's heaters (R256) -/

/-- HTR_CAL_CMD.START (R256). -/
def execHtrCalStart (req : Requester) (col : Fin 10) (s : State) : Out :=
  .next (hostWrite req (Reg.HTR_CAL_CMD col) (fun t =>
    let c := col.val
    if SMap.get (fun _ => false) t.htrCal c || !t.pins.clearN then setB (Reg.HTR_CAL_STATUS c) 3 true t
    else
      let t1 := setReg (Reg.HTR_CAL_STATUS c) 1 { t with htrCal := SMap.set (fun _ => false) t.htrCal c true }
      forEach (colSlots c) (markStale true) (forEach (colSlots c) holdCode t1)) s)

/-- The two values of an output agree within 0.5 % of their mean (R256). -/
def readAgree (p : ReadPair) : Bool := absI ((p.first : Int) - p.second) * 400 ≤ p.first + p.second

/-- The hold of a read-back calibration ends on a slot: a code held for a first update stays held, and an orphan stays STALE (R130, R256,
R318). -/
def calRelease (slot : Nat) (s : State) : State :=
  if (loopCell s (slot / 4)).firstDue then s
  else
    let s1 := releaseCode slot s
    if orphaned s1 (slot / 4) then s1 else markStale false slot s1

/-- A read-back calibration ends with the two values of every output it read (R256, R258). -/
def execHtrCalDone (col : Fin 10) (runs : List ReadPair) (s : State) : Out :=
  .next (
    let c := col.val
    if SMap.get (fun _ => false) s.htrCal c then
      let s1 := { s with htrCal := SMap.set (fun _ => false) s.htrCal c false }
      let bad := (List.range 512).find? fun h => runs.any fun p => p.output == h && !readAgree p
      let s2 := match bad with
        | some h => setReg (Reg.HTR_CAL_STATUS c) (word (2 + 4 + 256 * (h / 2))) s1
        | none => setReg (Reg.HTR_CAL_STATUS c) 2 (forEach (runs.filter fun p => p.output < 512) (fun p t =>
            setF (if p.output % 2 = 0 then Reg.HTR_RCAL_A c (p.output / 2) else Reg.HTR_RCAL_B c (p.output / 2)) 0 16
              (openDiv ((p.first + p.second : Nat) : Int) 2).toNat t) s1)
      let s3 := forEach (colSlots c) calRelease s2
      setInt (colPage c) 20 s3
    else s)

end Sys2Proof.Machine
end

