-- ==== Sys2Proof/Machine/Boundaries.lean ====
section
/-! DEFINITION. The boundaries of a loop cell (R276, R287, R293 to R296, R316 to R320): what a boundary brings, the pumps' updates at
it, and a missing update. -/

namespace Sys2Proof.Machine

open Sys2Proof

/-! ### Boundaries (R276, R293, R296) -/

/-- The first boundary of a cell at or after a loop tick (R276). -/
def boundaryFrom (s : State) (cell t : Nat) : Nat :=
  let p := bankPeriod s cell (activeBank s cell)
  t + (p - (t + cell) % p) % p

/-- The column goes out of the hold of R130 for a cell: its codes and levels are free again (R132). -/
def releaseFirst (cell : Nat) (s : State) : State :=
  if (loopCell s cell).firstDue then
    let s1 := forEach (cellSlots cell) (fun n t => ditherFrom n (markStale false n (releaseCode n t))) (setCell cell { loopCell s cell with firstDue := false } s)
    setB Reg.GLB_PRIME_STATUS 4 (anyHeld s1) s1
  else s

/-- The mode change that falls due at a boundary (R293, R294). -/
def modeBoundary (cell : Nat) (s : State) : State :=
  let want := getBit s (Reg.CELL_CTRL cell) 0
  if want && !cellAuto s cell then
    if parkForced s || bankKernel s cell (activeBank s cell) = 0 || getBit s (Reg.CELL_STATUS cell) 3 then
      setB (Reg.CELL_CTRL cell) 0 false s
    else presetAll cell (setReg64 (Reg.CELL_UPDATES_LO cell) 0 (setAuto true cell s))
  else if !want && cellAuto s cell then leaveAuto cell s
  else s

/-- R275 at the boundary that follows. -/
def divergeBoundary (cell : Nat) (s : State) : State :=
  let c := loopCell s cell
  if c.diverge then
    let zero := fun (l : LoopCopy) => { l with innov := List.replicate 4 0 }
    let s1 := forceManual cell (setCell cell { c with diverge := false, primary := zero c.primary, secondary := zero c.secondary } s)
    let p := pumpPage (primaryPump cell)
    setFault p 0 (setInt p 3 (setB (Reg.CELL_STATUS cell) 3 true s1))
  else s

/-- A pump that R319 permits takes an orphaned cell at this boundary: its estimate starts at zero with the bumpless preset,
and automatic returns where R319 says so. -/
def orphanBoundary (cell : Nat) (s : State) : State :=
  let c := loopCell s cell
  match c.permit with
  | some side =>
    if getBit s (claimState cell) 1 && inService s (pumpOf cell side) then
      let l := c.copy side
      let c1 := c.withCopy side { l with xHat := List.replicate 12 0, copied := true }
      let s1 := presetAll cell (setCell cell c1 s)
      let resume := getBit s (Reg.TWIN_CFG (pumpOf cell side)) 1 && c.wasAuto && !c.hostWrote
      if resume then setAuto true cell (setB (Reg.CELL_CTRL cell) 0 true s1) else s1
    else s
  | none => s

/-- A cell for which no pump of the pair is in service is orphaned at its boundary, and a pump that handed it over may be done
(R311, R318). -/
def lostBoundary (cell : Nat) (s : State) : State :=
  match (loopCell s cell).orphanDue with
  | some park =>
    let p := primaryPump cell
    refreshPair p (finishHandover (twin p) (finishHandover p (orphan park cell s)))
  | none => s

/-- What a boundary brings to the cell before either pump computes: the loss of both pumps, divergence, the swap, then the mode, then the
injection (R275, R287, R292, R296, R299, R318). -/
def boundaryActions (cell t : Nat) (s : State) : State :=
  let c := loopCell s cell
  let s1 := lostBoundary cell (setCell cell { c with tick := some t, preset := c.presetDue, presetDue := List.replicate 4 false } s)
  let s2 := divergeBoundary cell (releaseFirst cell s1)
  let s3 := if cellPending s2 cell && bankReady s2 cell then if overLoad s2 cell then refuseBank 4 cell s2 else swapBank cell s2 else s2
  injBoundary cell (modeBoundary cell (orphanBoundary cell s3))

/-- The pump's computation of a boundary (R270, R306). -/
def pumpCompute (side cell t : Nat) (taps : List (List (BitVec 12))) (s : State) : State :=
  let f := loopFrame s cell taps
  let c := loopCell s cell
  let r := compute s f (c.copy side) c.preset
  let other := pumpOf cell (1 - side)
  let s1 := { modCopy cell side (fun _ => { r.copy with tick := some t }) s with fresh := s.fresh + 28 }
  if holderSide s cell = side || !computes s other then
    let overRange := r.copy.innov.any fun n => 64 ≤ n
    let s2 := setCell cell { loopCell s1 cell with diverge := overRange || (loopCell s1 cell).diverge } s1
    showCell f r t s2
  else s1

/-- A pump in SYNC copies the cell's state from the holder after the holder's update of the boundary (R316): the comparisons that count
begin with the next boundary. -/
def syncCopy (side cell t : Nat) (s : State) : State :=
  let from_ := (loopCell s cell).copy (1 - side)
  if from_.tick = some t then
    let s1 := modCopy cell side (fun l => { from_ with loaded := l.loaded, received := l.received, copied := true, agreed := 0 }) s
    setCell cell { loopCell s1 cell with compared := some t } s1
  else s

/-- The holder is lost before a pump in SYNC has copied the cell: the estimate starts at zero with the bumpless preset, as R319 has it
for an orphan (R312, R320, assumption 72). -/
def startBare (side cell : Nat) (s : State) : State :=
  presetAll cell (modCopy cell side (fun l => { l with xHat := List.replicate 12 0, copied := true }) s)

/-- A harmonic or mean in half picoamperes as the demodulator's registers show it, in 1/256 nA; its rounding is open (assumption 9). -/
def demodShow (x : Rat) : Int := openDiv (x.num * 256) (x.den * 2000)

/-- One slot's tap over the window shows in the demodulator's registers and in the tap well's channel; samples of an UNUSED slot are
discarded (R29, R327, R389). -/
def recordTap (slot : Nat) (raws : List (BitVec 12)) (s : State) : State :=
  let x := tapDemod s slot (activeBank s (slot / 4)) raws
  match raws[x.count - 1]? with
  | none => s
  | some raw =>
    if x.count = 0 || role s slot = roleUnused then s
    else
      let t := slot / 16
      let i := slot % 16
      let s1 := setReg (Reg.DEMOD_I t i) (word (unsignedOf 32 (demodShow x.inPhase))) (recordSample t i raw s)
      setReg (Reg.DEMOD_MEAN t i) (word ((demodShow x.mean).toNat % 2 ^ 31)) (setReg (Reg.DEMOD_Q t i) (word (unsignedOf 32 (demodShow x.quad))) s1)

/-- The boundary of a cell that a pump's next update is for (R276, R306). -/
def dueTick (s : State) (o side cell : Nat) : Nat :=
  let after := match ((loopCell s cell).copy side).tick with | some t => t + 1 | none => 0
  let now := (s.time.uptime - o + 999) / 1000
  match (loopCell s cell).tick with
  | some b => if after ≤ b then b else boundaryFrom s cell (max after now)
  | none => boundaryFrom s cell (max after now)

/-- A boundary of a cell, t ticks after the entry into P5: what it brings, once (R276). -/
def reachBoundary (o cell t : Nat) (s : State) : State :=
  let s1 := advanceUptime (o + 1000 * t) s
  if (loopCell s1 cell).tick = some t then s1 else boundaryActions cell t s1

/-- A pump computes one update of a cell at the cell's boundary (R270, R276, R306). Where no pump computes and the cell has yet to be
orphaned, the boundary passes with that alone (R318). -/
def execLoopUpdate (pump : Fin 128) (cell : Fin 640) (taps : List (List (BitVec 12))) (s : State) : Out :=
  .next (
    let m := cell.val
    match s.loopOrigin, sideOf pump m with
    | some o, some side =>
      if !(m < s.variant.cells) || columnResetting s m then s
      else if !computes s pump then
        if (loopCell s m).orphanDue.isSome then reachBoundary o m (dueTick s o side m) s else s
      else
        let t := dueTick s o side m
        let s2 := reachBoundary o m t s
        let s3 := forEach ((List.range 4).zip taps) (fun e u => recordTap (4 * m + e.1) e.2 u) s2
        if !computes s3 pump then s3
        else if ((loopCell s3 m).copy side).copied then pumpCompute side m t taps s3
        else if computes s3 (twin pump) then syncCopy side m t s3
        else pumpCompute side m t taps (startBare side m s3)
    | _, _ => s)

/-- The arbiter finds a pump's update missing at a boundary: the first whose update it has not had (R313, R314, R318, R320). -/
def execMissingUpdate (pump : Fin 128) (cell : Fin 640) (s : State) : Out :=
  .next (
    let m := cell.val
    match s.loopOrigin, sideOf pump m with
    | some o, some side =>
      if !(m < s.variant.cells) || columnResetting s m || !computes s pump then s
      else
        let l := (loopCell s m).copy side
        let t := match l.tick with
          | some t => if l.received = some t then dueTick s o side m else t
          | none => dueTick s o side m
        let s1 := reachBoundary o m t s
        if !computes s1 pump then s1
        else
          let miss := fun (u : State) => setB (claimState m) 3 true (setCell m { loopCell u m with missedAt := some t } u)
          lostBoundary m (pumpLost pump 1 (whenB (holderSide s1 m = side) miss s1))
    | _, _ => s)

end Sys2Proof.Machine
end

