-- ==== Sys2Proof/Machine/Benes.lean ====
section
/-! DEFINITION. The route unit's algorithm (R153, R161 to R167): permutations, the looping algorithm on a Beneš network and
its failures. -/

namespace Sys2Proof

/-- The other line of a cell. -/
def mate (n : Nat) : Nat := if n % 2 = 0 then n + 1 else n - 1

/-- Element `i` of a list of numbers, zero past its end. -/
def nth (l : List Nat) (i : Nat) : Nat := (l[i]?).getD 0

/-- OUT of a permutation entry (R152). -/
def entryOut (e : Nat) : Nat := e % 1024

/-- VALID of a permutation entry (R152). -/
def entryValid (e : Nat) : Bool := e / 2 ^ 15 % 2 == 1

/-- The lowest offending input of a list of entries and its KIND: 0 an output beyond N − 1, 1 an output repeated
(R153, R184). -/
def permFault (n : Nat) : Nat → List Nat → List Nat → Option (Nat × Nat)
  | _, _, [] => none
  | p, used, e :: r =>
    if !entryValid e then permFault n (p + 1) used r
    else if n ≤ entryOut e then some (p, 0)
    else if used.contains (entryOut e) then some (p, 1)
    else permFault n (p + 1) (entryOut e :: used) r

/-- The outputs of the inputs in turn, each input without a valid entry taking the next free output (R153). -/
def fillPerm : List Nat → List Nat → List Nat
  | [], _ => []
  | e :: r, free =>
    if entryValid e then entryOut e :: fillPerm r free
    else match free with
      | [] => 0 :: fillPerm r []
      | o :: f => o :: fillPerm r f

/-- The whole permutation that a list of N entries gives (R153). -/
def wholePerm (entries : List Nat) : List Nat :=
  let named := (entries.filter entryValid).map entryOut
  fillPerm entries ((List.range entries.length).filter fun o => !named.contains o)

/-- The inverse of a permutation: the input of each output. -/
def inversePerm (perm : List Nat) : List Nat := (List.range perm.length).map fun o => perm.findIdx (fun x => x == o)

/-- A block of a recursion level: the switch input port on each of its inputs and the output of each (R166). -/
structure Block where
  ports : List Nat
  perm : List Nat
  deriving DecidableEq, Repr

/-- A cell of the network with its state and the ports whose paths leave on its upper and lower lines. -/
structure NetCell where
  stage : Nat
  cell : Nat
  cross : Bool
  upper : Nat
  lower : Nat
  deriving DecidableEq, Repr

/-- Why routing stops: the reason of ROUTE_FAIL, the first unroutable input, and the cell (R166, R167). -/
structure RouteStop where
  reason : Nat
  input : Nat
  stage : Nat
  cell : Nat
  deriving DecidableEq, Repr

/-- The inputs of the loop of `x0`, each with 1 where it takes the other subnetwork than `x0`: from `x` across its output
cell and then across the input cell that is met (R166). -/
def loopWalk (perm inv : List Nat) (x0 : Nat) : Nat → Nat → List (Nat × Nat)
  | 0, _ => []
  | fuel + 1, x =>
    let y := nth inv (mate (nth perm x))
    (x, 0) :: (y, 1) :: (if mate y = x0 then [] else loopWalk perm inv x0 fuel (mate y))

/-- The lowest port of a list, 0x7FF for none. -/
def lowestPort (l : List Nat) : Nat := l.foldl min 0x7FF

/-- The place of an input in a loop: 1 where it takes the other subnetwork than the lowest. -/
def parityOf (loop : List (Nat × Nat)) (x : Nat) : Nat := ((loop.find? fun e => e.1 == x).map Prod.snd).getD 0

/-- The orientations that the pinned cells of a loop imply, with their cells in the order of R167: stage `l` first, then
stage 2k − 2 − l. The pins of the block's cells are given by local index (R166). -/
def impliedBy (loop : List (Nat × Nat)) (inv : List Nat) (m : Nat) (pinIn pinOut : Nat → Nat) : List (Bool × Nat × Nat) :=
  let member := fun (x : Nat) => loop.any fun e => e.1 == x
  let ins := ((List.range (m / 2)).filter fun i => member (2 * i) && pinIn i != 0).map fun i =>
    (false, i, (parityOf loop (2 * i) + pinIn i - 1) % 2)
  let outs := ((List.range (m / 2)).filter fun c => member (nth inv (2 * c)) && pinOut c != 0).map fun c =>
    (true, c, (parityOf loop (nth inv (2 * c)) + pinOut c - 1) % 2)
  ins ++ outs

/-- The orientation of a loop: which subnetwork its lowest input uses, or the conflict (R166, R167). -/
def orient (blk : Block) (loop : List (Nat × Nat)) (implied : List (Bool × Nat × Nat)) (marked : Nat → Bool)
    (inStage outStage base : Nat) : Except RouteStop Nat :=
  match implied with
  | [] => .ok (if loop.any fun e => marked (nth blk.ports e.1) then 1 else 0)
  | f :: r =>
    match r.find? fun e => e.2.2 != f.2.2 with
    | none => .ok f.2.2
    | some e => .error { reason := 1, input := lowestPort (loop.map fun x => nth blk.ports x.1), stage := if e.1 then outStage else inStage, cell := base + e.2.1 }

/-- The subnetwork of each input of a block, loop by loop in the order of their lowest inputs (R166). -/
def colourBlock (blk : Block) (inv : List Nat) (pinIn pinOut : Nat → Nat) (marked : Nat → Bool) (inStage outStage base : Nat) :
    Nat → Nat → List (Nat × Nat) → Except RouteStop (List (Nat × Nat))
  | 0, _, acc => .ok acc
  | fuel + 1, x, acc =>
    if acc.any fun e => e.1 == x then colourBlock blk inv pinIn pinOut marked inStage outStage base fuel (x + 1) acc
    else
      let loop := loopWalk blk.perm inv x (blk.perm.length / 2) x
      match orient blk loop (impliedBy loop inv blk.perm.length pinIn pinOut) marked inStage outStage base with
      | .error e => .error e
      | .ok o =>
        colourBlock blk inv pinIn pinOut marked inStage outStage base fuel (x + 1) (loop.map (fun e => (e.1, (e.2 + o) % 2)) ++ acc)

/-- A subnetwork's block: the inputs that use it, in the order of their cells (R162, R166). -/
def subBlock (blk : Block) (colour : List (Nat × Nat)) (side : Nat) : Block :=
  let ins := (List.range (blk.perm.length / 2)).map fun i => if parityOf colour (2 * i) = side then 2 * i else 2 * i + 1
  { ports := ins.map fun x => nth blk.ports x, perm := ins.map fun x => nth blk.perm x / 2 }

/-- The cells of a block's two outer stages (R161, R162, R166). -/
def outerCells (blk : Block) (inv : List Nat) (colour : List (Nat × Nat)) (inStage outStage base : Nat) : List NetCell :=
  let port := fun (x : Nat) => nth blk.ports x
  let n := blk.perm.length / 2
  ((List.range n).map fun i =>
    let cross := parityOf colour (2 * i) == 1
    NetCell.mk inStage (base + i) cross (port (if cross then 2 * i + 1 else 2 * i)) (port (if cross then 2 * i else 2 * i + 1))) ++
  (List.range n).map fun c =>
    NetCell.mk outStage (base + c) (parityOf colour (nth inv (2 * c)) == 1) (port (nth inv (2 * c))) (port (nth inv (2 * c + 1)))

/-- Routes one block of level `l`, block number `b` (R166). -/
def routeBlock (k l b : Nat) (blk : Block) (pin : Nat → Nat → Nat) (marked : Nat → Bool) :
    Except RouteStop (List NetCell × List Block) :=
  let m := blk.perm.length
  if m = 2 then
    let cross := nth blk.perm 0 == 1
    let p := pin (k - 1) b
    if (p = 1 && cross) || (p = 2 && !cross) then .error { reason := 2, input := lowestPort blk.ports, stage := k - 1, cell := b }
    else
      let a := nth blk.ports 0
      let c := nth blk.ports 1
      .ok ([NetCell.mk (k - 1) b cross (if cross then c else a) (if cross then a else c)], [])
  else
    let inv := inversePerm blk.perm
    let base := b * (m / 2)
    let outStage := 2 * k - 2 - l
    match colourBlock blk inv (fun i => pin l (base + i)) (fun c => pin outStage (base + c)) marked l outStage base m 0 [] with
    | .error e => .error e
    | .ok colour => .ok (outerCells blk inv colour l outStage base, [subBlock blk colour 0, subBlock blk colour 1])

/-- Routes the blocks of a level in ascending order. -/
def routeLevel (k l : Nat) (pin : Nat → Nat → Nat) (marked : Nat → Bool) :
    Nat → List Block → List NetCell → List Block → Except RouteStop (List NetCell × List Block)
  | _, [], cells, next => .ok (cells, next)
  | b, blk :: r, cells, next =>
    match routeBlock k l b blk pin marked with
    | .error e => .error e
    | .ok (c, n) => routeLevel k l pin marked (b + 1) r (cells ++ c) (next ++ n)

/-- Routes one recursion level after another, `fuel` of them (R166). -/
def routeFrom (k : Nat) (pin : Nat → Nat → Nat) (marked : Nat → Bool) :
    Nat → Nat → List Block → List NetCell → Except RouteStop (List NetCell)
  | 0, _, _, cells => .ok cells
  | fuel + 1, l, blocks, cells =>
    match routeLevel k l pin marked 0 blocks [] [] with
    | .error e => .error e
    | .ok (c, next) => routeFrom k pin marked fuel (l + 1) next (cells ++ c)

/-- Routes a whole permutation on a network of 2^k ports (R161, R166). -/
def benesRoute (k : Nat) (perm : List Nat) (pin : Nat → Nat → Nat) (marked : Nat → Bool) : Except RouteStop (List NetCell) :=
  routeFrom k pin marked k 0 [{ ports := List.range perm.length, perm := perm }] []

end Sys2Proof
end

