-- ==== Sys2Proof/Machine/Wells.lean ====
section
/-! DEFINITION. Light sensing (R325 to R357): ranges, pins, interleaved bindings, plausibility, readings, references
and calibration of the wells. -/

namespace Sys2Proof.Machine

open Sys2Proof

/-! ### Wells and their states -/

/-- Whether the part has a well (R2, R325). -/
def wellPresent (s : State) (w : Nat) : Bool := (wellPage w).present s.variant

/-- Whether a well index is a tap well. -/
def isTap (w : Nat) : Bool := w < 160

/-- Whether a well index is a primary port well (R330). -/
def isPrimary (w : Nat) : Bool := 160 ≤ w && w < 224

/-- The reverse bias a well sets at its PB or PMB pads, in mV: none until P4 first enables it, and of no checker (R328). -/
def padBias (s : State) (w : Nat) : Nat :=
  if s.biasOn && wellPresent s w && (isTap w || isPrimary w) then 10 * getF s (Reg.WELL_CFG w) 8 8 else 0

/-- The checker of a primary well, and the primary of a checker; any other well stands alone (R330). -/
def partnerWell (w : Nat) : Nat :=
  if w < 160 || 288 ≤ w then w
  else if w < 224 then 160 + 64 + (w - 160 + 32) % 64
  else 160 + (w - 224 + 32) % 64

/-- LOST of a well (R354). -/
def wellLost (s : State) (w : Nat) : Bool := getBit s (Reg.WELL_STATUS w) 4

/-- Whether a well converts: its block runs and it is not lost (R353, R354). -/
def wellRuns (s : State) (w : Nat) : Bool := wellPresent s w && phase s (wellPage w) == .running && !wellLost s w

/-- The pin in force on a well. -/
def pinOf (s : State) (w : Nat) : Option WellPin := SMap.get (fun _ => none) s.pin w

/-- The binding of a pair. -/
def bindingOf (s : State) (j : Nat) : Option Binding := SMap.get (fun _ => none) s.binding j

/-- The binding in force on a well (R336). -/
def boundWell (s : State) (w : Nat) : Option Binding :=
  if isTap w then (bindingOf s (w / 2)).filter fun b => b.bound else none

/-- Whether input i of a well is out of scan now: no sample of it within the last 800 ns (R332, R333, R335, R338). -/
def outOfScan (s : State) (w i : Nat) : Bool := !inScan s w i s.time.uptime s.time.uptime

/-- Whether a primary converts a monitor in none of its slots (R341). -/
def checkerOnly (s : State) (w i : Nat) : Bool :=
  !wellRuns s w || (match pinOf s w with | some p => p.exclusive && !p.inputs.contains i | none => false)

/-- The well in whose page a run stands that a well takes part in: its own, or its primary's for a checker (R347). -/
def runOwner (w : Nat) : Nat := if isPrimary w then w else partnerWell w

/-- The run that a well takes part in (R347). -/
def calShown (s : State) (w : Nat) : Option CalRun := calRun s (runOwner w)

/-- MODE of a well (R333). -/
def wellMode (s : State) (w : Nat) : Nat :=
  match boundWell s w, pinOf s w, calShown s w with
  | some _, _, _ => 3
  | none, some p, _ => if p.exclusive then 2 else 1
  | none, none, some r => if r.phase == .internal then 1 else 0
  | none, none, none => 0

/-- What a well does now other than its scan (R333, R336, R347, R353). -/
def useNow (s : State) (w : Nat) : Option WellUse :=
  if !wellRuns s w then some .idle
  else
    match boundWell s w, pinOf s w, calShown s w with
    | some b, _, _ => some (.bound b.tier)
    | none, some p, _ => some (if p.exclusive then .exclusive p.inputs else .shared p.inputs)
    | none, none, some r => if r.phase == .internal then some (.calibrating r.channels r.ranges r.start) else none
    | none, none, none => none

/-- How long the model keeps a span that has ended: 2^27 ns, longer than any measurement window. -/
def spanKept : Nat := 2 ^ 27

/-- The well's time away from the scan goes on record: an open span of another use ends now, and a new one begins (R331 to R338). -/
def noteSpan (w : Nat) (s : State) : State :=
  let now := s.time.uptime
  let l := (SMap.get (fun _ => []) s.wellSpans w).filter fun p => match p.until_ with | some e => now < e + spanKept | none => true
  let opened := (l.find? fun p => p.until_.isNone).map WellSpan.use
  let use := useNow s w
  if opened = use then s
  else
    let closed := l.map fun p => if p.until_.isNone then { p with until_ := some now } else p
    let next := match use with
      | some u => ⟨u, now, none⟩ :: closed
      | none => closed
    { s with wellSpans := SMap.set (fun _ => []) s.wellSpans w next }

/-- CHECKER_ONLY and UNDER_CAL of a channel (R341, R355). -/
def refreshChannel (w i : Nat) (s : State) : State :=
  let p := if isTap w then false else checkerOnly s (if isPrimary w then w else partnerWell w) i
  let under := match calShown s w with | some r => r.channels / 2 ^ i % 2 == 1 | none => false
  let a := Reg.CH_STATUS w i
  setB a 7 p (setB a 5 under s)

/-- WELL_STATUS, the channels and STATUS.DEGRADED of a well as what it does gives them (R333, R346, R354); which inputs are in scan follows
from the samples (R332). -/
def refreshWell (w : Nat) (s : State) : State :=
  let a := Reg.WELL_STATUS w
  let mismatch := getF s (Reg.WELL_CFG w) 0 2 != getF s (Reg.CAL_STATUS w) 8 2
  let s1 := setB a 5 (calShown s w).isSome (setB a 3 mismatch (setF a 1 2 (wellMode s w) (noteSpan w s)))
  let s2 := setB (Reg.STATUS (wellPage w)) 5 (wellLost s w) s1
  forEach (List.range (wellInputs w)) (refreshChannel w) s2

/-- A well, and the partner whose monitors depend on it. -/
def refreshWells (w : Nat) (s : State) : State :=
  let s1 := refreshWell w s
  if partnerWell w = w then s1 else if wellPresent s1 (partnerWell w) then refreshWell (partnerWell w) s1 else s1

/-- Writes the calibration run of a well. -/
def setCalRun (w : Nat) (r : Option CalRun) (s : State) : State := { s with calRun := SMap.set (fun _ => none) s.calRun w r }

/-! ### Ranges (R329) -/

/-- The wells whose CH_STATUS shows a channel's range: both wells of a port monitor (R329). -/
def rangeWells (w : Nat) : List Nat := if isTap w then [w] else [w, partnerWell w]

/-- A channel's range changes (R329, R355). -/
def changeRange (w i r : Nat) (s : State) : State :=
  let now := s.time.uptime
  let show_ := fun (v : Nat) (t : State) =>
    let recent := (changesOf t v i).filter fun e => now < e.2 + spanKept
    let t1 := { t with rangeChanges := SMap.set (fun _ => []) t.rangeChanges (16 * v + i) ((chRange t v i, now) :: recent) }
    bumpF (Reg.WELL_COUNT v) 16 16 (wrapF (Reg.CH_STATUS v i) 16 16 (setF (Reg.CH_STATUS v i) 0 2 r t1))
  forEach (rangeWells w) show_ s

/-- A block reset returns CH_CFG to range 1, which the front ends of a tap or primary port well take (R90, R329). -/
def rangesReset (w : Nat) (s : State) : State :=
  if isTap w || isPrimary w then
    forEach ((List.range (wellInputs w)).filter fun i => chRange s w i != 1) (fun i t => changeRange w i 1 t) s
  else s

/-- After a block reset of a checker its page still shows the ranges in use (R329). -/
def rangesShown (w : Nat) (s : State) : State :=
  if isTap w || isPrimary w then s
  else forEach (List.range (wellInputs w)) (fun i t => setF (Reg.CH_STATUS w i) 0 2 (chRange t (partnerWell w) i) t) s

/-- The well whose CH_CFG rules a channel, and the well whose samples count (R329, R341). -/
def autoRanges (s : State) (w i : Nat) : Bool :=
  let cfg := if isTap w || isPrimary w then w else partnerWell w
  let source := isTap w || (if isPrimary w then !checkerOnly s w i else checkerOnly s (partnerWell w) i)
  i < wellInputs w && wellRuns s w && source && getBit s (Reg.CH_CFG cfg i) 2 && !externalCal s cfg i

/-- Two consecutive samples above 30,400 (R329). -/
def execAutoRangeUp (well : Fin 288) (input : Fin 16) (s : State) : Out :=
  .next (if autoRanges s well input && 0 < chRange s well input then changeRange well input (chRange s well input - 1) s else s)

/-- 1 ms of samples below 2,560 (R329). -/
def execAutoRangeDown (well : Fin 288) (input : Fin 16) (s : State) : Out :=
  .next (if autoRanges s well input && chRange s well input < 3 then changeRange well input (chRange s well input + 1) s else s)

/-- A write of CH_CFG sets the range in use, but in a checker's page (R329, R355). -/
def chCfgWritten (w i : Nat) (s : State) : State :=
  let r := getF s (Reg.CH_CFG w i) 0 2
  if (isTap w || isPrimary w) && r != chRange s w i then changeRange w i r s else s

/-! ### Port monitors (R340 to R342) -/

/-- Whether pairs of a monitor are compared: both wells convert it in the scan (R340, R341). -/
def comparesPairs (s : State) (w i : Nat) : Bool :=
  let c := partnerWell w
  wellRuns s w && wellRuns s c && (pinOf s w).isNone && (pinOf s c).isNone && !externalCal s w i &&
    getBit s (Reg.WELL_STATUS w) 0 && getBit s (Reg.WELL_STATUS c) 0

/-- Whether the samples of a pair of raw codes, the primary's and the checker's, disagree (R340). -/
def pairDisagrees (s : State) (w i : Nat) (x : BitVec 12 × BitVec 12) : Bool :=
  let p := calSample s w i x.1.toNat
  let c := calSample s (partnerWell w) i x.2.toNat
  let tol := reg s (Reg.PW_PLAUS_TOL w)
  decide (10000 * fld tol 16 16 + fld tol 0 16 * max p.natAbs c.natAbs < 10000 * (p - c).natAbs)

/-- Whether the last PW_PLAUS_COUNT of a run of pairs all disagree, or all agree (R340). -/
def plausRun (s : State) (w i : Nat) (disagree : Bool) (pairs : List (BitVec 12 × BitVec 12)) : Bool :=
  let n := getF s (Reg.PW_PLAUS_COUNT w) 0 8
  decide (n ≤ pairs.length) && (pairs.drop (pairs.length - n)).all fun x => pairDisagrees s w i x == disagree

/-- PW_PLAUS_COUNT consecutive pairs disagree (R340, R355). -/
def execMonitorImplausible (run : MonitorPairs) (s : State) : Out :=
  .next (
    let w := 160 + run.monitor.val / 8
    let i := run.monitor.val % 8
    let a := Reg.PW_PLAUS_STATUS w
    if wellPresent s w && comparesPairs s w i && plausRun s w i true run.pairs && !getBit s a i then
      let s1 := bumpF a 16 16 (setB a (8 + i) true (setB a i true s))
      let s2 := forEach [w, partnerWell w] (fun v t => setB (Reg.CH_STATUS v i) 6 true t) s1
      setFault (wellPage w) 0 (setInt (wellPage w) 4 s2)
    else s)

/-- PW_PLAUS_COUNT consecutive pairs agree (R340). -/
def execMonitorPlausible (run : MonitorPairs) (s : State) : Out :=
  .next (
    let w := 160 + run.monitor.val / 8
    let i := run.monitor.val % 8
    if wellPresent s w && comparesPairs s w i && plausRun s w i false run.pairs then
      forEach [w, partnerWell w] (fun v t => setB (Reg.CH_STATUS v i) 6 false t) (setB (Reg.PW_PLAUS_STATUS w) i false s)
    else s)

/-- The committed monitor table entry of a monitor (R361). -/
def monEntry (s : State) (m : Nat) : Word := act s (Reg.VRD_MON m)

/-- The monitor that serves a port and side on this member: the lowest valid entry (R361). -/
def monitorFor (s : State) (port side : Nat) : Option Nat :=
  (List.range s.variant.monitors).find? fun m =>
    bitOf (monEntry s m) 15 && fld (monEntry s m) 0 10 == port && fld (monEntry s m) 10 1 == side

/-- A reading of a local input monitor refreshes its port's entry (R361, R363). -/
def refreshInput (m : Nat) (reading : Nat) (stale implausible overRange : Bool) (s : State) : State :=
  let e := monEntry s m
  let port := fld e 0 10
  if bitOf e 15 && fld e 10 1 == 0 && monitorFor s port 0 == some m then
    let v : InputPower := { reading := reading, loss := signed 16 (fld e 16 16), stale := stale, implausible := implausible, overRange := overRange, remote := false, source := 0, time := s.time.uptime, placed := s.time.uptime }
    storeInput port v s
  else s

/-- A well's samples of a monitor in the microsecond before an uptime, with the raw codes that it returned: currents in half picoamperes
and OVER marks (R327, R331, R342). -/
def monitorSamples (s : State) (w i u : Nat) (raws : List (BitVec 12)) : List (Int × Bool) :=
  ((samplesIn s w i (2 * (u - 1000) - 1) (2 * u - 1)).zip raws).map fun e => (sampleCurrent s w i e.1 e.2, isOver e.2)

/-- The mean of currents in half picoamperes as PM_READ shows it, in 0.125 nA: the rounding is open, and a mean below zero shows as zero
(R342, R355, assumption 9). -/
def readingOf (l : List Int) : Nat := min 0xFFFFFF (openDiv l.sum (halfPico * max 1 l.length)).toNat

/-- The last of a well's samples of a monitor shows in the well's page (R327, R355). -/
def recordLast (w i n : Nat) (raws : List (BitVec 12)) (s : State) : State :=
  match (raws.take n).getLast? with
  | some raw => recordSample w i raw s
  | none => s

/-- A pilot decoder's tally with one more reading, of the microsecond that ends `d` ns after the frame's start: it counts for a bit where its
microsecond lies outside the bit's first and last 2 µs (R384, R385). -/
def tallied (d n : Nat) (stale : Bool) (t : PilotTally) : PilotTally :=
  let b := (d - 1000) / 16000
  let counts := decide (3000 ≤ d - 16000 * b) && decide (d - 16000 * b ≤ 14000)
  { bits := if counts then t.bits.mapIdx fun i e => if i = b then (e.1 + n, e.2 + 1) else e else t.bits
    sum := t.sum + n, count := t.count + 1, stale := t.stale || stale }

/-- A reading of a monitor published at an uptime reaches its pilot decoder (R384). -/
def pilotHears (m u n : Nat) (stale : Bool) (s : State) : State :=
  match s.pilotDecode with
  | some p =>
    if p.left.contains m && decide (p.start + 1000 ≤ u) && decide (u ≤ p.start + 512000) then
      let t := tallied (u - p.start) n stale (SMap.get (fun _ => PilotTally.empty) p.heard m)
      { s with pilotDecode := some { p with heard := SMap.set (fun _ => PilotTally.empty) p.heard m t } }
    else s
  | none => s

/-- The reading of one monitor is published, from the samples of the primary or of the source that R341 names (R342, R363). -/
def publishReading (w i u : Nat) (x : MonitorSamples) (s : State) : State :=
  let c := partnerWell w
  let only := checkerOnly s w i
  let own := monitorSamples s w i u x.primary
  let other := monitorSamples s c i u x.checker
  let l := if only then other else own
  let stale := l.isEmpty || externalCal s w i
  let imp := getBit s (Reg.PW_PLAUS_STATUS w) i
  let ovr := l.any Prod.snd
  let n := readingOf (l.map Prod.fst)
  let s1 := recordLast c i other.length x.checker (recordLast w i own.length x.primary s)
  let s2 := setReg (Reg.PM_READ w i) (word (n + 2 ^ 24 * b2n only + 2 ^ 25 * b2n imp + 2 ^ 26 * b2n stale + 2 ^ 27 * b2n ovr)) s1
  pilotHears (8 * (w - 160) + i) u n stale (refreshInput (8 * (w - 160) + i) n stale imp ovr s2)

/-- The next whole microsecond of the WELL count at which a primary publishes (R331, R342). -/
def nextPublish (s : State) (w o : Nat) : Nat :=
  let due := match SMap.get (fun _ => none) s.published w with
    | some t => max s.time.uptime (t + 1)
    | none => max s.time.uptime (o + 1)
  o + (due - o + 999) / 1000 * 1000

/-- At a whole microsecond of the WELL count the primary page publishes its readings; nothing before the count runs (R331, R342). -/
def execPmReadPublish (primary : Fin 64) (samples : List MonitorSamples) (s : State) : Out :=
  .next (
    let w := 160 + primary.val
    match s.wellOrigin with
    | some o =>
      if wellPresent s w then
        let u := nextPublish s w o
        let s1 := advanceUptime u s
        forEach ((List.range 8).zip samples) (fun e t => publishReading w e.1 u e.2 t)
          { s1 with published := SMap.set (fun _ => none) s1.published w (some u) }
      else s
    | none => s)

/-! ### Pins (R333 to R335) -/

/-- A denied pin (R339, R353). -/
def pinDenied (w : Nat) (s : State) : State := bumpF (Reg.WELL_COUNT w) 0 16 s

/-- A pin falls due on a well: it applies, or is denied (R334, R339, R353). -/
def execPinStart (well : Fin 288) (s : State) : Out :=
  .next (
    let w := well.val
    match s.pinsPlaced.find? fun p => p.well == w with
    | none => s
    | some p =>
      let s1 := advanceTo p.start { s with pinsPlaced := s.pinsPlaced.erase p }
      if !wellRuns s1 w then s1
      else if (boundWell s1 w).isSome || (pinOf s1 w).isSome then pinDenied w s1
      else refreshWells w { s1 with pin := SMap.set (fun _ => none) s1.pin w (some p) })

/-- An internal calibration that a pin has held up goes on later by the pin's length (R353). -/
def calLater (w by_ : Nat) (s : State) : State :=
  match calRun s w with
  | some r => setCalRun w (some { r with start := r.start + by_ }) s
  | none => s

/-- A pin ends and the scan resumes, or a calibration that it held up (R334, R353). -/
def endPin (w : Nat) (s : State) : State :=
  let by_ := match pinOf s w with | some p => p.stop - p.start | none => 0
  refreshWells w (calLater (runOwner w) by_ { s with pin := SMap.set (fun _ => none) s.pin w none })

/-- A pin reaches its end instant (R334). -/
def execPinEnd (well : Fin 288) (s : State) : Out :=
  .next (match pinOf s well with
    | some p => endPin well (advanceTo p.stop s)
    | none => s)

/-! ### Interleaved bindings (R336 to R339) -/

/-- Writes the binding of a pair and its STATE and tier (R355). -/
def setBinding (j : Nat) (b : Option Binding) (s : State) : State :=
  let a := Reg.ILV_STATUS (2 * j)
  let st := match b with | none => 0 | some x => if x.bound then 2 else 1
  let s1 := setF a 0 2 st { s with binding := SMap.set (fun _ => none) s.binding j b }
  match b with
  | some x => setF a 3 5 x.tier s1
  | none => s1

/-- A binding starts: both wells convert the bound input; a pin in force ends (R336, R357, R520, assumption 19). -/
def startBinding (j gen : Nat) (s : State) : State :=
  match bindingOf s j with
  | none => s
  | some b =>
    let len := getF s (Reg.ILV_LEN (2 * j)) 0 16
    let b1 := { b with bound := true, gen := gen, ends := if len = 0 then none else some (s.time.uptime + 1000 * len) }
    let s1 := endPin (2 * j + 1) (endPin (2 * j) (setBinding j (some b1) s))
    publish (32 + j) gen (setInt (wellPage (2 * j)) 2 s1)

/-- A binding ends, armed or in force (R336, R357, R520). -/
def endBinding (j : Nat) (s : State) : State :=
  match bindingOf s j with
  | none => s
  | some b =>
    let s1 := refreshWell (2 * j + 1) (refreshWell (2 * j) (setBinding j none s))
    if b.bound then publish (112 + j) b.gen (setInt (wellPage (2 * j)) 3 (wrapF (Reg.ILV_STATUS (2 * j)) 16 16 s1)) else s1

/-- ILV_CTRL.BIND (R336, R339). -/
def execBind (req : Requester) (pair : Fin 80) (tier : Fin 32) (mode : Fin 4) (s : State) : Out :=
  .next (hostWrite req (Reg.ILV_CTRL (2 * pair)) (fun t =>
    let j := pair.val
    let bad := fun (w : Nat) => !wellRuns t w || (calRun t w).isSome || (pinOf t w).isSome
    if (bindingOf t j).isSome || bad (2 * j) || bad (2 * j + 1) || mode = 3 then setB (Reg.ILV_STATUS (2 * j)) 2 true t
    else
      let t1 := setBinding j (some { mode := mode, tier := tier, bound := false, gen := 0, ends := none }) (setB (Reg.ILV_STATUS (2 * j)) 2 false t)
      if mode = 0 then startBinding j 0 t1 else t1) s)

/-- ILV_CTRL.RELEASE (R336). -/
def execIlvRelease (req : Requester) (pair : Fin 80) (s : State) : Out :=
  .next (hostWrite req (Reg.ILV_CTRL (2 * pair)) (endBinding pair) s)

/-- A binding armed with START_MODE 1 reaches ILV_START_T (R336). -/
def execIlvBindingStart (pair : Fin 80) (s : State) : Out :=
  .next (match bindingOf s pair with
    | some b =>
      if !b.bound && b.mode == 1 then startBinding pair 0 (advanceTo (reg64 s (Reg.ILV_START_T_LO (2 * pair))) s) else s
    | none => s)

/-- The ILV_START_j task input receives its event (R336, R521, R528). -/
def execIlvStart (pair : Fin 80) (s : State) : Out :=
  .next (match takeEvent (32 + pair.val) s with
    | none => s
    | some (g, s1) =>
      match bindingOf s1 pair with
      | some b => if !b.bound && b.mode == 2 then startBinding pair (g + 1) s1 else taskLost (32 + pair.val) s1
      | none => taskLost (32 + pair.val) s1)

/-- A binding ends after ILV_LEN µs (R336). -/
def execIlvBindingEnd (pair : Fin 80) (s : State) : Out :=
  .next (match bindingOf s pair with
    | some b => match b.ends with
      | some t => if b.bound then endBinding pair (advanceUptime t s) else s
      | none => s
    | none => s)

/-! ### Calibration (R346 to R352) -/

/-- The channels that a mask selects and the well has. -/
def selected (w mask : Nat) : List Nat := (List.range (wellInputs w)).filter fun i => mask / 2 ^ i % 2 == 1

/-- The producer of a well's CAL_DONE event (R520). -/
def calProducer (w : Nat) : Nat := if isTap w then 192 + w else 352 + (w - 160)

/-- A run ends: the channels reconnect, and the event fires whether it passes or fails (R347, R351, R520). -/
def endCal (w : Nat) (s : State) : State :=
  publish (calProducer w) 0 (refreshWells w (setB (Reg.CAL_STATUS w) 0 false (setCalRun w none s)))

/-- A run ends with no value changed (R348, R349, R351, R357). -/
def failCal (w b : Nat) (s : State) : State := endCal w (setInt (wellPage w) 1 (setB (Reg.CAL_STATUS w) b true s))

/-- Aborts a run that is in progress (R345, R351, R353). -/
def abortCal (w : Nat) (s : State) : State := if (calRun s w).isSome then failCal w 4 s else s

/-- Whether START is refused (R351). -/
def calRefused (s : State) (w mask : Nat) : Bool :=
  (calRun s w).isSome || (!isTap w && (calRun s (partnerWell w)).isSome) || (boundWell s w).isSome ||
    !wellRuns s w || (selected w mask).isEmpty

/-- Begins a run (R347, R348): CAL_STATUS shows BUSY, and every mark of the last run clears but CAL_REF. -/
def beginCal (w : Nat) (r : CalRun) (s : State) : State :=
  let ref := getF s (Reg.CAL_STATUS w) 8 2
  refreshWells w (setReg (Reg.CAL_STATUS w) (word (1 + 256 * ref)) (setCalRun w (some r) s))

/-- A command of CAL_CMD: reserved in a checker's page (R355). -/
def calWrite (req : Requester) (w : Nat) (f : State → State) (s : State) : State :=
  hostWrite req (Reg.CAL_CMD w) (fun t => if isTap w || isPrimary w then f t else t) s

/-- CAL_CMD.START with SOURCE 0 (R347, R351). -/
def execCalStartInternal (req : Requester) (well : Fin 288) (channels : BitVec 16) (ranges : BitVec 4) (s : State) : Out :=
  .next (calWrite req well (fun t =>
    if calRefused t well channels.toNat then setB (Reg.CAL_STATUS well) 3 true t
    else beginCal well { phase := .internal, channels := channels.toNat, ranges := ranges.toNat, heldAt := 0, start := t.time.uptime } t) s)

/-- CAL_CMD.START with SOURCE 1 (R348, R351). -/
def execCalStartExternal (req : Requester) (well : Fin 288) (channels : BitVec 16) (s : State) : Out :=
  .next (calWrite req well (fun t =>
    if calRefused t well channels.toNat then setB (Reg.CAL_STATUS well) 3 true t
    else beginCal well { phase := .external, channels := channels.toNat, ranges := 0, heldAt := 0, start := t.time.uptime } t) s)

/-- EXT_PHASE = 0: the zero condition is measured (R348). -/
def execExtPhaseZero (req : Requester) (well : Fin 288) (s : State) : Out :=
  .next (calWrite req well (fun t =>
    match calRun t well with
    | some r => if r.phase == .external then setCalRun well (some { r with phase := .zero }) t else t
    | none => t) s)

/-- Whether a target lies outside 0.4 to 0.95 of a channel's full scale (R348). -/
def targetBad (s : State) (w i : Nat) : Bool :=
  let x := getF s (Reg.CH_CAL_TARGET w i) 0 25
  let f := fullScale (chRange s w i)
  10 * x < 4 * f || 95 * f < 100 * x

/-- EXT_PHASE = 1: full scale is measured, refused without ZERO_HELD, failed on a bad target (R348, R351). -/
def execExtPhaseFull (req : Requester) (well : Fin 288) (s : State) : Out :=
  .next (calWrite req well (fun t =>
    match calRun t well with
    | some r =>
      if r.phase == .held then
        if (selected well r.channels).any (targetBad t well) then failCal well 6 t
        else setCalRun well (some { r with phase := .full }) t
      else setB (Reg.CAL_STATUS well) 3 true t
    | none => setB (Reg.CAL_STATUS well) 3 true t) s)

/-- The zero measurements of an external run complete (R348). -/
def execZeroHeld (well : Fin 288) (s : State) : Out :=
  .next (match calRun s well with
    | some r =>
      if r.phase == .zero then setB (Reg.CAL_STATUS well) 5 true (setCalRun well (some { r with phase := .held, heldAt := s.time.uptime }) s)
      else s
    | none => s)

/-- The full-scale phase has not started within 10 s (R348). -/
def execExtCalTimeout (well : Fin 288) (s : State) : Out :=
  .next (match calRun s well with
    | some r => if r.phase == .held then failCal well 4 (advanceUptime (r.heldAt + 10000000000) s) else s
    | none => s)

/-- CAL_CMD.ABORT (R351). -/
def execCalAbort (req : Requester) (well : Fin 288) (s : State) : Out := .next (calWrite req well (abortCal well) s)

/-- OFS and GAIN of one measurement: the sums of zero and of full-scale codes over `n` conversions, and I_fs in 0.1 nA
times 10 (R349). -/
def calValues (n dark full ifs10 fs : Nat) : Int × Int :=
  let d := full - dark
  (rneDiv (16 * dark : Nat) n, if full ≤ dark then 0 else rneDiv (4096 * 32000 * ifs10 * n : Nat) (10 * fs * d))

/-- I_fs times 10, in 0.1 nA: 0.8 of full scale inside, the target outside (R347, R348). -/
def calCurrent (s : State) (w : Nat) (r : CalRun) (m : CalMeasure) : Nat :=
  if r.phase == .internal then 8 * fullScale m.range else 10 * getF s (Reg.CH_CAL_TARGET w m.channel) 0 25

/-- Whether the two measurements of a channel agree, with a GAIN in its range (R349). -/
def calAgrees (s : State) (w : Nat) (r : CalRun) (m : CalMeasure) : Bool :=
  let i := calCurrent s w r m
  let a := calValues 256 m.zero1 m.full1 i (fullScale m.range)
  let b := calValues 256 m.zero2 m.full2 i (fullScale m.range)
  absI (a.1 - b.1) ≤ getF s (Reg.CAL_TOL w) 8 8 && absI (a.2 - b.2) * 10000 ≤ getF s (Reg.CAL_TOL w) 0 8 * (max a.2 b.2).toNat

/-- The values that a run stores for a channel and range (R349). -/
def calStored (s : State) (w : Nat) (r : CalRun) (m : CalMeasure) : Int × Int :=
  calValues 512 (m.zero1 + m.zero2) (m.full1 + m.full2) (calCurrent s w r m) (fullScale m.range)

/-- A GAIN that fails the run (R349). -/
def gainBad (s : State) (w : Nat) (r : CalRun) (m : CalMeasure) : Bool :=
  let g := (calStored s w r m).2
  g < 16384 || 65535 < g

/-- What a run measures: each selected channel, in ascending order, on each selected range of an internal run, or on its range in use in an
external one; in both wells of a port monitor (R347, R348, R350). -/
def calNeeded (s : State) (w : Nat) (r : CalRun) : List (Nat × Nat × Bool) :=
  (selected w r.channels).flatMap fun i =>
    (if r.phase == .internal then (List.range 4).filter fun g => r.ranges / 2 ^ g % 2 == 1 else [chRange s w i]).flatMap fun g =>
      (if isTap w then [false] else [false, true]).map fun c => (i, g, c)

/-- The measurements that a run waits for, in its order; none while one is missing. -/
def calGathered (runs : List CalMeasure) : List (Nat × Nat × Bool) → Option (List CalMeasure)
  | [] => some []
  | (i, g, c) :: rest =>
    match runs.find? fun m => m.channel = i && m.range = g && m.checker == c with
    | some m => (calGathered runs rest).map fun l => m :: l
    | none => none

/-- A run's measurements are complete: every new value takes effect, or none does (R349, R350, R357). -/
def execWellCalComplete (well : Fin 288) (runs : List CalMeasure) (s : State) : Out :=
  .next (
    let w := well.val
    match calRun s w with
    | none => s
    | some r =>
      match if r.phase == .internal || r.phase == .full then calGathered runs (calNeeded s w r) else none with
      | none => s
      | some got =>
        match got.find? fun m => !calAgrees s w r m with
        | some m => failCal w 2 (setF (Reg.CAL_STATUS w) 16 2 m.range (setF (Reg.CAL_STATUS w) 12 4 m.channel s))
        | none =>
          if got.any (gainBad s w r) then endCal w (setInt (wellPage w) 1 s)
          else
            let put := fun (m : CalMeasure) (t : State) =>
              let v := calStored s w r m
              setReg (Reg.CH_CAL (if m.checker then partnerWell w else w) (4 * m.channel + m.range))
                (word (unsignedOf 16 v.2 + 2 ^ 16 * unsignedOf 16 v.1)) t
            let ref := getF s (Reg.WELL_CFG w) 0 2
            let s1 := setF (Reg.CAL_STATUS w) 8 2 ref (setB (Reg.CAL_STATUS w) 1 true (forEach got put s))
            let s2 := if isTap w then s1 else setF (Reg.CAL_STATUS (partnerWell w)) 8 2 (getF s (Reg.WELL_CFG (partnerWell w)) 0 2) s1
            endCal w (setInt (wellPage w) 0 s2))

/-! ### References and housekeeping (R343 to R345) -/

/-- The wells the part has; a housekeeping well has no REF_SEL and uses the bandgap (R343; of HW_0 to HW_9 PRESUMED, assumption 81). -/
def allWells (s : State) : List Nat := (List.range 304).filter fun w => wellPresent s w

/-- REF_SETTLED of a well falls (R345, R357). -/
def refFalls (w : Nat) (s : State) : State :=
  if getBit s (Reg.WELL_STATUS w) 0 then setInt (wellPage w) 6 (setB (Reg.WELL_STATUS w) 0 false s) else s

/-- HW_15 finds a reference outside its window: every well that uses it loses REF_SETTLED, and outside P4 faults (R345). -/
def refOutside (n : Nat) (s : State) : State :=
  let users := (allWells s).filter fun w => getF s (Reg.WELL_CFG w) 0 2 == n
  forEach users (fun w t => whenB (stage t != 4) (setFault (wellPage w) 2) (refFalls w t)) { s with refOut := s.refOut.set n true }

/-- HW_15 finds a reference inside its window: after an excursion the settle interval of every well that uses it begins (R345). -/
def refInside (n : Nat) (s : State) : State :=
  if (s.refOut[n]?).getD false then
    let users := (allWells s).filter fun w => getF s (Reg.WELL_CFG w) 0 2 == n
    { s with
      refOut := s.refOut.set n false
      settleFrom := users.foldl (fun m w => SMap.set (fun _ => none) m w (some s.time.uptime)) s.settleFrom }
  else s

/-- HW_RESULT of a thermistor: OPEN above 1.0 V, which at the 50 µA of R77 is 20 kΩ, and SHORT below 200 Ω (R77, R343). -/
def thermistorWord (ohms : Nat) : Word :=
  word (ohms + 2 ^ 29 * b2n (decide (200000 < ohms)) + 2 ^ 30 * b2n (decide (ohms < 2000)) + 2 ^ 31)

/-- A housekeeping well converts an input, unless it is lost (R343, R354, R356): HW_10 to HW_15 record it, HW_15 feeds the rails and checks
the references. HW_10 to HW_13 find a sensor code, HW_14 a resistance in 0.1 Ω, and HW_15 mV. -/
def execHousekeepingConversion (hw : Fin 16) (input : Fin 32) (code : BitVec 16) (tenthOhms : BitVec 20) (millivolts : BitVec 16) (s : State) : Out :=
  .next (
    let h := hw.val
    let i := input.val
    if h < 10 || wellLost s (288 + h) then s
    else if h < 14 then if i < 16 then setReg (Reg.HW_RESULT h i) (word (code.toNat + 2 ^ 31)) s else s
    else if h = 14 then
      if s.variant = .pe1280 && 16 ≤ i then setReg (Reg.HW_RESULT h i) (word (2 ^ 28)) s
      else setReg (Reg.HW_RESULT h i) (thermistorWord tenthOhms.toNat) s
    else if 13 ≤ i then s
    else
      let s1 := setReg (Reg.HW_RESULT h i) (word (millivolts.toNat + 2 ^ 31)) s
      if i < 10 then setF (Reg.PWR_RAIL_MV i) 0 16 millivolts.toNat s1
      else if millivolts.toNat < 1100 || 1300 < millivolts.toNat then refOutside (i - 10) s1
      else refInside (i - 10) s1)

/-- A settle interval ends, 200 µs after it began, or the first settling in P4: REF_SETTLED rises where the reference is inside its window
(R345). -/
def execRefSettleTimer (well : Fin 304) (s : State) : Out :=
  .next (
    let w := well.val
    if !wellPresent s w || getBit s (Reg.WELL_STATUS w) 0 || (s.refOut[getF s (Reg.WELL_CFG w) 0 2]?).getD false then s
    else
      let s1 := match SMap.get (fun _ => none) s.settleFrom w with
        | some t => advanceUptime (t + 200000) s
        | none => s
      setB (Reg.WELL_STATUS w) 0 true { s1 with settledAt := SMap.set (fun _ => 0) s1.settledAt w s1.time.uptime })

/-- The word of WELL_CFG that a write leaves: reserved encodings keep their fields (R96, R344, R355). -/
def wellCfgWord (s : State) (w : Nat) (v : Word) : Word :=
  let old := reg s (Reg.WELL_CFG w)
  let sel := if fld v 0 2 = 3 then fld old 0 2 else fld v 0 2
  let bias := if 200 < fld v 8 8 || !(isTap w || isPrimary w) then fld old 8 8 else fld v 8 8
  word (sel + 256 * bias)

/-- A write of WELL_CFG: a change of REF_SEL clears REF_SETTLED for 200 µs and aborts a run (R345, R346, R353). -/
def execRefSelWrite (req : Requester) (well : Fin 288) (data : Word) (s : State) : Out :=
  .next (hostWrite req (Reg.WELL_CFG well) (fun t =>
    let w := wellCfgWord t well data
    let changed := fld w 0 2 != getF t (Reg.WELL_CFG well) 0 2
    let t1 := setReg (Reg.WELL_CFG well) w t
    let t2 := { t1 with settleFrom := SMap.set (fun _ => none) t1.settleFrom well (some t1.time.uptime) }
    if changed then refreshWell well (abortCal (runOwner well) (refFalls well t2)) else t1) s)

/-! ### Losing and stopping a well (R353, R354) -/

/-- What a well was doing ends: bindings release, pins end, a run aborts (R353). -/
def quietWell (w : Nat) (s : State) : State :=
  let s1 := if isTap w then endBinding (w / 2) s else s
  abortCal (runOwner w) (endPin w s1)

/-- A well is lost (R354, R357). -/
def loseWell (w : Nat) (stuck : Bool) (s : State) : State :=
  let s1 := quietWell w s
  let s2 := setFault (wellPage w) 1 (whenB stuck (setFault (wellPage w) 3) (setB (Reg.WELL_STATUS w) 4 true s1))
  refreshWells w s2

/-- WELL_COUNT_CLR (R355). -/
def execWellCountClr (req : Requester) (well : Fin 288) (s : State) : Out :=
  .next (hostWrite req (Reg.WELL_COUNT_CLR well) (fun t => setReg (Reg.WELL_COUNT well) 0 t) s)

/-- PW_PLAUS_CLR (R355). -/
def execPwPlausClr (req : Requester) (primary : Fin 64) (s : State) : Out :=
  .next (hostWrite req (Reg.PW_PLAUS_CLR (160 + primary.val)) (fun t =>
    let a := Reg.PW_PLAUS_STATUS (160 + primary.val)
    setF a 8 8 0 (setF a 16 16 0 t)) s)

end Sys2Proof.Machine
end

