-- ==== Sys2Proof/Machine/RingBase.lean ====
section
/-! DEFINITION. The ring as every unit sees it (R418 to R429): positions, the leader, and a frame's way onto the peer
lanes. -/

namespace Sys2Proof.Machine

open Sys2Proof

/-- RING. -/
def ringPage : Page := ⟨.ring, 0⟩

/-- SIZE of RING_CFG (R418). -/
def ringSize (s : State) : Nat := getF s Reg.RING_CFG 0 3

/-- Stand-alone: SIZE 1 (R418). -/
def standAlone (s : State) : Bool := ringSize s ≤ 1

/-- The member's own position (R71, R457). -/
def ringPos (s : State) : Nat := if standAlone s then 0 else s.pins.pos

/-- Whether this device leads: a stand-alone device is its own leader (R418). -/
def isLeader (s : State) : Bool := standAlone s || getBit s Reg.RING_STATUS 4

/-- LEADER_POS. -/
def leaderPos (s : State) : Nat := if standAlone s then 0 else getF s Reg.RING_STATUS 2 2

/-- The position mask of the leader. -/
def leaderMask (s : State) : Nat := 2 ^ leaderPos s

/-- The positions of the other members. -/
def otherPositions (s : State) : List Nat := (List.range (ringSize s)).filter fun p => p != ringPos s

/-- A mask of positions. -/
def posMask (l : List Nat) : Nat := (l.map fun p => 2 ^ p).sum

/-- Every member of the ring but this one. -/
def otherMembers (s : State) : Nat := posMask (otherPositions s)

/-! ### Lanes (R419, R421, R423, R424) -/

/-- A peer lane. -/
def ringLane (s : State) (l : Nat) : RingLane := SMap.get (fun _ => RingLane.empty) s.ring.lanes l

/-- Changes a peer lane. -/
def modLane (l : Nat) (f : RingLane → RingLane) (s : State) : State :=
  { s with ring := { s.ring with lanes := SMap.set (fun _ => RingLane.empty) s.ring.lanes l (f (ringLane s l)) } }

/-- The state of RING_LANE_l: 0 down, 1 training, 2 up, 3 FAILED. -/
def laneState (s : State) (l : Nat) : Nat := getF s (Reg.RING_LANE l) 0 2

/-- The lanes to the next position (hop 0) and to the previous one (hop 1) (R419). -/
def hopLanes (h : Nat) : List Nat := if h = 0 then [0, 1] else [2, 3]

/-- The neighbour at the end of a lane (R419). -/
def laneNeighbour (s : State) (l : Nat) : Nat :=
  let n := max 1 (ringSize s)
  if l < 2 then (ringPos s + 1) % n else (ringPos s + n - 1) % n

/-- The lanes of a hop that are up. -/
def upLanes (s : State) (h : Nat) : List Nat := (hopLanes h).filter fun l => laneState s l = 2

/-- A neighbour is held in probe: only HELLO passes on its links (R430). -/
def probed (s : State) (p : Nat) : Bool := getF s (Reg.RING_PEER_A p) 0 3 = 1

/-- The lanes of a hop that carry frames other than HELLO. -/
def openLanes (s : State) (h : Nat) : List Nat := (upLanes s h).filter fun l => !probed s (laneNeighbour s l)

/-- The hop by which a frame for a position leaves: the shorter way round, the way through the next positions on a tie, and the
other way where that hop is down (R424, R445). -/
def hopTo (s : State) (p : Nat) : Nat :=
  let n := max 1 (ringSize s)
  let d := (p + n - ringPos s) % n
  let h := if 2 * d ≤ n then 0 else 1
  if (openLanes s h).isEmpty then 1 - h else h

/-! ### Frames, credits and the order of sending (R422, R425 to R427) -/

/-- The virtual channel of a message type (R429). -/
def messageVc (kind : Nat) : Nat := if kind = 0x30 || kind = 0x31 then 1 else if kind / 16 = 4 then 2 else 0

/-- The sizes in flits of the frames that carry a message: 244 bytes fill a frame of four flits (R422), and PREPARE is a frame of two
(R437). -/
def messageFlits (kind count : Nat) : List Nat :=
  if kind = 0x10 then [2]
  else
  let b := Config.messageBytes kind count
  let k := max 1 (ceilDiv b 244)
  (List.range k).map fun i => if i + 1 < k then 4 else max 1 (min 4 (ceilDiv (b - 244 * (k - 1) + 12) 64))

/-- The key of a virtual channel's reservation in a hop class. -/
def creditKey (vc hopClass : Nat) : Nat := 3 * vc + (hopClass - 1)

/-- The flits that a receiver reserves for a virtual channel in each hop class, and its shared pool (R425). -/
def reservedFlits (vc : Nat) : Nat := if vc = 0 then 16 else 8

/-- The shared pool (R425). -/
def sharedFlits : Nat := 128

/-- Credits free in a frame's own reservation. -/
def RingLane.ownFree (x : RingLane) (f : LaneFrame) : Nat :=
  reservedFlits f.vc - SMap.get (fun _ => 0) x.used (creditKey f.vc f.hopClass)

/-- Credits free in the shared pool, which only BULK may use (R425). -/
def RingLane.sharedFree (x : RingLane) (f : LaneFrame) : Nat :=
  if f.vc = 2 then sharedFlits - SMap.get (fun _ => 0) x.used 9 else 0

/-- Whether a frame has its credits, and the 64 flits kept for replay have room for it (R423, R425). -/
def RingLane.canSend (x : RingLane) (f : LaneFrame) : Bool :=
  (x.sent.map LaneFrame.flits).sum + f.flits ≤ 64 && f.flits ≤ x.ownFree f + x.sharedFree f

/-- A frame takes its credits: those of its own reservation first (R425). -/
def RingLane.charge (x : RingLane) (f : LaneFrame) : RingLane :=
  let own := min f.flits (x.ownFree f)
  let k := creditKey f.vc f.hopClass
  let used := SMap.set (fun _ => 0) x.used k (SMap.get (fun _ => 0) x.used k + own)
  { x with used := SMap.set (fun _ => 0) used 9 (SMap.get (fun _ => 0) used 9 + (f.flits - own)) }

/-- Credits come back (R425). -/
def RingLane.credit (x : RingLane) (c : LaneCredit) : RingLane :=
  let k := if c.shared then 9 else creditKey c.vc (c.hopClass.val + 1)
  { x with used := SMap.set (fun _ => 0) x.used k (SMap.get (fun _ => 0) x.used k - c.flits) }

/-- The frame of a virtual channel that goes next: forwarded and local frames take turns (R427). -/
def RingLane.nextOf (x : RingLane) (vc : Nat) : Option LaneFrame :=
  let c := x.waiting.filter fun f => f.vc == vc && x.canSend f
  ((c.filter fun f => f.forwarded != x.lastForwarded.contains vc) ++ c).head?

/-- The frame that a lane sends next: TIME, then CTRL, then BULK, but CTRL once it has waited three slots and BULK once it has waited
six (R427, assumption 53). -/
def RingLane.nextFrame (x : RingLane) : Option LaneFrame :=
  let ctrl := (x.nextOf 0).toList
  let bulk := (x.nextOf 2).toList
  ((if 3 ≤ x.sinceCtrl then ctrl else []) ++ (if 6 ≤ x.sinceBulk then bulk else []) ++ (x.nextOf 1).toList ++ ctrl ++ bulk).head?

/-- A frame leaves with a link sequence number (R422, R423, R427). -/
def RingLane.sendFrame (x : RingLane) (q : Nat) (f : LaneFrame) : RingLane :=
  let y := x.charge f
  let z := { y with waiting := x.waiting.erase f, sent := x.sent ++ [{ f with seq := q }] }
  let others := x.lastForwarded.filter fun v => v != f.vc
  { z with
    sinceCtrl := if f.vc = 0 || !(z.waiting.any fun g => g.vc == 0) then 0 else x.sinceCtrl + f.flits
    sinceBulk := if f.vc = 2 || !(z.waiting.any fun g => g.vc == 2 && z.canSend g) then 0 else x.sinceBulk + f.flits
    lastForwarded := if f.forwarded then f.vc :: others else others }

/-- The hop of a lane. -/
def laneHop (l : Nat) : Nat := if l < 2 then 0 else 1

/-- A lane sends up to `n` of the frames that wait on it. -/
def drainLane (l : Nat) : Nat → RingState → RingState
  | 0, r => r
  | n + 1, r =>
    let x := SMap.get (fun _ => RingLane.empty) r.lanes l
    match x.nextFrame with
    | none => r
    | some f =>
      let q := SMap.get (fun _ => 0) r.hopSeq (laneHop l)
      drainLane l n { r with
        lanes := SMap.set (fun _ => RingLane.empty) r.lanes l (x.sendFrame q f)
        hopSeq := SMap.set (fun _ => 0) r.hopSeq (laneHop l) ((q + 1) % 4096) }

/-- A lane sends what it can. -/
def RingState.drain (r : RingState) (l : Nat) : RingState :=
  drainLane l (SMap.get (fun _ => RingLane.empty) r.lanes l).waiting.length r

/-- A frame joins the queue of a lane, and the lane sends what it can. -/
def RingState.queue (r : RingState) (l : Nat) (f : LaneFrame) : RingState :=
  let x := SMap.get (fun _ => RingLane.empty) r.lanes l
  RingState.drain { r with lanes := SMap.set (fun _ => RingLane.empty) r.lanes l { x with waiting := x.waiting ++ [f] } } l

/-- Frames of a message join a hop, whose lanes take them in turn (R421). -/
def RingState.queueAll (r : RingState) (h : Nat) (ls : List Nat) (fs : List LaneFrame) : RingState :=
  fs.foldl (fun r f =>
    let t := SMap.get (fun _ => 0) r.hopTurn h
    match ls[t % max 1 ls.length]? with
    | none => r
    | some l => RingState.queue { r with hopTurn := SMap.set (fun _ => 0) r.hopTurn h (t + 1) } l f) r

/-- The frames of a message in a hop class. -/
def messageFrames (kind count hopClass : Nat) (forwarded : Bool) : List LaneFrame :=
  (messageFlits kind count).map fun n =>
    { seq := 0, replays := 0, vc := messageVc kind, hopClass := hopClass, flits := n, forwarded := forwarded }

/-- Lanes that had nothing unacknowledged and now have begin their wait for an acknowledgement (R423). -/
def stampLanes (s t : State) : State :=
  forEach (List.range 4) (fun l u =>
    if (ringLane s l).sent.isEmpty && !(ringLane u l).sent.isEmpty then modLane l (fun x => { x with ackAt := s.time.uptime }) u else u) t

/-- A message joins the lanes of a hop (R421 to R427). -/
def hopSend (kind count hopClass : Nat) (forwarded : Bool) (ls : List Nat) (h : Nat) (s : State) : State :=
  stampLanes s { s with ring := s.ring.queueAll h ls (messageFrames kind count hopClass forwarded) }

/-- The hops by which a message leaves for a position: a payload for a member at equal distance each way goes half each way
(R424, R438). -/
def hopsTo (s : State) (kind p : Nat) : List Nat :=
  let n := max 1 (ringSize s)
  let split := kind = 0x40 && 2 * ((p + n - ringPos s) % n) = n && !(openLanes s 0).isEmpty && !(openLanes s 1).isEmpty
  if split then [0, 1] else [hopTo s p]

/-- A message that goes out at intervals waits for the end of the one since its last going out (R429, R432, assumption 6). -/
def periodic (kind period : Nat) (s : State) : State :=
  let s1 := match SMap.get (fun _ => none) s.ring.sentAt kind with
    | some t => advanceUptime (t + period) s
    | none => s
  { s1 with ring := { s1.ring with sentAt := SMap.set (fun _ => none) s1.ring.sentAt kind (some s1.time.uptime) } }

/-- The destinations of a message but those held in probe (R430). -/
def openMask (s : State) (mask : Nat) : Nat := mask - posMask ((otherPositions s).filter fun p => mask.testBit p && probed s p)

/-- A message to the positions of a mask (R422, R424, R429, R430); a stand-alone device sends none (R418). -/
def ringSend (kind mask : Nat) (content : List Nat) (s : State) : State :=
  let m := openMask s mask
  let dests := (otherPositions s).filter fun p => m.testBit p
  if standAlone s || dests.isEmpty then s
  else
    let hops := [0, 1].filter fun h => dests.any fun p => (hopsTo s kind p).contains h
    let count := if kind = 0x40 then ceilDiv content.length hops.length else content.length
    emit (.ring kind m content) (forEach hops (fun h => hopSend kind count 1 false (openLanes s h) h) s)

/-- A message to the neighbours at the ends of lanes, a frame on each lane (R429, R445). -/
def neighbourSend (kind : Nat) (lanes content : List Nat) (s : State) : State :=
  if standAlone s || lanes.isEmpty then s
  else emit (.ring kind (posMask (lanes.map fun l => laneNeighbour s l).eraseDups) content)
    (forEach lanes (fun l => hopSend kind content.length 1 false [l] (laneHop l)) s)

/-- A message to every member that comes from the previous position also goes on to the next one where that is its way round: in a ring
of four (R424, R426). -/
def forwardOn (kind source count : Nat) (s : State) : State :=
  let next := (ringPos s + 1) % 4
  if ringSize s = 4 && (source + 1) % 4 = ringPos s && !probed s next && !(openLanes s 0).isEmpty then
    emit (.forward kind source (2 ^ next)) (hopSend kind count 2 true (openLanes s 0) 0 s)
  else s

end Sys2Proof.Machine
end

