-- ==== Sys2Proof/Machine/Commits.lean ====
section
/-! DEFINITION. Shadows and commits (R103 to R108), what a committed element-table entry does to its slot (R33 to R37,
R197, R247, R262), and PAGE_LOCK (R109). -/

namespace Sys2Proof.Machine

open Sys2Proof

/-! ### Shadow copies -/

/-- The address range of a page's shadowed words: its slots' element table for a column, the page itself otherwise
(R32, R103). -/
def shadowRange (p : Page) : Nat × Nat :=
  match p.kind with
  | .col => (Reg.SLOT_CFG (256 * p.inst), 64 * 256)
  | _ => (pageBase p, pageSize p)

/-- A map with the entries of a range replaced by those of another, which lie in the range. -/
def replaceRange (lo n : Nat) (new m : SMap Word) : SMap Word :=
  SMap.keep (fun k => k < lo) m ++ new ++ SMap.keep (fun k => lo + n ≤ k) m

/-- The shadow words of a page that differ from reset (R103). -/
def shadowWords (p : Page) (s : State) : SMap Word :=
  SMap.keep isShadowed (SMap.slice s.regs (shadowRange p).1 (shadowRange p).2)

/-- DIRTY. -/
def dirty (s : State) (p : Page) : Bool := getBit s (Reg.SHADOW_STATUS p) 0

/-- ARMED. -/
def armed (s : State) (p : Page) : Bool := getBit s (Reg.SHADOW_STATUS p) 1

/-- Bad plans as the active copies give them (R366, R367). -/
def planBad (s : State) (n : Nat) : Bool :=
  if n = 0 then false
  else
    let w := fun (k : Nat) => act s (Reg.VRD_PLAN (8 * n + k))
    let nsamp := fld (w 0) 8 2 + 1
    let ofs := (List.range nsamp).map fun j => fld (w (1 + j / 2)) (16 * (j % 2)) 16
    let top := ofs.foldl max 0
    let low := ofs.foldl min 65535
    fld (w 0) 4 2 = 3 || fld (w 0) 12 2 > fld (w 0) 8 2 || ofs.any (fun o => 19000 < o) ||
      20000 < (top - low) + 25 * fld (act s Reg.VRD_CFG) 0 8 + fld (w 7) 0 12 + 150

/-- VRD_PLAN_BAD and VRD_MON_DUP after a commit of the VERDICT page (R361, R367, R387). -/
def verdictCommitted (s : State) : State :=
  let bad := ((List.range 32).map fun n => 2 ^ n * b2n (planBad s n)).sum
  let dup := fun (m : Nat) =>
    let e := monEntry s m
    bitOf e 15 && monitorFor s (fld e 0 10) (fld e 10 1) != some m
  let s1 := setReg Reg.VRD_PLAN_BAD (word bad) s
  forEach (List.range (s.variant.monitors / 32)) (fun i t =>
    setReg (Reg.VRD_MON_DUP i) (word (((List.range 32).map fun b => 2 ^ b * b2n (dup (32 * i + b))).sum)) t) s1

/-- At a commit of POLICE_n each policer whose words changed starts with full buckets (R492). -/
def policeCommitted (n : Nat) (before : State) (s : State) : State :=
  forEach (List.range 64) (fun i t =>
    if (List.range 6).any fun k => act before (Reg.POL_MATCH n i + 4 * k) != act t (Reg.POL_MATCH n i + 4 * k) then
      { t with ports := { t.ports with meters := SMap.set (fun _ => none) t.ports.meters (64 * n + i) none } }
    else t) s

/-- The captured words take effect in every unit of a page other than COL_c (R103, R105). -/
def applyPage (p : Page) (s : State) : State :=
  let r := shadowRange p
  let s1 := { s with active := replaceRange r.1 r.2 (shadowWords p s) s.active }
  let s2 := wrapF (Reg.GEN p) 0 16 (setB (Reg.SHADOW_STATUS p) 0 false s1)
  match p.kind with
  | .verdict => verdictCommitted s2
  | .police => policeCommitted p.inst s s2
  | _ => s2

/-! ### A slot's committed entry -/

/-- The level in service moves under a channel that no transition changes: PARKED, HOLD, WAKE and READY step to it, and what plays keeps
its FROM and TO until HOLD (R197, R198, R209, R215). -/
def followLevel (slot : Nat) (s : State) : State :=
  let ch := channel s slot
  let w := if ch.state == .parked then parkLevel s slot else serviceLevel s slot ch.cross ch.atten
  if w = ch.target then s
  else
    match ch.state with
    | .parked | .hold | .wake | .ready => setChannel slot (ch.stepTo w) s
    | .play | .linger | .stream | .held => setChannel slot { ch with target := w, due := true } s

/-- What a committed entry does to its slot, given the state before (R33 to R35, R197, R210, R215, R247, R262). At an epoch
instant the level itself follows at the column's transition start (R209). -/
def slotEffects (atEpoch : Bool) (before : State) (slot : Nat) (s : State) : State :=
  let r := role s slot
  let old := role before slot
  let ch := channel s slot
  let s1 :=
    if !driven s slot then
      if r != old then eoPark false slot s
      else if ch.target != parkLevel s slot then setChannel slot (ch.stepTo (parkLevel s slot)) s
      else s
    else if r != old then
      let a := SMap.get (fun _ => 0) s.portAtten (actF s (Reg.SLOT_CFG slot) 16 10)
      let c := { ch with cross := false, atten := if r = roleAtten then a else 0 }
      if ch.state == .parked && (ch.forced || parkForced s) then setChannel slot ({ c with forced := true }.stepTo (parkLevel s slot)) s
      else
        let c1 := { c with state := if c.state == .parked then SeqState.hold else c.state, since := if c.state == .parked then s.time.uptime else c.since }
        setChannel slot (if atEpoch then c1 else c1.stepTo (serviceLevel s slot false c1.atten)) s
    else if atEpoch && (ch.state == .hold || ch.state == .wake || ch.state == .ready) then s
    else followLevel slot s
  let spanChanged := bipolar s slot != bipolar before slot
  let s2 :=
    if spanChanged then presetCode slot (parkCode s slot) s1
    else if driven s slot && !driven before slot then presetCode slot (if old = roleSpare then parkCode before slot else 0) s1
    else if act s (Reg.HTR_LIMIT slot) != act before (Reg.HTR_LIMIT slot) then noteClip slot s1
    else s1
  let s3 :=
    if spanChanged then forEach (cellSlots (slot / 4)) presetSlot s2
    else if slotInLoop s slot && (!slotInLoop before slot || r != old) then presetSlot slot s2
    else if !slotInLoop s slot && slotInLoop before slot then leaveLoop slot s2
    else s2
  let s4 := if act s (Reg.EO_DITHER slot) != act before (Reg.EO_DITHER slot) || r != old then ditherFrom slot s3 else s3
  showMeasBad slot (ncoChange before slot s4)

/-- A member reports a slot whose role or pin has changed to the leader (R165). -/
def reportRole (before : State) (slot : Nat) (s : State) : State :=
  let a := Reg.SLOT_CFG slot
  if actF before a 0 2 = actF s a 0 2 && actF before a 4 2 = actF s a 4 2 then s
  else ringSend 0x20 (leaderMask s) [slot, (act s a).toNat] s

/-- The committed entry of a slot takes effect from captured words (R33, R165). -/
def applySlot (atEpoch : Bool) (words : SMap Word) (slot : Nat) (s : State) : State :=
  let lo := Reg.SLOT_CFG slot
  let s1 := slotEffects atEpoch s slot { s with active := replaceRange lo 64 (SMap.slice words lo 64) s.active }
  reportRole s slot s1

/-- The cells of a column that the part has. -/
def colCells (c : Nat) : List Nat := (List.range 64).map fun i => 64 * c + i

/-- A commit of a column has taken effect in every cell (R105). -/
def colCommitDone (c : Nat) (s : State) : State :=
  let p := colPage c
  refreshStatus p (wrapF (Reg.GEN p) 0 16 (setB (Reg.SHADOW_STATUS p) 2 false
    { s with colCommit := SMap.set (fun _ => none) s.colCommit c none }))

/-- A COMMIT of a column captures; each cell follows at its boundary (R33, R103). -/
def captureCol (c : Nat) (s : State) : State :=
  let p := colPage c
  let v : ColCommit := { words := shadowWords p s, cells := colCells c }
  refreshStatus p (setB (Reg.SHADOW_STATUS p) 2 true (setB (Reg.SHADOW_STATUS p) 0 false
    { s with colCommit := SMap.set (fun _ => none) s.colCommit c (some v) }))

/-- A column's capture at an epoch instant takes effect there (R33, R103). -/
def captureColNow (c : Nat) (s : State) : State :=
  let words := shadowWords (colPage c) s
  let s1 := setB (Reg.SHADOW_STATUS (colPage c)) 0 false s
  let s2 := forEach (colSlots c) (applySlot true words) s1
  forEach (colCells c) refreshLoad (wrapF (Reg.GEN (colPage c)) 0 16 s2)

/-- Captures a page now where DIRTY is 1 (R103, R105). -/
def captureNow (p : Page) (s : State) : State :=
  if !dirty s p then s
  else match p.kind with
    | .col => captureCol p.inst s
    | _ => applyPage p s

/-- A write of SHADOW_CTRL that captures now, or is refused (R106). -/
def commitWrite (p : Page) (s : State) : State :=
  let a := Reg.SHADOW_STATUS p
  if applying s p then setB a 3 true s
  else captureNow p (setB a 4 false (setB a 1 false (setB a 3 false s)))

/-- A write of SHADOW_CTRL that arms (R106). -/
def armWrite (p : Page) (s : State) : State := setB (Reg.SHADOW_STATUS p) 1 true (setB (Reg.SHADOW_STATUS p) 3 false s)

/-- A write of SHADOW_CTRL that discards (R106). -/
def discardWrite (p : Page) (s : State) : State :=
  let a := Reg.SHADOW_STATUS p
  let r := shadowRange p
  let from_ := match SMap.get (fun _ => none) s.colCommit p.inst with
    | some v => if p.kind = .col then v.words else s.active
    | none => s.active
  let live := (SMap.slice from_ r.1 r.2).foldl (fun m e => SMap.set resetWord m e.1 e.2)
    (SMap.keep (fun k => !(r.1 ≤ k && k < r.1 + r.2 && isShadowed k)) s.regs)
  setB a 4 false (setB a 3 false (setB a 1 false (setB a 0 false { s with regs := live })))

/-- A whole SHADOW_CTRL word meets R106. -/
def shadowWrite (p : Page) (v : Word) (s : State) : State :=
  if bitOf v 2 then discardWrite p s
  else if bitOf v 0 then commitWrite p s
  else if bitOf v 1 then armWrite p s
  else setB (Reg.SHADOW_STATUS p) 3 false s

/-- The pages that have shadowed words, the columns first: those an epoch instant captures (R106, R107). -/
def shadowPages (s : State) : List Page :=
  (List.range s.variant.columns).map colPage ++
    [⟨.verdict, 0⟩, ⟨.cistern, 0⟩, ⟨.evt, 0⟩] ++ (List.range 4).map fun n => ⟨.police, n⟩

/-- An armed commit of a page meets the instant of epoch `num` (R103, R106). -/
def epochCapture (num : Nat) (p : Page) (s : State) : State :=
  let a := Reg.SHADOW_STATUS p
  if !armed s p then s
  else if applying s p then setB a 4 true s
  else
    let s1 := setB a 4 false (setB a 1 false s)
    if !dirty s p then s1
    else
      let s2 := setF a 16 16 num s1
      match p.kind with
      | .col => captureColNow p.inst s2
      | _ => applyPage p s2

/-- Whether a page has a shadow. -/
def hasShadow (s : State) (p : Page) : Bool := (shadowPages s).contains p

/-- Armed pages that have no shadowed word: an epoch instant captures nothing in them (R86, R106). -/
def armedBare (s : State) : List Page :=
  s.regs.filterMap fun e =>
    match decodeAddr s.variant e.1 with
    | .page p _ => if e.1 = Reg.SHADOW_STATUS p && bitOf e.2 1 && !hasShadow s p then some p else none
    | _ => none

/-- The epoch instant of epoch `num` meets every armed page (R103, R106, R107). -/
def captureAll (num : Nat) (s : State) : State :=
  forEach (armedBare s) (fun p t => setB (Reg.SHADOW_STATUS p) 1 false t) (forEach (shadowPages s) (epochCapture num) s)

/-- SHADOW_CTRL.COMMIT (R103, R106). -/
def execCommit (req : Requester) (p : Page) (s : State) : Out := .next (hostWrite req (Reg.SHADOW_CTRL p) (commitWrite p) s)

/-- SHADOW_CTRL.COMMIT_AT_EPOCH (R103, R106). -/
def execCommitAtEpoch (req : Requester) (p : Page) (s : State) : Out := .next (hostWrite req (Reg.SHADOW_CTRL p) (armWrite p) s)

/-- SHADOW_CTRL.DISCARD (R106). -/
def execDiscard (req : Requester) (p : Page) (s : State) : Out := .next (hostWrite req (Reg.SHADOW_CTRL p) (discardWrite p) s)

/-- A cell's loop-cycle boundary brings the captured entries of its slots into effect (R33, R105). -/
def execSlotCommitTakesEffect (cell : Fin 640) (s : State) : Out :=
  .next (
    let c := cell.val / 64
    match SMap.get (fun _ => none) s.colCommit c with
    | none => s
    | some v =>
      if v.cells.contains cell.val then
        let rest := v.cells.erase cell.val
        let s1 := { s with colCommit := SMap.set (fun _ => none) s.colCommit c (some { v with cells := rest }) }
        let s2 := refreshLoad cell (forEach (cellSlots cell) (applySlot false v.words) s1)
        if rest.isEmpty then colCommitDone c s2 else s2
      else s)

/-- A write of PAGE_LOCK: with KEY 0x5AFE it changes LOCKED and STICKY, unless STICKY is set; STICKY forces LOCKED to 1 (R109, R110). -/
def lockWrite (p : Page) (data : Word) (s : State) : State :=
  let a := Reg.PAGE_LOCK p
  if fld data 16 16 = 0x5AFE && !getBit s a 1 then setReg a (if bitOf data 1 then 3 else data &&& 1) s else s

/-- A write of PAGE_LOCK; a lock never stops it (R109, R110). -/
def execPageLockWrite (req : Requester) (p : Page) (data : Word) (s : State) : Out :=
  .next (access req (Reg.PAGE_LOCK p) true (lockWrite p data) s)

end Sys2Proof.Machine
end

