-- ==== Sys2Proof/Machine/Shake.lean ====
section
/-! DEFINITION. SHAKE256, which R169, R435, R436 and R444 name: the sponge of FIPS 202 with its rate of 136 bytes, taken
from the standard (assumption 20). A lane is a number below 2^64; the state is 25 lanes, lane x + 5 y at that place. -/

namespace Sys2Proof

/-- A lane rotated left. -/
def rotl64 (v r : Nat) : Nat := (v * 2 ^ r % 2 ^ 64) + v / 2 ^ (64 - r)

/-- The rotation of each lane. -/
def keccakRot : List Nat :=
  [0, 1, 62, 28, 27, 36, 44, 6, 55, 20, 3, 10, 43, 25, 39, 41, 45, 15, 21, 8, 18, 2, 61, 56, 14]

/-- The round constants. -/
def keccakRc : List Nat :=
  [0x0000000000000001, 0x0000000000008082, 0x800000000000808A, 0x8000000080008000, 0x000000000000808B,
   0x0000000080000001, 0x8000000080008081, 0x8000000000008009, 0x000000000000008A, 0x0000000000000088,
   0x0000000080008009, 0x000000008000000A] ++
  [0x000000008000808B, 0x800000000000008B, 0x8000000000008089, 0x8000000000008003, 0x8000000000008002,
   0x8000000000000080, 0x000000000000800A, 0x800000008000000A, 0x8000000080008081, 0x8000000000008080,
   0x0000000080000001, 0x8000000080008008]

/-- Lane `i` of a state. -/
def lane (a : List Nat) (i : Nat) : Nat := (a[i]?).getD 0

/-- One round: theta, rho and pi, chi, iota. -/
def keccakRound (a : List Nat) (rc : Nat) : List Nat :=
  let c := (List.range 5).map fun x => (List.range 5).foldl (fun t y => Nat.xor t (lane a (x + 5 * y))) 0
  let d := (List.range 5).map fun x => Nat.xor (lane c ((x + 4) % 5)) (rotl64 (lane c ((x + 1) % 5)) 1)
  let t := (List.range 25).map fun i => Nat.xor (lane a i) (lane d (i % 5))
  -- lane (x, y) moves to (y, 2 x + 3 y); the lane that lands at (x, y) comes from ((x + 3 y) mod 5, x)
  let b := (List.range 25).map fun i =>
    let x := i % 5
    let y := i / 5
    let j := (x + 3 * y) % 5 + 5 * x
    rotl64 (lane t j) (lane keccakRot j)
  let chi := (List.range 25).map fun i =>
    let x := i % 5
    let y := i / 5
    Nat.xor (lane b i) (Nat.land (Nat.xor (lane b ((x + 1) % 5 + 5 * y)) (2 ^ 64 - 1)) (lane b ((x + 2) % 5 + 5 * y)))
  match chi with
  | [] => []
  | h :: r => Nat.xor h rc :: r

/-- The permutation. -/
def keccakF (a : List Nat) : List Nat := keccakRc.foldl keccakRound a

/-- One block of 136 bytes absorbed. -/
def absorbBlock (a : List Nat) (block : List Byte) : List Nat :=
  keccakF ((List.range 25).map fun i =>
    if i < 17 then Nat.xor (lane a i) (ofBytes ((block.drop (8 * i)).take 8)) else lane a i)

/-- Absorbs whole blocks; `n` bounds their number. -/
def absorb : Nat → List Nat → List Byte → List Nat
  | 0, a, _ => a
  | n + 1, a, m => if m.isEmpty then a else absorb n (absorbBlock a (m.take 136)) (m.drop 136)

/-- The padding of SHAKE256: the suffix 1111, then 10*1. -/
def shakePad (m : List Byte) : List Byte :=
  let r := 136 - m.length % 136
  if r = 1 then m ++ [0x9F] else m ++ [0x1F] ++ List.replicate (r - 2) 0 ++ [0x80]

/-- The first `n` bytes of SHAKE256, for n at most 136. -/
def shake256 (m : List Byte) (n : Nat) : List Byte :=
  let p := shakePad m
  let a := absorb (p.length / 136) (List.replicate 25 0) p
  ((a.take 17).flatMap (toBytes 8)).take n

/-- The first 128 bits of SHAKE256, as 16 bytes. -/
def shake128 (m : List Byte) : List Byte := shake256 m 16

/-- A 32-bit word in big-endian byte order. -/
def beWord (w : Word) : List Byte := (toBytes 4 w.toNat).reverse

/-- A number in `n` bytes, big-endian. -/
def beBytes (n v : Nat) : List Byte := (toBytes n v).reverse

end Sys2Proof
end

