-- ==== Sys2Proof/Machine/Route.lean ====
section
/-! DEFINITION. The route unit over the state (R161 to R171, R188, R189, R634, R635): the stage map, routing jobs and the
preset store. -/

namespace Sys2Proof.Machine

open Sys2Proof

/-- The EPOCH, ROUTE and VERDICT pages. -/
def epochPage : Page := ⟨.epoch, 0⟩
/-- ROUTE. -/
def routePage : Page := ⟨.route, 0⟩
/-- VERDICT. -/
def verdictPage : Page := ⟨.verdict, 0⟩

/-! ### The network -/

/-- NET_K (R188). -/
def netK (s : State) : Nat := getF s Reg.ROUTE_NET 0 4

/-- Segment `g` of stage `q`: VALID, POS and COL (R163, R188). -/
def mapSegment (s : State) (q g : Nat) : Bool × Nat × Nat :=
  let w := reg s (Reg.ROUTE_STAGE_MAP q)
  (bitOf w (8 + 16 * g), fld w (16 * g) 2, fld w (4 + 16 * g) 4)

/-- The ring position and slot of cell `i` of stage `q` (R163). -/
def cellPlace (s : State) (q i : Nat) : Nat × Nat :=
  let m := mapSegment s q (i / 256)
  (m.2.1, 256 * m.2.2 + i % 256)

/-- SLOT_CFG of a slot of a member: the committed word here, the last report of it elsewhere; a column that the device lacks has
no role (R36, R165). -/
def slotConfig (s : State) (pos slot : Nat) : Word :=
  if pos = ringPos s then (if slot < 256 * s.variant.columns then act s (Reg.SLOT_CFG slot) else 0) else SMap.get (fun _ => 0) s.ringRoles (4096 * pos + slot)

/-- The segments a network needs, in ascending stage (R163). -/
def neededSegments (k : Nat) : List (Nat × Nat) :=
  ((List.range (2 * k - 1)).map fun q => (List.range ((2 ^ (k - 1) + 255) / 256)).map fun g => (q, g)).flatten

/-- The first segment that R165 refuses: its column and position. -/
def mapFault (s : State) : List (Nat × Nat) → List (Nat × Nat) → Option (Nat × Nat)
  | [], _ => none
  | (q, g) :: r, seen =>
    let m := mapSegment s q g
    if !m.1 || !(m.2.1 < ringSize s) || seen.contains m.2 then some (m.2.2, m.2.1) else mapFault s r (m.2 :: seen)

/-- The cells of a network in ascending stage, then ascending cell. -/
def networkCells (k : Nat) : List (Nat × Nat) :=
  ((List.range (2 * k - 1)).map fun q => (List.range (2 ^ (k - 1))).map fun i => (q, i)).flatten

/-- Whether an input port is marked failed (R189). -/
def portMarked (s : State) (p : Nat) : Bool := getBit s (Reg.ROUTE_PORT_FAILED (p / 32)) (p % 32)

/-- Whether any port is marked failed (R154). -/
def anyMarked (s : State) : Bool := (List.range 32).any fun n => reg s (Reg.ROUTE_PORT_FAILED n) != 0

/-- The outcome of routing a whole permutation now, with or without the failed marks (R165 to R167, R170). -/
def routeNow (s : State) (perm : List Nat) (marks : Bool) : RouteResult :=
  let k := netK s
  match mapFault s (neededSegments k) [] with
  | some (c, p) => { cells := [], reason := 4, input := 0x7FF, slot := 256 * c, pos := p }
  | none =>
    let cfg := fun (q i : Nat) => let x := cellPlace s q i; slotConfig s x.1 x.2
    match (networkCells k).find? fun e => fld (cfg e.1 e.2) 0 2 != roleSwitch with
    | some e => { cells := [], reason := 3, input := 0x7FF, slot := (cellPlace s e.1 e.2).2, pos := (cellPlace s e.1 e.2).1 }
    | none =>
      match benesRoute k perm (fun q i => fld (cfg q i) 4 2) (fun p => marks && portMarked s p) with
      | .error e => { cells := [], reason := e.reason, input := e.input, slot := (cellPlace s e.stage e.cell).2, pos := (cellPlace s e.stage e.cell).1 }
      | .ok cs =>
        let place := fun (c : NetCell) =>
          let x := cellPlace s c.stage c.cell
          RouteCell.mk x.1 x.2 c.cross c.upper c.lower
        { cells := cs.map place, reason := 0, input := 0x7FF, slot := 0, pos := 0 }

/-- The path entry of a cell: the paths on its tap side and on the other (R30, R265). -/
def pathWord (tapSide : Bool) (c : RouteCell) : Word :=
  let t := if tapSide then c.lower else c.upper
  let o := if tapSide then c.upper else c.lower
  word (t % 1024 + 2 ^ 16 * (o % 1024) + 2 ^ 31)

/-- The cells of a member with their states and path entries (R172, R265). -/
def memberCells (s : State) (pos : Nat) (r : RouteResult) : List StagedCell :=
  (r.cells.filter fun c => c.pos == pos).map fun c =>
    { slot := c.slot, cross := c.cross, path := pathWord (bitOf (slotConfig s pos c.slot) 2) c }

/-- Records a failed routing (R167, R188). -/
def recordRouteFail (input kind reason slot pos : Nat) (s : State) : State :=
  setReg Reg.ROUTE_FAIL (word (input % 2 ^ 11 + 2 ^ 11 * kind + 2 ^ 12 * reason + 2 ^ 16 * slot + 2 ^ 28 * pos)) s

/-! ### The preset store (R169 to R171) -/

/-- The address of byte `o` of preset `n` (R169). -/
def presetAt (n o : Nat) : Nat := 0x1400000 + 0x10000 * n + o

/-- PRESET_STATUS as stored; SCHED_REF and QUEUE_REF are computed where it is read. -/
def presetStatus (s : State) (n : Nat) : Word := word (readMem s (presetAt n 0xF000) 4)

/-- VALID of a preset. -/
def presetValid (s : State) (n : Nat) : Bool := bitOf (presetStatus s n) 0

/-- Writes PRESET_STATUS. -/
def setPresetStatus (n : Nat) (w : Word) (s : State) : State := writeMem (presetAt n 0xF000) (toBytes 4 w.toNat) s

/-- VALID of a preset clears. -/
def clearPreset (n : Nat) (s : State) : State := setPresetStatus n (setFld (presetStatus s n) 0 1 0) s

/-- The first N entries of a preset's port table. -/
def presetEntries (s : State) (n count : Nat) : List Nat := (List.range count).map fun p => readMem s (presetAt n (2 * p)) 2

/-- Entry `p` of a preset's input attenuation table. -/
def presetAtten (s : State) (n p : Nat) : Nat := readMem s (presetAt n (0x800 + 2 * p)) 2

/-- The whole permutation of a preset's port table (R153). -/
def presetPerm (s : State) (n : Nat) : List Nat := wholePerm (presetEntries s n (2 ^ netK s))

/-- Slot `x`'s attenuator level in a preset, in the attenuation-table format (R169). -/
def presetLevel (s : State) (n x : Nat) : Nat := readMem s (presetAt n (0x1400 + 2 * x)) 2

/-- Slot `x`'s column state in a preset: cross (R169). -/
def presetCross (s : State) (n x : Nat) : Bool :=
  (memByte s (presetAt n (0x1000 + 32 * (x / 256) + x % 256 / 8))).getLsbD (x % 8)

/-- This member's cells as a preset stores them (R169, R265). -/
def presetCells (s : State) (n : Nat) : List StagedCell :=
  ((allSlots s).filter fun x => bitOf (reg s (Reg.PATH_TABLE (0x1000 * n + x))) 31).map fun x =>
    { slot := x, cross := presetCross s n x, path := reg s (Reg.PATH_TABLE (0x1000 * n + x)) }

/-- The 320 bytes of column states of a list of cells (R169, R436). -/
def stateBytes (cells : List StagedCell) : List Byte :=
  (List.range 320).map fun o =>
    BitVec.ofNat 8 (((List.range 8).map fun b => 2 ^ b * b2n (cells.any fun c => c.cross && c.slot == 8 * o + b)).sum)

/-- PRESET_DIGEST: SHAKE256 over the stored bytes of both host tables and of PRESET_GEN (R169). -/
def presetDigest (s : State) (n : Nat) : List Byte :=
  shake128 (((List.range 0x1000).map fun o => memByte s (presetAt n o)) ++ (List.range 4).map fun o => memByte s (presetAt n (0xF004 + o)))

/-- Stores a prepared preset's results on this member: its column states, path entries and slot levels, VALID, PRESET_GEN and
the digest (R169, R170, R265). -/
def storePreset (n gen : Nat) (cells : List StagedCell) (s : State) : State :=
  let levels := (allSlots s).map fun x =>
    toBytes 2 (if role s x = roleAtten then presetAtten s n (actF s (Reg.SLOT_CFG x) 16 10) % 2 ^ 12 + presetAtten s n (actF s (Reg.SLOT_CFG x) 16 10) / 2 ^ 15 % 2 * 2 ^ 15 else 0)
  let s1 := writeMem (presetAt n 0x1400) levels.flatten (writeMem (presetAt n 0x1000) ((stateBytes cells).take (32 * s.variant.columns)) s)
  let s2 := { s1 with regs := SMap.dropRange s1.regs (Reg.PATH_TABLE (0x1000 * n)) 0x4000 }
  let s3 := forEach cells (fun c t => setReg (Reg.PATH_TABLE (0x1000 * n + c.slot)) c.path t) s2
  let s4 := writeMem (presetAt n 0xF004) (toBytes 4 (gen % 65536)) s3
  setPresetStatus n (word (1 + 2 ^ 16 * netK s)) (writeMem (presetAt n 0xF010) (presetDigest s4 n) s4)

/-- PRESET_GEN of a preset. -/
def presetGen (s : State) (n : Nat) : Nat := readMem s (presetAt n 0xF004) 2

/-! ### Who names a preset (R169, R171) -/

/-- RUNNING of the schedule. -/
def schedRunning (s : State) : Bool := getBit s Reg.SCHED_CTRL 8

/-- ACTIVE_BANK. -/
def activeBankOf (s : State) : Nat := getF s Reg.SCHED_CTRL 4 1

/-- PENDING_BANK. -/
def bankPending (s : State) : Bool := getBit s Reg.SCHED_CTRL 9

/-- Whether a schedule bank is active or pending; a bank counts as active while a schedule runs, which is the model's choice
(R171, R178, assumption 74). -/
def bankInUse (s : State) (b : Nat) : Bool := schedRunning s && (b == activeBankOf s || bankPending s)

/-- LEN of a bank. -/
def bankLen (s : State) (b : Nat) : Nat := min 64 (getF s Reg.SCHED_LEN (8 * b) 7)

/-- Entry `j` of a bank (R175). -/
def bankEntry (s : State) (b j : Nat) : Word := reg s (if b = 0 then Reg.SCHED_A j else Reg.SCHED_B j)

/-- SCHED_REF: the active or pending bank names the preset. -/
def schedRef (s : State) (n : Nat) : Bool :=
  [0, 1].any fun b => bankInUse s b && (List.range (bankLen s b)).any fun j => fld (bankEntry s b j) 0 6 == n

/-- QUEUE_REF: a queued epoch, or the epoch in progress before T + 900 ns, names the preset (R171). -/
def queueRef (s : State) (n : Nat) : Bool :=
  s.epochs.any fun e => e.preset == n && (!e.applied || ptpNow s < e.t + 900)

/-! ### Jobs (R168) -/

/-- Whether the route unit is at work. -/
def routeBusy (s : State) : Bool :=
  s.epochs.any (fun e => e.job == .running) || (s.preparation.any fun p => p.job == .running)

/-- BUSY and JOB of ROUTE_STATUS. -/
def showRoute (s : State) : State :=
  let job := if s.epochs.any (fun e => e.job == .running) then 1 else if s.preparation.any (fun p => p.job == .running) then 2 else 0
  setF Reg.ROUTE_STATUS 0 3 (b2n (job != 0) + 2 * job) s

/-- Changes the epochs that carry a serial. -/
def modEpoch (id : Nat) (f : Epoch → Epoch) (s : State) : State :=
  { s with epochs := s.epochs.map fun e => if e.id == id then f e else e }

/-- Starts the next job where none runs: routed epochs in queue order, then a preparation (R168). -/
def startJob (s : State) : State :=
  if routeBusy s || phase s routePage == .resetting then showRoute s
  else
    match s.epochs.find? fun e => e.job == .waiting with
    | some e =>
      let r := routeNow s e.perm true
      showRoute (modEpoch e.id (fun x => { x with job := .running, result := some r }) { s with jobStart := s.time.uptime })
    | none =>
      match s.preparation with
      | some p =>
        if p.job == .waiting then
          let r := p.result.getD (routeNow s (presetPerm s p.preset) false)
          let at_ := p.started.getD s.time.uptime
          showRoute { s with preparation := some { p with job := .running, result := some r, started := some at_ }, jobStart := at_ }
        else showRoute s
      | none => showRoute s

/-- A routed epoch has come: a running preparation yields, and the job starts or waits; one that comes during a block reset of
ROUTE never becomes ready (R168, R635). -/
def newRoutedEpoch (s : State) : State :=
  if phase s routePage == .resetting then
    { s with epochs := s.epochs.map fun e => if e.job == .waiting then { e with job := .lost } else e }
  else match s.preparation with
  | some p => startJob (if p.job == .running then { s with preparation := some { p with job := .waiting } } else s)
  | none => startJob s

/-- The duration of the job that ends shows, from its first start (R188, assumption 74). -/
def showDuration (s : State) : State := setF Reg.ROUTE_STATUS 16 16 (min 65535 ((s.time.uptime - s.jobStart) / 10)) s

/-! ### ROUTE_PRESET_CMD (R170, R171, R634) -/

/-- Writes ROUTE_PRESET_RESULT. -/
def presetResult (pending ok : Bool) (reason n : Nat) (s : State) : State :=
  setReg Reg.ROUTE_PRESET_RESULT (word (b2n pending + 2 * b2n ok + 4 * reason + 2 ^ 8 * n)) s

/-- An ignored write of the preset store or of its command (R171, R634). -/
def presetIgnored (n : Nat) (s : State) : State := setF Reg.ROUTE_PRESET_IGNORED 16 6 n (bumpF Reg.ROUTE_PRESET_IGNORED 0 16 s)

/-- INVALIDATE of a preset: whether it acted, and the state (R171, R444). -/
def invalidatePreset (n : Nat) (s : State) : Bool × State :=
  if queueRef s n || schedRef s n then (false, presetResult false false 2 n s)
  else (true, ringSend 0x24 (otherMembers s) [n] (presetResult false true 0 n (clearPreset n s)))

/-- PREPARE of a preset; one that ends with REASON 3 or 4 leaves PRESET_STATUS as it was, which is the model's choice (R170,
assumption 74). -/
def preparePreset (n : Nat) (s : State) : State :=
  if !isLeader s then presetResult false false 3 n s
  else if netK s = 0 then presetResult false false 4 n s
  else
    let bad := permFault (2 ^ netK s) 0 [] (presetEntries s n (2 ^ netK s))
    let s1 := presetResult true false 0 n s
    startJob { s1 with preparation := some { preset := n, job := if bad.isSome then .done else .waiting, result := none, badPerm := bad, started := none } }

/-- A write of ROUTE_PRESET_CMD; one with neither bit set is not counted while a preparation is pending, which is the model's choice
(R634, assumption 74). -/
def presetCommand (n : Nat) (prepare invalidate : Bool) (s : State) : State :=
  if !prepare && !invalidate then s
  else if s.preparation.isSome then presetIgnored n s
  else
    let r := if invalidate then invalidatePreset n s else (true, s)
    if prepare && r.1 then preparePreset n r.2 else r.2

/-- ROUTE_PRESET_CMD.PREPARE alone (R170, R634). -/
def execPrepare (req : Requester) (preset : Fin 64) (s : State) : Out :=
  .next (hostWrite req Reg.ROUTE_PRESET_CMD (presetCommand preset true false) s)

/-- ROUTE_PRESET_CMD.INVALIDATE alone (R171, R634). -/
def execInvalidate (req : Requester) (preset : Fin 64) (s : State) : Out :=
  .next (hostWrite req Reg.ROUTE_PRESET_CMD (presetCommand preset false true) s)

/-- What a member is sent of a prepared preset: its number, PRESET_GEN, both host tables, its column states and its path
entries (R170, R265, R444). -/
def presetMessage (s : State) (n : Nat) (cells : List StagedCell) : List Nat :=
  [n, presetGen s n] ++ ((List.range 0x1000).map fun o => (memByte s (presetAt n o)).toNat) ++
    (cells.map fun c => [c.slot, b2n c.cross, c.path.toNat]).flatten

/-- A preset preparation ends (R170, R188). -/
def execPresetPreparationComplete (s : State) : Out :=
  .next (match s.preparation with
    | none => s
    | some p =>
      if p.job != .done then s
      else
        let n := p.preset
        let s1 := { s with preparation := none }
        let fail := fun (reason : Nat) (t : State) =>
          presetResult false false reason n (setPresetStatus n (word (2 ^ 24 * reason)) t)
        match p.badPerm, p.result with
        | some b, _ => fail 5 (recordRouteFail b.1 b.2 5 0 0 s1)
        | none, some r =>
          if r.reason != 0 then fail 1 s1
          else
            let s2 := storePreset n (presetGen s n + 1) (memberCells s1 (ringPos s1) r) s1
            let others := (List.range (ringSize s2)).filter fun q => q != ringPos s2
            let s3 := forEach others (fun q t => ringSend 0x41 (2 ^ q) (presetMessage t n (memberCells t q r)) t) s2
            presetResult false true 0 n s3
        | none, none => fail 1 s1)

/-! ### The map and the marks -/

/-- A write of ROUTE_NET or ROUTE_STAGE_MAP_q: ignored while epochs run or a preparation is pending; a change clears every
VALID (R164, R188). -/
def mapWrite (a : Nat) (data : Word) (s : State) : State :=
  if enabled s epochPage || getBit s (Reg.STATUS epochPage) 1 || s.preparation.isSome then s
  else
    let v := data &&& word ((regAt a).map RegDef.mask |>.getD 0)
    let ok := a != Reg.ROUTE_NET || v = 0 || (4 ≤ v.toNat && v.toNat ≤ 10)
    if ok && v != reg s a then forEach (List.range 64) clearPreset (setReg a v s) else s

/-- A write of ROUTE_NET or ROUTE_STAGE_MAP_q (R164). -/
def execRouteMapWrite (req : Requester) (addr : BitVec 28) (data : Word) (s : State) : Out :=
  .next (hostWrite req addr.toNat (fun t =>
    if addr.toNat = Reg.ROUTE_NET || (Reg.ROUTE_STAGE_MAP 0 ≤ addr.toNat && addr.toNat ≤ Reg.ROUTE_STAGE_MAP 18 && addr.toNat % 4 = 0)
    then mapWrite addr.toNat data t else t) s)

/-- Sets a port's failed mark (R189). -/
def markPort (p : Nat) (s : State) : State := setB (Reg.ROUTE_PORT_FAILED (p / 32)) (p % 32) true s

/-- A write of ROUTE_PORT_MARK with bit 15 set (R188, R189). -/
def execRoutePortMark (req : Requester) (port : BitVec 10) (s : State) : Out :=
  .next (hostWrite req Reg.ROUTE_PORT_MARK (markPort port.toNat) s)

/-- A block reset of the ROUTE page abandons every job (R635). -/
def routeAbandon (s : State) : State :=
  let lose := fun (e : Epoch) => if e.job == .running || e.job == .waiting then { e with job := .lost, result := none } else e
  let s1 := { s with epochs := s.epochs.map lose, preparation := none }
  showRoute (match s.preparation with | some p => clearPreset p.preset s1 | none => s1)

end Sys2Proof.Machine
end

