-- ==== Sys2Proof/Machine/Verdicts.lean ====
section
/-! DEFINITION. Verdicts, the input power table's mirror and pilot identity (R361 to R390). -/

namespace Sys2Proof.Machine

open Sys2Proof

/-! ### The input power table (R362 to R365) -/

/-- Where shared SRAM lies (R84). -/
def sramAt (o : Nat) : Nat := 0x4000000 + o

/-- A block writes bytes at an offset of shared SRAM; the Cistern ignores them, so an area placed there records nothing (R494). -/
def writeShared (o : Nat) (bs : List Byte) (s : State) : State := if 0xC00000 ≤ o then s else writeMem (sramAt o) bs s

/-- Whether an entry of the table is UNKNOWN (R363). -/
def inputUnknown (s : State) (port : Nat) : Bool := (inputKnown s port).isNone

/-- The attenuation in service of an input, in 0.01 dB (R362). -/
def inputAtten (s : State) (port : Nat) : Nat := SMap.get (fun _ => 0) s.portAtten port

/-- A dyadic as a rational. -/
def dyadicRat (d : Dyadic) : Rat :=
  if d.exp < 0 then (d.man : Rat) / ((2 ^ (-d.exp).toNat : Nat) : Rat) else (d.man : Rat) * ((2 ^ d.exp.toNat : Nat) : Rat)

/-- Π of an input in 0.125 nA (R362). -/
def inputPi (s : State) (port : Nat) (e : InputPower) : Rat := dyadicRat (inputPiExact s port e)

/-- A quantity in 0.125 nA as 24 bits hold it, saturating; its rounding is open (R365, R376, assumption 9). -/
def show24 (x : Rat) : Nat := min 0xFFFFFF (openDiv x.num x.den).toNat

/-- A mirrored entry: word 0 and word 1 (R365). -/
def mirrorEntry (s : State) (port : Nat) : Nat × Nat :=
  match SMap.get (fun _ => none) s.inputPower port with
  | none => (2 ^ 26 + 15 * 2 ^ 28, 0)
  | some e =>
    let age := min 15 ((s.time.uptime - e.time) / 4000)
    (min e.reading 0xFFFFFF + 2 ^ 24 * b2n e.implausible + 2 ^ 25 * b2n e.overRange + 2 ^ 26 * b2n (inputUnknown s port) +
      2 ^ 27 * b2n e.remote + 2 ^ 28 * age, show24 (inputPi s port e))

/-- The whole table is copied into shared SRAM (R365). -/
def mirrorTable (s : State) : State :=
  if getBit s Reg.VRD_IPT_BASE 0 then
    let a := getF s Reg.VRD_IPT_BASE 13 11 * 0x2000
    forEach (List.range 1024) (fun p t => let e := mirrorEntry s p; writeShared (a + 8 * p) (toBytes 4 e.1 ++ toBytes 4 e.2) t) s
  else s

/-- The input ports that this member's own monitors serve. -/
def servedInputs (s : State) : List Nat :=
  (List.range 1024).filter fun p => (monitorFor s p 0).isSome

/-- At an instant that is a multiple of 10 µs, the member sends the readings it serves and mirrors its table
(R363, R365). -/
def execInputPowerExchange (s : State) : Out :=
  .next (
    let now := ptpNow s
    let s1 := advanceTo ((now + 9999) / 10000 * 10000) s
    let item := fun (p : Nat) => match SMap.get (fun _ => none) s1.inputPower p with
      | some e => if e.remote then [] else [p, e.reading, b2n e.stale + 2 * b2n e.implausible + 4 * b2n e.overRange, unsignedOf 16 e.loss]
      | none => []
    let s2 := if standAlone s1 then s1
      else ringSend 0x31 (otherMembers s1) ((servedInputs s1).map item).flatten s1
    mirrorTable s2)

/-! ### Plans and items (R366 to R370) -/

/-- Word `k` of the plan under verdict. -/
def VerdictEpoch.word (v : VerdictEpoch) (k : Nat) : Word := (v.plan[k]?).getD 0

/-- Sample offset `j` of a plan, in ns. -/
def VerdictEpoch.offset (v : VerdictEpoch) (j : Nat) : Nat := fld (v.word (1 + j / 2)) (16 * (j % 2)) 16

/-- The number of sample offsets. -/
def VerdictEpoch.samples (v : VerdictEpoch) : Nat := fld (v.word 0) 8 2 + 1

/-- The samples in window that pass an item. -/
def VerdictEpoch.required (v : VerdictEpoch) : Nat := fld (v.word 0) 12 2 + 1

/-- The permutation of an epoch: its own, or that of its preset (R152, R368). -/
def epochPerm (s : State) (e : Epoch) : List Nat := if e.perm.isEmpty then presetPerm s e.preset else e.perm

/-- The cells of this member that an epoch sets: its staged ones, or those of its preset. -/
def epochCells (s : State) (e : Epoch) : List StagedCell := e.staged.getD (presetCells s e.preset)

/-- The start of column `c`'s transition in 1/64 ns: T + c × skew + the device trim (R209, R370). -/
def colStart (s : State) (e : Epoch) (c : Nat) : Nat :=
  ((64 * e.t + 16 * c * e.skew : Nat) + signed 16 s.align.trim.toNat).toNat

/-- The output items of an epoch (R368). -/
def outputItems (s : State) (e : Epoch) (offsets : List Nat) (changedOnly : Bool) : List VerdictItem :=
  let inv := inversePerm (epochPerm s e)
  ((List.range inv.length).filter fun o => (monitorFor s o 1).isSome &&
      (!changedOnly || SMap.get (fun _ => none) s.connected o != some (nth inv o))).map fun o =>
    let m := (monitorFor s o 1).getD 0
    { tap := false, index := o, monitor := m, loss := signed 16 (fld (monEntry s m) 16 16), input := nth inv o, reference := 64 * e.t
      left := offsets, inside := 0, outside := 0, result := none }

/-- The tap items of an epoch, in slot order (R368). -/
def tapItems (s : State) (e : Epoch) (offsets : List Nat) (changedOnly : Bool) : List VerdictItem :=
  let cells := epochCells s e
  let input := fun (x : Nat) =>
    if role s x = roleAtten then some (actF s (Reg.SLOT_CFG x) 16 10)
    else if role s x = roleSwitch then
      ((cells.find? fun c => c.slot == x).filter fun c => bitOf c.path 31).map fun c => fld c.path 0 10
    else none
  (allSlots s).filterMap fun x =>
    if changedOnly && !(channel s x).changing then none
    else (input x).map fun p =>
      { tap := true, index := x, monitor := 0, loss := 0, input := p, reference := colStart s e (x / 256), left := offsets
        inside := 0, outside := 0, result := none }

/-- The well and input that an item's samples come from. -/
def VerdictItem.place (i : VerdictItem) : Nat × Nat :=
  if i.tap then (i.index / 16, i.index % 16) else (160 + i.monitor / 8, i.monitor % 8)

/-- The pin that a well takes for its judged inputs, none where R372 places none. -/
def pinOfWell (v : VerdictEpoch) (w : Nat) : Option WellPin :=
  let mode := fld (v.word 0) 4 2
  let items := v.items.filter fun i => i.place.1 == w
  let inputs := (items.map fun i => i.place.2).eraseDups
  if mode = 0 || items.isEmpty || 4 < inputs.length then none
  else
    let ofs := (List.range v.samples).map v.offset
    let refs := items.map fun i => i.reference / 64
    let early := (refs.foldl min (refs.headD 0) + ofs.foldl min 65535) - (25 * fld v.cfg 0 8 + fld (v.word 7) 0 12)
    let late := refs.foldl max 0 + ofs.foldl max 0 + 25
    some { well := w, inputs := inputs, exclusive := mode == 2, start := max early (v.t - 2000), stop := late }

/-- Sorts the placed pins by their start. -/
def placePin (p : WellPin) : List WellPin → List WellPin
  | [] => [p]
  | q :: r => if p.start < q.start then p :: q :: r else q :: placePin p r

/-- Every pin, placed or in force, ends (R373, R378). -/
def endPins (s : State) : State :=
  forEach ((allWells s).filter fun w => (pinOf s w).isSome) endPin { s with pinsPlaced := [] }

/-! ### Summaries and the end of an epoch's verdict (R373, R377, R387) -/

/-- A member's masks join the report of their epoch (R377). -/
def addSummary (num judged failing : Nat) (s : State) : State :=
  { s with reports := s.reports.map fun r => if r.num == num then { r with judged := Nat.lor r.judged judged, failing := Nat.lor r.failing failing } else r }

/-- A mask of the input ports of items. -/
def portMask (l : List VerdictItem) : Nat := l.foldl (fun m i => Nat.lor m (2 ^ i.input)) 0

/-- How many items came out one way. -/
def countResult (v : VerdictEpoch) (f : Judgement → Bool) : Nat := (v.items.filter fun i => (i.result.map f).getD false).length

/-- Whether a result is a failure. -/
def Judgement.fails : Judgement → Bool
  | .failLow | .failHigh => true
  | _ => false

/-- Whether a result is a decision of PASS or FAIL. -/
def Judgement.decided : Judgement → Bool
  | .pass | .failLow | .failHigh => true
  | _ => false

/-- The verdict of an epoch ends once its last item is decided or ABANDONED (R377, R387, R388). -/
def finishVerdict (s : State) : State :=
  match s.verdict with
  | none => s
  | some v =>
    if v.items.any fun i => i.result.isNone then s
    else
      let judged := v.items.filter fun i => (i.result.map Judgement.decided).getD false
      let failing := v.items.filter fun i => (i.result.map Judgement.fails).getD false
      let s1 := setReg Reg.VRD_LAST_COUNT (word (min 65535 failing.length + 2 ^ 16 * min 65535 judged.length)) { s with verdict := none }
      let miss := fun (j : Judgement) => min 1023 (countResult v (fun r => r == j))
      let s2 := setReg Reg.VRD_LAST_MISS (word (miss .noSample + 2 ^ 10 * miss .notJudged + 2 ^ 20 * miss .abandoned)) s1
      let s3 := setReg64 Reg.VRD_LAST_EPOCH_LO v.num s2
      let s4 := if isLeader s3 then addSummary v.num (portMask judged) (portMask failing) s3
        else ringSend 0x22 (leaderMask s3) [v.num, portMask judged, portMask failing] s3
      publish 8 0 (setInt verdictPage 1 s4)

/-- Every undecided item is ABANDONED and the pins end (R373). -/
def abandonVerdict (s : State) : State :=
  match s.verdict with
  | none => s
  | some v =>
    let items := v.items.map fun i => if i.result.isNone then { i with result := some .abandoned } else i
    finishVerdict (endPins { s with verdict := some { v with items := items } })

/-- T + 25 µs comes before the moment 2 µs before the next epoch, or that moment has come (R373). -/
def execVerdictAbandon (s : State) : Out :=
  .next (match s.verdict with
    | none => s
    | some v => abandonVerdict (advanceTo (v.t + 25000) s))

/-- Whether the VERDICT block runs. -/
def verdictRuns (s : State) : Bool := phase s verdictPage == .running

/-- At its T − 2 µs an epoch takes its plan, its items and its pins; a block that does not run judges nothing (R88, R366 to R368, R372). -/
def beginVerdict (e : Epoch) (s : State) : State :=
  let s1 := abandonVerdict s
  let plan := if e.vplan = 0 || !verdictRuns s1 then [] else (List.range 8).map fun k => act s1 (Reg.VRD_PLAN (8 * e.vplan + k))
  let w0 : Word := plan.headD 0
  let offsets := List.range (fld w0 8 2 + 1)
  let only := bitOf w0 2
  let items := if e.vplan = 0 || !verdictRuns s1 || planBad s1 e.vplan then []
    else (if bitOf w0 0 then outputItems s1 e offsets only else []) ++ (if bitOf w0 1 then tapItems s1 e offsets only else [])
  if items.isEmpty then s1
  else
    let v : VerdictEpoch := { num := e.num.getD 0, t := e.t, plan := plan, cfg := act s1 Reg.VRD_CFG, items := items, faulted := false, failed := false }
    let pins := (allWells s1).filterMap (pinOfWell v)
    { s1 with verdict := some v, pinsPlaced := pins.foldl (fun l p => placePin p l) s1.pinsPlaced }

/-- Items of failed slots and paths, and taps of slots that are neither SWITCH nor ATTEN any more, fall out at T (R29, R37, R368). -/
def dropFailedItems (slots : List Nat) (ports : Nat) (s : State) : State :=
  match s.verdict with
  | none => s
  | some v =>
    let items := v.items.filter fun i => if i.tap then !slots.contains i.index && driven s i.index else !ports.testBit i.input
    if items.isEmpty then { s with verdict := none } else { s with verdict := some { v with items := items } }

/-! ### A sample and a decision (R369 to R371) -/

/-- 10^(-x/10) for x in 0.01 dB (assumption 13). -/
def gainRat (x : Int) : Rat := ((dbGain x : Nat) : Rat) / ((2 ^ 64 : Nat) : Rat)

/-- TAP_K of a slot in its cell's active bank (R284, R369). -/
def tapGain (s : State) (slot : Nat) : Rat :=
  dyadicRat (scalarValue (slotParam s (slot / 4) (activeBank s (slot / 4)) (slot % 4) 1))

/-- E of an item in 0.125 nA at an uptime, none where its input entry is UNKNOWN then (R369). -/
def expected (s : State) (v : VerdictEpoch) (i : VerdictItem) (u : Nat) : Option Rat :=
  match inputAt s i.input u with
  | none => none
  | some e =>
    let dim := if pilotZero s i.input u then pilotFactor s else 1
    if !i.tap then
      some (inputPi s i.input e * gainRat (i.loss + (fld v.cfg 16 16 : Nat)) * dim)
    else if role s i.index = roleAtten then
      some (tapGain s i.index * (e.reading : Rat) * gainRat (inputAtten s i.input : Nat))
    else some (tapGain s i.index * inputPi s i.input e * dim)

/-- An instant of the TIME clock, in 1/64 ns and not to come, as a half nanosecond of uptime (R370, assumption 6). -/
def uptimeOf (s : State) (x : Nat) : Nat := 2 * s.time.uptime - (s.time.total - x * 2 ^ 26 + 2 ^ 31 - 1) / 2 ^ 31

/-- The well and input whose samples an item's offset takes: of a port monitor, the primary or the source that R341 names (R370). -/
def itemSource (s : State) (i : VerdictItem) : Nat × Nat :=
  let p := i.place
  if !i.tap && checkerOnly s p.1 p.2 then (partnerWell p.1, p.2) else p

/-- The sample of an item for an offset: the last at or before it and within MAXWAIT, with the well that made it; none where there is no
such sample, or it carries UNSETTLED, or the monitor is IMPLAUSIBLE (R370). -/
def itemSample (s : State) (v : VerdictEpoch) (i : VerdictItem) (offset : Nat) : Option (Nat × Nat) :=
  let q := itemSource s i
  let b := uptimeOf s (i.reference + 64 * v.offset offset)
  ((samplesIn s q.1 q.2 (b - 50 * fld v.cfg 0 8) b).getLast?).filter fun e =>
    getBit s (Reg.WELL_STATUS q.1) 0 && SMap.get (fun _ => 0) s.settledAt q.1 ≤ e.1 / 2 &&
      (i.tap || !getBit s (Reg.PW_PLAUS_STATUS i.place.1) i.place.2)

/-- A sample's current in 0.125 nA, corrected for an ATTEN slot's own pilot (R327, R369, R383). -/
def itemCurrent (s : State) (i : VerdictItem) (e : Nat × Nat) (raw : BitVec 12) : Rat :=
  let q := itemSource s i
  let c := ((sampleCurrent s q.1 q.2 e raw : Int) : Rat) / ((halfPico : Nat) : Rat)
  if i.tap then unpiloted s i.index (e.1 / 2) c else c

/-- Where a sample lies: 0 in window, 1 below, 2 above; an OVER sample lies above (R371). -/
def windowSide (v : VerdictEpoch) (i : VerdictItem) (e c : Rat) (overRange : Bool) : Nat :=
  let w := v.word (if i.tap then 4 else 3)
  if overRange || e * gainRat (-(fld w 16 16 : Int)) < c then 2 else if c < e * gainRat (fld w 0 16 : Nat) then 1 else 0

/-- Appends a record to the verdict log (R376). -/
def logVerdict (v : VerdictEpoch) (i : VerdictItem) (code flags offset : Nat) (c e : Rat) (s : State) : State :=
  if getBit s Reg.VRD_LOG_BASE 0 then
    let n := getF s Reg.VRD_LOG_WR 0 8
    let bytes := toBytes 4 v.num ++ toBytes 2 (i.index % 4096 + 2 ^ 12 * code + 2 ^ 15 * b2n i.tap) ++ toBytes 2 i.input ++
      toBytes 3 (show24 c) ++ toBytes 1 (flags + 8 * offset) ++ toBytes 3 (show24 e) ++ [0]
    let s1 := writeShared (getF s Reg.VRD_LOG_BASE 12 12 * 0x1000 + 16 * n) bytes s
    wrapF Reg.VRD_LOG_WR 8 24 (setF Reg.VRD_LOG_WR 0 8 (n + 1) s1)
  else s

/-- MARK of an input port (R374). -/
def markAction (p : Nat) (s : State) : State :=
  if isLeader s then
    if portMarked s p then s else bumpF Reg.VRD_ACT_COUNT 16 16 (markPort p s)
  else bumpF Reg.VRD_ACT_COUNT 16 16 (ringSend 0x21 (leaderMask s) [p] s)

/-- Replaces the item that a kind and an index name. -/
def VerdictEpoch.withItem (v : VerdictEpoch) (i : VerdictItem) : VerdictEpoch :=
  { v with items := v.items.map fun x => if x.tap == i.tap && x.index == i.index then i else x }

/-- The actions and the record of a failing item (R374 to R376). -/
def failItem (v : VerdictEpoch) (i : VerdictItem) (high : Bool) (offset : Nat) (c e : Rat) (s : State) : State :=
  let w := v.word 6
  let act_ := fun (outBit tapBit : Nat) => if i.tap then bitOf w tapBit else bitOf w outBit
  let jump := i.tap && bitOf w 9
  let mark := act_ 1 10
  let fault := act_ 2 11 && !v.faulted
  let v1 := { v.withItem { i with result := some (if high then .failHigh else .failLow) } with faulted := v.faulted || fault, failed := v.failed || act_ 0 8 }
  let first := countResult v Judgement.fails = 0
  let s1 := whenB (act_ 0 8 && !v.failed) (setInt verdictPage 0) { s with verdict := some v1 }
  let s2 := whenB first (publish 7 0) s1
  let s3 := if jump then
      let t := bumpF Reg.VRD_ACT_COUNT 0 16 s2
      requestJump i.index (actF t (Reg.EO_SEG_B i.index) 16 10) false .verdict t
    else s2
  let s4 := whenB fault (setFault verdictPage 0) (whenB mark (markAction i.input) s3)
  finishVerdict (logVerdict v i (if high then 2 else 1) (b2n jump + 2 * b2n mark + 4 * b2n fault) offset c e s4)

/-- An item that ends without actions. -/
def endItem (v : VerdictEpoch) (i : VerdictItem) (r : Judgement) (s : State) : State :=
  finishVerdict { s with verdict := some (v.withItem { i with result := some r }) }

/-- The outcome of an item once an offset is known, where no sample of it decides (R371). -/
def afterOffset (v : VerdictEpoch) (i : VerdictItem) (s : State) : State :=
  if i.left.isEmpty then endItem v i .noSample (logVerdict v i 3 0 0 0 0 s)
  else { s with verdict := some (v.withItem i) }

/-- An item's sample meets its window (R369, R371). -/
def judgeSample (v : VerdictEpoch) (i : VerdictItem) (offset : Nat) (x : Nat × Nat) (raw : BitVec 12) (s : State) : State :=
  match expected s v i (x.1 / 2) with
  | none => endItem v i .notJudged s
  | some e =>
    if e < ((80 * fld (v.word 5) 0 16 : Nat) : Rat) then endItem v i .notJudged s
    else
      let c := itemCurrent s i x raw
      let side := windowSide v i e c (isOver raw)
      if side = 0 then
        if v.required ≤ i.inside + 1 then endItem v i .pass s
        else afterOffset v { i with inside := i.inside + 1 } s
      else if v.samples < v.required + i.outside + 1 then failItem v i (side == 2) offset c e s
      else afterOffset v { i with outside := i.outside + 1 } s

/-- An item's sample offset instant passes, with the raw code that the wells returned last before it (R370, R371). -/
def execVerdictOffsetDue (tap : Bool) (index : Fin 2560) (offset : Fin 4) (raw : BitVec 12) (s : State) : Out :=
  .next (match s.verdict with
    | none => s
    | some v =>
      match v.items.find? fun i => i.tap == tap && i.index == index.val && i.result.isNone && i.left.contains offset.val with
      | none => s
      | some i =>
        let s1 := advanceTo ((i.reference + 64 * v.offset offset + 63) / 64) s
        let i1 := { i with left := i.left.erase offset.val }
        match itemSample s1 v i offset with
        | some x =>
          let q := itemSource s1 i
          judgeSample v i1 offset x raw (recordSample q.1 q.2 raw s1)
        | none => afterOffset v i1 s1)

/-- VRD_COUNT_CLR (R387). -/
def execVrdCountClr (req : Requester) (s : State) : Out :=
  .next (hostWrite req Reg.VRD_COUNT_CLR (setReg Reg.VRD_ACT_COUNT 0) s)

/-! ### Pilot identity (R379 to R386) -/

/-- Whether pilots are to run: PILOT_EN of a running VERDICT block (R88, R379). -/
def pilotWanted (s : State) : Bool := verdictRuns s && getBit s Reg.VRD_PILOT_CFG 0

/-- The level that an ATTEN slot in HOLD takes as bit `b` of its frame begins, the most significant bit first (R380). -/
def pilotSlot (b slot : Nat) (s : State) : State :=
  let ch := channel s slot
  if role s slot = roleAtten && ch.state == .hold then
    let f := pilotFrame (getF s Reg.VRD_PILOT_CFG 16 6) (actF s (Reg.SLOT_CFG slot) 16 10)
    setChannel slot { ch with out := if f.testBit (31 - b) then ch.lvlTo else pilotDip s slot } s
  else s

/-- Bit `b` of the frame begins on every ATTEN slot. -/
def pilotBegin (b : Nat) (s : State) : State := forEach (allSlots s) (pilotSlot b) { s with pilotBit := some b }

/-- A new frame begins now: the bits before it stay on record as far as a measurement window may reach (R381, R383). -/
def pilotNew (s : State) : State :=
  let t := s.time.uptime
  let recent := s.pilotStarts.filter fun u => t < u + spanKept
  pilotBegin 0 { s with pilotStarts := t :: recent }

/-- Pilots have stopped: every ATTEN slot in HOLD stands at its level in service again (R379, R380). -/
def pilotRest (s : State) : State :=
  let rest := fun (slot : Nat) (t : State) =>
    let ch := channel t slot
    if role t slot = roleAtten && ch.state == .hold then setChannel slot { ch with out := ch.lvlTo } t else t
  forEach (allSlots s) rest { s with pilotBit := none, pilotStarts := [] }

/-- A pilot bit boundary, 16 µs after the one before: frames repeat back to back, and end where PILOT_EN is 0 or VERDICT does not run (R379 to R381). -/
def execPilotBitBoundary (s : State) : Out :=
  .next (
    let due := fun (o : Nat) => o + ((s.time.uptime - o) / 16000 + 1) * 16000
    match s.pilotBit, s.pilotStarts.head? with
    | some _, some o =>
      let s1 := advanceUptime (due o) s
      if pilotWanted s then pilotBegin ((due o - o) / 16000 % 32) s1 else pilotRest s1
    | _, _ => if pilotWanted s then pilotNew s else s)

/-- Whether a monitor is a valid output-side entry. -/
def outputMonitor (s : State) (m : Nat) : Bool :=
  let e := monEntry s m
  bitOf e 15 && bitOf e 10 && monitorFor s (fld e 0 10) 1 == some m

/-- The pilot result of a monitor (R385, R390). -/
def setPilot (m port switchId result num : Nat) (s : State) : State :=
  setReg (Reg.PILOT_B (m / 8) (m % 8)) (word num)
    (setReg (Reg.PILOT_A (m / 8) (m % 8)) (word (port % 1024 + 2 ^ 10 * (switchId % 64) + 2 ^ 16 * result)) s)

/-- IDENT_DONE once every decoder has a result (R386, R520). -/
def finishPilot (s : State) : State :=
  match s.pilotDecode with
  | some d =>
    if d.left.isEmpty then publish 9 0 (setInt verdictPage 2 (setB Reg.VRD_IDENT_STATUS 30 true { s with pilotDecode := none })) else s
  | none => s

/-- The next epoch's T falls before the frames end: the pending results are ABANDONED (R385). -/
def abandonPilot (s : State) : State :=
  match s.pilotDecode with
  | some d =>
    let s1 := forEach d.left (fun m t => setPilot m 0 0 5 d.num t) s
    finishPilot (whenB (!d.left.isEmpty) (setB Reg.VRD_IDENT_STATUS 31 true) { s1 with pilotDecode := some { d with left := [] } })
  | none => s

/-- T + 4 µs of the epoch applied last: a new frame and, with DECODE_EN, the decoders begin (R381, R384, R385, R387). -/
def execPilotFrameStart (s : State) : Out :=
  .next (match s.lastApplied with
    | none => s
    | some (num, t) =>
      let s1 := advanceTo (t + 4000) s
      let s2 := if pilotWanted s1 then pilotNew s1 else s1
      if verdictRuns s2 && getBit s2 Reg.VRD_PILOT_CFG 1 then
        let all := (List.range s2.variant.monitors)
        let s3 := forEach (all.filter fun m => !outputMonitor s2 m) (fun m u => setPilot m 0 0 6 num u) s2
        let s4 := setReg64 Reg.VRD_IDENT_EPOCH_LO num (setReg Reg.VRD_IDENT_STATUS 0 s3)
        finishPilot { s4 with pilotDecode := some { num := num, start := s2.time.uptime, left := all.filter fun m => outputMonitor s2 m, heard := [], acted := false } }
      else s2)

/-- The averages of the readings of a frame's bits, the first bit first (R384). -/
def bitAverages (t : PilotTally) : List Rat := t.bits.map fun e => (e.1 : Rat) / ((max 1 e.2 : Nat) : Rat)

/-- The average of bit `i`. -/
def bitAverage (bits : List Rat) (i : Nat) : Rat := (bits[i]?).getD 0

/-- The averages of a frame's bits at the places of a mask, the most significant bit first. -/
def frameSum (bits : List Rat) (mask : Nat) : Rat := ((List.range 8).map fun i => if mask.testBit (7 - i) then bitAverage bits i else 0).sum

/-- The bits that a decoder reads against the threshold midway between the means of SYNC's 1 bits and 0 bits; an average at the threshold
reads as 0 (R384, assumption 73). -/
def pilotWord (bits : List Rat) : Nat :=
  let t := frameSum bits 0xB4 + frameSum bits 0x4B
  (List.range 32).foldl (fun w i => 2 * w + b2n (decide (t < 8 * bitAverage bits i))) 0

/-- The switch and port that a frame names. -/
def framePort (w : Nat) : Nat := w / 256 % 1024

/-- SWITCH_ID of a frame. -/
def frameSwitch (w : Nat) : Nat := w / 2 ^ 18 % 64

/-- Whether SYNC and CRC check and the SYNC means stand far enough apart (R385). -/
def pilotChecks (s : State) (bits : List Rat) : Bool :=
  let w := pilotWord bits
  let hi := frameSum bits 0xB4
  let lo := frameSum bits 0x4B
  w == pilotFrame (frameSwitch w) (framePort w) &&
    decide (((getF s Reg.VRD_PILOT_CFG 8 5 : Nat) : Rat) * hi ≤ 4000 * (hi - lo))

/-- The result of a decoder: 1 MATCH, 2 MISMATCH, 3 NO_PILOT, 4 DARK; a frame of which a bit was never read counts as STALE (R385,
assumption 82). -/
def pilotResult (s : State) (m : Nat) (t : PilotTally) : Nat :=
  let w := pilotWord (bitAverages t)
  if t.stale || (t.bits.any fun e => e.2 = 0) || decide (t.sum < 8000 * t.count) then 4
  else if !pilotChecks s (bitAverages t) then 3
  else if frameSwitch w = getF s Reg.VRD_PILOT_CFG 16 6 && SMap.get (fun _ => none) s.connected (fld (monEntry s m) 0 10) == some (framePort w) then 1
  else 2

/-- What a monitor's decoder has heard. -/
def PilotDecode.tally (d : PilotDecode) (m : Nat) : PilotTally := SMap.get (fun _ => PilotTally.empty) d.heard m

/-- A decoder delivers its result at the end of its frame (R385, R386). -/
def execPilotDecodeComplete (primary : Fin 64) (input : Fin 8) (s : State) : Out :=
  .next (match s.pilotDecode with
    | none => s
    | some d =>
      let m := 8 * primary.val + input.val
      if !d.left.contains m then s
      else
        let r := pilotResult s m (d.tally m)
        let w := pilotWord (bitAverages (d.tally m))
        let s1 := setPilot m (framePort w) (frameSwitch w) r d.num (advanceUptime (d.start + 512000) s)
        let s2 := if r = 4 then s1 else bumpF Reg.VRD_IDENT_STATUS (10 * (r - 1)) 10 s1
        let bad := r == 2
        let s3 := { s2 with pilotDecode := some { d with left := d.left.erase m, acted := d.acted || bad } }
        let s4 := whenB (bad && !d.acted && getBit s3 Reg.VRD_PILOT_CFG 24) (setInt verdictPage 3) s3
        let s5 := match SMap.get (fun _ => none) s4.connected (fld (monEntry s4 m) 0 10) with
          | some p => whenB (bad && getBit s4 Reg.VRD_PILOT_CFG 25) (markAction p) s4
          | none => s4
        finishPilot (whenB (bad && !d.acted && getBit s5 Reg.VRD_PILOT_CFG 26) (setFault verdictPage 1) s5))

end Sys2Proof.Machine
end

