-- ==== Sys2Proof/Machine/Epochs.lean ====
section
/-! DEFINITION. Epochs (R151 to R187, R636): acceptance, instants and numbers, routing jobs, staging, commitment, the
rotating schedule, transitions, notices and reports. -/

namespace Sys2Proof.Machine

open Sys2Proof

/-! ### Numbers, queue and results -/

/-- The route bound of R154, in ns. -/
def routeBound (s : State) : Nat := if netK s = 10 then 40000 else 20000

/-- P of R154, in ns. -/
def prepTime (s : State) (routed : Bool) : Nat := if routed then 10000 + routeBound s else 10000

/-- Whether an epoch occupies a queue entry (R159). -/
def Epoch.queued (e : Epoch) : Bool := e.phase == .queued && (!e.scheduled || e.override) && !e.follower

/-- The queue, in the order of instants (R159). -/
def epochQueue (s : State) : List Epoch := s.epochs.filter Epoch.queued

/-- Shows the number of entries (R184). -/
def showQueue (s : State) : State :=
  let n := (epochQueue s).length
  setF Reg.EPOCH_QUEUE_STATUS 0 9 (min n 16 + 2 ^ 8 * b2n (16 ≤ n)) s

/-- Puts an epoch into the list after those of earlier or equal instant. -/
def insertEpoch (e : Epoch) : List Epoch → List Epoch
  | [] => [e]
  | x :: r => if e.t < x.t then e :: x :: r else x :: insertEpoch e r

/-- Takes an epoch out of the list. -/
def removeEpoch (id : Nat) (s : State) : State := showQueue { s with epochs := s.epochs.filter fun e => e.id != id }

/-- The next epoch number (R160). -/
def nextNumber (s : State) : Nat × State := (s.epochNumber + 1, { s with epochNumber := s.epochNumber + 1 })

/-- An epoch takes a number; EPOCH_RESULT_NUM shows it where no later submission has been decided (R160). -/
def takeNumber (id n : Nat) (s : State) : State :=
  let s1 := modEpoch id (fun e => { e with num := some n }) s
  if s1.resultOf == some id && getBit s1 Reg.EPOCH_RESULT 1 then
    setB Reg.EPOCH_RESULT 4 true (setReg64 Reg.EPOCH_RESULT_NUM_LO n s1)
  else s1

/-- An epoch's instant is fixed: T_prev follows, the notice is short where its lead has begun, and EPOCH_RESULT_T shows it
(R156 to R158, R184). -/
def fixInstant (id t : Nat) (s : State) : State :=
  let short := fun (e : Epoch) => decide (t < ptpNow s + 100 * e.lead)
  let moved := s.epochs.map fun e => if e.id == id then { e with t := t, fixed := true, noticeShort := short e } else e
  let mine := moved.filter fun e => e.id == id
  let s1 := { s with epochs := mine.foldl (fun l e => insertEpoch e l) (moved.filter fun e => e.id != id), epochPrev := some t }
  if s1.resultOf == some id then setB Reg.EPOCH_RESULT 3 true (setReg64 Reg.EPOCH_RESULT_T_LO t s1) else s1

/-! ### The schedule's grid (R175, R178) -/

/-- DWELL of entry `j` of a bank, in ns. -/
def bankDwell (s : State) (b j : Nat) : Nat := 100 * fld (bankEntry s b j) 13 19

/-- The dwells of a bank. -/
def bankDwells (s : State) (b : Nat) : List Nat := (List.range (bankLen s b)).map fun j => bankDwell s b j

/-- C of a bank. -/
def bankCycle (s : State) (b : Nat) : Nat := (bankDwells s b).sum

/-- D_j of a bank. -/
def bankOffset (s : State) (b j : Nat) : Nat := ((bankDwells s b).take j).sum

/-- The first slot of a bank at or after an offset into its cycle; none past the last. -/
def bankSlotFrom (s : State) (b o : Nat) : Option Nat := (List.range (bankLen s b)).find? fun j => o ≤ bankOffset s b j

/-- The first slot instant of a grid at or after `t`, not before its base: cycle start, index and instant. -/
def firstSlot (s : State) (b base t : Nat) : Nat × Nat × Nat :=
  let c := bankCycle s b
  let x := t - base
  let start := base + (if c = 0 then 0 else x / c * c)
  match bankSlotFrom s b (t - start) with
  | some j => (start, j, start + bankOffset s b j)
  | none => (start + c, 0, start + c)

/-- The bank that slots are now generated from. -/
def frontBank (s : State) (c : Schedule) : Nat := if c.switchAt.isSome then 1 - activeBankOf s else activeBankOf s

/-- Whether an instant lies on a bank's grid, of which `base` is a cycle's start. -/
def onGrid (s : State) (b base t : Nat) : Bool :=
  let c := bankCycle s b
  c != 0 && (List.range (bankLen s b)).any fun j => ((t : Int) - base) % c == (bankOffset s b j : Int)

/-- The start of the cycle of a grid that holds an instant, `base` being the start of one of its cycles. -/
def cycleStart (s : State) (b base t : Nat) : Nat := (t - ((t : Int) - base) % (bankCycle s b : Nat) : Int).toNat

/-- The boundary at which a pending bank would take over: the end of the cycle being generated (R178). -/
def nextBoundary (s : State) (c : Schedule) : Nat := if c.next = 0 then c.at_ else c.base + bankCycle s (frontBank s c)

/-- The boundary from which the grid is the other bank's: the instant at which it takes over, or will (R178). -/
def changeOver (s : State) (c : Schedule) : Option Nat :=
  match c.switchAt with
  | some e => some e
  | none => if bankPending s then some (nextBoundary s c) else none

/-- A start of a cycle of the active bank's grid. -/
def Schedule.anchor (c : Schedule) : Nat := c.switchAt.getD c.base

/-- Whether an instant is a slot instant of the running schedule whose epoch has not committed, generated, dropped or yet to come
(R156, R157). -/
def slotInstant (s : State) (t : Nat) : Bool :=
  match s.schedule with
  | none => false
  | some c =>
    let b := activeBankOf s
    let grid := match (changeOver s c).filter fun p => p ≤ t with
      | some p => onGrid s (1 - b) p t
      | none => onGrid s b c.anchor t
    !(s.epochs.any fun e => e.t == t && e.phase != .queued) && c.first ≤ t && (c.stopAt.all fun e => decide (t < e)) && grid

/-- The first slot instant at or after `t` whose epoch has not committed, searched over three cycles of each bank (R157). -/
def freeSlotFrom (s : State) (t : Nat) : Option Nat :=
  match s.schedule with
  | none => none
  | some c =>
    let slots := fun (b base from_ : Nat) =>
      ((List.range 3).map fun n => (List.range (bankLen s b)).map fun j => cycleStart s b base from_ + n * bankCycle s b + bankOffset s b j).flatten
    let b := activeBankOf s
    let next := match changeOver s c with | some p => slots (1 - b) p (max p t) | none => []
    (slots b c.anchor (max c.first t) ++ next).foldl (fun best x =>
      if t ≤ x && slotInstant s x then (match best with | none => some x | some y => some (min x y)) else best) none

/-- Counts the cycles that have completed (R184). -/
def foldCycles (s : State) : State :=
  match s.schedule with
  | none => s
  | some c =>
    let now := ptpNow s
    let done := (c.ends.filter fun e => e ≤ now).length
    setReg64 Reg.SCHED_CYCLE_LO (reg64 s Reg.SCHED_CYCLE_LO + done)
      { s with schedule := some { c with ends := c.ends.filter fun e => now < e } }

/-! ### Reports and drops (R173, R180, R183, R185) -/

/-- The flags of a report, VERDICT_FAIL and ROLE_FAIL apart (R183). -/
def reportFlags (e : Epoch) : Nat :=
  b2n e.late + 2 * b2n e.noticeShort + 4 * b2n e.scheduled + 8 * b2n e.isInline + 16 * b2n e.routed

/-- The report of an epoch with a status; paths are added for an applied one. -/
def reportOf (e : Epoch) (status : Nat) : Report :=
  let r := e.result.filter fun r => r.reason != 0
  { num := e.num.getD 0, status := status, flags := reportFlags e, instant := ((e.t : Int) - e.shift).toNat, tag := e.tag, preset := e.preset, vplan := e.vplan
    judged := 0, failing := 0, failed := 0
    unroutable := match r with | some x => if x.input = 0x7FF then 0xFFFF else x.input | none => 0xFFFF
    reason := match r with | some x => x.reason | none => 0
    committed := 0, lead := false }

/-- A slot of the schedule is dropped while it runs (R180). -/
def schedSkip (s : State) : State := setInt epochPage 5 (addF Reg.SCHED_SKIPPED 0 32 1 s)

/-- The schedule ends once RUNNING's last slot has executed or been dropped (R181). A cycle whose end instant has not come then is not
counted in SCHED_CYCLE, which is the model's choice (R184, assumption 74). -/
def schedEnd (s : State) : State :=
  setB Reg.SCHED_CTRL 9 false (setB Reg.SCHED_CTRL 8 false { foldCycles s with schedule := none })

/-- Whether STOP_AT_CYCLE_END has come to its end (R181). -/
def schedCheck (s : State) : State :=
  match s.schedule with
  | none => s
  | some c =>
    match c.stopAt with
    | some e => if e ≤ c.at_ && !(s.epochs.any fun x => x.scheduled && !x.applied) then schedEnd s else s
    | none => s

/-- The fault bit of a status (R185). -/
def dropFault (status : Nat) : Option Nat := if status = 1 then some 1 else if status = 2 then some 0 else if status = 3 then some 2 else none

/-- An epoch is dropped without being applied (R173, R160, R180, R183, R185, R520). -/
def dropEpoch (status id : Nat) (s : State) : State :=
  match s.epochs.find? fun e => e.id == id with
  | none => s
  | some e =>
    let s1 := if e.num.isSome then s else takeNumber id (nextNumber s).1 (nextNumber s).2
    let e1 := (s1.epochs.find? fun x => x.id == id).getD e
    let s2 := removeEpoch id s1
    let s3 := { s2 with reports := s2.reports ++ [{ reportOf e1 status with lead := isLeader s2 }] }
    let s4 := publish 6 0 (setInt epochPage 2 s3)
    let s5 := match dropFault status with | some b => setFault epochPage b s4 | none => s4
    let s6 := if e.scheduled && schedRunning s5 then schedSkip s5 else s5
    schedCheck (startJob s6)

/-- Drops every epoch that passes a test and has not committed. -/
def dropAll (status : Nat) (f : Epoch → Bool) (s : State) : State :=
  forEach ((s.epochs.filter fun e => e.phase == .queued && f e).map Epoch.id) (dropEpoch status) s

/-- STOP of the schedule: its slots not yet committed are dropped with a status (R174, R181, R472). -/
def stopSchedule (status : Nat) (s : State) : State :=
  if schedRunning s then schedEnd (dropAll status Epoch.scheduled s) else s

/-- The queue and the schedule are flushed with a status (R140, R174, R186, R472). -/
def flushEpochs (status : Nat) (s : State) : State :=
  let s1 := stopSchedule status (dropAll status Epoch.queued s)
  dropAll status (fun e => e.follower) s1

/-- The queue and the schedule vanish without reports (R129, R450, R565). -/
def discardEpochs (s : State) : State :=
  showQueue (showRoute (setB Reg.SCHED_CTRL 9 false (setB Reg.SCHED_CTRL 8 false
    { s with epochs := s.epochs.filter fun e => e.applied, schedule := none, submission := none, reports := [] })))

/-! ### Acceptance (R151 to R160) -/

/-- Word `k` of a descriptor. -/
def descWord (d : List Word) (k : Nat) : Word := (d[k]?).getD 0

/-- The inline list of a descriptor, N entries (R152). -/
def inlineEntries (s : State) (d : List Word) : List Nat :=
  (List.range (2 ^ netK s)).map fun p => readMem s (sramAt (fld (descWord d 4) 0 24 + 2 * p)) 2

/-- T of a descriptor. -/
def descT (d : List Word) : Nat := join64 (descWord d 0) (descWord d 1)

/-- INLINE. -/
def descInline (d : List Word) : Bool := bitOf (descWord d 2) 8

/-- Whether a descriptor makes a routed epoch (R154). -/
def descRouted (s : State) (d : List Word) : Bool := descInline d || bitOf (descWord d 2) 10 || anyMarked s

/-- An epoch whose A lies past T − P is late (R155). -/
def descLate (s : State) (x : Submission) : Bool := descT x.desc < x.accepted + prepTime s (descRouted s x.desc)

/-- Whether NOTICE leads and banks have their ranges (R156, R177). -/
def leadOk (n : Nat) : Bool := 50 ≤ n && n ≤ 5000

/-- The first check of R156 that a submission fails; 0 when it is accepted. -/
def checkSubmission (s : State) (x : Submission) : Nat :=
  let d := x.desc
  let n := 2 ^ netK s
  let ofs := fld (descWord d 4) 0 24
  let late := descLate s x
  let queue := epochQueue s
  if !getBit s (Reg.STATUS epochPage) 0 || parkForced s || getBit s Reg.GLB_PRIME_STATUS 7 || getBit s Reg.GLB_PRIME_STATUS 8 ||
      s.warmRequested || netK s = 0 then 0x09
  else if !isLeader s || s.handedOff then 0x0A
  else if !leadOk (fld (descWord d 3) 0 13) || (descInline d && (ofs % 64 != 0 || 0x1000000 < ofs + 2 * n)) then 0x06
  else if fld (descWord d 0) 0 2 != 0 then 0x05
  else if !presetValid s (fld (descWord d 2) 0 6) then 0x07
  else if descInline d && (permFault n 0 [] (inlineEntries s d)).isSome then 0x08
  else if 16 ≤ queue.length then 0x01
  else if late && !bitOf (descWord d 2) 9 then 0x02
  else if queue.any (fun e => descT d < e.t) || (late && !queue.isEmpty) then 0x04
  else if !late && !schedRunning s && (s.epochPrev.any fun p => descT d < p + 10000) then 0x03
  else if !late && schedRunning s && !slotInstant s (descT d) then 0x0B
  else 0

/-- The moment at which an epoch whose routing is done, or that needs none, is ready; on a ring member 6 µs later (R157). -/
def readyMoment (s : State) (t : Nat) : Nat := t + (if standAlone s then 0 else 6000)

/-- The epoch that a descriptor accepted at `a` makes. -/
def newEpoch (s : State) (d : List Word) (late : Bool) (a : Nat) : Epoch :=
  let w2 := descWord d 2
  let routed := descRouted s d
  { id := s.epochSerial, num := none, t := descT d, fixed := false, desc := d, preset := fld w2 0 6, isInline := descInline d
    vplan := fld w2 24 5, lead := fld (descWord d 3) 0 13, skew := if bitOf w2 11 then fld w2 12 6 else getF s Reg.EPOCH_CFG 0 6
    tag := fld (descWord d 3) 16 16, late := late, noticeShort := false, noticeSent := false, scheduled := false, override := false
    perm := if !routed then [] else if descInline d then wholePerm (inlineEntries s d) else presetPerm s (fld w2 0 6)
    routed := routed, job := if routed then .waiting else .none, result := none, staged := none, levels := none
    readyAt := if routed then none else some (readyMoment s a), phase := .queued, started := []
    applied := false, prepared := false, acks := [], voted := false, follower := false, configDigest := [], payloadDigest := [], leaderSerial := 0, committedBy := [], shift := 0 }

/-- Adds an epoch record. -/
def addEpoch (e : Epoch) (s : State) : State :=
  showQueue { s with epochs := insertEpoch e s.epochs, epochSerial := s.epochSerial + 1 }

/-- An override takes the place of the slot at its instant, and that slot's number where it has been generated (R160, R179). Its notices
and report carry the SCHEDULED flag, which is the model's choice (R182, assumption 74). -/
def placeOverride (id t : Nat) (s : State) : State :=
  let old := s.epochs.find? fun e => e.t == t && e.id != id && e.scheduled && e.phase == .queued
  let s1 := showQueue (modEpoch id (fun e => { e with scheduled := true, override := true }) s)
  match old with
  | none =>
    let dropped := match s.schedule with | some c => decide (t < c.at_) | none => false
    if dropped then takeNumber id (nextNumber s1).1 (nextNumber s1).2 else s1
  | some e =>
    let s2 := startJob (removeEpoch e.id s1)
    match e.num with
    | some n => takeNumber id n s2
    | none => s2

/-- The instant T′ of a late epoch is fixed once it is ready, in the schedule or outside it; `r` is its A, or the end of its
routing (R157). Where a stopping schedule has no slot left, it is placed as outside a schedule, which is the model's choice
(assumption 74). -/
def fixLate (id r : Nat) (s : State) : State :=
  let ready := readyMoment s r + 2000
  match (if schedRunning s then freeSlotFrom s ready else none) with
  | some t => placeOverride id t (fixInstant id t s)
  | none =>
    let t := max ready ((s.epochPrev.map fun p => p + 10000).getD 0)
    let s1 := fixInstant id ((t + 3) / 4 * 4) s
    if (s1.epochs.any fun e => e.id == id && e.num.isNone) then takeNumber id (nextNumber s1).1 (nextNumber s1).2 else s1

/-- An accepted descriptor joins the queue (R157, R159, R160, R168). -/
def acceptEpoch (x : Submission) (s : State) : State :=
  let late := descLate s x
  let e := newEpoch s x.desc late x.accepted
  let s1 := { addEpoch e s with resultOf := some e.id }
  let s2 := setReg64 Reg.EPOCH_RESULT_T_LO e.t (setReg Reg.EPOCH_RESULT
    (word (2 + 4 * b2n late + 2 ^ 16 * e.tag)) s1)
  let s3 := if schedRunning s2 then s2 else takeNumber e.id (nextNumber s2).1 (nextNumber s2).2
  let s4 := if e.routed then newRoutedEpoch s3 else s3
  if !late then
    let s5 := fixInstant e.id e.t s4
    if schedRunning s5 then placeOverride e.id e.t s5 else s5
  else if !e.routed then fixLate e.id x.accepted s4
  else s4

/-- The rejection of a descriptor shows; T_FIXED and NUM_FIXED still speak of the last accepted epoch (R184). -/
def rejectEpoch (code : Nat) (d : List Word) (s : State) : State :=
  let tag := fld (descWord d 3) 16 16
  let s1 := setReg Reg.EPOCH_RESULT (word (2 ^ 3 * getF s Reg.EPOCH_RESULT 3 2 + 2 ^ 8 * code + 2 ^ 16 * tag)) s
  let s2 := bumpF Reg.EPOCH_QUEUE_STATUS 16 16 s1
  if code = 0x08 then
    match permFault (2 ^ netK s) 0 [] (inlineEntries s d) with
    | some b => setReg Reg.EPOCH_BAD_PERM (word (b.1 + 2 ^ 12 * b.2 + 2 ^ 16 * tag)) s2
    | none => s2
  else s2

/-- EPOCH_SUBMIT (R155). -/
def execEpochSubmit (req : Requester) (s : State) : Out :=
  .next (hostWrite req Reg.EPOCH_SUBMIT (fun t =>
    if t.submission.isSome then setInt epochPage 3 t
    else
      let d := (List.range 8).map fun k => reg t (Reg.EPOCH_DESC k)
      setB Reg.EPOCH_RESULT 0 true { t with submission := some { desc := d, accepted := ptpNow t } }) s)

/-- The checks of R156 end (R155 to R160, R184, R185). -/
def execEpochChecksComplete (s : State) : Out :=
  .next (match s.submission with
    | none => s
    | some x =>
      let s1 := { s with submission := none }
      let code := checkSubmission s1 x
      setInt epochPage 0 (if code = 0 then acceptEpoch x s1 else rejectEpoch code x.desc s1))

/-- EPOCH_QUEUE_FLUSH (R184). -/
def execEpochQueueFlush (req : Requester) (s : State) : Out :=
  .next (hostWrite req Reg.EPOCH_QUEUE_FLUSH (dropAll 4 Epoch.queued) s)

/-! ### Routing jobs and staging (R157, R166 to R168, R172, R180) -/

/-- What the leader sends each member of a routed epoch: its number, its column states and path entries, and the permutation
(R368, R438). -/
def payloadContent (s : State) (pos : Nat) (e : Epoch) (r : RouteResult) : List Nat :=
  [e.id, e.perm.length] ++ e.perm ++ ((memberCells s pos r).map fun c => [c.slot, b2n c.cross, c.path.toNat]).flatten

/-- The bytes of a preset's slot levels, as staging takes them (R172). -/
def stagedLevels (s : State) (n : Nat) : List Host.Cell := SMap.slice s.mem (presetAt n 0x1400) 0x1400

/-- The slot level that an epoch brings: the staged one, or its preset's before staging (R172). -/
def epochLevel (s : State) (e : Epoch) (x : Nat) : Nat :=
  match e.levels with
  | some m => ofBytes ((List.range 2).map fun i => SMap.get memDefault m (presetAt e.preset (0x1400 + 2 * x) + i))
  | none => presetLevel s e.preset x

/-- A routed epoch's routing has ended with a result. -/
def epochRouted (e : Epoch) (r : RouteResult) (s : State) : State :=
  if r.reason != 0 then dropEpoch 3 e.id (recordRouteFail r.input 0 r.reason r.slot r.pos s)
  else if e.scheduled && !e.override && !presetValid s e.preset then dropEpoch 6 e.id s
  else
    let s1 := modEpoch e.id (fun x => { x with
      job := .done, staged := some (memberCells s (ringPos s) r), levels := some (stagedLevels s e.preset), readyAt := some (readyMoment s (ptpNow s)) }) s
    let others := (List.range (ringSize s1)).filter fun q => q != ringPos s1
    let s2 := forEach others (fun q t => ringSend 0x40 (2 ^ q) (payloadContent t q e r) t) s1
    if e.late && !e.fixed then fixLate e.id (ptpNow s2) s2 else s2

/-- The running job ends, and the next one starts (R166 to R168). -/
def execRouteJobComplete (s : State) : Out :=
  .next (match s.epochs.find? fun e => e.job == .running with
    | some e =>
      let s1 := showDuration s
      match e.result with
      | some r => startJob (epochRouted e r (modEpoch e.id (fun x => { x with job := .done }) s1))
      | none => s
    | none =>
      match s.preparation with
      | some p =>
        if p.job == .running then
          let s1 := showDuration { s with preparation := some { p with job := .done } }
          match p.result with
          | some r => startJob (if r.reason = 0 then s1 else recordRouteFail r.input 0 r.reason r.slot r.pos s1)
          | none => startJob s1
        else s
      | none => s)

/-- At T − 10 µs the next epoch that uses stored column states is brought into staging (R172, R180). -/
def execEpochStaging (s : State) : Out :=
  .next (match s.epochs.find? fun e => !e.routed && e.staged.isNone && e.fixed && e.phase == .queued with
    | none => s
    | some e =>
      let s1 := advanceTo (e.t - 10000) s
      if presetValid s1 e.preset then modEpoch e.id (fun x => { x with staged := some (presetCells s1 e.preset), levels := some (stagedLevels s1 e.preset) }) s1
      else if e.follower then s1
      else dropEpoch 6 e.id s1)

/-! ### Changing channels (R172, R193, R210, R622) -/

/-- The PARK reaction is at work (R210). -/
def parkActive (s : State) : Bool := s.flt.windows.any fun w => w.reaction == .park && !w.completed

/-- The state that an epoch gives a slot: cross, and the attenuation of an ATTEN slot; none where it gives none
(R172, R210, R622). -/
def epochTarget (s : State) (e : Epoch) (cells : List StagedCell) (slot : Nat) : Option (Bool × Nat) :=
  let ch := channel s slot
  let parked := ch.state == .parked || ch.forced
  if role s slot = roleSwitch then
    match cells.find? fun c => c.slot == slot with
    | some c =>
      let pin := actF s (Reg.SLOT_CFG slot) 4 2
      some (if pin = 1 then false else if pin = 2 then true else c.cross, 0)
    | none => if parked then some (false, 0) else none
  else if role s slot = roleAtten then
    let l := epochLevel s e slot
    if l / 2 ^ 15 % 2 = 1 then
      if parked then some (false, inputAtten s (actF s (Reg.SLOT_CFG slot) 16 10)) else none
    else some (false, l % 4096)
  else none

/-- Whether a target differs from what is in service (R172, R210). -/
def targetDiffers (s : State) (slot : Nat) (t : Bool × Nat) : Bool :=
  let ch := channel s slot
  ch.state == .parked || ch.forced || (if role s slot = roleSwitch then t.1 != ch.cross else serviceLevel s slot false t.2 != ch.target)

/-- Whether a slot's channel is a changing channel of an epoch; a held column keeps its codes, and parked outputs stay while park is
forced (R130, R136, R139, R172, R210, R215). -/
def isChanging (s : State) (e : Epoch) (cells : List StagedCell) (slot : Nat) : Bool :=
  driven s slot && !underEoCal s slot && !channelHeld s slot && !parkForced s && !((channel s slot).forced && parkActive s) &&
    ((epochTarget s e cells slot).any fun t => targetDiffers s slot t)

/-- A channel that a stream leaves in fast mode is READY at TO: CLIPPED and BAD_LINK clear (R215, R234). -/
def streamReady (slot : Nat) (s : State) : State :=
  wakeReady slot s.time.uptime (setChannel slot { channel s slot with heldFast := false, out := (channel s slot).lvlTo } s)

/-- A changing channel meets T − 2 µs; WAKE and READY output TO (R193, R207, R210, R215). -/
def wakeForEpoch (slot : Nat) (s : State) : State :=
  let ch := channel s slot
  let s1 := setChannel slot { ch with changing := true } s
  match ch.state with
  | .hold | .parked => beginWake slot s.time.uptime s1
  | .linger => if ch.exiting then beginWake slot s.time.uptime s1 else s1
  | .wake | .ready | .play => s1
  | .stream => streamReady slot (abandonStream slot true s1)
  | .held =>
    let s2 := abandonStream slot true s1
    if ch.heldFast then streamReady slot s2 else beginWake slot s.time.uptime s2

/-- A committed epoch enters fast mode and its verdict begins (R172, R193, R367). -/
def enterFast (e : Epoch) (s : State) : State :=
  let cells := epochCells s e
  let s1 := forEach ((allSlots s).filter fun x => isChanging s e cells x) wakeForEpoch s
  beginVerdict e (modEpoch e.id (fun x => { x with phase := .fast }) s1)

/-- An epoch commits: it leaves the queue, and its number and instant show (R159, R184, R441). An override leaves the queue here too, and
not when its slot executes, which is the model's choice (R159, assumption 74). -/
def commitEpoch (e : Epoch) (s : State) : State :=
  let s1 := showQueue (modEpoch e.id (fun x => { x with phase := .committed }) s)
  setReg64 Reg.EPOCH_LAST_T_LO e.t (setReg64 Reg.EPOCH_LAST_NUM_LO (e.num.getD 0) s1)

/-- Whether the unit commits no epoch and rejects every new one: park is forced, CAL_MISSING stands, a warm reset is requested, or the
device is shut down (R128, R139, R140, R145, R147, R565). -/
def epochsBarred (s : State) : Bool :=
  parkForced s || getBit s Reg.GLB_PRIME_STATUS 7 || s.warmRequested || stage s == 0xF

/-- T − 2 µs of the next epoch: it is dropped, or it is committed and enters fast mode; a late one whose routing was abandoned is
dropped too (R128, R172, R173, R441, R635). -/
def execEpochCommitDeadline (s : State) : Out :=
  .next (match s.epochs.find? fun e => (e.fixed || e.job == .lost) && e.phase != .fast with
    | none => s
    | some e =>
      let s1 := advanceTo (e.t - 2000) s
      if e.phase == .committed then enterFast e s1
      else if e.staged.isNone && !e.follower then dropEpoch 2 e.id s1
      else if !standAlone s1 || epochsBarred s1 then dropEpoch 1 e.id s1
      else
        let n := e.num.getD (s1.epochNumber + 1)
        let s2 := if e.num.isSome then s1 else takeNumber e.id n (nextNumber s1).2
        let e2 := (s2.epochs.find? fun x => x.id == e.id).getD e
        enterFast { e2 with phase := .committed } (commitEpoch e2 s2))

/-! ### The instant and the transitions (R172, R174, R209, R210, R263, R622) -/

/-- The slots of an epoch's cells on this member that fail under R37 or R174, and the ports of the paths that the report counts. A slot
whose role is then ATTEN fails as one that is SPARE or UNUSED does, which is the model's choice (assumption 74). -/
def failedCells (s : State) (cells : List StagedCell) : List Nat × Nat :=
  let both := fun (c : StagedCell) => Nat.lor (2 ^ fld c.path 0 10) (2 ^ fld c.path 16 10)
  let bad := cells.filter fun c => role s c.slot != roleSwitch || underEoCal s c.slot
  (bad.map StagedCell.slot, bad.foldl (fun m c => Nat.lor m (both c)) 0)

/-- The cells of other members that an epoch sets, as its leader knows them: its routing's, or for stored column states what routing
the preset's port table gives (R166, R170). -/
def otherCells (s : State) (e : Epoch) : List RouteCell :=
  if standAlone s || e.follower then []
  else
    let cells := match e.result with
      | some r => r.cells
      | none =>
        let k := netK s
        let pin := fun (q i : Nat) => let x := cellPlace s q i; fld (slotConfig s x.1 x.2) 4 2
        match benesRoute k (epochPerm s e) pin (fun _ => false) with
        | .ok cs => cs.map fun (c : NetCell) => let x := cellPlace s c.stage c.cell; RouteCell.mk x.1 x.2 c.cross c.upper c.lower
        | .error _ => []
    cells.filter fun c => c.pos != ringPos s

/-- The ports of the paths through another member's slots whose role, as last reported, is no longer SWITCH (R37, R165, R183). -/
def failedElsewhere (s : State) (e : Epoch) : Nat :=
  (otherCells s e).foldl (fun m c =>
    if fld (slotConfig s c.pos c.slot) 0 2 = roleSwitch then m else Nat.lor m (Nat.lor (2 ^ (c.upper % 1024)) (2 ^ (c.lower % 1024)))) 0

/-- The ports of cells whose pin differs from the staged state (R622). -/
def pinnedPorts (s : State) (cells : List StagedCell) : Nat :=
  cells.foldl (fun m c =>
    let pin := actF s (Reg.SLOT_CFG c.slot) 4 2
    if role s c.slot = roleSwitch && ((pin = 1 && c.cross) || (pin = 2 && !c.cross)) then
      Nat.lor m (Nat.lor (2 ^ fld c.path 0 10) (2 ^ fld c.path 16 10)) else m) 0

/-- The input attenuations in service and the connections that an epoch brings (R362, R368). -/
def takeConnections (e : Epoch) (s : State) : State :=
  let perm := epochPerm s e
  let s1 := forEach (List.range 1024) (fun p t =>
    let a := presetAtten s e.preset p
    if a / 2 ^ 15 % 2 = 1 then t else { t with portAtten := SMap.set (fun _ => 0) t.portAtten p (a % 4096) }) s
  forEach ((List.range perm.length).zip perm) (fun x t =>
    { t with connected := SMap.set (fun _ => none) t.connected x.2 (some x.1) }) s1

/-- The epoch applies: what the device does at T once the armed commits have captured (R37, R172, R174, R183, R227, R520). -/
def applyEpoch (e : Epoch) (s : State) : State :=
  let cells := epochCells s e
  let bad := failedCells s cells
  let elsewhere := failedElsewhere s e
  let roleFail := elsewhere != 0 || cells.any fun c => role s c.slot != roleSwitch
  let failed := Nat.lor (Nat.lor bad.2 elsewhere) (pinnedPorts s cells)
  let still := fun (x : Nat) (t : State) =>
    let ch := channel t x
    if ch.changing && !isChanging t e cells x then setChannel x { ch with changing := false } t else t
  let s1 := forEach (allSlots s) still s
  let r := { reportOf e 0 with flags := reportFlags e + 64 * b2n roleFail, failed := failed, committed := Nat.lor (2 ^ ringPos s) (posMask e.committedBy.eraseDups), lead := isLeader s && !e.follower }
  let s2 := { s1 with
    epochs := (s1.epochs.filter fun x => !x.applied).map fun x => if x.id == e.id then { x with applied := true, staged := some cells } else x
    reports := s1.reports ++ [r]
    lastApplied := some (e.num.getD 0, e.t) }
  let s3 := dropFailedItems bad.1 (Nat.lor bad.2 elsewhere) (takeConnections e s2)
  schedCheck (foldCycles (publish 4 0 (abandonPilot s3)))

/-- The segment that a changing channel takes (R209). -/
def epochSegment (s : State) (slot : Nat) (cross : Bool) : Nat :=
  if role s slot = roleAtten then actF s (Reg.EO_SEG_B slot) 0 10
  else if cross then actF s (Reg.EO_SEG_A slot) 0 10 else actF s (Reg.EO_SEG_A slot) 16 10

/-- A changing channel starts its transition, or steps to TO; plays that end at this instant, and those that the column's other
transitions abandon, no longer count (R198, R206, R209, R215). -/
def startTransition (start slot : Nat) (t : Bool × Nat) (s : State) : State :=
  let s0 := dropPending slot s
  let ch := channel s0 slot
  let s1 := if ch.state == .play then chainCut slot s0 else s0
  let target := serviceLevel s1 slot t.1 t.2
  let c := { channel s1 slot with
    lvlFrom := ch.target, lvlTo := target, target := target, cross := t.1, atten := t.2, changing := false, forced := false, due := false
    out := levelBefore s0 slot start }
  let canPlay := ch.state == .ready || ch.state == .play || (ch.state == .linger && !ch.exiting)
  let seg := epochSegment s1 slot t.1
  let stepped := { c with
    out := target, since := start, state := if canPlay then .linger else if ch.state == .parked then .hold else ch.state }
  if canPlay && segValid s1 seg then
    let s2 := setChannel slot { c with state := .ready } s1
    if roomFor s2 (groupsBut s2 (slot / 256) fun n => (channel s2 n).changing || leavesBy s2 start n) seg start then beginPlay slot seg start s2
    else groupOverflow slot (setChannel slot stepped s2)
  else setInt (slotCol slot) 3 (bumpF (Reg.EO_COL_COUNT_B (slot / 256)) 0 16 (setChannel slot stepped s1))

/-- What a column's start instant brings one slot (R209, R263, R622). -/
def transitionSlot (e : Epoch) (cells : List StagedCell) (start slot : Nat) (s : State) : State :=
  let cell := cells.find? fun c => c.slot == slot
  let s1 := match cell with
    | some c =>
      let pin := actF s (Reg.SLOT_CFG slot) 4 2
      let clash := role s slot = roleSwitch && ((pin = 1 && c.cross) || (pin = 2 && !c.cross))
      setReg (Reg.LIVE_PATH slot) (if clash then setFld c.path 31 1 0 else c.path) s
    | none => s
  if isChanging s1 e cells slot then
    match epochTarget s1 e cells slot with
    | some t => startTransition start slot t s1
    | none => s1
  else
    let ch := { channel s1 slot with changing := false }
    if underEoCal s1 slot || !driven s1 slot then setChannel slot ch s1 else followLevel slot (setChannel slot ch s1)

/-- A column's start instant (R209). -/
def execTransitionStart (col : Fin 10) (s : State) : Out :=
  .next (
    let c := col.val
    if !(c < s.variant.columns) then s
    else
      match s.epochs.find? fun e => e.applied && !e.started.contains c with
      | none => s
      | some e =>
        let s1 := shapeStart (colStart s e c) s
        let cells := epochCells s1 e
        let s2 := modEpoch e.id (fun x => { x with started := c :: x.started }) s1
        forEach (colSlots c) (transitionSlot e cells s1.time.uptime) s2)

/-! ### The rotating schedule (R175 to R181, R636) -/

/-- A bank that START and SWITCH_BANK refuse (R177, R178). -/
def bankRefused (s : State) (b : Nat) : Bool :=
  !(epochQueue s).isEmpty || bankLen s b = 0 || (bankDwells s b).any (fun d => d < 10000) || !leadOk (getF s Reg.SCHED_LEAD 0 13)

/-- How far ahead of its instant a slot is generated (R176). -/
def slotLead (s : State) : Nat := 100 * getF s Reg.SCHED_LEAD 0 13 + routeBound s + 10000

/-- START (R177, R636). -/
def schedStart (s : State) : State :=
  let b := activeBankOf s
  if schedRunning s || bankRefused s b || throttle s 2 then setB Reg.SCHED_CTRL 10 true s
  else
    let base := reg64 s Reg.SCHED_BASE_LO / 4 * 4
    let f := firstSlot s b base (ptpNow s + slotLead s)
    setB Reg.SCHED_CTRL 8 true (setB Reg.SCHED_CTRL 10 false
      { s with schedule := some { base := f.1, next := f.2.1, at_ := f.2.2, first := f.2.2, stopAt := none, switchAt := none, ends := [] } })

/-- STOP (R181, R636). -/
def schedStop (s : State) : State := stopSchedule 4 s

/-- STOP_AT_CYCLE_END (R181, R636): the end of the active bank's cycle that holds the first slot instant at or after the write. Once the
last slot before a bank's change has begun, the cycle that it ends is the running one, which is the model's choice (assumption 74). -/
def schedStopAtEnd (s : State) : State :=
  match s.schedule with
  | none => s
  | some c =>
    if c.stopAt.isSome then s
    else
      let b := activeBankOf s
      let from_ := max c.first (ptpNow s)
      let slot := firstSlot s b (cycleStart s b c.anchor from_) from_
      let stop := (c.switchAt.toList ++ [slot.1 + bankCycle s b]).foldl min (slot.1 + bankCycle s b)
      let c1 := { c with stopAt := some stop, switchAt := none, ends := c.ends.filter fun e => e ≤ stop }
      let s1 := setB Reg.SCHED_CTRL 9 false { s with schedule := some c1 }
      schedCheck (dropAll 4 (fun e => e.scheduled && decide (stop ≤ e.t)) s1)

/-- SWITCH_BANK (R178, R636). -/
def schedSwitch (s : State) : State :=
  match s.schedule with
  | none => setB Reg.SCHED_CTRL 10 true s
  | some c =>
    if c.stopAt.isSome || bankPending s || bankRefused s (1 - activeBankOf s) then setB Reg.SCHED_CTRL 10 true s
    else
      let s1 := setB Reg.SCHED_CTRL 9 true (setB Reg.SCHED_CTRL 10 false s)
      if c.next = 0 then { s1 with schedule := some { c with switchAt := some c.at_, base := c.at_ } } else s1

/-- A whole write of SCHED_CTRL (R636). -/
def schedWrite (v : Word) (s : State) : State :=
  let s1 := if schedRunning s then s else setF Reg.SCHED_CTRL 4 1 (fld v 4 1) s
  if bitOf v 1 then schedStop s1
  else if bitOf v 2 then schedStopAtEnd s1
  else if bitOf v 0 then schedStart s1
  else if bitOf v 3 then schedSwitch s1
  else s1

/-- SCHED_CTRL.START with the bank that SCHED_CTRL holds (R177, R636). -/
def execStart (req : Requester) (s : State) : Out := .next (hostWrite req Reg.SCHED_CTRL schedStart s)

/-- SCHED_CTRL.STOP (R181, R636). -/
def execStop (req : Requester) (s : State) : Out := .next (hostWrite req Reg.SCHED_CTRL schedStop s)

/-- SCHED_CTRL.STOP_AT_CYCLE_END (R181, R636). -/
def execStopAtCycleEnd (req : Requester) (s : State) : Out := .next (hostWrite req Reg.SCHED_CTRL schedStopAtEnd s)

/-- SCHED_CTRL.SWITCH_BANK (R178, R636). -/
def execSwitchBank (req : Requester) (s : State) : Out := .next (hostWrite req Reg.SCHED_CTRL schedSwitch s)

/-- The epoch of a schedule slot (R175, R176). -/
def slotEpoch (s : State) (b j t n : Nat) : Epoch :=
  let w := bankEntry s b j
  let routed := anyMarked s
  let lead := getF s Reg.SCHED_LEAD 0 13
  let tag := 0x8000 + 64 * b + j
  { id := s.epochSerial, num := some n, t := t, fixed := true
    desc := [lo32 t, hi32 t, word (fld w 0 6 + 2 ^ 24 * fld w 8 5), word (lead + 2 ^ 16 * tag), 0, 0, 0, 0]
    preset := fld w 0 6, isInline := false, vplan := fld w 8 5, lead := lead, skew := getF s Reg.EPOCH_CFG 0 6, tag := tag
    late := false, noticeShort := false, noticeSent := false, scheduled := true, override := false
    perm := if routed then presetPerm s (fld w 0 6) else [], routed := routed, job := if routed then .waiting else .none
    result := none, staged := none, levels := none, readyAt := if routed then none else some (readyMoment s (ptpNow s))
    phase := .queued, started := [], applied := false, prepared := false, acks := [], voted := false
    follower := false, configDigest := [], payloadDigest := [], leaderSerial := 0, committedBy := [], shift := 0 }

/-- The place of generation moves on by one slot: to the next of the bank, or to the boundary, where a pending bank takes
over (R175, R178). -/
def Schedule.after (c : Schedule) (s : State) : Schedule :=
  let b := frontBank s c
  if c.next + 1 < bankLen s b then { c with next := c.next + 1, at_ := c.base + bankOffset s b (c.next + 1) }
  else
    let e := c.base + bankCycle s b
    { c with base := e, next := 0, at_ := e, ends := c.ends ++ [e]
             switchAt := if bankPending s && c.switchAt.isNone && c.stopAt.isNone then some e else c.switchAt }

/-- The unit generates and numbers the next slot ahead of its instant; an override of it takes the number (R160, R176). While the unit
rejects every new epoch the slot's is dropped at once (R140, R145, assumption 75). -/
def execSchedSlotGenerate (s : State) : Out :=
  .next (match s.schedule with
    | none => s
    | some c =>
      if (match c.stopAt with | some e => decide (e ≤ c.at_) | none => false) then s
      else
        let s1 := foldCycles (advanceTo (c.at_ - slotLead s) s)
        let b := frontBank s1 c
        let n := nextNumber s1
        let overRange := s1.epochs.find? fun e => e.override && e.t == c.at_ && e.num.isNone && e.phase == .queued
        let c1 := (s1.schedule.getD c).after s1
        let s2 := { n.2 with schedule := some c1, epochPrev := some c.at_ }
        match overRange with
        | some e => takeNumber e.id n.1 s2
        | none =>
          let e := slotEpoch s2 b c.next c.at_ n.1
          let s3 := addEpoch e s2
          if epochsBarred s3 then dropEpoch (if parkForced s3 then 5 else 1) e.id s3
          else if e.routed then newRoutedEpoch s3 else s3)

/-- The instant at which the pending bank takes over (R178): the bank, its flag and the interrupt. -/
def bankSwitched (c : Schedule) (s : State) : State :=
  setInt epochPage 4 (setB Reg.SCHED_CTRL 9 false (setF Reg.SCHED_CTRL 4 1 (1 - activeBankOf s)
    { foldCycles s with schedule := some { c with switchAt := none } }))

/-! ### Frames of epochs (R182, R183) -/

/-- The notice payload (R182). -/
def noticePayload (s : State) (e : Epoch) : List Byte :=
  toBytes 1 1 ++ toBytes 1 1 ++ toBytes 1 (b2n e.late + 2 * b2n e.noticeShort + 4 * b2n e.scheduled + 8 * b2n e.isInline) ++
    toBytes 1 (ringPos s) ++ beBytes 8 (e.num.getD 0) ++ beBytes 8 e.t ++ beBytes 2 e.tag ++ toBytes 1 e.preset ++ toBytes 1 e.vplan ++
    beBytes 2 e.lead ++ toBytes 1 e.skew ++ List.replicate 5 0

/-- How many bits of a 1,024-bit mask are set. -/
def countBits (m : Nat) : Nat := ((List.range 1024).filter fun i => m.testBit i).length

/-- The lowest set bit of a mask, 0xFFFF when none. -/
def lowestBit (m : Nat) : Nat := ((List.range 1024).find? fun i => m.testBit i).getD 0xFFFF

/-- The report payload (R183, R377). -/
def reportPayload (r : Report) : List Byte :=
  toBytes 1 2 ++ toBytes 1 1 ++ toBytes 1 r.status ++ toBytes 1 (r.flags + 32 * b2n (r.failing != 0)) ++ beBytes 8 r.num ++
    beBytes 8 r.instant ++ beBytes 2 r.tag ++ toBytes 1 r.preset ++ toBytes 1 r.vplan ++ beBytes 2 (countBits r.judged) ++
    beBytes 2 (countBits r.failing) ++ beBytes 2 (lowestBit r.failing) ++ beBytes 2 (countBits r.failed) ++ beBytes 2 r.unroutable ++
    toBytes 1 r.reason ++ toBytes 1 r.committed ++ List.replicate 28 0

/-- The member's report log record, EPOCH_LAST_STATUS, the interrupt and the event (R183 to R185, R187, R520). -/
def writeReport (r : Report) (s : State) : State :=
  let i := getF s Reg.EPOCH_LOG_WR 0 8
  let s1 := writeShared (getF s Reg.EPOCH_LOG_BASE 14 10 * 0x4000 + 64 * i) (reportPayload r) s
  let s2 := wrapF Reg.EPOCH_LOG_WR 8 24 (setF Reg.EPOCH_LOG_WR 0 8 (i + 1) s1)
  publish 5 0 (setInt epochPage 1 (setReg Reg.EPOCH_LAST_STATUS (word (r.status + 2 ^ 16 * r.tag)) s2))

end Sys2Proof.Machine
end

