-- ==== Sys2Proof/Machine/Frames.lean ====
section
/-! DEFINITION. Frames of the control ports (R474 to R478, R483 to R488): the FCS, tags and EtherTypes, and the PTP messages in
them. The FCS is that of IEEE 802.3 and the PTP layout that of IEEE 1588 (PRESUMED, assumption 21). -/

namespace Sys2Proof.Machine

open Sys2Proof

/-! ### Bytes in network order -/

/-- Byte `i` of a frame, 0 past its end. -/
def frameByte (f : List Byte) (i : Nat) : Nat := ((f[i]?).getD 0).toNat

/-- The number of `n` bytes at `i`, the first the most significant. -/
def netField (f : List Byte) (i n : Nat) : Nat := (List.range n).foldl (fun m k => m * 256 + frameByte f (i + k)) 0

/-- `n` bytes of a number, the first the most significant. -/
def netBytes (n v : Nat) : List Byte := (toBytes n v).reverse

/-- A frame with the bytes at `i` replaced. -/
def putBytes (f : List Byte) (i : Nat) (bs : List Byte) : List Byte := f.take i ++ bs ++ f.drop (i + bs.length)

/-! ### The FCS -/

/-- One bit of the reflected CRC-32. -/
def fcsStep (c : Nat) : Nat := if c % 2 = 1 then Nat.xor (c / 2) 0xEDB88320 else c / 2

/-- One byte of it. -/
def fcsByte (c : Nat) (b : Byte) : Nat :=
  fcsStep (fcsStep (fcsStep (fcsStep (fcsStep (fcsStep (fcsStep (fcsStep (Nat.xor c b.toNat))))))))

/-- The four bytes of the FCS, in the order in which they leave. -/
def fcsOf (f : List Byte) : List Byte := toBytes 4 (Nat.xor (f.foldl fcsByte 0xFFFFFFFF) 0xFFFFFFFF)

/-- A frame's bytes without its FCS. -/
def frameBody (f : List Byte) : List Byte := f.take (f.length - 4)

/-- Whether the last four bytes of a frame are its FCS (R483). -/
def fcsGood (f : List Byte) : Bool := f.drop (f.length - 4) == fcsOf (frameBody f)

/-- The frame with its FCS formed anew (R478). -/
def withFcs (body : List Byte) : List Byte := body ++ fcsOf body

/-- The frame ended with an inverted FCS (R497). -/
def invertFcs (f : List Byte) : List Byte := frameBody f ++ (fcsOf (frameBody f)).map fun b => ~~~b

/-! ### Addresses, tags and types -/

/-- The destination address. -/
def frameDest (f : List Byte) : Nat := netField f 0 6

/-- An address in two words, as MAC_SA: bytes 0 and 1 in HI, bytes 2 to 5 in LO, the first byte the most significant of its
field (R513; DEDUCED, assumption 22). -/
def macAddress (lo hi : Word) : Nat := lo.toNat + 2 ^ 32 * (hi.toNat % 2 ^ 16)

/-- Whether an 802.1Q tag follows the addresses (R483). -/
def frameTagged (f : List Byte) : Bool := netField f 12 2 = 0x8100

/-- PCP, DEI and VID of the tag. -/
def frameTci (f : List Byte) : Nat := netField f 14 2

/-- Where the EtherType after any tag stands. -/
def typeAt (f : List Byte) : Nat := if frameTagged f then 16 else 12

/-- The EtherType after any tag (R484, R488). -/
def frameType (f : List Byte) : Nat := netField f (typeAt f) 2

/-- The frame with PCP and DEI of its tag replaced; an untagged frame is unchanged (R490). -/
def remarkFrame (pcp dei : Nat) (f : List Byte) : List Byte :=
  if frameTagged f then withFcs (frameBody (putBytes f 14 (netBytes 2 (pcp * 2 ^ 13 + dei * 2 ^ 12 + frameTci f % 2 ^ 12)))) else f

/-! ### PTP messages -/

/-- Where the PTP header stands in a frame that TIME_PTP_CFG_p recognises, and where the UDP header does (R474). -/
def ptpHeader (cfg : Word) (f : List Byte) : Option (Nat × Option Nat) :=
  let t := typeAt f + 2
  let port := fun (u : Nat) => netField f (u + 2) 2 = 319 || netField f (u + 2) 2 = 320
  let found :=
    if frameType f = 0x88F7 then (if bitOf cfg 1 then some (t, none) else none)
    else if frameType f = 0x0800 then
      let u := t + 4 * (frameByte f t % 16)
      if bitOf cfg 2 && frameByte f (t + 9) = 17 && port u then some (u + 8, some u) else none
    else if frameType f = 0x86DD then
      if bitOf cfg 3 && frameByte f (t + 6) = 17 && port (t + 40) then some (t + 48, some (t + 40)) else none
    else none
  match found with
  | some (h, u) => if bitOf cfg 0 && frameByte f (h + 1) % 16 = 2 then some (h, u) else none
  | none => none

/-- The message type at a PTP header. -/
def ptpType (f : List Byte) (h : Nat) : Nat := frameByte f h % 16

/-- Whether a frame is a PTP event message (R474): Sync, Delay_Req, Pdelay_Req or Pdelay_Resp. -/
def ptpEvent (cfg : Word) (f : List Byte) : Bool :=
  match ptpHeader cfg f with
  | some (h, _) => ptpType f h ≤ 3
  | none => false

/-- twoStepFlag of a PTP message. -/
def ptpTwoStep (f : List Byte) (h : Nat) : Bool := frameByte f (h + 6) / 2 % 2 = 1

/-- Sixteen-bit addition with the carry brought round. -/
def onesAdd (a b : Nat) : Nat := let t := a + b; if 0xFFFF < t then t - 0xFFFF else t

/-- RFC 1624: the checksum after the 16-bit words at `at_` change from `old` to `new` (R478). -/
def checksumUpdate (c : Nat) (old new : List Nat) : Nat :=
  let t := (old.zip new).foldl (fun m x => onesAdd (onesAdd m (0xFFFF - x.1)) x.2) (0xFFFF - c)
  0xFFFF - t

/-- Replaces an even run of PTP bytes and fixes the UDP checksum: a zero checksum over IPv4 stays, and one that comes to zero is
sent as 0xFFFF (R478; the last PRESUMED, assumption 21). -/
def ptpReplace (udp : Option Nat) (f : List Byte) (i : Nat) (bs : List Byte) : List Byte :=
  let g := putBytes f i bs
  match udp with
  | none => g
  | some u =>
    let c := netField f (u + 6) 2
    if c = 0 && frameType f = 0x0800 then g
    else
      let ws := fun (x : List Byte) => (List.range (bs.length / 2)).map fun k => netField x (i + 2 * k) 2
      let n := checksumUpdate c (ws f) (ws g)
      putBytes g (u + 6) (netBytes 2 (if n = 0 then 0xFFFF else n))

/-- A time in 2^-16 ns in the 96-bit format of R475. -/
def timestamp (t : Nat) : Nat :=
  let ns := t / 2 ^ 16
  (ns / 1000000000 % 2 ^ 48) * 2 ^ 48 + ns % 1000000000 * 2 ^ 16 + t % 2 ^ 16

/-- A frame as it leaves at a time, with the insertions of R476 to R478. -/
def insertTime (cfg : Word) (t : Nat) (f : List Byte) : List Byte :=
  match ptpHeader cfg f with
  | none => f
  | some (h, u) =>
    let ns := t / 2 ^ 16
    let corr := netField f (h + 8) 8
    if ptpType f h = 0 && bitOf cfg 4 && !ptpTwoStep f h then
      let g := ptpReplace u f (h + 34) (netBytes 6 (ns / 1000000000) ++ netBytes 4 (ns % 1000000000))
      withFcs (frameBody (ptpReplace u g (h + 8) (netBytes 8 (corr + t % 2 ^ 16))))
    else if ptpType f h = 3 && bitOf cfg 5 && !ptpTwoStep f h then
      withFcs (frameBody (ptpReplace u f (h + 8) (netBytes 8 (corr + ns % 1000000000 * 2 ^ 16 + t % 2 ^ 16))))
    else f

/-- Whether a sent message's timestamp comes back without TS_REQ: a two-step Sync under ONESTEP_SYNC (R476). -/
def returnsTime (cfg : Word) (f : List Byte) : Bool :=
  match ptpHeader cfg f with
  | some (h, _) => ptpType f h = 0 && bitOf cfg 4 && ptpTwoStep f h
  | none => false

end Sys2Proof.Machine
end

