-- ==== Sys2Proof/Machine/Cistern.lean ====
section
/-! DEFINITION. The Cistern (R494 to R498): cells, admission, queues, and flushes. -/

namespace Sys2Proof.Machine

open Sys2Proof

/-- The CISTERN page. -/
def cisternPage : Page := ⟨.cistern, 0⟩

/-- Changes the control ports' state. -/
def modPorts (f : PortState → PortState) (s : State) : State := { s with ports := f s.ports }

/-- A queue's frames, head first. -/
def queueOf (s : State) (q : Nat) : List QFrame := SMap.get (fun _ => []) s.ports.queues q

/-- Replaces a queue's frames. -/
def setQueue (q : Nat) (l : List QFrame) (s : State) : State :=
  modPorts (fun p => { p with queues := SMap.set (fun _ => []) p.queues q l }) s

/-- The egress and ingress queue of a class on a port (R494). -/
def egressQueue (n c : Nat) : Nat := 8 * n + c
/-- The ingress queue of a class on a port (R494). -/
def ingressQueue (n c : Nat) : Nat := 32 + 8 * n + c

/-- Cells in use by a queue. -/
def queueCells (s : State) (q : Nat) : Nat := ((queueOf s q).map fun f => f.cells.length).sum

/-- RESERVE of a queue as committed (R496). -/
def queueReserve (s : State) (q : Nat) : Nat := actF s (Reg.CIS_Q_CFG q) 0 15

/-- ΣRESERVE of the active copy. -/
def reserveSum (s : State) : Nat := ((List.range 64).map fun q => queueReserve s q).sum

/-- Shared cells of a queue: those beyond RESERVE (R495). -/
def sharedCells (s : State) (q : Nat) : Nat := queueCells s q - queueReserve s q

/-- Shared cells free (R495). -/
def poolFree (s : State) : Nat := 16384 - reserveSum s - ((List.range 64).map fun q => sharedCells s q).sum

/-- Cells that a frame of `n` bytes takes (R494). -/
def cellsOf (n : Nat) : Nat := (n + 255) / 256

/-- Admission of a frame of `k` cells (R495). -/
def admits (s : State) (q k : Nat) : Bool :=
  queueCells s q + k ≤ queueReserve s q ||
    (k ≤ poolFree s && sharedCells s q + k ≤ actF s (Reg.CIS_Q_CFG q) 16 15)

/-- Every cell in use. -/
def usedCells (s : State) : List Nat := (s.ports.queues.map fun e => (e.2.map QFrame.cells).flatten).flatten

/-- Takes `k` free cells. Which are taken is open (assumption 23). -/
def takeCells : Nat → List Nat → State → List Nat × State
  | 0, got, s => (got, s)
  | k + 1, got, s =>
    let from_ := openNow s
    let used := usedCells s ++ got
    let c := (((List.range 16384).map fun i => (from_ + i) % 16384).find? fun x => !used.contains x).getD 0
    takeCells k (got ++ [c]) (draw s)

/-- The BAR0 address of a cell (R494). -/
def cellAt (c : Nat) : Nat := 0x4C00000 + 256 * c

/-- Stores a frame in its cells. -/
def storeCells : List Nat → List Byte → State → State
  | [], _, s => s
  | c :: r, bs, s => storeCells r (bs.drop 256) (writeMem (cellAt c) (bs.take 256) s)

/-- Puts an admitted frame at the end of a queue (R494, R495). -/
def enqueue (q : Nat) (o : FrameOrigin) (bytes : List Byte) (s : State) : State :=
  let t := takeCells (cellsOf bytes.length) [] s
  setQueue q (queueOf s q ++ [{ origin := o, bytes := bytes, cells := t.1 }]) (storeCells t.1 bytes t.2)

/-- A frame refused under R495 is counted (R516). -/
def refuseFrame (q : Nat) (s : State) : State := setInt cisternPage 1 (addF (Reg.CIS_Q_DROPS q) 0 32 1 s)

/-- Whether a queue's flush is pending (R498). -/
def flushPending (s : State) (q : Nat) : Bool := getBit s (Reg.CIS_FLUSH_PEND_LO + 4 * (q / 32)) (q % 32)

/-- A queue's flush is pending from now on (R498). -/
def flushAsk (q : Nat) (s : State) : State := setB (Reg.CIS_FLUSH_PEND_LO + 4 * (q / 32)) (q % 32) true s

/-- SECDED on reading a frame (R497): the counters, the last bad cell and the fault. -/
def eccScan (e : EccScan) (s : State) : State :=
  let s1 := addF Reg.CIS_ECC_CORR 0 32 e.corrected s
  match e.bad.getLast? with
  | none => s1
  | some c => setFault cisternPage 0 (setF Reg.CIS_ECC_ADDR 0 14 c (addF Reg.CIS_ECC_UNCORR 0 16 e.bad.length s1))

/-! ### Descriptors of transmit rings (R508, R509) -/

/-- Descriptors that a ring holds. -/
def dmaRingSize (s : State) (n r : Nat) : Nat := 2 ^ getF s (Reg.DMA_RING_CFG n r) 8 4

/-- The address of a descriptor of a ring (R508). -/
def descriptorAt (s : State) (n r i : Nat) : Nat := reg64 s (Reg.RING_BASE_LO n r) / 64 * 64 + 32 * i

/-- HEAD moves on by one, and the completed descriptor is counted (R508, R513). -/
def headMoves (n r : Nat) (s : State) : State :=
  setF (Reg.DMA_RING_HEAD n r) 0 12 ((getF s (Reg.DMA_RING_HEAD n r) 0 12 + 1) % dmaRingSize s n r) s

/-- Descriptors fetched and not yet passed by HEAD. -/
def fetchedOf (s : State) (n r : Nat) : List (Nat × Bool) := SMap.get (fun _ => []) s.ports.fetched (16 * n + r)

/-- HEAD passes every descriptor at the front that is written back. -/
def passDone : List (Nat × Bool) → Nat → Nat → State → List (Nat × Bool) × State
  | (_, true) :: r, n, c, s => passDone r n c (headMoves n c s)
  | l, _, _, s => (l, s)

/-- Writes a transmit descriptor back with an outcome and a timestamp (R509). -/
def txReturn (n c i outcome : Nat) (ts : Option Nat) (s : State) : State :=
  let flags := 1 + 2 * outcome + 16 * b2n ts.isSome
  let s1 := emit (.hostMemory (descriptorAt s n c i + 16) (toBytes 12 (ts.getD 0) ++ toBytes 4 flags)) s
  let s2 := wrapF (Reg.DMA_RING_COUNT n c) 0 32 s1
  let marked := (fetchedOf s2 n c).map fun e => if e.1 = i then (i, true) else e
  let p := passDone marked n c s2
  setInt ⟨.mac, n⟩ 0 (modPorts (fun q => { q with fetched := SMap.set (fun _ => []) q.fetched (16 * n + c) p.1 }) p.2)

/-- A frame that is discarded returns its descriptor (R509). -/
def discardFrame (n outcome : Nat) (f : QFrame) (s : State) : State :=
  match f.origin with
  | .ring c i _ => txReturn n c i outcome none s
  | _ => s

/-- A queue is flushed at its packet boundary: every frame but one that is leaving goes (R498). -/
def flushNow (q : Nat) (s : State) : State :=
  let n := q / 8
  let busy := match SMap.get (fun _ => none) s.ports.leaving n with
    | some (c, _) => q < 32 && c == q % 8
    | none => false
  let l := queueOf s q
  let gone := if busy then l.drop 1 else l
  let s1 := setQueue q (if busy then l.take 1 else []) s
  let s2 := setB (Reg.CIS_FLUSH_PEND_LO + 4 * (q / 32)) (q % 32) false (forEach gone (discardFrame n 3) s1)
  setInt cisternPage 0 s2

/-- CIS_FLUSH (R498). -/
def execCisFlush (req : Requester) (queue : Fin 64) (s : State) : Out := .next (hostWrite req Reg.CIS_FLUSH (flushAsk queue) s)

/-- CIS_COUNT_CLR: the counters of the page (R516). -/
def execCisCountClr (req : Requester) (s : State) : Out :=
  .next (hostWrite req Reg.CIS_COUNT_CLR (fun t =>
    let t1 := setReg Reg.CIS_HOST_WRITES 0 (setReg Reg.CIS_ECC_UNCORR 0 (setReg Reg.CIS_ECC_CORR 0 t))
    { t1 with regs := SMap.dropRange t1.regs (Reg.CIS_Q_DROPS 0) 256 }) s)

end Sys2Proof.Machine
end

