-- ==== Sys2Proof/Machine/Gates.lean ====
section
/-! DEFINITION. Time gates and shapers (R499 to R506), and the choice of the next frame of a port. -/

namespace Sys2Proof.Machine

open Sys2Proof

/-- MAC_n. -/
def macPage (n : Nat) : Page := ⟨.mac, n⟩
/-- GATE_n. -/
def gatePage (n : Nat) : Page := ⟨.gate, n⟩

/-! ### Lists (R500 to R502) -/

/-- Whether bit `c` of a mask is set. -/
def maskBit (m c : Nat) : Bool := m.testBit c

/-- The entries of a list over one cycle: the last lasts to its end, and what passes the end is cut (R500). -/
def trimEntries : Nat → List Word → List (Nat × Nat)
  | _, [] => []
  | rest, [w] => [(fld w 0 8, rest)]
  | rest, w :: r => let d := 8 * fld w 8 24; if rest ≤ d then [(fld w 0 8, rest)] else (fld w 0 8, d) :: trimEntries (rest - d) r

/-- Entry `e` of a bank of GATE_n. -/
def gateEntry (s : State) (n bank e : Nat) : Word := reg s (if bank = 0 then Reg.GCL_A n e else Reg.GCL_B n e)

/-- A list's entries as masks and durations in ns. -/
def listEntries (s : State) (n : Nat) (l : GateList) : List (Nat × Nat) :=
  trimEntries l.cycle ((List.range l.len).map fun e => gateEntry s n l.bank e)

/-- GATE_n's lists. -/
def gateOf (s : State) (n : Nat) : GateState := SMap.get (fun _ => GateState.empty) s.ports.gates n

/-- Replaces GATE_n's lists. -/
def setGate (n : Nat) (g : GateState) (s : State) : State :=
  modPorts (fun p => { p with gates := SMap.set (fun _ => GateState.empty) p.gates n g }) s

/-- The list that gates a port: none while ENABLE is 0 or before any list has taken effect (R500). -/
def gatingList (s : State) (n : Nat) : Option GateList := if enabled s (gatePage n) then (gateOf s n).inForce else none

/-- The PTP reading in 2^-32 ns. -/
def ptpFine (s : State) : Nat := ptpNow s * 2 ^ 32 + s.time.frac

/-- Where in its cycle a list stands, in 2^-32 ns (R500, R472). -/
def listPhase (s : State) (l : GateList) : Nat :=
  (((ptpFine s : Int) - (l.base * 2 ^ 32 : Nat)) % (((max 1 l.cycle) * 2 ^ 32 : Nat) : Int)).toNat

/-- How long class `c` stays open from a place in a run of entries, in 2^-32 ns. -/
def openSpan (c : Nat) : Nat → List (Nat × Nat) → Nat
  | _, [] => 0
  | p, (m, d) :: r =>
    let w := d * 2 ^ 32
    if w ≤ p then openSpan c (p - w) r else if maskBit m c then (w - p) + openSpan c 0 r else 0

/-- The time from now to the end of the present window of class `c`, in 2^-32 ns; none when unbounded (R501). -/
def windowLeft (s : State) (n c : Nat) : Option Nat :=
  let own := match gatingList s n with
    | none => none
    | some l =>
      let es := listEntries s n l
      if es.all fun e => maskBit e.1 c then none else some (openSpan c (listPhase s l) (es ++ es))
  match (gateOf s n).pending with
  | none => own
  | some (_, t) => let p := t * 2 ^ 32 - ptpFine s; some (match own with | none => p | some w => min p w)

/-- The longest run of open entries, in ns. -/
def longestRun (c : Nat) : List (Nat × Nat) → Nat → Nat
  | [], run => run
  | (m, d) :: r, run => if maskBit m c then longestRun c r (run + d) else max run (longestRun c r 0)

/-- The longest window of class `c` in the list in force, in ns; none when unbounded (R502). -/
def longestWindow (s : State) (n c : Nat) : Option Nat :=
  match gatingList s n with
  | none => none
  | some l =>
    let es := listEntries s n l
    if es.all fun e => maskBit e.1 c then none
    else some (longestRun c (es.dropWhile (fun e => maskBit e.1 c) ++ es.takeWhile fun e => maskBit e.1 c) 0)

/-- The entry in force of a list. -/
def entryNow (s : State) (n : Nat) (l : GateList) : Nat :=
  let p := listPhase s l
  let f := fun (a : Nat × Nat) (e : Nat × Nat) => if a.2 + e.2 * 2 ^ 32 ≤ p then (a.1 + 1, a.2 + e.2 * 2 ^ 32) else (a.1, p + 1)
  ((listEntries s n l).foldl f (0, 0)).1

/-- GATE_STATUS shows the entry in force (R514). -/
def showEntry (n : Nat) (s : State) : State :=
  match (gateOf s n).inForce with
  | some l => setF (Reg.GATE_STATUS n) 8 8 (entryNow s n l) s
  | none => s

/-! ### Transmit time and buckets (R489, R499, R505) -/

/-- The unit of a bucket: a rate of 1 kbit/s adds one unit in a nanosecond. -/
def bucketUnit : Nat := 8000000

/-- A bucket's level after it has filled at a rate, up to its size. -/
def fill (level : Int) (rate size dt : Nat) : Int := min ((size * bucketUnit : Nat) : Int) (level + (rate * dt : Nat))

/-- OVH. -/
def txOverhead (s : State) (n : Nat) : Nat := getF s (Reg.MAC_TX_OVH n) 0 6

/-- MODE. -/
def macMode (s : State) (n : Nat) : Nat := getF s (Reg.MAC_CFG n) 0 2

/-- MAX_LEN. -/
def maxLen (s : State) (n : Nat) : Nat := getF s (Reg.MAC_CFG n) 16 14

/-- A frame's transmit time in 1/25 ns (R499). -/
def txTime (s : State) (n len : Nat) : Nat := (len + txOverhead s n) * (if macMode s n = 1 then 8 else 20)

/-- The shaper of a class as of now (R505). -/
def shaper (s : State) (n c : Nat) : Buckets :=
  let b := reg s (Reg.SHP_BURST n c)
  let full : Buckets := { committed := (64 * fld b 0 16 * bucketUnit : Nat), peak := (64 * fld b 16 16 * bucketUnit : Nat), at_ := s.time.uptime }
  match SMap.get (fun _ => none) s.ports.shapers (8 * n + c) with
  | none => full
  | some x =>
    let dt := s.time.uptime - x.at_
    { committed := fill x.committed (getF s (Reg.SHP_CIR n c) 0 25) (64 * fld b 0 16) dt
      peak := fill x.peak (getF s (Reg.SHP_PIR n c) 0 25) (64 * fld b 16 16) dt, at_ := s.time.uptime }

/-- Stores a class's buckets. -/
def setShaper (n c : Nat) (b : Option Buckets) (s : State) : State :=
  modPorts (fun p => { p with shapers := SMap.set (fun _ => none) p.shapers (8 * n + c) b }) s

/-- Brings every shaper of a port up to now, as before a write that changes a rate. -/
def syncShapers (n : Nat) (s : State) : State := forEach (List.range 8) (fun c t => setShaper n c (some (shaper t n c)) t) s

/-- SHAPE_EN. -/
def shaped (s : State) (n c : Nat) : Bool := getBit s (Reg.SHP_CFG n c) 0

/-- A frame of `len` bytes debits its class's buckets; the committed one has a floor (R505). -/
def debit (n c len : Nat) (s : State) : State :=
  if !shaped s n c then s
  else
    let x := shaper s n c
    let d : Int := ((len + txOverhead s n) * bucketUnit : Nat)
    let low : Int := -((maxLen s n + txOverhead s n) * bucketUnit : Nat)
    setShaper n c (some { x with committed := max low (x.committed - d), peak := x.peak - d }) s

/-- The debit of a frame that was never sent is taken back (R497, R505). -/
def credit (n c len : Nat) (s : State) : State :=
  if !shaped s n c then s
  else
    let x := shaper s n c
    let d : Int := ((len + txOverhead s n) * bucketUnit : Nat)
    let size := fun (lo : Nat) => (((64 * getF s (Reg.SHP_BURST n c) lo 16 * bucketUnit : Nat) : Int))
    setShaper n c (some { x with committed := min (size 0) (x.committed + d), peak := min (size 16) (x.peak + d) }) s

/-- Whether the peak bucket covers a frame (R505, R506). -/
def peakCovers (s : State) (n c len : Nat) : Bool :=
  !shaped s n c || ((((len + txOverhead s n) * bucketUnit : Nat) : Int) ≤ (shaper s n c).peak)

/-- Whether the committed bucket is positive (R505, R506). -/
def committedPositive (s : State) (n c : Nat) : Bool := !shaped s n c || (0 : Int) < (shaper s n c).committed

/-! ### The choice (R485, R501, R502, R506) -/

/-- LINK_UP. -/
def linkUp (s : State) (n : Nat) : Bool := getBit s (Reg.MAC_STATUS n) 0

/-- The class of the frame that is leaving. -/
def leavingOf (s : State) (n : Nat) : Option (Nat × Nat) := SMap.get (fun _ => none) s.ports.leaving n

/-- Records which frame leaves. -/
def setLeaving (n : Nat) (v : Option (Nat × Nat)) (s : State) : State :=
  modPorts (fun p => { p with leaving := SMap.set (fun _ => none) p.leaving n v }) s

/-- A frame at the head of a queue that the link's loss or the gate discards (R485, R502). -/
def headDrop (s : State) (n c : Nat) (f : QFrame) : Option Nat :=
  if !linkUp s n then some 1
  else match longestWindow s n c with
    | some w => if 25 * w < txTime s n f.bytes.length then some 2 else none
    | none => none

/-- The discard is counted (R485, R502). -/
def countDrop (n c outcome : Nat) (s : State) : State :=
  if outcome = 1 then setFault (macPage n) 0 (bumpF (Reg.MAC_TX_DROPS n) 0 16 s)
  else setInt (gatePage n) 2 (bumpF (Reg.GATE_OVERSIZE n (c / 2)) (16 * (c % 2)) 16 s)

/-- Discards frames at the head of a queue for as long as R485 or R502 does. -/
def dropHeads (n c : Nat) : List QFrame → State → State
  | [], s => s
  | f :: r, s =>
    match headDrop s n c f with
    | none => s
    | some o => dropHeads n c r (discardFrame n o f (countDrop n c o (setQueue (egressQueue n c) r s)))

/-- The heads of a port's egress queues meet R485 and R502; a frame that is leaving, and a queue whose flush is due, stand. -/
def settleHeads (n : Nat) (s : State) : State :=
  forEach (List.range 8) (fun c t =>
    if flushPending t (egressQueue n c) || (leavingOf t n).any (fun l => l.1 == c) then t
    else dropHeads n c (queueOf t (egressQueue n c)) t) s

/-- Whether a class is eligible (R501, R506). -/
def eligible (s : State) (n c : Nat) : Bool :=
  match queueOf s (egressQueue n c) with
  | [] => false
  | f :: _ =>
    let fits := match windowLeft s n c with
      | none => true
      | some w => decide (txTime s n f.bytes.length * 2 ^ 32 ≤ 25 * w)
    linkUp s n && !flushPending s (egressQueue n c) && fits && peakCovers s n c f.bytes.length

/-- The class that the port serves next (R506). -/
def nextClass (s : State) (n : Nat) : Option Nat :=
  let l := ((List.range 8).reverse).filter fun c => eligible s n c
  (l.find? fun c => committedPositive s n c).orElse fun _ => l.head?

/-- When the transmitter is free, the port settles its heads and starts a frame (R501, R506). -/
def chooseFrame (n : Nat) (s : State) : State :=
  let s1 := settleHeads n s
  if (leavingOf s1 n).isSome then s1
  else match nextClass s1 n with
    | none => s1
    | some c =>
      match queueOf s1 (egressQueue n c) with
      | [] => s1
      | f :: _ =>
        let len := f.bytes.length
        setLeaving n (some (c, s1.time.uptime + ceilDiv (txTime s1 n len) 25)) (debit n c len s1)

/-! ### Commands of the gates (R500, R503, R504) -/

/-- A gate list moves to its next entry or cycle (R500). -/
def execGateEntryBoundary (port : Fin 4) (s : State) : Out :=
  .next (
    let n := port.val
    match (gateOf s n).inForce with
    | none => s
    | some l =>
      let p := listPhase s l
      let ends := (listEntries s n l).foldl (fun a e => if a ≤ p then a + e.2 * 2 ^ 32 else a) 0
      let next := (ptpFine s + (ends - p)) / 2 ^ 32
      chooseFrame n (showEntry n (advanceTo next s)))

/-- Whether CONFIG_CHANGE is refused (R503, R504). -/
def configRefused (s : State) (n bank cycle : Nat) : Bool :=
  let len := getF s (Reg.GATE_LEN n) 0 9
  let aligned := getBit s (Reg.GATE_CFG n) 0
  len = 0 || (!aligned && (cycle < 1000 || 1000000000 < cycle)) || (aligned && !schedRunning s) ||
    (List.range len).any (fun e => fld (gateEntry s n bank e) 8 24 < 8) || (gateOf s n).pending.isSome

/-- The bank that CONFIG_CHANGE makes pending: the one not in force; bank A before any list (R503, R514; DEDUCED,
assumption 24). -/
def idleBank (s : State) (n : Nat) : Nat := match (gateOf s n).inForce with | some l => 1 - l.bank | none => 0

/-- CONFIG_CHANGE (R503, R504). -/
def configChange (n : Nat) (s : State) : State :=
  let aligned := getBit s (Reg.GATE_CFG n) 0
  let bank := idleBank s n
  let base := if aligned then reg64 s Reg.SCHED_BASE_LO / 4 * 4 else reg64 s (Reg.GATE_BASE_LO n)
  let cycle := if aligned then bankCycle s (activeBankOf s) else getF s (Reg.GATE_CYCLE n) 0 30
  let a := Reg.GATE_STATUS n
  if configRefused s n bank cycle then setB a 3 true s
  else
    let l : GateList := { bank := bank, base := base, cycle := cycle, len := getF s (Reg.GATE_LEN n) 0 9, aligned := aligned }
    let w := ptpFine s
    if w + 1000 * 2 ^ 32 ≤ base * 2 ^ 32 then
      setB a 1 true (setB a 2 false (setB a 3 false (setGate n { gateOf s n with pending := some (l, base) } s)))
    else
      let k := ceilDiv (w + 2 * cycle * 2 ^ 32 - base * 2 ^ 32) (max 1 cycle * 2 ^ 32)
      let shown := if k < 2 ^ 32 then k else openNow s
      let s1 := if k < 2 ^ 32 then s else draw s
      let s2 := setReg (Reg.GATE_SKIPPED n) (word shown) (setGate n { gateOf s n with pending := some ({ l with base := base }, base + k * cycle) } s1)
      setInt (gatePage n) 1 (setB a 1 true (setB a 2 true (setB a 3 false s2)))

/-- GATE_CMD.CONFIG_CHANGE (R503, R504). -/
def execConfigChange (req : Requester) (port : Fin 4) (s : State) : Out :=
  .next (hostWrite req (Reg.GATE_CMD port) (fun t => chooseFrame port (configChange port t)) s)

/-- CANCEL withdraws a pending list (R503). -/
def cancelList (n : Nat) (s : State) : State :=
  setB (Reg.GATE_STATUS n) 1 false (setGate n { gateOf s n with pending := none } s)

/-- GATE_CMD.CANCEL (R503). -/
def execCancel (req : Requester) (port : Fin 4) (s : State) : Out :=
  .next (hostWrite req (Reg.GATE_CMD port) (fun t => chooseFrame port (cancelList port t)) s)

/-- A list is in force from now on, at its entry 0 (R503, R504, R514). -/
def enforceList (n : Nat) (l : GateList) (s : State) : State :=
  let a := Reg.GATE_STATUS n
  let s1 := setGate n { gateOf s n with inForce := some l } s
  let s2 := setReg (Reg.GATE_ACTIVE_CYCLE n) (word l.cycle) (setReg64 (Reg.GATE_ACTIVE_BASE_LO n) l.base s1)
  chooseFrame n (showEntry n (setB a 4 true (setB a 0 (l.bank != 0) s2)))

/-- A pending list takes effect at its start instant (R503). -/
def execGateListTakesEffect (port : Fin 4) (s : State) : Out :=
  .next (match (gateOf s port).pending with
    | none => s
    | some (l, t) =>
      let s1 := advanceTo t s
      let s2 := setB (Reg.GATE_STATUS port) 1 false (setGate port { gateOf s1 port with pending := none } s1)
      enforceList port l (setInt (gatePage port) 0 s2))

/-- The schedule's bank has switched: an aligned list in force restarts at the new base with the new cycle (R504). -/
def realignGates (base cycle : Nat) (s : State) : State :=
  forEach (List.range 4) (fun n t =>
    match (gateOf t n).inForce with
    | some l => if l.aligned then enforceList n { l with base := base, cycle := cycle } t else t
    | none => t) s

/-- After a step of the clock each running list continues at the entry of the new time (R472). -/
def stepGates (s : State) : State := forEach (List.range 4) (fun n t => chooseFrame n (showEntry n t)) s

/-- The peak bucket of a class refills to its head frame's L + OVH while the transmitter is free (R505, R506). -/
def execPeakBucketFilled (port : Fin 4) (cls : Fin 8) (s : State) : Out :=
  .next (
    let n := port.val
    let c := cls.val
    match queueOf s (egressQueue n c) with
    | [] => s
    | f :: _ =>
      let rate := getF s (Reg.SHP_PIR n c) 0 25
      let need : Int := ((f.bytes.length + txOverhead s n) * bucketUnit : Nat)
      let size := 64 * getF s (Reg.SHP_BURST n c) 16 16
      if !shaped s n c || rate = 0 || peakCovers s n c f.bytes.length || ((size * bucketUnit : Nat) : Int) < need || (leavingOf s n).isSome then s
      else chooseFrame n (advanceUptime (s.time.uptime + ceilDiv (need - (shaper s n c).peak).toNat rate) s))

end Sys2Proof.Machine
end

