-- ==== Sys2Proof/Machine/Ports.lean ====
section
/-! DEFINITION. The control ports (R482 to R493, R507 to R512): modes and link, receiving and policing, sending, epoch frames
and the host DMA rings. -/

namespace Sys2Proof.Machine

open Sys2Proof

/-! ### Mode and link (R482, R485) -/

/-- LINK_UP as the lane and the mode give it (R485). -/
def linkOk (s : State) (n : Nat) : Bool :=
  let m := macMode s n
  let st := reg s (Reg.MAC_STATUS n)
  enabled s (macPage n) && m != 0 && bitOf st 3 && (m != 1 || bitOf st 4) && !bitOf st 1 && !bitOf st 2

/-- The lane's state has changed: LINK_UP follows, and queue heads meet it (R485). -/
def linkFollows (n : Nat) (s : State) : State :=
  let up := linkOk s n
  let s1 := if up != linkUp s n then setInt (macPage n) 2 (setB (Reg.MAC_STATUS n) 0 up s) else s
  chooseFrame n s1

/-- The port's lane goes down: block lock, alignment and faults are gone (R482, R512). -/
def laneDown (n : Nat) (s : State) : State := linkFollows n (setF (Reg.MAC_STATUS n) 1 4 0 s)

/-- A write of MAC_CFG: reserved values leave their fields; a change of MODE takes the port down (R96, R482, R513). -/
def macCfgWrite (n : Nat) (v : Word) (s : State) : State :=
  let a := Reg.MAC_CFG n
  let old := macMode s n
  let mode := if fld v 0 2 = 3 then old else fld v 0 2
  let len := if 1518 ≤ fld v 16 14 && fld v 16 14 ≤ 9216 then fld v 16 14 else maxLen s n
  let s1 := setReg a (word (mode + 4 * fld v 2 2 + 2 ^ 16 * len)) s
  if mode != old then laneDown n s1 else s1

/-- A write that changes MAC_CFG.MODE (R482). -/
def execMacModeWrite (req : Requester) (port : Fin 4) (data : Word) (s : State) : Out :=
  .next (hostWrite req (Reg.MAC_CFG port) (macCfgWrite port data) s)

/-- The lane's block lock, alignment or fault signalling changes (R485). -/
def execLinkStateChange (port : Fin 4) (blockLock fecAligned localFault remoteFault : Bool) (s : State) : Out :=
  .next (
    let n := port.val
    if !enabled s (macPage n) || macMode s n = 0 then s
    else
      let v := b2n localFault + 2 * b2n remoteFault + 4 * b2n blockLock + 8 * b2n (fecAligned && macMode s n == 1)
      linkFollows n (setF (Reg.MAC_STATUS n) 1 4 v s))

/-- MAC ENABLE written 0 (R512): the lane goes idle and the port's queues are flushed. -/
def macStop (n : Nat) (s : State) : State :=
  laneDown n (forEach (List.range 8) (fun c t => flushAsk (ingressQueue n c) (flushAsk (egressQueue n c) t)) s)

/-- MAC_COUNT_CLR (R513). -/
def execMacCountClr (req : Requester) (port : Fin 4) (s : State) : Out :=
  .next (hostWrite req (Reg.MAC_COUNT_CLR port) (fun t =>
    forEach [Reg.MAC_RX_FRAMES port, Reg.MAC_RX_DISCARDS port, Reg.MAC_TX_FRAMES port, Reg.MAC_TX_DROPS port, Reg.MAC_FEC port]
      (fun a u => setReg a 0 u) t) s)

/-! ### Receiving (R483 to R491) -/

/-- Whether a port accepts a destination address (R486). -/
def acceptsAddress (s : State) (n d : Nat) : Bool :=
  let cfg := reg s (Reg.TIME_PTP_CFG n)
  bitOf (reg s (Reg.MAC_CFG n)) 2 || d = macAddress (reg s (Reg.MAC_SA_LO n)) (reg s (Reg.MAC_SA_HI n)) || d = 0xFFFFFFFFFFFF ||
    (List.range 16).any (fun e =>
      let hi := reg s (Reg.MAC_MCAST n (2 * e + 1))
      bitOf hi 31 && d = macAddress (reg s (Reg.MAC_MCAST n (2 * e))) hi) ||
    ((d = 0x011B19000000 || d = 0x0180C200000E) && bitOf cfg 0 && bitOf cfg 1)

/-- POLICE_n. -/
def policePage (n : Nat) : Page := ⟨.police, n⟩

/-- The lowest-numbered policer that a frame's VID, PCP and EtherType meet (R488). -/
def policerOf (s : State) (n vid pcp etype : Nat) : Option Nat :=
  (List.range 64).find? fun i =>
    let m := act s (Reg.POL_MATCH n i)
    let u := act s (Reg.POL_USE n i)
    bitOf u 3 && (!bitOf u 0 || fld m 0 12 = vid) && (!bitOf u 1 || fld m 12 3 = pcp) && (!bitOf u 2 || fld m 16 16 = etype)

/-- A policer's buckets as of now; its PIR is at least its CIR (R489). -/
def meter (s : State) (n i : Nat) : Buckets :=
  let b := act s (Reg.POL_BURST n i)
  let cir := actF s (Reg.POL_CIR n i) 0 25
  let pir := max cir (actF s (Reg.POL_PIR n i) 0 25)
  match SMap.get (fun _ => none) s.ports.meters (64 * n + i) with
  | none => { committed := (64 * fld b 0 16 * bucketUnit : Nat), peak := (64 * fld b 16 16 * bucketUnit : Nat), at_ := s.time.uptime }
  | some x =>
    let dt := s.time.uptime - x.at_
    { committed := fill x.committed cir (64 * fld b 0 16) dt, peak := fill x.peak pir (64 * fld b 16 16) dt, at_ := s.time.uptime }

/-- Stores a policer's buckets. -/
def setMeter (n i : Nat) (b : Option Buckets) (s : State) : State :=
  modPorts (fun p => { p with meters := SMap.set (fun _ => none) p.meters (64 * n + i) b }) s

/-- The incoming colour of a frame under a colour-aware policer (R489). -/
def incomingColour (s : State) (n pcp : Nat) (dei : Bool) : Nat :=
  let w := act s (Reg.POLICE_COLOUR n)
  let c := fld w (2 * pcp) 2
  if bitOf w 16 && dei && c = 0 then 1 else c

/-- Meters a frame of `len` bytes with an incoming colour: its colour and what the buckets hold after it (R489). -/
def colourOf (b : Buckets) (incoming len : Nat) : Nat × Buckets :=
  let d : Int := (len * bucketUnit : Nat)
  if incoming = 2 then (2, b)
  else if b.peak < d then (2, b)
  else if incoming = 1 || b.committed < d then (1, { b with peak := b.peak - d })
  else (0, { b with peak := b.peak - d, committed := b.committed - d })

/-- An accepted frame's way to its ingress queue (R487 to R491). -/
def classifyFrame (n : Nat) (f : ReceivedFrame) (s : State) : State :=
  let tag := reg s (Reg.MAC_DEFAULT_TAG n)
  let tagged := frameTagged f.bytes
  let tci := frameTci f.bytes
  let vid := if tagged && tci % 2 ^ 12 != 0 then tci % 2 ^ 12 else fld tag 0 12
  let pcp := if tagged then tci / 2 ^ 13 else fld tag 12 3
  let dei := tagged && tci / 2 ^ 12 % 2 = 1
  let comp : Int := signed 16 (getF s (Reg.TS_RX_COMP n) 0 16) * 4096
  let arrival := ((f.arrival : Int) - comp).toNat
  let stamped := bitOf (reg s (Reg.MAC_CFG n)) 3 || ptpEvent (reg s (Reg.TIME_PTP_CFG n)) f.bytes
  let put := fun (colour : Nat) (policer : Nat) (remarked : Bool) (p : Nat) (bytes : List Byte) (t : State) =>
    let q := ingressQueue n (getF t (Reg.MAC_PCP_TC n) (3 * p) 3)
    if admits t q (cellsOf bytes.length) then enqueue q (.received arrival stamped colour remarked policer) bytes t
    else setInt (macPage n) 3 (refuseFrame q t)
  match policerOf s n vid pcp (frameType f.bytes) with
  | none => put 0 63 false pcp f.bytes s
  | some i =>
    let use := act s (Reg.POL_USE n i)
    let c := colourOf (meter s n i) (if bitOf use 4 then incomingColour s n pcp dei else 0) f.bytes.length
    let s1 := addF (Reg.POL_COUNT n (4 * i + c.1)) 0 32 1 (setMeter n i (some c.2) s)
    let action := fld use (8 + 2 * c.1) 2
    if action = 2 then setInt (macPage n) 3 s1
    else if action = 1 then
      let r := act s (Reg.POL_REMARK n i)
      put c.1 i true (fld r (4 * c.1) 3) (remarkFrame (fld r (4 * c.1) 3) (fld r (4 * c.1 + 3) 1) f.bytes) s1
    else put c.1 i false pcp f.bytes s1

/-- A frame reaches a port's receiver (R483 to R491). -/
def execFrameReceived (port : Fin 4) (frame : ReceivedFrame) (s : State) : Out :=
  .next (
    let n := port.val
    if !linkUp s n then s
    else
      let s1 := addF (Reg.MAC_FEC n) 16 16 frame.fecLost (addF (Reg.MAC_FEC n) 0 16 frame.fecCorrected s)
      let len := frame.bytes.length
      let a := Reg.MAC_RX_DISCARDS n
      if len < 64 || maxLen s1 n < len then bumpF a 8 8 s1
      else if !fcsGood frame.bytes then bumpF a 0 8 s1
      else if frameType frame.bytes = 0x8808 then bumpF a 16 8 s1
      else if !acceptsAddress s1 n (frameDest frame.bytes) then bumpF a 24 8 s1
      else classifyFrame n frame (addF (Reg.MAC_RX_FRAMES n) 0 32 1 s1))

/-- A frame at the head of an ingress queue meets its ring's next descriptor (R497, R510). -/
def execRxDelivery (port : Fin 4) (cls : Fin 8) (addr : DWord) (size : BitVec 16) (ecc : EccScan) (s : State) : Out :=
  .next (
    let n := port.val
    let r := 8 + cls.val
    let q := ingressQueue n cls
    match queueOf s q with
    | [] => s
    | f :: rest =>
      let head := getF s (Reg.DMA_RING_HEAD n r) 0 12
      if !getBit s (Reg.DMA_RING_CFG n r) 0 || !enabled s (macPage n) || flushPending s q || head = getF s (Reg.DMA_RING_TAIL n r) 0 12 then s
      else
        let s1 := setQueue q rest (eccScan ecc s)
        let outcome := if !ecc.bad.isEmpty then 2 else if size.toNat < f.bytes.length then 1 else 0
        let s2 := if outcome = 0 then emit (.hostMemory addr.toNat f.bytes) s1 else s1
        let o := match f.origin with
          | .received t v c m p => (t, v, c, m, p)
          | _ => (0, false, 0, false, 63)
        let d := descriptorAt s2 n r head
        let flags := 1 + 2 * outcome + 16 * b2n o.2.1 + 32 * o.2.2.1 + 128 * b2n o.2.2.2.1 + 2 ^ 8 * (o.2.2.2.2 + 64 * b2n (o.2.2.2.2 = 63))
        let s3 := emit (.hostMemory (d + 16) (toBytes 12 (if o.2.1 then timestamp o.1 else 0) ++ toBytes 2 flags))
          (emit (.hostMemory (d + 8) (toBytes 2 f.bytes.length)) s2)
        setInt (macPage n) 1 (headMoves n r (wrapF (Reg.DMA_RING_COUNT n r) 0 32 s3)))

/-- POLICE_COUNT_CLR (R515). -/
def execPoliceCountClr (req : Requester) (port : Fin 4) (s : State) : Out :=
  .next (hostWrite req (Reg.POLICE_COUNT_CLR port) (fun t =>
    { t with regs := SMap.dropRange t.regs (Reg.POL_COUNT port 0) 1024 }) s)

/-! ### Sending (R476 to R478, R506, R509) -/

/-- The next transmit descriptor of a ring: HEAD and what has been fetched beyond it (R508). -/
def fetchIndex (s : State) (n c : Nat) : Nat :=
  (getF s (Reg.DMA_RING_HEAD n c) 0 12 + (fetchedOf s n c).length) % dmaRingSize s n c

/-- The device fetches a transmit descriptor and reads its frame into the egress queue once there is room (R509). -/
def execTxDescriptorFetch (port : Fin 4) (cls : Fin 8) (desc : TxDescriptor) (s : State) : Out :=
  .next (
    let n := port.val
    let c := cls.val
    let i := fetchIndex s n c
    let room := (fetchedOf s n c).length + 1 < dmaRingSize s n c
    if !getBit s (Reg.DMA_RING_CFG n c) 0 || !enabled s (macPage n) || !room || i = getF s (Reg.DMA_RING_TAIL n c) 0 12 then s
    else
      let len := desc.ctl.toNat % 2 ^ 14
      let fetched := fun (t : State) => modPorts (fun p => { p with fetched := SMap.set (fun _ => []) p.fetched (16 * n + c) (fetchedOf t n c ++ [(i, false)]) }) t
      if len < 60 || maxLen s n < len + 4 then txReturn n c i 5 none (fetched s)
      else if !admits s (egressQueue n c) (cellsOf (len + 4)) then s
      else
        let bytes := if desc.ctl.getLsbD 15 then (List.range len).map fun k => dramByte s (desc.addr.toNat + k)
          else (List.range len).map fun k => (desc.data[k]?).getD 0
        chooseFrame n (enqueue (egressQueue n c) (.ring cls i (desc.ctl.getLsbD 14)) (withFcs bytes) (fetched s)))

/-- A frame has left the port: its descriptor is written back and the next frame is chosen (R475 to R478, R497, R498, R506,
R509). `departure` is the time of R475 at the balls, in 2^-16 ns. -/
def execFrameTransmitComplete (port : Fin 4) (departure : BitVec 96) (ecc : EccScan) (s : State) : Out :=
  .next (
    let n := port.val
    match leavingOf s n with
    | none => s
    | some (c, done) =>
      let q := egressQueue n c
      match queueOf s q with
      | [] => setLeaving n none s
      | f :: rest =>
        let early := !ecc.bad.isEmpty && ecc.early
        let s1 := eccScan ecc (setLeaving n none (if early then s else advanceUptime done s))
        let s2 := setQueue q rest (if early then credit n c f.bytes.length s1 else s1)
        let cfg := reg s (Reg.TIME_PTP_CFG n)
        let t := ((departure.toNat : Int) + signed 16 (getF s (Reg.TS_TX_COMP n) 0 16) * 4096).toNat
        let wire := insertTime cfg t f.bytes
        let s3 := if early then s2
          else emit (.frame n (if ecc.bad.isEmpty then wire else invertFcs wire)) (addF (Reg.MAC_TX_FRAMES n) 0 32 1 s2)
        let s4 := match f.origin with
          | .ring k i stamp =>
            txReturn n k i (if ecc.bad.isEmpty then 0 else 4)
              (if !early && (stamp || returnsTime cfg f.bytes) then some (timestamp t) else none) s3
          | _ => s3
        chooseFrame n (if flushPending s4 q then flushNow q s4 else s4))

/-- A flush meets its queue's packet boundary (R498). -/
def execCisFlushComplete (queue : Fin 64) (s : State) : Out :=
  .next (
    let q := queue.val
    let leaving := q < 32 && (leavingOf s (q / 8)).any fun l => l.1 == q % 8
    if !flushPending s q || leaving then s else flushNow q s)

/-! ### Epoch frames (R507) -/

/-- The frame of a notice or a report (R507). -/
def epochFrame (s : State) (n : Nat) (notice : Bool) (payload : List Byte) : List Byte :=
  let vid := getF s (Reg.MAC_EPOCH_FRAME n) 16 12
  withFcs (netBytes 6 (macAddress (reg s (Reg.MAC_EPOCH_DA_LO n)) (reg s (Reg.MAC_EPOCH_DA_HI n))) ++
    netBytes 6 (macAddress (reg s (Reg.MAC_SA_LO n)) (reg s (Reg.MAC_SA_HI n))) ++
    netBytes 2 0x8100 ++ netBytes 2 ((if notice then 7 else 5) * 2 ^ 13 + vid) ++ netBytes 2 0x88B5 ++
    [0x47, 0x01] ++ netBytes 2 (if notice then 32 else 64) ++ netBytes 8 Config.serial.toNat ++ payload)

/-- A notice or report enters the egress queues of the ports that send it (R507). -/
def sendEpochFrame (notice : Bool) (payload : List Byte) (s : State) : State :=
  forEach (List.range 4) (fun n t =>
    if !getBit t (Reg.MAC_EPOCH_FRAME n) (if notice then 0 else 1) then t
    else
      let f := epochFrame t n notice payload
      let q := egressQueue n (if notice then 7 else 5)
      if admits t q (cellsOf f.length) then chooseFrame n (enqueue q .epoch f t)
      else bumpF (Reg.MAC_TX_DROPS n) 16 16 (refuseFrame q t)) s

/-- A report leaves its leader, and this member writes its record (R183, R184, R187). -/
def sendReport (r : Report) (s : State) : State :=
  let s1 := writeReport r s
  if r.lead && getBit s Reg.EPOCH_CFG 9 then sendEpochFrame false (reportPayload r) s1 else s1

/-- Every report that waits leaves now (R186, assumption 76). -/
def flushReports (s : State) : State := forEach s.reports sendReport { s with reports := [] }

/-! ### Resets (R90, R129, R138, R492, R505) -/

/-- A write of SHP_CIR, SHP_PIR, SHP_BURST or SHP_CFG: the buckets are brought up to now, and start full when SHAPE_EN is set
(R505). -/
def shaperWrite (n c : Nat) (w : State → State) (s : State) : State :=
  let s1 := w (syncShapers n s)
  if shaped s1 n c && !shaped s n c then chooseFrame n (setShaper n c none s1) else chooseFrame n s1

/-- PCIE_PERST_N low: every ring's EN, HEAD and TAIL clear (R138, R512). -/
def clearRings (s : State) : State :=
  let s1 := forEach (List.range 4) (fun n t => forEach (List.range 16) (fun r u =>
    setReg (Reg.DMA_RING_HEAD n r) 0 (setReg (Reg.DMA_RING_TAIL n r) 0 (setB (Reg.DMA_RING_CFG n r) 0 false u))) t) s
  modPorts (fun p => { p with fetched := [] }) s1

/-- A block reset of MAC_n, GATE_n, POLICE_n or CISTERN, beyond the page's words (R90, R129, R512). -/
def portBlockReset (p : Page) (s : State) : State :=
  match p.kind with
  | .mac => modPorts (fun q => { q with
      leaving := SMap.set (fun _ => none) q.leaving p.inst none
      shapers := SMap.dropRange q.shapers (8 * p.inst) 8
      fetched := SMap.dropRange q.fetched (16 * p.inst) 16 }) s
  | .gate => setGate p.inst GateState.empty s
  | .police => modPorts (fun q => { q with meters := SMap.dropRange q.meters (64 * p.inst) 64 }) s
  | .cistern => modPorts (fun q => { q with queues := [], leaving := [] }) s
  | _ => s

end Sys2Proof.Machine
end

