-- ==== Sys2Proof/Machine/Capture.lean ====
section
/-! DEFINITION. Capture streams (R391 to R417): coding, triggers, records, acknowledgement, and the TRIG pins. -/

namespace Sys2Proof.Machine

open Sys2Proof

/-- CAPT. -/
def captPage : Page := ⟨.capt, 0⟩

/-- A stream. -/
def stream (s : State) (n : Nat) : CaptStream := SMap.get (fun _ => CaptStream.empty) s.streams n

/-! ### Sources and coding (R392 to R398) -/

/-- Whether a KIND is a photocurrent channel, which TAGGED and the summary flags concern (R393, R408). -/
def channelKind (k : Nat) : Bool := k ≤ 2 || k = 4

/-- TAGGED as it acts (R393). -/
def CaptDesc.tags (d : CaptDesc) : Bool := d.tagged && channelKind d.kind

/-- Bytes of one item (R392, R393). -/
def CaptDesc.itemBytes (d : CaptDesc) : Nat :=
  if d.tags then 4
  else match d.kind with
    | 3 => 4
    | 7 => 64
    | 8 => 16
    | _ => 2

/-- Items of a coding unit (R395; a tagged item counts as one of 32 bits, assumption 25). -/
def CaptDesc.unitItems (d : CaptDesc) : Nat := if d.itemBytes = 2 then 64 else 1

/-- The largest coded unit (R395). -/
def CaptDesc.unitBytes (d : CaptDesc) : Nat :=
  if d.itemBytes = 2 then (match d.comp with | 1 => 130 | 2 => 68 | _ => 128) else d.itemBytes

/-- The rate a stream reserves, in MB/s (R392, R393, R410). -/
def CaptDesc.rate (d : CaptDesc) : Nat :=
  let r := match d.kind with
    | 3 => 4
    | 4 => 160
    | 5 => 500
    | 6 => 1
    | 7 => 32
    | 8 => 32
    | _ => 80
  if d.tags then 2 * r else r

/-- An item as it is stored (R392, R393). -/
def CaptDesc.itemWord (d : CaptDesc) (x : CaptItem) : Nat :=
  if d.tags then
    x.value % 2 ^ 16 + 2 ^ 16 * (x.range % 4) + 2 ^ 18 * b2n x.overRange + 2 ^ 19 * b2n x.unsettled +
      2 ^ 20 * b2n (x.gap || x.dropped != 0) + 2 ^ 21 * (x.instant * 2 / 25 % 2048)
  else x.value

/-- Items stored as they are (R395, R398). -/
def CaptDesc.plain (d : CaptDesc) (l : List CaptItem) : List Byte := (l.map fun x => toBytes d.itemBytes (d.itemWord x)).flatten

/-- Bits from the least significant upwards, as bytes. -/
def packBits : List (Nat × Nat) → Nat × Nat
  | [] => (0, 0)
  | (w, v) :: r => let t := packBits r; (w + t.1, v % 2 ^ w + 2 ^ w * t.2)

/-- The differences of a run of samples, signed 16-bit (R396). -/
def deltas : List Nat → List Int
  | a :: b :: r => signed 16 (b + 65536 - a) :: deltas (b :: r)
  | _ => []

/-- Whether a delta fits in `w` bits (R396). -/
def deltaFits (w : Nat) (d : Int) : Bool := if w = 0 then d = 0 else -(2 ^ (w - 1) : Int) ≤ d && d < 2 ^ (w - 1)

/-- A delta unit (R396). -/
def deltaUnit (xs : List Nat) : List Byte :=
  let ds := deltas xs
  let w := ((List.range 17).find? fun w => ds.all fun d => deltaFits w d).getD 16
  let body := if w = 16 then xs.map fun x => (16, x) else ((xs.take 1).map fun x => (16, x)) ++ ds.map fun d => (w, unsignedOf w d)
  let p := packBits ((16, w) :: body)
  toBytes (2 * ceilDiv p.1 16) p.2

/-- Rounds a quotient by a power of two to the nearest integer, ties to the even one (R397). -/
def roundHalfEven (x : Int) (d : Nat) : Int :=
  let q := x / (d : Int)
  let r := 2 * (x - q * d)
  if r < d || (r = d && q % 2 = 0) then q else q + 1

/-- The exponent of a block-float block (R397). -/
def blockExponent (xs : List Int) : Nat :=
  ((List.range 10).find? fun e => xs.all fun x => decide (-257 * (2 ^ e : Int) < 2 * x && 2 * x < 255 * (2 ^ e : Int))).getD 9

/-- A block-float unit (R397). -/
def blockUnit (xs : List Int) : List Byte :=
  let blocks := (List.range 4).map fun b => (xs.drop (16 * b)).take 16
  (blocks.map fun b => BitVec.ofNat 8 (blockExponent b)) ++
    ((blocks.map fun b => b.map fun x => BitVec.ofInt 8 (roundHalfEven x (2 ^ blockExponent b))).flatten)

/-- A complete coding unit (R395 to R397). -/
def codeUnit (d : CaptDesc) (l : List CaptItem) : List Byte :=
  if d.unitItems = 64 then
    match d.comp with
    | 1 => deltaUnit (l.map fun x => x.value % 65536)
    | 2 => blockUnit (l.map fun x => signed 16 x.value)
    | _ => d.plain l
  else d.plain l

/-! ### What the page shows (R410, R413, R416) -/

/-- ARMED, in POST or RUNNING. -/
def CaptPhase.active : CaptPhase → Bool
  | .armed | .post | .running => true
  | _ => false

/-- The code of R413. -/
def CaptPhase.code : CaptPhase → Nat
  | .idle => 0 | .armed => 1 | .post => 2 | .running => 3 | .done => 4 | .fullStopped => 5 | .error => 6

/-- The sum of the reservations in force (R410). -/
def captRate (s : State) : Nat := ((s.streams.filter fun e => e.2.phase.active).map fun e => e.2.desc.rate).sum

/-- Stores a stream and shows its state. -/
def setStream (n : Nat) (c : CaptStream) (s : State) : State :=
  let s1 := { s with streams := SMap.set (fun _ => CaptStream.empty) s.streams n c }
  let s2 := setF (Reg.CAPT_STAT n) 16 16 c.seq (setF (Reg.CAPT_STAT n) 0 3 c.phase.code s1)
  let s3 := setF (Reg.CAPT_WR n) 0 28 (c.written / 64) s2
  setF Reg.CAPT_BW 0 16 (captRate s3) (setB (Reg.CAPT_ACTIVE (n / 32)) (n % 32) c.phase.active s3)

/-- Changes a stream. -/
def modStream (n : Nat) (f : CaptStream → CaptStream) (s : State) : State := setStream n (f (stream s n)) s

/-- A stream leaves ARMED, POST and RUNNING for good (R413, R417, R522). -/
def endStream (n : Nat) (p : CaptPhase) (s : State) : State :=
  let s1 := modStream n (fun c => { c with phase := p, trigger := none, stopAfter := false }) s
  setInt captPage 4 (setTaskChannel (128 + n) none s1)

/-! ### The data ring (R394, R403, R409) -/

/-- Writes bytes at a ring offset, wrapping (R394). -/
def ringWrite (d : CaptDesc) (pos : Nat) (bs : List Byte) (s : State) : State :=
  let o := pos % 2 ^ d.size
  let head := bs.take (2 ^ d.size - o)
  writeDram d.data (bs.drop (2 ^ d.size - o)) (writeDram (d.data + o) head s)

/-- Whether a record is unacknowledged (R409). -/
def unacked (s : State) (n seq : Nat) : Bool :=
  let d := (seq + 2 ^ 32 - (reg s (Reg.CAPT_ACK n)).toNat % 2 ^ 32) % 2 ^ 32
  1 ≤ d && d ≤ 2 ^ 31

/-- Unacknowledged records whose units a write up to byte `end_` overwrites. -/
def overwritten (s : State) (n end_ : Nat) : List CaptRecord :=
  let c := stream s n
  c.records.filter fun r => unacked s n r.seq && r.from_ + 2 ^ c.desc.size < end_

/-- The write proceeds over unacknowledged records (R409). -/
def overflowed (n : Nat) (gone : List CaptRecord) (s : State) : State :=
  if gone.isEmpty then s
  else
    let s1 := modStream n (fun c => { c with lost := c.lost + gone.length, records := c.records.filter fun r => !gone.contains r }) s
    setInt captPage 1 (setB (Reg.CAPT_STAT n) 3 true s1)

/-- The rewind mark of an ARMED stream once `more` further items are written: it trails the newest by PRE items (R402). -/
def CaptStream.mark (c : CaptStream) (more : Nat) : Nat := max c.eligible (c.count + more - c.desc.pre)

/-- The first item at or after an instant, among the intact ones from `from_` on; the next item where there is none. -/
def CaptStream.itemFrom (c : CaptStream) (from_ instant : Nat) : Nat :=
  let l := (c.units.map fun u => (List.range u.items.length).zip u.items |>.map fun e => (u.first + e.1, e.2)).flatten
  match l.find? fun e => from_ ≤ e.1 && instant ≤ e.2.instant with
  | some e => e.1
  | none => c.count

/-- The first post-trigger item of a record in POST, the first item that the record wants, and its last (R401, R402). -/
def CaptStream.span (c : CaptStream) (t : CaptTrigger) : Nat × Nat × Nat :=
  let p := c.itemFrom c.eligible t.instant
  (p, max c.eligible (p - c.desc.pre), p + c.desc.post - 1)

/-- Adds a unit to the ring: the oldest units go, and the mark with them (R394, R403, R411). -/
def putUnit (n : Nat) (bytes : List Byte) (items : List CaptItem) (s : State) : State :=
  let c := stream s n
  let end_ := c.written + bytes.length
  let keep := c.units.filter fun u => end_ ≤ u.start + 2 ^ c.desc.size
  let gone := c.units.filter fun u => !(end_ ≤ u.start + 2 ^ c.desc.size)
  let first := match c.trigger with
    | some t => (c.span t).2.1
    | none => c.mark items.length
  let passed := !c.desc.continuous && gone.any fun u => first < u.first + u.items.length
  let drops := (items.map CaptItem.dropped).sum
  let s1 := ringWrite c.desc c.written bytes s
  let s2 := setStream n { c with
    written := end_, count := c.count + items.length
    units := keep ++ [{ start := c.written, size := bytes.length, first := c.count, items := items }] } s1
  let s3 := if passed then setInt captPage 2 (setB (Reg.CAPT_STAT n) 4 true s2) else s2
  if drops = 0 then s3 else setInt captPage 3 (setB (Reg.CAPT_STAT n) 5 true (addF Reg.CAPT_DROPS 0 32 drops s3))

/-! ### Records and headers (R402 to R405, R408) -/

/-- Item `i`, where it is intact. -/
def CaptStream.item (c : CaptStream) (i : Nat) : Option CaptItem :=
  match c.units.find? fun u => u.first ≤ i && i < u.first + u.items.length with
  | some u => u.items[i - u.first]?
  | none => none

/-- The header of a record from item `first` to item `last`: `pre` pre-trigger items, `missing` of them not there, `base` the
instant of the trigger, with the flags of R402, R403 and R413 (R408). -/
def recordHeader (c : CaptStream) (first last pre missing base dead missed source flags : Nat) : List Byte :=
  let n := last + 1 - first
  let items := ((List.range n).map fun k => c.item (first + k)).filterMap id
  let u := c.units.find? fun u => u.first ≤ first && first < u.first + u.items.length
  let chan := channelKind c.desc.kind && !c.desc.tagged
  let ranges := items.map CaptItem.range
  let r0 := (ranges.head?).getD 0
  let drops := (items.map CaptItem.dropped).sum
  let f := flags + 8 * b2n (drops != 0) + 16 * b2n (chan && ranges.any fun r => r != r0) +
    32 * b2n (chan && (items.drop 1).any CaptItem.rateChanged) + 64 * b2n (chan && items.any CaptItem.overRange) +
    128 * b2n (chan && items.any CaptItem.unsettled) + 256 * b2n (c.stepAt.any fun k => first ≤ k && k ≤ last)
  toBytes 8 (c.seq + 1) ++ toBytes 8 base ++ toBytes 8 ((items.head?.map CaptItem.instant).getD 0) ++
    toBytes 8 ((u.map CaptUnit.start).getD 0 % 2 ^ c.desc.size) ++ toBytes 4 n ++ toBytes 4 pre ++ toBytes 4 missing ++
    toBytes 4 dead ++ toBytes 4 drops ++ toBytes 2 missed ++ toBytes 2 source ++ toBytes 2 f ++
    toBytes 1 (first - (u.map CaptUnit.first).getD first) ++
    toBytes 1 (r0 % 4 + 4 * ((ranges.getLast?).getD 0 % 4) + 16 * c.desc.comp + 64 * b2n c.desc.tags) ++ toBytes 4 c.lost

/-- Writes a header into its slot (R404, R409): where FULL is 1 and the slot holds an unacknowledged record, none is written. -/
def putHeader (n first last : Nat) (bytes : List Byte) (s : State) : State :=
  let c := stream s n
  let c1 := { c with seq := c.seq + 1, lost := 0, missed := 0, eligible := last + 1 }
  let place := fun (i : Nat) => match c.units.find? fun u => u.first ≤ i && i < u.first + u.items.length with
    | some u => (u.start, u.start + u.size)
    | none => (c.written, c.written)
  let r : CaptRecord := { seq := c1.seq, from_ := (place first).1, to_ := (place last).2 }
  let kept := c.records.filter fun x => unacked s n x.seq
  let s1 := setStream n { c1 with records := kept ++ [r] } (writeDram (c.desc.header + 64 * (c.seq % 2 ^ c.desc.hdrLog)) bytes s)
  let gen := match c.trigger with
    | some t => if t.source = 1 then t.gen + 1 else 0
    | none => 0
  publish 12 gen (setInt captPage 0 s1)

/-- The unacknowledged record whose header the next header would overwrite (R404, R409). -/
def headerHolder (s : State) (n : Nat) : List CaptRecord :=
  let c := stream s n
  c.records.filter fun r => r.seq + 2 ^ c.desc.hdrLog = c.seq + 1 && unacked s n r.seq

/-- Closes the record in POST with the items written up to `last`, and writes its header (R402 to R405, R413). -/
def closeRecord (n : Nat) (truncated : Bool) (s0 : State) : State :=
  let s := if (stream s0 n).desc.full then s0 else overflowed n (headerHolder s0 n) s0
  let c := stream s n
  match c.trigger with
  | none => s
  | some t =>
    let sp := c.span t
    let intact := (c.units.head?.map CaptUnit.first).getD c.count
    let last := if truncated then min sp.2.2 (c.count - 1) else sp.2.2
    let lostPre := min sp.1 (max intact sp.2.1) - sp.2.1
    let first := max intact sp.2.1
    let missing := (c.desc.pre - (sp.1 - sp.2.1)) + lostPre
    let flags := b2n (lostPre != 0) + 2 * b2n (sp.1 - c.eligible < c.desc.pre) + 4 * b2n truncated
    let dead := match c.lastTrigger with
      | some x => min (2 ^ 32 - 1) (c.rearmed - x)
      | none => 0
    let h := recordHeader c first last (sp.1 - first) missing t.instant dead (min 65535 t.missed) (t.source + 4 * t.num) flags
    let s1 := if truncated then setB (Reg.CAPT_STAT n) 6 true s else s
    if (c.desc.full && !(headerHolder s n).isEmpty) then s1
    else modStream n (fun x => { x with lastTrigger := some t.instant, missed := c.missed }) (putHeader n first last h s1)

/-- FULL is 1 and an unacknowledged record stands in the way: the stream stops (R409). -/
def fullStop (n : Nat) (s : State) : State := endStream n .fullStopped (closeRecord n true s)

/-- A stream ends at once: a partial unit is written uncoded, and a record in POST is closed TRUNCATED (R398, R413). -/
def stopStream (n : Nat) (rest : List CaptItem) (s : State) : State :=
  let c := stream s n
  if !c.phase.active then s
  else
    let bytes := c.desc.plain rest
    let blocked := overwritten s n (c.written + bytes.length)
    if !rest.isEmpty && c.desc.full && !blocked.isEmpty then fullStop n s
    else
      let s1 := if rest.isEmpty then s else putUnit n bytes rest (overflowed n blocked s)
      let t := (stream s1 n).trigger
      let complete := t.any fun x => decide (((stream s1 n).span x).2.2 < (stream s1 n).count)
      endStream n .done (if (stream s1 n).phase == .post then closeRecord n (!complete) s1 else s1)

/-- A coding unit of an active stream goes to its ring, or stops the stream (R403, R409). -/
def writeUnit (n : Nat) (items : List CaptItem) (bytes : List Byte) (s : State) : State :=
  let c := stream s n
  let blocked := overwritten s n (c.written + bytes.length)
  if !c.phase.active then s
  else if c.desc.full && !blocked.isEmpty then fullStop n s
  else putUnit n bytes items (overflowed n blocked s)

/-- A coding unit of any source but a cell's: a housekeeping item is the word that its conversion has left in HW_RESULT (R392). -/
def unitCoded (s : State) (d : CaptDesc) (items : List CaptItem) : List Byte :=
  if d.kind = 3 then toBytes 4 (reg s (Reg.HW_RESULT (10 + d.index / 32) (d.index % 32))).toNat else codeUnit d items

/-- The units that a source has completed: each loop record of the cell's last update is an item of its own, and every other source gives
the one that its items make (R300, R392, R395). -/
def sourceUnits (s : State) (d : CaptDesc) (items : List CaptItem) : List (List Byte) :=
  if d.kind = 7 then (SMap.get (fun _ => LoopCell.empty) s.cells d.index).record else [unitCoded s d items]

/-- A completed coding unit is written (R394, R403, R409, R411). -/
def execCaptUnitWritten (stream : Fin 256) (items : List CaptItem) (s : State) : Out :=
  .next (
    let n := stream.val
    let c := Machine.stream s n
    if items.length != c.desc.unitItems then s
    else forEach (sourceUnits s c.desc items) (writeUnit n items) s)

/-- Continuous mode: the items from the last record on make a record of POST items (R399, R408). -/
def closeContinuous (n : Nat) (s0 : State) : State :=
  let s := overflowed n (headerHolder s0 n) s0
  let c := stream s n
  let last := c.eligible + c.desc.post - 1
  let base := ((c.item c.eligible).map CaptItem.instant).getD 0
  putHeader n c.eligible last (recordHeader c c.eligible last 0 0 base 0 (min 65535 c.missed) 0 0) s

/-- The header of a record is written once its last unit is, and a triggered stream re-arms or ends (R399, R404, R413). -/
def execRecordHeaderWrite (stream : Fin 256) (rest : List CaptItem) (s : State) : Out :=
  .next (
    let n := stream.val
    let c := Machine.stream s n
    match c.phase, c.trigger with
    | .post, some t =>
      if c.count ≤ (c.span t).2.2 then s
      else if c.desc.full && !(headerHolder s n).isEmpty then fullStop n s
      else
        let s1 := closeRecord n false s
        let d := Machine.stream s1 n
        if d.desc.records != 0 && d.desc.records ≤ d.seq then endStream n .done s1
        else
          let s2 := setStream n { d with phase := .armed, trigger := none, rearmed := ptpNow s1 } s1
          if d.stopAfter then stopStream n rest s2 else s2
    | .running, _ =>
      if c.count < c.eligible + c.desc.post then s
      else if c.desc.full && !(headerHolder s n).isEmpty then fullStop n s
      else closeContinuous n s
    | _, _ => s)

/-! ### Triggers (R400, R401) -/

/-- The order of R400: pin, event, host. -/
def trigRank (source : Nat) : Nat := if source = 2 then 3 else if source = 1 then 2 else 1

/-- A trigger reaches a stream (R400). -/
def captTrigger (n source num instant gen : Nat) (s : State) : State :=
  let c := stream s n
  let now := s.time.uptime
  match c.phase, c.trigger with
  | .armed, _ =>
    setStream n { c with phase := .post, missed := 0, trigger := some { instant := instant, source := source, num := num, arrived := now, gen := gen, missed := c.missed } } s
  | .post, some t =>
    let better := t.arrived == now && decide (trigRank t.source < trigRank source)
    let t1 := if better then { t with instant := instant, source := source, num := num, gen := gen } else t
    setStream n { c with missed := c.missed + 1, trigger := some t1 } s
  | _, _ => setStream n { c with missed := c.missed + 1 } s

/-- CAPT_CMD.TRIGGER (R400, R401). -/
def execTrigger (req : Requester) (stream : Fin 256) (s : State) : Out :=
  .next (hostWrite req Reg.CAPT_CMD (fun t => captTrigger stream 3 0 (ptpNow t) 0 t) s)

/-- Whether a stream can take a trigger now: it is ARMED, or another trigger of this core cycle has just taken it to POST (R400). -/
def canTrigger (s : State) (n : Nat) : Bool :=
  match (stream s n).phase, (stream s n).trigger with
  | .armed, _ => true
  | .post, some t => t.arrived == s.time.uptime
  | _, _ => false

/-- The task input CAPT_TRIG_n; an event that finds the stream not ARMED is lost (R400, R401, R522, R528). -/
def execCaptTrig (stream : Fin 256) (s : State) : Out :=
  .next (match takeEvent (128 + stream.val) s with
    | none => s
    | some (g, t) =>
      captTrigger stream 1 (Machine.stream t stream).desc.trigNum (ptpNow t) g (whenB (!canTrigger t stream) (taskLost (128 + stream.val)) t))

/-- The time stamp of an edge, within 1 ns of the TIME clock, which ticks every 2 ns (R406). -/
def edgeStamp (s : State) (stamp : Nat) : Nat := max (ptpNow s - 1) (min (ptpNow s + 3) stamp)

/-- A selected edge on an input TRIG pin, time-stamped in PTP ns (R400, R406, R407). -/
def execTrigIn (pin : Fin 8) (rising : Bool) (stamp : Nat) (s : State) : Out :=
  .next (
    let cfg := reg s (Reg.TRIG_CFG pin)
    let chosen := if rising then bitOf cfg 1 else bitOf cfg 2
    if bitOf cfg 0 || !chosen then s
    else
      let t := ((edgeStamp s stamp : Int) - signed 16 (getF s (Reg.TRIG_COMP pin) 0 16)).toNat
      let watch := (List.range 256).filter fun n =>
        let d := (Machine.stream s n).desc
        d.trigKind = 2 && d.trigNum = pin.val
      forEach watch (fun n u => captTrigger n 2 pin t 0 u) (publish (16 + pin.val) 0 s))

/-! ### ARM and the other commands (R412, R413) -/

/-- The descriptor of a stream as it stands in shared SRAM (R415). -/
def readDesc (s : State) (n : Nat) : CaptDesc :=
  let w := fun (k : Nat) => word (readMem s (sramAt (getF s Reg.CAPT_CFG 14 10 * 0x4000 + 64 * n + 4 * k)) 4)
  { kind := fld (w 0) 0 4, index := fld (w 0) 8 13, continuous := bitOf (w 1) 0, full := bitOf (w 1) 1, comp := fld (w 1) 2 2
    tagged := bitOf (w 1) 4, size := fld (w 1) 8 6, hdrLog := fld (w 1) 16 5, data := join64 (w 2) (w 3)
    header := join64 (w 4) (w 5), pre := (w 6).toNat, post := (w 7).toNat, trigKind := fld (w 8) 0 2, trigNum := fld (w 8) 2 8
    records := fld (w 8) 16 16 }

/-- Whether a source exists on the variant (R2, R392). -/
def sourceExists (v : Variant) (d : CaptDesc) : Bool :=
  match d.kind with
  | 0 => d.index < v.slots
  | 1 => d.index < v.monitors
  | 2 => d.index < v.monitors
  | 3 => d.index < 192
  | 4 => d.index < v.tapWells / 2
  | 5 => d.index < v.slots
  | 6 => d.index % 4096 < v.slots
  | 7 => d.index < v.cells
  | 8 => d.index = 0
  | _ => true

/-- The first reason of R412 for which ARM is refused; 0 when it is accepted. -/
def armRefused (s : State) (n : Nat) (d : CaptDesc) : Nat :=
  let units := ceilDiv d.post d.unitItems
  if (stream s n).phase.active then 1
  else if !getBit s (Reg.STATUS captPage) 0 || throttle s 1 then 2
  else if !sourceExists s.variant d then 3
  else if 9 ≤ d.kind || d.comp = 3 || d.size < 16 || 34 < d.size || d.hdrLog < 4 || 16 < d.hdrLog || d.data % 0x10000 != 0 ||
      d.header % 0x1000 != 0 || s.dramSize < d.data + 2 ^ d.size || s.dramSize < d.header + 64 * 2 ^ d.hdrLog || d.post = 0 ||
      2 ^ d.size < units * d.unitBytes || d.trigKind = 3 then 4
  else if d.comp != 0 && d.itemBytes != 2 then 5
  else if 48000 < captRate s + d.rate then 6
  else 0

/-- ARM (R412, R416, R522). -/
def armStream (n : Nat) (s : State) : State :=
  let d := readDesc s n
  let r := armRefused s n d
  let s1 := setReg Reg.CAPT_RESULT (word (n + 2 ^ 8 * b2n (r != 0) + 2 ^ 9 * r)) s
  if r != 0 then s1
  else
    let s2 := setReg (Reg.CAPT_ACK n) 0 (setReg (Reg.CAPT_STAT n) 0 s1)
    let s3 := setStream n { CaptStream.empty with desc := d, phase := if d.continuous then .running else .armed } s2
    setTaskChannel (128 + n) (if d.trigKind = 1 then some d.trigNum else none) s3

/-- CAPT_CMD.ARM (R412). -/
def execArm (req : Requester) (stream : Fin 256) (s : State) : Out := .next (hostWrite req Reg.CAPT_CMD (armStream stream) s)

/-- CAPT_CMD.STOP (R413); `rest` is what the partial unit holds (R398). -/
def execCaptStop (req : Requester) (stream : Fin 256) (rest : List CaptItem) (s : State) : Out :=
  .next (hostWrite req Reg.CAPT_CMD (stopStream stream rest) s)

/-- CAPT_CMD.STOP_AFTER (R413). -/
def execStopAfter (req : Requester) (stream : Fin 256) (rest : List CaptItem) (s : State) : Out :=
  .next (hostWrite req Reg.CAPT_CMD (fun t =>
    if (Machine.stream t stream).phase == .post then modStream stream (fun c => { c with stopAfter := true }) t
    else stopStream stream rest t) s)

/-- A DRAM write of a stream is answered with an error (R413, R417). -/
def execWriteError (stream : Fin 256) (s : State) : Out :=
  .next (if !(Machine.stream s stream).phase.active then s
    else setFault captPage 0 (setB (Reg.CAPT_STAT stream) 7 true (endStream stream .error s)))

/-- CAPT stops: every stream stops as under STOP (R414). -/
def captStopAll (s : State) : State :=
  forEach ((s.streams.filter fun e => e.2.phase.active).map fun e => e.1) (fun n t => stopStream n [] t) s

/-- The TIME clock has stepped: streams at work note where (R408, R414). -/
def captStepped (s : State) : State :=
  { s with streams := s.streams.map fun e => (e.1, if e.2.phase.active then { e.2 with stepAt := some e.2.count } else e.2) }

/-! ### TRIG pins as outputs (R406) -/

/-- The task input TRIG_OUT_p (R406): a pulse follows, unless one is on its way or under way; the event of a pin that takes none is
lost (R528). -/
def execTrigOut (pin : Fin 8) (s : State) : Out :=
  .next (match takeEvent (16 + pin.val) s with
    | none => s
    | some (_, t) =>
      let cfg := reg t (Reg.TRIG_CFG pin)
      if !bitOf cfg 0 || (SMap.get (fun _ => none) t.trigPulse pin).isSome then taskLost (16 + pin.val) t
      else
        let from_ := t.time.uptime + 20 + fld cfg 16 10
        let v := some (from_, from_ + fld cfg 8 8)
        emit (.trigPin pin true from_) { t with trigPulse := SMap.set (fun _ => none) t.trigPulse pin v })

/-- An output TRIG pulse ends (R406). -/
def execTrigPulseEnd (pin : Fin 8) (s : State) : Out :=
  .next (match SMap.get (fun _ => none) s.trigPulse pin with
    | none => s
    | some (_, e) =>
      let s1 := advanceUptime e s
      emit (.trigPin pin false e) { s1 with trigPulse := SMap.set (fun _ => none) s1.trigPulse pin none })

/-- A change of DIR takes effect at once: a pulse under way ends (R406). -/
def trigDirChanged (p : Nat) (s : State) : State :=
  if (SMap.get (fun _ => none) s.trigPulse p).isSome then
    emit (.trigPin p false s.time.uptime) { s with trigPulse := SMap.set (fun _ => none) s.trigPulse p none }
  else s

end Sys2Proof.Machine
end

