-- ==== Sys2Proof/Machine/Ring.lean ====
section
/-! DEFINITION. The ring (R418 to R458): lanes, joining and leaving, the commit protocol, disagreements and leadership. -/

namespace Sys2Proof.Machine

open Sys2Proof

/-! ### Peers and what the page shows (R430 to R434, R457) -/

/-- What is known of a position. -/
def peer (s : State) (p : Nat) : RingPeer := SMap.get (fun _ => RingPeer.empty) s.ring.peers p

/-- Changes what is known of a position. -/
def modPeer (p : Nat) (f : RingPeer → RingPeer) (s : State) : State :=
  { s with ring := { s.ring with peers := SMap.set (fun _ => RingPeer.empty) s.ring.peers p (f (peer s p)) } }

/-- Changes the ring's state. -/
def modRing (f : RingState → RingState) (s : State) : State := { s with ring := f s.ring }

/-- The state of a position: 0 absent, 1 probe, 2 joining, 3 joined, 4 lost. -/
def peerState (s : State) (p : Nat) : Nat := getF s (Reg.RING_PEER_A p) 0 3

/-- STATE: 0 PROBE, 1 JOINING, 2 JOINED, 3 OUT. -/
def joinState (s : State) : Nat := getF s Reg.RING_STATUS 5 3

/-- TERM. -/
def ringTerm (s : State) : Nat := getF s Reg.RING_STATUS 16 16

/-- The own leadership claim; none while it is set aside (R448, R451). -/
def ownClaim (s : State) : Nat := if s.ring.aside then 0 else 4 * getF s Reg.RING_CFG 4 4 + (3 - ringPos s)

/-- Whether this member leads other members. -/
def ringLeader (s : State) : Bool := !standAlone s && getBit s Reg.RING_STATUS 4

/-- A leader is known: the member has JOINED. -/
def leaderKnown (s : State) : Bool := joinState s = 2

/-- Whether the ring runs on this member: its ENABLE is 1 and it is not OUT (R434). -/
def ringRuns (s : State) : Bool := !standAlone s && enabled s ringPage && joinState s != 3

/-- Whether frames other than HELLO pass from a position: it is not held in probe (R430). -/
def ringHears (s : State) (p : Nat) : Bool := ringRuns s && p != ringPos s && p < ringSize s && peerState s p != 1

/-- ALL_JOINED and COMMITS_HELD (R432, R433). -/
def refreshRing (s : State) : State :=
  let others := otherPositions s
  let all := joinState s = 2 && others.all fun p => peerState s p = 3
  let held := ringLeader s && (!all || others.any fun p => !getBit s (Reg.RING_PEER_A p) 16 || getBit s (Reg.RING_PEER_A p) 18)
  setB Reg.RING_STATUS 10 held (setB Reg.RING_STATUS 8 all s)

/-- A frame from another member has come (R451). -/
def frameCame (s : State) : State := modRing (fun r => { r with lastFrame := s.time.uptime }) s

/-! ### Digests (R435, R436, R444) -/

/-- CONFIG_DIGEST (R435). -/
def configDigest (s : State) : List Byte :=
  let be := fun (w : Word) => beBytes 4 w.toNat
  let variant := word (b2n (decide (s.variant = .pe1280)) + 16 * s.variant.columns)
  shake128 (be (reg s Reg.ROUTE_NET) ++ (((List.range 19).map fun q => be (reg s (Reg.ROUTE_STAGE_MAP q))).flatten) ++
    be (act s Reg.VRD_CFG) ++ be (reg s Reg.VRD_PILOT_CFG) ++ be (word (ringSize s)) ++ be (reg s Reg.RING_TIME_TOL) ++ be variant)

/-- The 2 KiB input attenuation table of a preset. -/
def attenBytes (s : State) (n : Nat) : List Byte := (List.range 0x800).map fun o => memByte s (presetAt n (0x800 + o))

/-- The digest of a member's part of a routed epoch: its column states, the path entries of its slots in slot order, and the input
attenuation table (R436). -/
def routedDigest (s : State) (cells : List StagedCell) (preset : Nat) : List Byte :=
  let path := fun (x : Nat) => match cells.find? fun c => c.slot == x with
    | some c => toBytes 4 c.path.toNat
    | none => toBytes 4 0
  shake128 (stateBytes cells ++ ((allSlots s).map path).flatten ++ attenBytes s preset)

/-- PRESET_DIGEST as stored (R169). -/
def storedDigest (s : State) (n : Nat) : List Byte := (List.range 16).map fun o => memByte s (presetAt n (0xF010 + o))

/-- The payload digest of a position for an epoch (R436). -/
def payloadDigestOf (s : State) (pos : Nat) (e : Epoch) : List Byte :=
  match e.routed, e.result with
  | true, some r => routedDigest s (if pos = ringPos s then e.staged.getD [] else memberCells s pos r) e.preset
  | true, none => routedDigest s (e.staged.getD []) e.preset
  | false, _ => storedDigest s e.preset

/-- The digest of the 64 PRESET_STATUS and PRESET_GEN words (R444). -/
def presetsDigest (s : State) : List Byte :=
  shake128 (((List.range 64).map fun n => toBytes 4 (presetStatus s n).toNat ++ (List.range 4).map fun o => memByte s (presetAt n (0xF004 + o))).flatten)

/-! ### Lanes (R421, R423, R424) -/

/-- Counts replayed frames (R457). -/
def countReplays (n : Nat) (s : State) : State := addF Reg.RING_COUNT 0 16 n s

/-- A frame as it is replayed once more. -/
def LaneFrame.again (f : LaneFrame) : LaneFrame := { f with replays := f.replays + 1 }

/-- A lane takes over the frames of another: those sent are replayed, and those that wait go on waiting (R423). -/
def RingLane.takeOver (x y : RingLane) : RingLane :=
  let z := y.sent.foldl RingLane.charge x
  { z with sent := x.sent ++ y.sent.map LaneFrame.again, waiting := x.waiting ++ y.waiting }

/-- What waits on a lane that is up goes out as far as it can. -/
def drainUp (l : Nat) (s : State) : State := if laneState s l = 2 then stampLanes s { s with ring := s.ring.drain l } else s

/-- The frames of a FAILED lane are replayed on the other lane of the hop, or on the other hop (R423, R424). -/
def moveFrames (l : Nat) (s : State) : State :=
  let x := ringLane s l
  let s1 := modLane l (fun _ => { RingLane.empty with probation := x.probation, failedAt := x.failedAt }) s
  let own := laneHop l
  match (upLanes s1 own ++ upLanes s1 (1 - own)).head? with
  | some m => countReplays x.sent.length (modLane m (fun y => { y.takeOver x with ackAt := s.time.uptime }) s1)
  | none => s1

/-- A lane becomes FAILED (R423, R458). -/
def failLane (l : Nat) (s : State) : State :=
  if laneState s l = 3 then s
  else
    let s1 := modLane l (fun x => { x with probation := true, failedAt := s.time.uptime }) (setF (Reg.RING_LANE l) 0 2 3 s)
    setFault ringPage 4 (setInt ringPage 5 (moveFrames l s1))

/-- A lane replays everything from its first unacknowledged frame; a frame replayed four times fails the lane (R423). -/
def replayLane (l : Nat) (s : State) : State :=
  let n := (ringLane s l).sent.length
  let s1 := countReplays n (modLane l (fun x => { x with sent := x.sent.map LaneFrame.again, ackAt := s.time.uptime }) s)
  if (ringLane s1 l).sent.any fun f => 4 ≤ f.replays then failLane l s1 else s1

/-- CRC errors that this end's receiver has met on a lane (R423). -/
def noteCrc (l n : Nat) (s : State) : State :=
  modLane l (fun x => { x with crcTimes := (List.replicate (min 32 n) s.time.uptime ++ x.crcTimes).take 32 }) (addF (Reg.RING_LANE l) 16 16 n s)

/-- 32 CRC errors lie within 1 ms (R423). -/
def crcFails (s : State) (l : Nat) : Bool :=
  match (ringLane s l).crcTimes[31]? with
  | some t => s.time.uptime ≤ t + 1000000
  | none => false

/-- A link-control block comes in on a lane (R423, R426, R457): frames up to the acknowledged one are kept no longer, and a
negative acknowledgement replays the rest. With it the receiver returns the credits of flits that have left its buffer, and the lane
sends what waits (R425, assumption 53). `crcErrors` and `discarded` count what this end's receiver has met since the last block. -/
def execLinkControlBlock (lane : Fin 4) (ack : LaneAck) (nack : Bool) (crcErrors discarded : Nat) (s : State) : Out :=
  .next (
    let l := lane.val
    if laneState s l = 1 && (ringLane s l).lockedAt.isSome && crcErrors != 0 then
      modLane l (fun x => { x with lockedAt := some s.time.uptime }) (addF (Reg.RING_LANE l) 16 16 crcErrors s)
    else if laneState s l != 2 then s
    else
      let s1 := addF Reg.RING_COUNT 24 8 discarded (noteCrc l crcErrors s)
      let s2 := modLane l (fun x => ack.credits.foldl RingLane.credit
        { x with sent := x.sent.filter fun f => !((ack.upTo.toNat + 4096 - f.seq) % 4096 < 2048) }) s1
      if crcFails s2 l then failLane l s2 else drainUp l (if nack then replayLane l s2 else s2))

/-- 2 µs have passed without an acknowledgement (R423). -/
def execReplayTimeout (lane : Fin 4) (s : State) : Out :=
  .next (if laneState s lane = 2 && !(ringLane s lane).sent.isEmpty then replayLane lane (advanceUptime ((ringLane s lane).ackAt + 2000) s) else s)

/-- A lane has lost block lock for 1 µs, or met 32 CRC errors within 1 ms, the last of them counted here (R423). -/
def execLaneFailed (lane : Fin 4) (crcErrors : Nat) (s : State) : Out :=
  .next (if laneState s lane = 0 then s else failLane lane (addF (Reg.RING_LANE lane) 16 16 crcErrors s))

/-- A FAILED lane retrains, 1 ms after it failed (R423). -/
def execLaneRetrain (lane : Fin 4) (s : State) : Out :=
  .next (if laneState s lane = 3 then
      bumpF (Reg.RING_LANE lane) 8 8 (setF (Reg.RING_LANE lane) 0 2 1
        (modLane lane (fun x => { x with lockedAt := none, crcTimes := [] }) (advanceUptime ((ringLane s lane).failedAt + 1000000) s)))
    else s)

/-- A lane in training reaches block lock; after a failure it waits for 10 ms without a CRC error (R421, R423). -/
def execLaneBlockLock (lane : Fin 4) (s : State) : Out :=
  .next (if laneState s lane != 1 then s
    else if (ringLane s lane).probation then modLane lane (fun x => { x with lockedAt := some s.time.uptime }) s
    else setF (Reg.RING_LANE lane) 0 2 2 s)

/-- A retrained lane returns to service, 10 ms after its training or its last CRC error since (R423). -/
def execLaneReturnToService (lane : Fin 4) (s : State) : Out :=
  .next (match (ringLane s lane).lockedAt with
    | some t =>
      if laneState s lane = 1 && (ringLane s lane).probation then
        modLane lane (fun x => { x with probation := false, lockedAt := none })
          (setF (Reg.RING_LANE lane) 0 2 2 (advanceUptime (t + 10000000) s))
      else s
    | none => s)

/-- RING_COUNT_CLR (R457). -/
def execRingCountClr (req : Requester) (s : State) : Out := .next (hostWrite req Reg.RING_COUNT_CLR (setReg Reg.RING_COUNT 0) s)

/-! ### Leadership (R447 to R454, R467) -/

/-- The member learns of a leader or a term (R449, R458, R520). -/
def leaderChanged (p term : Nat) (s : State) : State :=
  let same := leaderPos s = p && ringTerm s = term && leaderKnown s
  let s1 := setF Reg.RING_STATUS 16 16 term (setF Reg.RING_STATUS 2 2 p s)
  if same then s1 else publish 3 0 (setInt ringPage 2 s1)

/-- RING_DISCIPLINED follows (R467). -/
def disciplineFollows (s : State) : State :=
  setB Reg.TIME_STATUS 2 (!standAlone s && joinState s = 2 && !ringLeader s && getBit s Reg.RING_CFG 10) s

/-- A skew calibration that runs ends on this member with its trim kept (R235, R455). -/
def skewEnd (s : State) : State :=
  setB Reg.SHAPE_ALIGN_STATUS 0 false { s with align := { s.align with first := none } }

/-- The skew calibration that runs is aborted here; the ring's other members hear of it (R235, R455, assumption 77). -/
def skewAbort (s : State) : State :=
  if getBit s Reg.SHAPE_ALIGN_STATUS 0 then ringSend 0x23 (otherMembers s) [2] (skewEnd s) else s

/-- The member follows a leader: its roles and pins go to it (R165, R448, R449). -/
def followLeader (p term : Nat) (s : State) : State :=
  let s1 := skewEnd (leaderChanged p term (setB Reg.RING_STATUS 4 false s))
  let s2 := modRing (fun r => { r with takebackPos := none, handover := none }) { s1 with handedOff := false }
  let roles := (allSlots s2).filter fun x => act s2 (Reg.SLOT_CFG x) != 0
  let s3 := ringSend 0x20 (2 ^ p) (roles.map fun x => [x, (act s2 (Reg.SLOT_CFG x)).toNat]).flatten s2
  refreshRing (disciplineFollows s3)

/-- The member leads with a term (R449, R450): it numbers on from the highest committed number it knows. -/
def takeLeadership (term : Nat) (s : State) : State :=
  let num := (otherPositions s).foldl (fun m p => max m (peer s p).epochNum) (max s.epochNumber (reg64 s Reg.EPOCH_LAST_NUM_LO))
  let s1 := skewEnd (leaderChanged (ringPos s) term (setB Reg.RING_STATUS 9 true (setB Reg.RING_STATUS 4 true s)))
  let s2 := { s1 with epochNumber := num, handedOff := false }
  refreshRing (disciplineFollows (ringSend 0x04 (otherMembers s2) [term, ownClaim s2] s2))

/-- The next term (R449). -/
def nextTerm (s : State) : Nat := (ringTerm s + 1) % 65536

/-- The member that led gives up: its queue is dropped as FLUSHED, with reports (R451). -/
def giveUpLead (s : State) : State := setB Reg.RING_STATUS 4 false (flushEpochs 4 s)

/-- Two leaders know each other: the one with the lower claim gives up (R451). -/
def meetLeader (p term claim : Nat) (s : State) : State :=
  if ringLeader s && ownClaim s < claim then followLeader p term (giveUpLead s) else s

/-- Whether another position was heard within the last 3 ms (R449). -/
def heardLately (s : State) (p : Nat) : Bool := (peer s p).heard.any fun t => s.time.uptime ≤ t + 3000000

/-- The election after the leader at a position is lost (R449, R450). -/
def elect (lost : Nat) (s : State) : State :=
  let rivals := (otherPositions s).filter fun p => p != lost && peerState s p = 3 && heardLately s p
  if rivals.all fun p => (peer s p).claim < ownClaim s then
    let s1 := takeLeadership (nextTerm s) (bumpF Reg.RING_COUNT 16 8 s)
    modRing (fun r => { r with takebackPos := some lost }) s1
  else s

/-- What a leader had queued and its schedule are gone from this member; committed epochs stay (R441, R450, R454, R455). -/
def dropQueue (s : State) : State :=
  showQueue (setB Reg.SCHED_CTRL 9 false (setB Reg.SCHED_CTRL 8 false
    { s with epochs := s.epochs.filter fun e => e.phase != .queued, schedule := none, submission := none }))

/-- A handover to a member, or from it, falls with that member (R453, R454). -/
def dropHandover (p : Nat) (s : State) : State :=
  let s1 := if s.ring.handover.any fun h => h.target == p then { modRing (fun r => { r with handover := none }) s with handedOff := false } else s
  if leaderPos s1 = p then modRing (fun r => { r with incoming := none }) s1 else s1

/-- A member is lost (R434, R449, R458). -/
def losePeer (p : Nat) (s : State) : State :=
  if peerState s p = 4 || peerState s p = 0 then s
  else
    let s1 := modPeer p (fun x => { x with heard := none }) (setB (Reg.RING_PEER_A p) 16 false (setF (Reg.RING_PEER_A p) 0 3 4 s))
    let s2 := refreshRing (setInt ringPage 1 (dropHandover p s1))
    if joinState s2 = 2 && !ringLeader s2 && leaderPos s2 = p then elect p (setFault ringPage 3 s2) else s2

/-- LEAVE comes from a member (R434, R449). -/
def execLeave (source : Fin 4) (s : State) : Out :=
  .next (if ringHears s source then losePeer source (forwardOn 0x03 source 0 (frameCame s)) else s)

/-- A member has been silent for 3 ms (R434, R449). -/
def execMemberSilent (position : Fin 4) (s : State) : Out :=
  .next (match (peer s position).heard with
    | some t => if ringHears s position then losePeer position (advanceUptime (t + 3000000) s) else s
    | none => s)

/-- LEAD comes from a member: a higher term is accepted, between LEADs of one term the higher claim wins, and a leader gives up to a
leader of a higher claim (R449, R451). -/
def execLead (source : Fin 4) (term : BitVec 16) (claim : Nat) (s : State) : Out :=
  .next (
    let p := source.val
    let t := term.toNat
    if !ringHears s p then s
    else
      let s1 := modPeer p (fun x => { x with claim := claim }) (forwardOn 0x04 p 2 (frameCame s))
      let rival := if ringLeader s1 then ownClaim s1 else (peer s1 (leaderPos s1)).claim
      if claimHigher t (ringTerm s1) then followLeader p t (if ringLeader s1 then giveUpLead s1 else s1)
      else if (t = ringTerm s1 || ringLeader s1) && rival < claim then followLeader p t (if ringLeader s1 then giveUpLead s1 else s1)
      else s1)

/-- The leader has heard no member for 3 ms: it gives up, and what it had queued is lost as a lost leader's is (R450, R451). -/
def execLeaderIsolated (s : State) : Out :=
  .next (if !ringLeader s then s
    else
      let s1 := setF Reg.RING_STATUS 5 3 0 (setB Reg.RING_STATUS 4 false (advanceUptime (s.ring.lastFrame + 3000000) s))
      disciplineFollows (refreshRing (modRing (fun r => { r with aside := true, handover := none }) { dropQueue s1 with handedOff := false })))

/-! ### Joining and leaving (R430 to R434) -/

/-- The reason for which a neighbour is held in probe; 0 when it is admitted (R430). -/
def excludeReason (s : State) (lane : Nat) (h : Hello) : Nat :=
  let known := if leaderKnown s && !ringLeader s then (peer s (leaderPos s)).hello else none
  let low := match known with | some k => k.low | none => Config.protoLow.toNat
  let high := match known with | some k => k.high | none => Config.protoHigh.toNat
  let variant := match known with | some k => k.variant | none => s.variant
  if h.proto < low || high < h.proto then 1
  else if h.variant != variant then 2
  else if !h.xref then 3
  else if h.pos.val != laneNeighbour s lane || ringSize s ≤ h.pos.val then 4
  else if h.size != ringSize s then 5
  else 0

/-- A link on which both ends have admitted each other (R432). -/
def bothAdmit (s : State) (p : Nat) : Bool := 2 ≤ peerState s p && peerState s p ≤ 3 && ((peer s p).hello.any fun h => h.admits)

/-- The member becomes JOINED (R432, R448, R458). -/
def becomeJoined (s : State) : State :=
  let ps := (otherPositions s).filter fun p => bothAdmit s p
  let led := ps.findSome? fun p => match (peer s p).hello with
    | some h => h.leader.map fun l => (l.val, h.term)
    | none => none
  let s1 := forEach ps (fun p t => setF (Reg.RING_PEER_A p) 0 3 3 t) (setF Reg.RING_STATUS 5 3 2 s)
  let s2 := publish 2 0 (setInt ringPage 0 (setB Reg.GLB_PRIME_STATUS 8 false (modRing (fun r => { r with aside := false, lastFrame := s.time.uptime }) s1)))
  match led with
  | some (l, t) => if l = ringPos s2 then takeLeadership (nextTerm s2) s2 else followLeader l t s2
  | none =>
    match ps.find? fun p => ps.all (fun q => (peer s2 q).claim ≤ (peer s2 p).claim) && ownClaim s2 < (peer s2 p).claim with
    | some p => followLeader p (ringTerm s2) s2
    | none => takeLeadership (nextTerm s2) s2

/-- Joining goes as far as the links allow (R432). -/
def joinStep (s : State) : State :=
  let others := otherPositions s
  if joinState s = 2 then
    refreshRing (forEach (others.filter fun p => peerState s p = 2 && bothAdmit s p) (fun p t => setF (Reg.RING_PEER_A p) 0 3 3 t) s)
  else if joinState s = 3 then s
  else if others.any fun p => bothAdmit s p then refreshRing (becomeJoined s)
  else setF Reg.RING_STATUS 5 3 (if others.any fun p => peerState s p = 2 then 1 else 0) s

/-- A HELLO comes from a neighbour (R430 to R432, R451). -/
def execHello (lane : Fin 4) (hello : Hello) (s : State) : Out :=
  .next (
    let p := hello.pos.val
    if !ringRuns s || laneState s lane != 2 then s
    else
      let r := excludeReason s lane hello
      let a := Reg.RING_PEER_A p
      let s1 := setReg (Reg.RING_PEER_B p) hello.firmware (setF a 8 8 hello.proto (setF a 4 4 r
        (modPeer p (fun x => { x with hello := some hello, claim := hello.claim }) (frameCame s))))
      if r != 0 then refreshRing (setFault ringPage 1 (setF a 0 3 1 s1))
      else
        let s2 := if peerState s1 p = 3 then s1 else setF a 0 3 2 s1
        let s3 := joinStep s2
        let differs := hello.firmware != reg s3 Reg.RING_FW_VER
        let s4 := if ringLeader s3 then whenB (differs && !getBit s3 a 17) (setInt ringPage 7) (setB a 17 differs s3) else s3
        match hello.leader with
        | some l => if l = hello.pos then meetLeader p hello.term hello.claim s4 else s4
        | none => s4)

/-- Lanes begin training (R421, R432). -/
def trainLanes (s : State) : State :=
  forEach (List.range 4) (fun l t => if laneState t l = 0 then setF (Reg.RING_LANE l) 0 2 1 t else t) s

/-- HELLO goes out on every lane that is up (R429, R430). -/
def sendHello (s : State) : State :=
  let ls := (List.range 4).filter fun l => laneState s l = 2
  let known := if leaderKnown s then leaderPos s else 7
  neighbourSend 0x01 ls [1, b2n (decide (s.variant = .pe1280)), ringPos s, ringSize s, getF s Reg.CLK_SRC_STATUS 3 1, Config.serial.toNat,
    (reg s Reg.RING_FW_VER).toNat, ownClaim s, ringTerm s, known] s

/-- After training, every 10 ms (R429). -/
def execHelloSend (s : State) : Out := .next (if ringRuns s then sendHello (periodic 0x01 10000000 s) else s)

/-- The member tries to join (R432). -/
def tryJoin (s : State) : State :=
  if standAlone s || !enabled s ringPage || joinState s = 2 then s
  else sendHello (joinStep (trainLanes (if joinState s = 3 then setF Reg.RING_STATUS 5 3 0 s else s)))

/-- Every 100 ms a member outside the ring retries (R432). -/
def execJoinRetry (s : State) : Out :=
  .next (if getBit s Reg.GLB_PRIME_STATUS 8 && getBit s Reg.RING_CFG 8 then tryJoin (periodic 0 100000000 s) else s)

/-- RING_CMD.JOIN (R432). -/
def execJoin (req : Requester) (s : State) : Out := .next (hostWrite req Reg.RING_CMD tryJoin s)

/-- The member leaves the ring: LEAVE goes out, its lanes go idle, and what it led is lost without reports (R434, R450). -/
def leaveRing (s : State) : State :=
  if standAlone s || joinState s = 3 then s
  else
    let s1 := ringSend 0x03 (otherMembers s) [] s
    let s2 := if ringLeader s1 then discardEpochs s1 else s1
    let s3 := forEach (List.range 4) (fun l t => setF (Reg.RING_LANE l) 0 2 0 (modLane l (fun _ => RingLane.empty) t)) s2
    let s4 := forEach (List.range 4) (fun p t => setF (Reg.RING_PEER_A p) 0 3 0 t) s3
    let s5 := setB Reg.RING_STATUS 9 false (setB Reg.RING_STATUS 11 false (setB Reg.RING_STATUS 4 false (setF Reg.RING_STATUS 5 3 3 s4)))
    disciplineFollows (refreshRing (skewEnd (modRing (fun r => { r with
      peers := [], sentAt := [], handover := none, incoming := none, takebackPos := none, adopting := [], payloads := [], goodRun := 0
      lastOffset := none, overSince := none }) { s5 with handedOff := false })))

/-- RING_CMD.LEAVE (R434). -/
def execRingLeave (req : Requester) (s : State) : Out := .next (hostWrite req Reg.RING_CMD leaveRing s)

/-! ### Heartbeats and adoption (R429, R443, R444, R453, R467, R470) -/

/-- Every 100 µs the member sends HEARTBEAT (R429, R444, R445, R467, R470). -/
def execHeartbeatSend (s : State) : Out :=
  .next (if ringRuns s && joinState s = 2 then
      let s1 := periodic 0x02 100000 s
      let c := s1.time
      ringSend 0x02 (otherMembers s) ([b2n (ringLeader s), ownClaim s, ringTerm s, reg64 s Reg.EPOCH_LAST_NUM_LO,
        unsignedOf 32 s.ring.offset, b2n (getBit s Reg.RING_STATUS 9), b2n (getBit s Reg.RING_STATUS 11), b2n (getBit s Reg.RING_CFG 9),
        c.incrNow, s.ring.epsilon, c.steps] ++ (presetsDigest s).map BitVec.toNat) s1
    else s)

/-- A handover is decided (R453). -/
def startHandover (p : Nat) (s : State) : State :=
  if s.ring.handover.isSome then s
  else modRing (fun r => { r with handover := some { target := p, since := s.time.uptime, at_ := none } }) s

/-- The take-back of R453, once its conditions hold. -/
def takebackCheck (p : Nat) (s : State) : State :=
  let a := Reg.RING_PEER_A p
  if ringLeader s && s.ring.takebackPos == some p && peerState s p = 3 && getBit s a 16 && !getBit s a 18 && (peer s p).takeback then
    startHandover p s
  else s

/-- One preset as the leader sends it to a position: VALID, and what a preparation brings, with the column states and path entries that
routing its port table gives that member (R170, R444, assumption 84). -/
def adoptionData (s : State) (p n : Nat) : List Nat :=
  let cells := if presetValid s n then memberCells s p (routeNow s (presetPerm s n) false) else []
  b2n (presetValid s n) :: presetMessage s n cells

/-- The leader finds a member's preset state different (R444). -/
def sendAdopt (p : Nat) (presets : List Nat) (s : State) : State :=
  forEach presets (fun n t => ringSend 0x41 (2 ^ p) (adoptionData t p n) t) (ringSend 0x15 (2 ^ p) presets s)

/-- What the leader makes of a member's HEARTBEAT (R433, R444, R445, R453). -/
def leaderHears (p : Nat) (b : Heartbeat) (s : State) : State :=
  let a := Reg.RING_PEER_A p
  let was := getBit s a 16
  let s1 := setReg (Reg.RING_PEER_C p) (word (unsignedOf 32 b.offset)) (setB a 18 b.adopting (setB a 16 b.trusted s))
  let s2 := if was && !b.trusted then setFault ringPage 2 (setInt ringPage 4 s1) else s1
  let s3 := if b.digest != presetsDigest s2 && !b.adopting then sendAdopt p (b.differs.map fun n => n.val) s2 else s2
  takebackCheck p (refreshRing s3)

/-- What a follower makes of the leader's HEARTBEAT (R467, R470). -/
def followerHears (b : Heartbeat) (s : State) : State :=
  let stepped := b.steps != s.ring.leaderSteps
  let s1 := modRing (fun r => { r with epsilon := b.epsilon, leaderSteps := b.steps, leaderIncr := some b.increment }) s
  let s2 := if stepped then { s1 with align := { s1.align with skip := true } } else s1
  if getBit s2 Reg.RING_CFG 10 && incrOk b.increment then setIncr b.increment s2 else s2

/-- A HEARTBEAT comes from a member (R429, R432, R444, R451). -/
def execHeartbeat (source : Fin 4) (beat : Heartbeat) (s : State) : Out :=
  .next (
    let p := source.val
    if !ringHears s p then s
    else
      let s1 := setReg (Reg.RING_PEER_D p) (lo32 beat.epochNum) (modPeer p (fun x => { x with
        claim := beat.claim, heard := some s.time.uptime, epochNum := beat.epochNum, offset := beat.offset, takeback := beat.takeback }) (forwardOn 0x02 p 27 (frameCame s)))
      let s2 := if joinState s1 = 2 && peerState s1 p != 3 then refreshRing (setF (Reg.RING_PEER_A p) 0 3 3 s1) else s1
      let s3 := if beat.leads then meetLeader p beat.term beat.claim s2 else s2
      if ringLeader s3 then leaderHears p beat s3
      else if joinState s3 = 2 && leaderPos s3 = p then followerHears beat s3
      else s3)

/-- ADOPTING ends with the last preset (R444, R458). -/
def adoptionStep (n : Nat) (s : State) : State :=
  if s.ring.adopting.isEmpty then s
  else
    let left := s.ring.adopting.filter fun x => x != n
    let s1 := modRing (fun r => { r with adopting := left }) s
    if left.isEmpty then setInt ringPage 6 (setB Reg.RING_STATUS 11 false s1) else s1

/-- ADOPT comes from the leader (R444). -/
def execAdopt (presets : List (Fin 64)) (s : State) : Out :=
  .next (if ringRuns s && !ringLeader s && joinState s = 2 && !presets.isEmpty then
      setB Reg.RING_STATUS 11 true (modRing (fun r => { r with adopting := presets.map fun n => n.val }) (frameCame s))
    else s)

/-- A cell as it stands in staging. -/
def CellData.staged (c : CellData) : StagedCell := { slot := c.slot, cross := c.cross, path := c.path }

/-- PRESET_DATA comes from the leader: an adopting member takes the leader's PRESET_GEN, and for a preparation it increments its own
(R170, R265, R444). -/
def execPresetData (data : PresetFrame) (s : State) : Out :=
  .next (if ringRuns s && !ringLeader s && joinState s = 2 then
      let n := data.preset.val
      let s1 := writeMem (presetAt n 0) (data.tables.take 0x1000) (frameCame s)
      let gen := if s.ring.adopting.contains n then data.gen else presetGen s n + 1
      let s2 := storePreset n gen (data.cells.map CellData.staged) s1
      adoptionStep n (if data.valid then s2 else clearPreset n s2)
    else s)

/-- PRESET_INVALIDATE comes from the leader (R171, R444). -/
def execPresetInvalidate (preset : Fin 64) (s : State) : Out :=
  .next (if ringRuns s && !ringLeader s && joinState s = 2 then clearPreset preset (forwardOn 0x24 (leaderPos s) 1 (frameCame s)) else s)

/-! ### Committing an epoch (R437 to R442) -/

/-- Records a configuration disagreement (R440). -/
def recordNack (num pos code : Nat) (s : State) : State :=
  let s1 := setF Reg.RING_NACK 20 2 pos (setF Reg.RING_NACK 16 3 code (bumpF Reg.RING_NACK 0 16 s))
  setFault ringPage 0 (setInt ringPage 3 (setReg64 Reg.RING_NACK_EPOCH_LO num s1))

/-- The leader sends ABORT, and the epoch is dropped as NOT_COMMITTED (R440). -/
def abortEpoch (pos code : Nat) (e : Epoch) (s : State) : State :=
  let num := e.num.getD 0
  let s1 := ringSend 0x13 (otherMembers s) [num, pos, code] s
  dropEpoch 1 e.id (if code = 1 || code = 2 then recordNack num pos code s1 else s1)

/-- The member's reasons to refuse an epoch, given what PREPARE said; 0 for ACK (R439). -/
def nackReason (s : State) (config payload : List Byte) (e : Epoch) : Nat :=
  if configDigest s != config then 1
  else if payloadDigestOf s (ringPos s) e != payload || !presetValid s e.preset then 2
  else if !getBit s (Reg.STATUS epochPage) 0 || epochsBarred s then 3
  else if getBit s Reg.RING_STATUS 11 then 4
  else 0

/-- An epoch as HANDOVER_STATE carries it. -/
def Epoch.handed (e : Epoch) : HandedEpoch :=
  { desc := e.desc, instant := e.t, fixed := e.fixed, num := e.num, late := e.late, scheduled := e.scheduled, override := e.override }

/-- What HANDOVER_STATE carries (R454). -/
def handoverState (s : State) (ms : Option Nat) : HandoverState :=
  { queue := (s.epochs.filter fun e => e.phase == .queued && !e.follower).map Epoch.handed
    banks := ((List.range 64).map fun j => reg s (Reg.SCHED_A j)) ++ (List.range 64).map fun j => reg s (Reg.SCHED_B j)
    lengths := reg s Reg.SCHED_LEN, control := reg s Reg.SCHED_CTRL, lead := reg s Reg.SCHED_LEAD
    running := s.schedule.map fun c => { base := c.base, next := c.next, instant := c.at_, first := c.first, stop := c.stopAt, switch := c.switchAt, ends := c.ends }
    nextNum := s.epochNumber + 1, marks := (List.range 32).map fun n => reg s (Reg.ROUTE_PORT_FAILED n), millisecond := ms }

/-- The leader sends HANDOVER_STATE and accepts no more submissions (R454). -/
def sendHandover (ms : Option Nat) (s : State) : State :=
  match s.ring.handover with
  | none => s
  | some h =>
    if s.handedOff then s else
    let v := handoverState s ms
    let content := [v.nextNum, v.queue.length] ++ (v.queue.map fun e => [e.instant, e.num.getD 0] ++ e.desc.map BitVec.toNat).flatten ++
      (v.banks ++ [v.lengths, v.control, v.lead] ++ v.marks).map BitVec.toNat
    ringSend 0x25 (2 ^ h.target) content { s with handedOff := true }

/-- All members have voted ACK in time: the leader sends COMMIT (R440, R441). -/
def tryCommit (id : Nat) (s : State) : State :=
  match s.epochs.find? fun e => e.id == id with
  | none => s
  | some e =>
    if e.prepared && e.phase == .queued && !epochsBarred s && (List.range (ringSize s)).all (fun p => e.acks.contains p) && ptpNow s + 3000 ≤ e.t then
      sendHandover none (ringSend 0x12 (otherMembers s) [e.num.getD 0] (commitEpoch e s))
    else s

/-- The leader sends each member its PREPARE and votes itself (R433, R437, R439). -/
def execPrepareSend (s : State) : Out :=
  .next (
    if !ringLeader s || getBit s Reg.RING_STATUS 10 then s
    else match s.epochs.find? fun e => e.fixed && !e.prepared && e.phase == .queued && !e.follower && e.staged.isSome with
      | none => s
      | some e0 =>
        let s0 := advanceTo (e0.t - 10000) s
        let s1 := if e0.num.isSome then s0 else takeNumber e0.id (nextNumber s0).1 (nextNumber s0).2
        let e := (s1.epochs.find? fun x => x.id == e0.id).getD e0
        let config := configDigest s1
        let head := [e.id, e.num.getD 0, e.t, e.preset, e.tag, e.vplan, e.skew, b2n e.late, b2n e.isInline, b2n e.routed]
        let s2 := forEach (otherPositions s1) (fun p t =>
          ringSend 0x10 (2 ^ p) (head ++ config.map BitVec.toNat ++ (payloadDigestOf t p e).map BitVec.toNat) t) s1
        let s3 := modEpoch e.id (fun x => { x with prepared := true }) s2
        match nackReason s3 config (payloadDigestOf s3 (ringPos s3) e) e with
        | 0 => tryCommit e.id (modEpoch e.id (fun x => { x with acks := [ringPos s3] }) s3)
        | c => abortEpoch (ringPos s3) c e s3)

/-- A vote comes to the leader (R440). -/
def execVote (source : Fin 4) (num : Nat) (nack : Option (BitVec 3)) (s : State) : Out :=
  .next (
    if !ringLeader s || !ringHears s source then s
    else match s.epochs.find? fun e => e.num == some num && e.prepared && e.phase == .queued && !e.follower with
      | none => frameCame s
      | some e =>
        match nack with
        | some c => abortEpoch source c.toNat e (frameCame s)
        | none => tryCommit e.id (modEpoch e.id (fun x => { x with acks := source.val :: x.acks }) (frameCame s)))

/-- T − 3 µs has come without all votes (R440). -/
def execCommitDeadline (s : State) : Out :=
  .next (match s.epochs.find? fun e => e.prepared && e.phase == .queued && !e.follower with
    | none => s
    | some e => if ringLeader s then abortEpoch 0 0 e (advanceTo (e.t - 3000) s) else s)

/-- COMMITTED comes from a member (R442). -/
def execCommitted (source : Fin 4) (num : Nat) (s : State) : Out :=
  .next (
    if !ringLeader s || !ringHears s source then s
    else
      let mark := fun (e : Epoch) => if e.num == some num then { e with committedBy := source.val :: e.committedBy } else e
      let late := fun (r : Report) => if r.num = num then { r with committed := Nat.lor r.committed (2 ^ source.val) } else r
      let s1 := frameCame s
      { s1 with epochs := s1.epochs.map mark, reports := s1.reports.map late })

/-- The member's vote leaves (R439). -/
def sendVote (id : Nat) (nack : Nat) (s : State) : State :=
  match s.epochs.find? fun e => e.id == id with
  | none => s
  | some e => ringSend 0x11 (leaderMask s) [e.num.getD 0, nack] (modEpoch id (fun x => { x with voted := true }) s)

/-- A member whose epoch is staged votes (R439). -/
def voteStaged (id : Nat) (s : State) : State :=
  match s.epochs.find? fun e => e.id == id && e.follower && !e.voted && e.phase == .queued with
  | none => s
  | some e =>
    if e.routed && e.staged.isNone then s
    else sendVote id (nackReason s e.configDigest e.payloadDigest e) s

/-- PREPARE comes to a member: the epoch is staged where it can be, and the member votes (R172, R437, R439). Its own record shows
SCHEDULED and NOTICE_SHORT as 0, which PREPARE does not carry; that is the model's choice (R183, assumption 74). -/
def execPrepareReceived (source : Fin 4) (prepare : PrepareFrame) (s : State) : Out :=
  .next (
    if !ringRuns s || ringLeader s || joinState s != 2 || leaderPos s != source.val then s
    else
      let n := prepare.preset.val
      let load := s.ring.payloads.find? fun x => x.serial == prepare.serial
      let cells := if prepare.routed then load.map RingPayload.cells
        else if presetValid s n then some (presetCells s n) else none
      let e : Epoch := {
        id := s.epochSerial, num := some prepare.num, t := prepare.instant, fixed := true, desc := [], preset := n
        isInline := prepare.isInline, vplan := prepare.vplan, lead := 0, skew := prepare.skew.toNat, tag := prepare.tag.toNat
        late := prepare.late, noticeShort := false, noticeSent := true, scheduled := false, override := false
        perm := (load.map RingPayload.perm).getD [], routed := prepare.routed, job := .none, result := none, staged := cells
        levels := cells.map fun _ => stagedLevels s n, readyAt := none, phase := .queued, started := [], applied := false, prepared := true, acks := [], voted := false, follower := true
        configDigest := prepare.config, payloadDigest := prepare.payload, leaderSerial := prepare.serial, committedBy := [], shift := 0 }
      voteStaged e.id (addEpoch e (frameCame s)))

/-- A routed epoch's payload comes to a member (R438, R439). -/
def execPayload (serial : Nat) (perm : List Nat) (cells : List CellData) (s : State) : Out :=
  .next (
    if !ringRuns s || ringLeader s || joinState s != 2 then s
    else
      let load : RingPayload := { serial := serial, perm := perm, cells := cells.map CellData.staged }
      let s1 := modRing (fun r => { r with payloads := (load :: r.payloads.filter fun x => x.serial != serial).take 16 }) (frameCame s)
      match s1.epochs.find? fun e => e.follower && e.leaderSerial == serial && e.phase == .queued && e.routed with
      | none => s1
      | some e => voteStaged e.id (modEpoch e.id (fun x => { x with staged := some load.cells, levels := some (stagedLevels s1 x.preset), perm := perm }) s1))

/-- T − 3.5 µs: a member whose payload has not fully arrived votes NACK with the first reason that applies (R439). -/
def execStagingDeadline (s : State) : Out :=
  .next (match s.epochs.find? fun e => e.follower && e.routed && e.staged.isNone && !e.voted && e.phase == .queued with
    | none => s
    | some e =>
      let s1 := advanceTo (e.t - 3500) s
      let first := if configDigest s1 != e.configDigest then 1
        else if !presetValid s1 e.preset then 2
        else if !getBit s1 (Reg.STATUS epochPage) 0 || epochsBarred s1 then 3
        else if getBit s1 Reg.RING_STATUS 11 then 4
        else 5
      sendVote e.id first s1)

/-- COMMIT comes to a member by T − 2 µs (R441). -/
def execCommitReceived (num : Nat) (s : State) : Out :=
  .next (match s.epochs.find? fun e => e.follower && e.num == some num && e.phase == .queued && e.staged.isSome with
    | none => s
    | some e =>
      if !ringRuns s || e.t < ptpNow s + 2000 || epochsBarred s then s
      else ringSend 0x14 (leaderMask s) [num] (commitEpoch e { forwardOn 0x12 (leaderPos s) 1 (frameCame s) with epochNumber := num }))

/-- ABORT comes to a member (R440, R441). -/
def execAbortReceived (num : Nat) (position : Fin 4) (code : BitVec 3) (s : State) : Out :=
  .next (
    if !ringRuns s || ringLeader s then s
    else
      let s1 := forwardOn 0x13 (leaderPos s) 3 (frameCame s)
      let s2 := if code = 1 || code = 2 then recordNack num position code.toNat s1 else s1
      match s2.epochs.find? fun e => e.follower && e.num == some num && e.phase == .queued with
      | none => s2
      | some e => dropEpoch 1 e.id s2)

/-! ### Reports to the leader (R165, R363, R374, R377, R429) -/

/-- A member's roles and pins come to the leader (R165). -/
def execRoleReport (source : Fin 4) (slots : List (BitVec 12 × Word)) (s : State) : Out :=
  .next (if ringHears s source then
      forEach slots (fun x t => { t with ringRoles := SMap.set (fun _ => 0) t.ringRoles (4096 * source.val + x.1.toNat) x.2 }) (frameCame s)
    else s)

/-- A verdict MARK comes to the leader (R374). -/
def execMark (port : BitVec 10) (s : State) : Out := .next (if ringLeader s then markPort port.toNat (frameCame s) else s)

/-- A member's masks of a judged epoch come to the leader (R377). -/
def execSummary (num judged failing : Nat) (s : State) : Out :=
  .next (if ringLeader s then addSummary num judged failing (frameCame s) else s)

/-- Another member's input readings (R363): its own readings stand, and otherwise those of the lowest position that sends a
port. -/
def execInputPower (source : Fin 4) (readings : List PowerReading) (s : State) : Out :=
  .next (if !ringHears s source then s
    else forEach readings (fun x t =>
      let p := x.port.toNat
      let now := t.time.uptime
      let holds := match SMap.get (fun _ => none) t.inputPower p with
        | some e => e.remote && e.source < source.val && now ≤ e.time + 50000
        | none => false
      if (monitorFor t p 0).isSome || holds then t
      else storeInput p { reading := x.reading, loss := x.loss, stale := x.stale, implausible := x.implausible, overRange := x.overRange
                          remote := true, source := source.val, time := now, placed := now } t)
      (forwardOn 0x31 source (8 * readings.length) (frameCame s)))

/-- The words of this member's HEALTH (R429). -/
def healthWords (s : State) : List Word :=
  let twins := (List.range 128).map fun k => if k < s.variant.pumps then reg s (Reg.TWIN_STATUS k) else 0
  let lost := (List.range 10).map fun i => word (((List.range 32).map fun b => 2 ^ b * b2n (wellPresent s (32 * i + b) && wellLost s (32 * i + b))).sum)
  let lanes := word (((List.range 4).map fun l => 2 ^ (8 * l) * getF s (Reg.RING_LANE l) 0 8).sum)
  twins ++ lost ++ [lanes]

/-- HEALTH words are stored in a position's area (R429). -/
def storeHealth (p : Nat) (words : List Word) (s : State) : State :=
  writeShared (getF s Reg.RING_HEALTH_BASE 12 12 * 0x1000 + 1024 * p) (((words.take 139).map fun w => toBytes 4 w.toNat).flatten) s

/-- Every 1 ms the member sends its HEALTH to the leader, which stores its own (R429). -/
def execHealthSend (s : State) : Out :=
  .next (if !ringRuns s || joinState s != 2 then s
    else
      let s1 := periodic 0x42 1000000 s
      if ringLeader s then storeHealth (ringPos s) (healthWords s) s1
      else ringSend 0x42 (leaderMask s) ((healthWords s).map BitVec.toNat) s1)

/-- A member's HEALTH comes to the leader (R429). -/
def execHealth (source : Fin 4) (words : List Word) (s : State) : Out :=
  .next (if ringLeader s && ringHears s source then storeHealth source words (frameCame s) else s)

/-! ### Handover (R453, R454) -/

/-- The handover instant on the member that led (R453, R454). -/
def passLead (s : State) : State :=
  match s.ring.handover with
  | none => s
  | some h =>
    let s1 := dropQueue s
    followLeader h.target (nextTerm s1) s1

/-- A handed epoch joins the new leader's queue. -/
def takeEpoch (h : HandedEpoch) (s : State) : State :=
  let e := newEpoch s h.desc h.late (ptpNow s)
  addEpoch { e with num := h.num, t := h.instant, fixed := h.fixed, scheduled := h.scheduled, override := h.override
                    routed := e.routed || anyMarked s } s

/-- The handover instant on the successor: it leads with what HANDOVER_STATE brought; failed marks of its own stand beside those that come
(R189, R453, R454). -/
def takeHandover (v : HandoverState) (s : State) : State :=
  let s1 := forEach ((List.range 128).zip v.banks) (fun x t => setReg (if x.1 < 64 then Reg.SCHED_A x.1 else Reg.SCHED_B (x.1 - 64)) x.2 t) s
  let s2 := setReg Reg.SCHED_LEAD v.lead (setReg Reg.SCHED_CTRL v.control (setReg Reg.SCHED_LEN v.lengths s1))
  let s3 := forEach ((List.range 32).zip v.marks) (fun x t => setReg (Reg.ROUTE_PORT_FAILED x.1) (reg t (Reg.ROUTE_PORT_FAILED x.1) ||| x.2) t) s2
  let s4 := { s3 with schedule := v.running.map fun c =>
    { base := c.base, next := c.next, at_ := c.instant, first := c.first, stopAt := c.stop, switchAt := c.switch, ends := c.ends } }
  let s5 := forEach v.queue takeEpoch s4
  let s6 := takeLeadership (nextTerm s5) (modRing (fun r => { r with incoming := none }) s5)
  newRoutedEpoch (showQueue { s6 with epochNumber := v.nextNum - 1 })

/-- A handover meets the instant of a committed epoch (R453). -/
def handoverInstant (s : State) : State :=
  if ringLeader s && s.handedOff then passLead s
  else match s.ring.incoming with
    | some v => if v.millisecond.isNone then takeHandover v s else s
    | none => s

/-- HANDOVER_STATE comes to the successor (R454). -/
def execHandoverState (source : Fin 4) (handed : HandoverState) (s : State) : Out :=
  .next (if ringHears s source && !ringLeader s && joinState s = 2 then
      modRing (fun r => { r with incoming := some handed }) (frameCame s)
    else s)

/-- RING_CMD.HANDOVER on the leader (R453). -/
def execHandover (req : Requester) (target : Fin 4) (s : State) : Out :=
  .next (hostWrite req Reg.RING_CMD (fun t =>
    if ringLeader t && target.val != ringPos t && peerState t target = 3 then startHandover target (modRing (fun r => { r with takebackPos := none }) t)
    else t) s)

/-- No epoch has committed within 10 ms: the handover happens at the first whole millisecond (R453, R454). -/
def execTakebackHandoverTimer (s : State) : Out :=
  .next (match s.ring.handover, s.ring.incoming with
    | some h, _ =>
      if !ringLeader s || s.handedOff then s
      else
        let s1 := advanceUptime (h.since + 10000000) s
        let ms := (ptpNow s1 + 999999) / 1000000 * 1000000
        passLead (advanceTo ms (sendHandover (some ms) s1))
    | none, some v =>
      match v.millisecond with
      | some ms => takeHandover v (advanceTo ms s)
      | none => s
    | none, none => s)

end Sys2Proof.Machine
end

