-- ==== Sys2Proof/Machine/RingTime.lean ====
section
/-! DEFINITION. Time in a ring (R445, R467 to R470), SYNC and the skew calibration (R225 to R230). -/

namespace Sys2Proof.Machine

open Sys2Proof

/-! ### Offsets and their correction (R445, R469) -/

/-- Every 1 ms the member starts an exchange on every lane that is up (R445). -/
def execTimeProbeSend (s : State) : Out :=
  .next (
    let ls := (List.range 4).filter fun l => laneState s l = 2 && !probed s (laneNeighbour s l)
    if ringRuns s then neighbourSend 0x30 ls ls (periodic 0x30 1000000 s) else s)

/-- The member becomes untrusted (R445, R458). -/
def loseTrust (s : State) : State :=
  let s1 := modRing (fun r => { r with goodRun := 0 }) s
  if getBit s1 Reg.RING_STATUS 9 then setFault ringPage 2 (setInt ringPage 4 (setB Reg.RING_STATUS 9 false s1)) else s1

/-- A measurement of the own offset, in 1/16 ns, against RING_TIME_TOL (R445, R469). -/
def measureTrust (theta : Int) (s : State) : State :=
  let now := s.time.uptime
  let s1 := modRing (fun r => { r with offset := theta, lastOffset := some now }) s
  if 16 * getF s Reg.RING_TIME_TOL 0 10 < absI theta then
    loseTrust (modRing (fun r => { r with overSince := some (r.overSince.getD now) }) s1)
  else
    let s2 := modRing (fun r => { r with goodRun := r.goodRun + 1, overSince := none }) s1
    if 2 ≤ s2.ring.goodRun then setB Reg.RING_STATUS 9 true s2 else s2

/-- The increment that takes an offset out within 1 ms, in the range of R463 (R469). -/
def slewFor (incr : Nat) (theta : Int) : Nat :=
  (clampInt 0x1FFBE76C9 0x200418937 (openDiv ((incr : Int) * (16000000 - theta)) 16000000)).toNat

/-- A follower corrects its offset: by its one step, or by a slew of 500,000 ticks (R469). -/
def correctOffset (theta : Int) (s : State) : State :=
  if !s.time.running then s
  else if 16000 ≤ absI theta && !getBit s Reg.TIME_STATUS 0 then
    setB Reg.TIME_STATUS 0 true
      { s with time := { s.time with step := some (1, unsignedOf 64 (openDiv (-theta) 16), 0, s.time.uptime + 10) } }
  else slewStart (slewFor s.time.restIncr theta) 500000 s

/-- An exchange on a lane ends with the departures and arrivals of its two probes, in 1/16 ns (R445, R469): t1 and t4 here, t2 and
t3 at the neighbour. Towards the leader it gives this member's offset. -/
def execTimeProbe (lane : Fin 4) (t1 t2 t3 t4 : Int) (s : State) : Out :=
  .next (
    let n := laneNeighbour s lane
    if !ringRuns s || joinState s != 2 || ringLeader s || laneState s lane != 2 || probed s n || !(hopLanes (hopTo s (leaderPos s))).contains lane.val then s
    else
      let hop := -openDiv ((t2 - t1) - (t4 - t3)) 2
      let theta := hop + (if n = leaderPos s then 0 else (peer s n).offset)
      let s1 := measureTrust theta s
      if getBit s1 Reg.RING_CFG 10 then correctOffset theta s1 else s1)

/-- No offset has been measured for 3 ms (R445). -/
def execOffsetMeasurementTimeout (s : State) : Out :=
  .next (match s.ring.lastOffset with
    | some t =>
      if ringRuns s && joinState s = 2 && !ringLeader s then
        loseTrust (modRing (fun r => { r with lastOffset := none }) (advanceUptime (t + 3000000) s))
      else s
    | none => s)

/-- A follower's offset has stood out of tolerance for 10 ms (R469, R481). -/
def execSlewSaturated (s : State) : Out :=
  .next (match s.ring.overSince with
    | some t => if ringRuns s && !ringLeader s && getBit s Reg.RING_CFG 10 then setFault timePage 0 (advanceUptime (t + 10000000) s) else s
    | none => s)

/-! ### SYNC (R225, R230, R470) -/

/-- Whether SYNC passes: from entry into P3 (R123, R225). -/
def syncPasses (s : State) : Bool := let g := getF s Reg.GLB_PRIME_STATUS 0 4; 3 ≤ g && g ≤ 7

/-- The WELL cycle count starts at the first SYNC pulse after entry into P4 (R331). -/
def startWellCount (s : State) : State :=
  if s.wellOrigin.isNone && 4 ≤ stage s && stage s ≤ 7 then { s with wellOrigin := some s.time.uptime } else s

/-- The leader emits a pulse on the first SHAPE cycle edge at or after the next whole millisecond, ε after it, and counts SHAPE cycles from
it (R225, R226, R452, R470); the rounding of ε to 15.625 ps is open (assumption 9). The command names the millisecond of PTP time, and no
pulse but the next one is due. -/
def execSyncEmit (millisecond : Nat) (s : State) : Out :=
  .next (if isLeader s && syncPasses s && s.time.running && millisecond == ptpNow s / 1000000 + 1 then
      let ms := millisecond * 1000000
      let s0 := advanceTo ms s
      let s2 := advanceUptime (4 * ceilDiv s0.time.uptime 4) s0
      let s1 := modRing (fun r => { r with epsilon := (openDiv (s2.time.total - ms * 2 ^ 32 : Nat) (2 ^ 26)).toNat }) s2
      emit .syncPulse (startWellCount { s1 with align := { s1.align with pulse := some (s1.time.uptime, ms) } })
    else s)

/-- A pulse arrives, `arrival` × 15.625 ps after its instant on this member's grid with ε taken off; it is compared with its expectation,
and every member but the leader counts from it and passes it on (R225 to R227, R230, R331, R452, R470). -/
def execSyncArrival (arrival : Int) (s : State) : Out :=
  .next (if !syncPasses s then s
    else
      let s1 := startWellCount (syncArrival arrival { s with align := { s.align with last := s.time.uptime } })
      if isLeader s then s1 else emit .syncPulse { s1 with align := { s1.align with pulse := some (pulseOrigin s1) } })

/-- No pulse has arrived for 2 ms: transitions are timed from the TIME clock (R230). -/
def execNoSync (s : State) : Out :=
  .next (if syncPasses s then setB Reg.SHAPE_ALIGN_STATUS 4 true (advanceUptime (s.align.last + 2000000) s) else s)

/-! ### The skew calibration (R227, R235, R455) -/

/-- The content of a skew calibration message: Λ and every member's SHAPE_SYNC_RPT (R227). -/
def measureContent (m : SkewMeasure) : List Nat := [0, m.loopDelay.toNat] ++ m.rpts.map BitVec.toNat

/-- A calibration's first pass begins on this member with what the leader measured (R227). -/
def skewBegin (m : SkewMeasure) (s : State) : State :=
  setB Reg.SHAPE_ALIGN_STATUS 1 false (setB Reg.SHAPE_ALIGN_STATUS 0 true
    { s with align := { s.align with first := some (m.loopDelay.toNat, m.rpts.map BitVec.toNat) } })

/-- Λ shows on the leader (R235). -/
def showLoopDelay (m : SkewMeasure) (s : State) : State := setF Reg.SHAPE_LOOP_DELAY 0 16 m.loopDelay.toNat s

/-- SHAPE_ALIGN_CTRL.SKEW_CAL: the leader sends Λ, averaged over 64 pulses, and every member's SHAPE_SYNC_RPT (R227). -/
def execSkewCal (start : SkewStart) (s : State) : Out :=
  .next (hostWrite start.req Reg.SHAPE_ALIGN_CTRL (fun t =>
    let m := start.measured
    if isLeader t then ringSend 0x23 (otherMembers t) (measureContent m) (showLoopDelay m (skewBegin m t)) else t) s)

/-- A skew calibration message comes: the leader's measurement begins a calibration here, a member's result is its word on the agreement
of its offsets, and `ended` ends the calibration with every trim kept (R227, R235). -/
def execSkewCalMessage (source : Fin 4) (content : SkewWord) (s : State) : Out :=
  .next (if !ringHears s source then s
    else match content with
      | .measure m => if ringLeader s || leaderPos s != source.val then frameCame s else skewBegin m (frameCame s)
      | .result _ => frameCame s
      | .ended => skewEnd (frameCame s))

/-- The calibration ends here with the second pass's measurement and the mean arrivals of both passes, in 15.625 ps: θ is each arrival's
difference from its expectation; the result goes to the other members (R227). -/
def execSkewCalComplete (measured : SkewMeasure) (arrival1 arrival2 : Int) (othersAgree : Bool) (s : State) : Out :=
  .next (match getBit s Reg.SHAPE_ALIGN_STATUS 0, s.align.first with
    | true, some a =>
      let rpts := measured.rpts.map BitVec.toNat
      let theta1 := arrivalOffset s a.1 a.2 arrival1
      let theta2 := arrivalOffset s measured.loopDelay.toNat rpts arrival2
      let agrees := thetaAgree theta1 theta2
      let s1 := skewCalComplete theta1 theta2 othersAgree s
      let s2 := if isLeader s then showLoopDelay measured s1 else s1
      let s3 := { s2 with align := { s2.align with
        first := none
        loopDelay := if agrees && othersAgree then measured.loopDelay.toNat else s2.align.loopDelay
        rpts := if agrees && othersAgree then rpts else s2.align.rpts } }
      ringSend 0x23 (if isLeader s then otherMembers s else leaderMask s) [1, b2n agrees] s3
    | _, _ => s)

end Sys2Proof.Machine
end

