-- ==== Sys2Proof/Machine/Resets.lean ====
section
/-! DEFINITION. Park and CLEAR_N (R139 to R142), block resets, start and shut-down of blocks (R88 to R90, R136, R137,
R633), and HALTED (R147). -/

namespace Sys2Proof.Machine

open Sys2Proof

/-! ### Outputs -/

/-- Every loop cell of the device. -/
def allCells (s : State) : List Nat := List.range s.variant.cells

/-- Every pump of the device. -/
def allPumps (s : State) : List Nat := List.range s.variant.pumps

/-- No cell's outputs are held under R130 any more (R126, R132). -/
def dropHeld (s : State) : State :=
  let held := (allCells s).filter fun m => (loopCell s m).firstDue
  let free := fun (m : Nat) (t : State) =>
    forEach (cellSlots m) (fun n u => if orphaned u m then u else markStale false n u) (setCell m { loopCell t m with firstDue := false } t)
  setB Reg.GLB_PRIME_STATUS 4 false (forEach held free s)

/-- Every slot goes to park, and every cell to manual with its park codes (R139, R141). -/
def parkOutputs (s : State) : State :=
  let s1 := forEach (allSlots s) (fun n t => eoPark true n (htrPark n t)) s
  dropHeld (forEach (allCells s) forceManual s1)

/-- A slot's channel stays at its present output in HOLD without dither (R130, R215). -/
def eoFreeze (slot : Nat) (s : State) : State :=
  let w := presentLevel s slot
  let s1 := abandon slot s
  let ch := channel s1 slot
  if ch.state == .parked then s1
  else
    setChannel slot { ch with
      lvlFrom := w, lvlTo := w, out := w, state := .hold, exiting := false, heldFast := false, changing := false, due := false, since := s1.time.uptime } s1

/-! ### Epochs -/

/-- Every epoch that has not been applied is dropped with a status, and the schedule stops; its verdict is not judged (R140, R378). -/
def clearEpochs (status : Nat) (s : State) : State :=
  let s1 := if schedRunning s then stopSchedule status s else s
  let ids := (s1.epochs.filter fun e => !e.applied).map Epoch.id
  let judged := match s1.verdict with
    | some v => s1.epochs.any fun e => !e.applied && e.num == some v.num
    | none => false
  let s2 := if judged then endPins { s1 with verdict := none } else s1
  { forEach ids (dropEpoch status) s2 with submission := none }

/-- What CLEAR_N falling, and the PARK reaction, do (R139, R140, R141, R538). -/
def clearActs (s : State) : State := clearEpochs 5 (parkOutputs s)

/-- Whether one of the conditions 1 to 4 of R126 is in force: they exclude CLEAR_N and everything below it. -/
def governed (s : State) : Bool := !s.time.counting || stage s == 0xE || stage s == 0xF

/-- CLEAR_N_FALL (R139, R140). -/
def execClearNFall (s : State) : Out :=
  .next (
    if !s.pins.clearN then s
    else
      let s1 := { s with pins := { s.pins with clearN := false } }
      if governed s then s1 else clearActs s1)

/-- CLEAR_N_RISE: the outputs stay at park, every cell in manual at its park code (R141, R246). -/
def execClearNRise (s : State) : Out :=
  .next (if s.pins.clearN then s else { s with pins := { s.pins with clearN := true } })

/-! ### Block resets -/

/-- Stops a pump without passing its cells on (R129, R147, R564). -/
def haltPump (k : Nat) (s : State) : State :=
  setPhase (pumpPage k) .off (setPumpState k 0 (setPump k { pump s k with takebackNow := false, update := false, quick := none } s))

/-- Stops every pump; the loops stop with them (R129, R147, R564). -/
def haltPumps (s : State) : State :=
  let s1 := { forEach (allPumps s) haltPump s with loopOrigin := none }
  forEach (allPumps s1) showPump s1

/-- A pump that hands over is reset: the cells that nobody can take at their boundaries park, or keep their codes where HOLD_THROUGH is 1
(R137). -/
def orphansPark (k : Nat) (s : State) : State :=
  let due := (pairCells k).filter fun m => holds s k m && (loopCell s m).orphanDue.isSome
  forEach due (fun m t => setCell m { loopCell t m with orphanDue := some (!holdThrough t (pumpPage k)) } t) s

/-- The pump's part of its block reset: its cells pass to the twin, or are orphaned (R137, R313, R637). -/
def pumpReset (k : Nat) (s : State) : State :=
  if inService s k then setPhase (pumpPage k) .resetting (pumpLost k 6 s)
  else
    let old := pumpState s k
    let s1 := resetPageRegs (pumpPage k) (setPump k { pump s k with takebackNow := false, update := false, quick := none } (orphansPark k s))
    let s2 := setPumpState k (if old = 6 then 6 else 0) s1
    setPhase (pumpPage k) .resetting (refreshPair k (refreshCommit k s2))

/-- The column's part of its block reset; while park is forced no column is held (R126, R136, R215, R246, R256). -/
def colReset (c : Nat) (s : State) : State :=
  let s0 := { s with
    htrCal := SMap.set (fun _ => false) s.htrCal c false
    eoCal := SMap.set (fun _ => none) s.eoCal c none }
  let s1 := if c = 0 then skewAbort s0 else s0
  if holdThrough s (colPage c) && !parkForced s then
    let freeze := fun (n : Nat) (t : State) => markStale true n (eoFreeze n (holdCode n t))
    forEach (colSlots c) freeze s1
  else
    let s2 := forEach (colSlots c) (fun n t => eoPark (parkForced t) n (htrPark n t)) s1
    forEach (colCells c) forceManual s2

/-- The column's outputs when its block reset completes: held codes are let go, and the loops continue (R136). -/
def colResume (c : Nat) (s : State) : State :=
  let free := fun (n : Nat) (t : State) =>
    if (loopCell t (n / 4)).firstDue then t
    else
      let t1 := releaseCode n t
      if orphaned t1 (n / 4) then t1 else markStale false n t1
  refreshStale c (forEach (colSlots c) free s)

/-- Every siphon stream ends where it stands (R236, R90). -/
def siphonStop (s : State) : State := forEach (allSlots s) (abandonStream · false) s

/-- The block's part of its reset, before its registers take their reset values (R90 and each chapter). -/
def blockPart (p : Page) (s : State) : State :=
  match p.kind with
  | .col => colReset p.inst s
  | .tw => rangesReset p.inst (quietWell p.inst s)
  | .pw => rangesReset (160 + p.inst) (quietWell (160 + p.inst) s)
  | .epoch => { flushReports (flushEpochs 4 s) with submission := none, resultOf := none, schedule := none }
  | .route => routeAbandon s
  | .verdict => abandonPilot (abandonVerdict s)
  | .evt => { s with evt := { inFlight := [], published := [] } }
  | .siphon => siphonStop s
  | .capt => captStopAll s
  | .ring => leaveRing s
  | .mac | .gate | .police | .cistern => portBlockReset p s
  | .census => censusStop s
  | _ => s

/-- RING_CFG at reset: LEAD_RANK is 3 − POS (R457). -/
def ringCfgReset (s : State) : Word := setFld (resetWord Reg.RING_CFG) 4 4 (3 - s.pins.pos)

/-- Registers whose reset values the configuration block has set take them after a block reset (R560, R597). -/
def configAfter (p : Page) (s : State) : State :=
  match p.kind with
  | .heat => forEach (s.prime.config.reverse.filter fun e => e.1 != Reg.RING_CFG) (fun e t => setReg e.1 e.2 t) s
  | .ring =>
    let s1 := setReg Reg.RING_CFG (ringCfgReset s) (setF Reg.RING_STATUS 0 2 s.pins.pos s)
    match s.prime.config.find? fun e => e.1 == Reg.RING_CFG with
    | some e => setF Reg.RING_CFG 0 3 (fld e.2 0 3) s1
    | none => s1
  | _ => s

/-- The block's part after its registers have taken their reset values. -/
def blockAfter (p : Page) (s : State) : State :=
  match p.kind with
  | .col => showClaims p.inst (refreshStale p.inst s)
  | .tw => refreshWells p.inst s
  | .pw => rangesShown (160 + p.inst) (refreshWells (160 + p.inst) s)
  | .hw => refreshWells (288 + p.inst) s
  | .epoch => showQueue s
  | .route => showRoute s
  | .time => clockPrime s
  | .ring => configAfter p s
  | .heat => configAfter p { s with heat := { s.heat with sensors := [] }, dieThrottled := false, picThrottled := false }
  | .mac => linkFollows p.inst s
  | _ => s

/-- An epoch that has committed has yet to be applied (R174, R186). -/
def epochCommitted (s : State) : Bool := s.epochs.any fun e => e.phase != .queued && !e.applied

/-- The EPOCH page's part of its block reset: what is queued is flushed and reported, and the registers return to their reset values once a
committed epoch has completed (R186). -/
def epochBlockReset (s : State) : State :=
  let s1 := blockPart epochPage s
  if epochCommitted s1 then { s1 with epochReset := true } else blockAfter epochPage (resetPageRegs epochPage s1)

/-- The registers of EPOCH return to their reset values after the committed epoch that its block reset waited for (R186). -/
def epochResetEnds (s : State) : State :=
  if s.epochReset then showQueue (resetPageRegs epochPage (flushReports { s with epochReset := false })) else s

/-- A block reset of a page begins (R90, R136, R137, R186, R461). -/
def blockReset (p : Page) (s : State) : State :=
  if phase s p == .resetting then s
  else
    let s1 := match p.kind with
      | .pe => pumpReset p.inst s
      | .epoch => setPhase p .resetting (epochBlockReset s)
      | _ => setPhase p .resetting (blockAfter p (resetPageRegs p (blockPart p s)))
    setB (Reg.CTRL p) 1 true s1

/-- Whether a reaction of R538 resets a page, and not only a write of SOFT_RESET. -/
def reactionResets (p : Page) : Bool :=
  match p.kind with
  | .glb | .pwr | .clk | .heat | .flt | .wellhead | .xbar => false
  | _ => true

/-- TIME refuses SOFT_RESET and ENABLE = 0 while EPOCH or a GATE is enabled (R462). -/
def timeRefuses (p : Page) (s : State) : Bool := p.kind == .time && timeHeld s

/-- The start sequence of a block begins: ENABLE is 1 (R89, R90). -/
def startBlock (p : Page) (s : State) : State :=
  match p.kind with
  | .pe =>
    let st := pumpState s p.inst
    if st = 6 then setPhase p .off s
    else if st = 1 || st = 2 then setPhase p .starting s
    else if 3 ≤ st then setPhase p .running s
    else pumpStart p.inst (setPhase p .off s)
  | _ => setPhase p .starting s

/-- A block stays stopped after its reset: ENABLE is 0 (R90); a pump that would have loaded is off. -/
def stayStopped (p : Page) (s : State) : State :=
  match p.kind with
  | .pe => refreshPair p.inst (setPhase p .off (if pumpState s p.inst = 6 then s else setPumpState p.inst 0 s))
  | _ => setPhase p .off s

/-- BLOCK_RESET_COMPLETE; the reset of EPOCH lasts until a committed epoch has been applied (R90, R186). -/
def execBlockResetComplete (p : Page) (s : State) : Out :=
  .next (
    if !(phase s p == .resetting) || (p.kind == .epoch && epochCommitted s) then s
    else
      let s1 := setB (Reg.CTRL p) 1 false (if p.kind == .epoch then epochResetEnds s else s)
      let s2 := if p.kind.alwaysOn then setPhase p .running s1
        else if enabled s1 p then startBlock p s1 else stayStopped p s1
      match p.kind with
      | .col => colResume p.inst s2
      | .tw => refreshWells p.inst s2
      | .pw => refreshWells (160 + p.inst) s2
      | .hw => refreshWells (288 + p.inst) s2
      | .pe => refreshCommit p.inst s2
      | _ => s2)

/-! ### Start and shut-down -/

/-- A write of ENABLE = 1 (R88, R89). -/
def enableOn (p : Page) (s : State) : State :=
  if p.kind.alwaysOn then s
  else
    let was := enabled s p
    let s1 := setB (Reg.CTRL p) 0 true s
    match phase s p with
    | .off =>
      match p.kind with
      | .pe => if was then s1 else pumpStart p.inst s1
      | .time => setPhase p .starting (if was then s1 else clockPrime s1)
      | _ => setPhase p .starting s1
    | .stopping => setPhase p .pendingOn s1
    | _ => s1

/-- A block begins its shut-down sequence (R88 and each chapter). -/
def shutPart (p : Page) (s : State) : State :=
  match p.kind with
  | .mac => macStop p.inst s
  | .capt => captStopAll s
  | .epoch => flushEpochs 4 s
  | .ring => leaveRing s
  | .time => timeStop s
  | .tw => quietWell p.inst s
  | .pw => quietWell (160 + p.inst) s
  | .verdict => abandonPilot (abandonVerdict s)
  | .siphon => siphonStop s
  | .evt => { s with evt := { inFlight := [], published := [] } }
  | _ => s

/-- A write of ENABLE = 0 (R88, R89, R186, R313, R414, R434, R462, R512). -/
def enableOff (p : Page) (s : State) : State :=
  if p.kind.alwaysOn then s
  else if timeRefuses p s then setInt timePage 1 s
  else
    let s1 := setB (Reg.CTRL p) 0 false s
    match phase s p with
    | .running | .starting =>
      match p.kind with
      | .pe => pumpStop p.inst (setPhase p .stopping s1)
      | .tw => refreshWells p.inst (setPhase p .stopping (shutPart p s1))
      | .pw => refreshWells (160 + p.inst) (setPhase p .stopping (shutPart p s1))
      | .hw => refreshWells (288 + p.inst) (setPhase p .stopping (shutPart p s1))
      | .mac => linkFollows p.inst (setPhase p .stopping (shutPart p s1))
      | _ => setPhase p .stopping (shutPart p s1)
    | .pendingOn => setPhase p .stopping s1
    | _ => s1

/-- ENABLE_ON (R88, R89). -/
def execEnableOn (req : Requester) (p : Page) (s : State) : Out := .next (hostWrite req (Reg.CTRL p) (enableOn p) s)

/-- ENABLE_OFF (R88, R89). -/
def execEnableOff (req : Requester) (p : Page) (s : State) : Out := .next (hostWrite req (Reg.CTRL p) (enableOff p) s)

/-- BLOCK_START_COMPLETE: READY sets (R89). A pump's start ends with its self-test. -/
def execBlockStartComplete (p : Page) (s : State) : Out :=
  .next (
    if !(phase s p == .starting) || p.kind == .pe then s
    else
      let s1 := setPhase p .running s
      match p.kind with
      | .ring => tryJoin s1
      | .tw => refreshWells p.inst s1
      | .pw => refreshWells (160 + p.inst) s1
      | .hw => refreshWells (288 + p.inst) s1
      | .mac => linkFollows p.inst s1
      | _ => s1)

/-- BLOCK_SHUTDOWN_COMPLETE: any pending start then begins, and PENDING_ON stands until READY sets (R89). A pump's shut-down ends with its
handover, and that of EPOCH waits until a committed epoch has been applied (R174, R186). -/
def execBlockShutdownComplete (p : Page) (s : State) : Out :=
  .next (
    if p.kind == .pe || (p.kind == .epoch && epochCommitted s) then s
    else
      match phase s p with
      | .stopping => setPhase p .off s
      | .pendingOn => setPhase p .starting (if p.kind == .time then clockPrime s else s)
      | _ => s)

/-! ### HALTED -/

/-- The lanes go to electrical idle without a word (R123, R147, R564). -/
def lanesIdle (s : State) : State :=
  let s1 := forEach (List.range 4) laneDown s
  let s2 := forEach (List.range 4) (fun l t => setF (Reg.RING_LANE l) 0 2 0 (modLane l (fun _ => RingLane.empty) t)) s1
  if standAlone s2 then s2
  else
    let s3 := forEach (List.range 4) (fun q t => setF (Reg.RING_PEER_A q) 0 3 0 t) s2
    setF Reg.RING_STATUS 5 3 3 (setB Reg.RING_STATUS 4 false (setB Reg.RING_STATUS 8 false s3))

/-- The device enters HALTED (R126, R147). -/
def haltDevice (s : State) : State :=
  if governed s then s
  else
    let s1 := setF Reg.GLB_PRIME_STATUS 0 4 0xE { s with warmRequested := false, prime := { s.prime with waiting := false } }
    let s2 := lanesIdle (haltPumps s1)
    if s2.pins.lockout then clearEpochs 5 s2 else clearActs s2

end Sys2Proof.Machine
end

