-- ==== Sys2Proof/Machine/Wellhead.lean ====
section
/-! DEFINITION. The Wellhead: flash and images, the boot chain, the configuration block and the calibration record, commands,
owner keys, the security version, attestation and debug scopes (R589 to R619). -/

namespace Sys2Proof.Machine

open Sys2Proof

/-- The WELLHEAD page. -/
def whPage : Page := ⟨.wellhead, 0⟩

/-- The XSPI page. -/
def xspiPage : Page := ⟨.xspi, 0⟩

/-- Changes the Wellhead's own state. -/
def modWh (f : Wellhead → Wellhead) (s : State) : State := { s with wellhead := f s.wellhead }

/-! ### Flash -/

/-- A flash byte that nothing has written: erased (PRESUMED of flash memory, unsafe). -/
def flashDefault : Nat → Byte := fun _ => 0xFF

/-- A byte of the boot flash. -/
def flashByte (s : State) (a : Nat) : Byte := SMap.get flashDefault s.wellhead.flash a

/-- Bytes of the boot flash. -/
def flashBytes (s : State) (a n : Nat) : List Byte := (List.range n).map fun i => flashByte s (a + i)

/-- A little-endian number in the boot flash. -/
def readFlash (s : State) (a n : Nat) : Nat := ofBytes (flashBytes s a n)

/-- Writes bytes into the boot flash. -/
def writeFlash (a : Nat) (bs : List Byte) (s : State) : State :=
  match bs with
  | [] => s
  | b :: r => writeFlash (a + 1) r (modWh (fun w => { w with flash := SMap.set flashDefault w.flash a b }) s)

/-- Erases flash. -/
def eraseFlash (a n : Nat) (s : State) : State := modWh (fun w => { w with flash := SMap.dropRange w.flash a n }) s

/-- What a failing operation leaves in flash is open (R602). -/
def spoilFlash (a n : Nat) (s : State) : State :=
  let bs := (List.range n).map fun i => byteOf (Config.openNat (s.fresh + i)) 0
  { writeFlash a bs s with fresh := s.fresh + n }

/-- A failing flash operation raises FLASH_ERROR (R602). -/
def flashError (s : State) : State := setFault xspiPage 0 s

/-! ### Images (R591 to R594) -/

/-- Bytes of an image slot. -/
def slotBytes : Nat := 0x1800000

/-- Flash address of an image slot. -/
def slotAt (n : Nat) : Nat := 0x100000 + slotBytes * n

/-- Bytes of a signature (R589). -/
def sigBytes : Nat := 2820

/-- A field of a slot's vendor header. -/
def imageField (s : State) (n o k : Nat) : Nat := readFlash s (slotAt n + o) k

/-- SVN of a slot's image. -/
def imageSvn (s : State) (n : Nat) : Nat := imageField s n 8 4 % 128

/-- SEQ of a slot's image. -/
def imageSeq (s : State) (n : Nat) : Nat := imageField s n 0xC 4

/-- VLEN of a slot's image. -/
def imageVlen (s : State) (n : Nat) : Nat := imageField s n 0x10 4

/-- KERNEL_VER of a slot's image. -/
def imageKernel (s : State) (n : Nat) : Word := word (imageField s n 0x20 4)

/-- Where a slot's owner part would stand: at the next 4 KiB boundary after the vendor part. -/
def ownerAt (s : State) (n : Nat) : Nat := slotAt n + ceilDiv (imageVlen s n + sigBytes) 4096 * 4096

/-- Whether a slot's image has an owner part. -/
def hasOwner (s : State) (n : Nat) : Bool := readFlash s (ownerAt s n) 4 == 0x504C4D4F

/-- CLEN of a slot's owner part. -/
def ownerClen (s : State) (n : Nat) : Nat := readFlash s (ownerAt s n + 8) 4

/-- The end of a slot's image, from the slot's start. -/
def imageEnd (s : State) (n : Nat) : Nat :=
  if hasOwner s n then ownerAt s n - slotAt n + 256 + ownerClen s n + sigBytes else imageVlen s n + sigBytes

/-- The highest set bit of a mask of eight, as a slot number. -/
def topSlot (m : Nat) : Option Nat := ((List.range 8).filter fun i => m.testBit i).getLast?

/-- The owner key in service (R605). -/
def keyInService (w : Wellhead) : Option Nat := topSlot ((List.range 8).foldl (fun m i => m + if w.enrolled.testBit i && !w.revoked.testBit i then 2 ^ i else 0) 0)

/-- Whether a segment of the vendor part lies outside it (check 2). -/
def segmentsBad (s : State) (n : Nat) : Bool :=
  let k := imageField s n 0x14 4 % 16
  k = 0 || (List.range k).any fun i =>
    imageVlen s n < imageField s n (0x44 + 16 * i) 4 + imageField s n (0x48 + 16 * i) 4

/-- Checks 1 to 5 of R594: the code of the first that fails, 0 for none. -/
def headerCheck (s : State) (n : Nat) : Nat :=
  let variants := imageField s n 0x18 4
  if imageField s n 0 4 ≠ 0x504C4D31 then 1
  else if imageField s n 4 2 ≠ 1 || segmentsBad s n then 2
  else if !(match s.variant with | .pe2560 => variants.testBit 0 | .pe1280 => variants.testBit 1) then 3
  else if imageSvn s n < s.wellhead.svn || 64 < imageSvn s n then 4
  else if slotBytes < imageEnd s n then 5
  else 0

/-- Checks 6 to 10 of R594 against an owner key in service. -/
def bodyCheck (s : State) (n : Nat) (owner : Option Nat) (x : SlotChecks) : Nat :=
  if !x.vendorKey then 6
  else if !x.vendorSig then 7
  else
    match owner with
    | none => 0
    | some k =>
      if !hasOwner s n then 8
      else if readFlash s (ownerAt s n + 4) 4 ≠ k || !x.ownerKey then 9
      else if !x.ownerSig then 10
      else 0

/-- Every check of R594 on one slot, for STAGE (R604): the code of the first that fails; a slot that cannot be read fails with 11. -/
def slotCheck (s : State) (n : Nat) (owner : Option Nat) (x : SlotChecks) : Nat :=
  if !x.readable then 11 else if headerCheck s n ≠ 0 then headerCheck s n else bodyCheck s n owner x

/-- The slot booted, and the codes of slots 0 and 1 (R594). -/
def bootChoice (s : State) (x0 x1 : SlotChecks) : Option Nat × Nat × Nat :=
  let owner := keyInService s.wellhead
  let h0 := if !x0.readable then 11 else headerCheck s 0
  let h1 := if !x1.readable then 11 else headerCheck s 1
  let first := if h0 ≠ 0 then 1 else if h1 ≠ 0 then 0 else if imageSeq s 0 < imageSeq s 1 then 1 else 0
  let c := fun (n : Nat) => if n = 0 then (if h0 ≠ 0 then h0 else bodyCheck s 0 owner x0) else if h1 ≠ 0 then h1 else bodyCheck s 1 owner x1
  if c first = 0 then (some first, if first = 0 then 0 else h0, if first = 1 then 0 else h1)
  else if c (1 - first) = 0 then (some (1 - first), if first = 0 then c 0 else 0, if first = 1 then c 1 else 0)
  else (none, c 0, c 1)

/-! ### What the page shows -/

/-- The read-only words that show OTP and boot state (R616, R619). -/
def showWh (s : State) : State :=
  let w := s.wellhead
  let k := keyInService w
  let left := (List.range 8).filter fun i => !w.programmed.testBit i
  let indices := match w.block with | some b => 64 * b + 64 - w.nextIndex | none => 0
  let s1 := setF Reg.WH_STATUS 4 3 (k.getD 0) (setB Reg.WH_STATUS 2 (w.booted == some 1) (setB Reg.WH_STATUS 1 k.isSome s))
  let s2 := setReg Reg.WH_SVN (word (w.svn + 256 * (64 - w.svn))) s1
  let s3 := setReg Reg.WH_KEYS (word (w.enrolled + 256 * w.revoked + 65536 * left.length)) s2
  setReg Reg.WH_ATTEST_INDEX (word w.nextIndex) (setReg Reg.WH_ATTEST_REM (word (16384 - w.blocks + 65536 * indices)) s3)

/-- Ends the running command with a result (R600). -/
def whEnd (result : Nat) (s : State) : State :=
  let s1 := setF Reg.WH_STATUS 8 4 result (setB Reg.WH_STATUS 0 false (modWh (fun w => { w with running := none }) s))
  setInt whPage (if result = 0 then 0 else 1) s1

/-! ### Register rules of HEAT and RING_CFG (R559, R570, R597) -/

/-- Three limits of a group: each within its range, and rising (R559). -/
def limitsOk (v : Nat) (low shutLow shutHigh : Nat) : Bool :=
  let w := v % 256
  let t := v / 256 % 256
  let d := v / 65536 % 256
  low ≤ w && w ≤ t && t ≤ d && shutLow ≤ d && d ≤ shutHigh

/-- A field that a reserved encoding leaves as it was (R96). -/
def keepField (old : Word) (v lo w : Nat) (ok : Nat → Bool) : Nat :=
  let f := v / 2 ^ lo % 2 ^ w
  (if ok f then f else fld old lo w) * 2 ^ lo

/-- The word that a write leaves in a HEAT register; none where the whole write is ignored (R559, R570). -/
def heatRule (a : Nat) (old v : Word) : Option Word :=
  let n := v.toNat
  if a = Reg.HEAT_CFG then
    some (word (keepField old n 8 4 (fun f => f ≠ 0) + keepField old n 16 8 (fun f => 1 ≤ f && f ≤ 100)))
  else if a = Reg.HEAT_DIE_LIMITS then if limitsOk n 60 110 130 then some (v &&& 0xFFFFFF) else none
  else if a = Reg.HEAT_PIC_LIMITS then if limitsOk n 20 40 110 then some (v &&& 0xFFFFFF) else none
  else if a = Reg.HEAT_RISE then
    some (word (keepField old n 0 8 (fun f => f ≤ 40) + keepField old n 8 8 (fun f => f ≤ 40)))
  else if a = Reg.HEAT_THR_ACT then some (v &&& 0xF0F)
  else if a = Reg.HEAT_THR_BUDGET then if 1000 ≤ n % 65536 && n % 65536 ≤ 60000 then some (v &&& 0xFFFF) else none
  else if Reg.HEAT_PIC_COEF 0 ≤ a && a < Reg.HEAT_PIC_COEF 0 + 128 && a % 4 = 0 then some v
  else none

/-- What an entry of a configuration block does: its register's new word, or none where it is skipped (R597). -/
def configEntry (a : Nat) (old v : Word) : Option Word :=
  if a = Reg.RING_CFG then if 1 ≤ fld v 0 3 && fld v 0 3 ≤ 4 then some (setFld old 0 3 (fld v 0 3)) else none
  else heatRule a old v

/-- The words of a configuration block (R597). -/
def configWords (s : State) (n : Nat) : List (Nat × Word) :=
  (List.range (ownerClen s n / 8)).map fun i =>
    let a := ownerAt s n + 256 + 8 * i
    (readFlash s a 4 % 2 ^ 28, word (readFlash s (a + 4) 4))

/-- Loads one entry, as the reset value of its register, or counts it as skipped (R560, R597). -/
def loadConfig (e : Nat × Word) (s : State) : State :=
  match configEntry e.1 (reg s e.1) e.2 with
  | some v => setReg e.1 v { s with prime := { s.prime with config := (e.1, v) :: s.prime.config } }
  | none => bumpF Reg.WH_COUNTS 8 8 s

/-! ### Boot (R594 to R596) -/

/-- The Wellhead boots from flash; false where no slot is booted (R594, R595, R597). -/
def bootFlash (x0 x1 : SlotChecks) (s : State) : State × Bool :=
  let b := bootChoice s x0 x1
  let fail := fun (c : Nat) (t : State) => if c = 0 then t else whenB (c = 11) flashError (setFault whPage 0 t)
  let s1 := fail b.2.2 (fail b.2.1 s)
  let s2 := modWh (fun w => { w with booted := b.1, bootOwner := keyInService w }) s1
  let s3 := setF Reg.WH_BOOT_STATUS 0 8 (b.2.1 + 16 * b.2.2) s2
  match b.1 with
  | none => (showWh s3, false)
  | some n =>
    let s4 := setReg Reg.WH_SEQ (word (imageSeq s n)) (setF Reg.WH_BOOT_STATUS 8 7 (imageSvn s n) s3)
    let s5 := setReg Reg.RING_FW_VER (word (imageField s n 0x1C 4)) s4
    let s6 := forEach (allPumps s) (fun k t => setPump k { pump t k with kernel := imageKernel s n } t) s5
    let s7 := if hasOwner s n then forEach (configWords s n) loadConfig s6 else s6
    (showWh s7, true)

/-! ### The calibration record (R144, R598, R599) -/

/-- Flash address of a calibration copy. -/
def calAt (c : Nat) : Nat := 0x3200000 + 0x80000 * c

/-- The first 128 bits of SHAKE256 over a copy's header bytes 0 to 47 and its entries. -/
def calDigest (s : State) (c : Nat) : List Byte :=
  shake256 (flashBytes s (calAt c) 48 ++ flashBytes s (calAt c + 64) (8 * readFlash s (calAt c + 4) 4)) 16

/-- Whether a copy is valid (R144, R598). -/
def calValid (s : State) (c : Nat) : Bool :=
  readFlash s (calAt c) 4 == 0x504C4D43 && readFlash s (calAt c + 8) 8 == Config.serial.toNat &&
    8 * readFlash s (calAt c + 4) 4 + 64 ≤ 0x80000 && flashBytes s (calAt c + 48) 16 == calDigest s c

/-- A copy's generation. -/
def calGen (s : State) (c : Nat) : Nat := readFlash s (calAt c + 16) 4

/-- The copy that P4 loads (R598). -/
def calPick (s : State) : Option Nat :=
  match calValid s 0, calValid s 1 with
  | true, true => some (if calGen s 0 < calGen s 1 then 1 else 0)
  | true, false => some 0
  | false, true => some 1
  | false, false => none

/-- The writable bits of a calibration word; none where the address is no calibration word on this variant (R598). -/
def calMask (v : Variant) (a : Nat) : Option Nat :=
  match decodeAddr v a with
  | .page p o => match pageReg p o with
    | some d => if d.cal then some (writeMask v p o d) else none
    | none => none
  | _ => none

/-- Stages one entry of the record until the exit from P4, or counts it as skipped (R145, R598). -/
def loadCalEntry (e : Nat × Word) (s : State) : State :=
  match calMask s.variant e.1 with
  | some m => { s with prime := { s.prime with calStaged := SMap.set (fun _ => none) s.prime.calStaged e.1 (some (e.2 &&& word m)) } }
  | none => bumpF Reg.WH_COUNTS 16 16 s

/-- The Wellhead loads the flash calibration record, if one is valid, at entry into P4 of a cold path (R143, R598). -/
def loadCalRecord (s : State) : State :=
  match calPick s with
  | none => modWh (fun w => { w with calCopy := none }) s
  | some c =>
    let entries := (List.range (readFlash s (calAt c + 4) 4)).map fun i =>
      let a := calAt c + 64 + 8 * i
      (readFlash s a 4 % 2 ^ 28, word (readFlash s (a + 4) 4))
    forEach entries loadCalEntry (modWh (fun w => { w with calCopy := some c }) s)

/-- The calibration words of a page. -/
def calWordsOf (p : Page) : List Nat :=
  ((blockRegs p).filter fun d => d.cal).flatMap fun d => (List.range d.count).map fun i => pageBase p + d.off + d.stride * i

/-- Every calibration word of the variant, in address order of its pages (R599). -/
def calWords (v : Variant) : List Nat :=
  let pages : List Page := [⟨.time, 0⟩, ⟨.capt, 0⟩] ++ (List.range 288).map (fun w => wellPage w) ++ (List.range 10).map (fun c => ⟨.col, c⟩)
  (pages.filter fun p => p.present v).flatMap calWordsOf

/-- The copy that CAL_SAVE writes (R599). -/
def calTarget (s : State) : Nat :=
  match s.wellhead.calCopy with
  | some c => 1 - c
  | none => if calValid s 0 then 1 else 0

/-- CAL_SAVE: the bytes of the record, with a generation (R598, R599). -/
def calRecord (s : State) (gen : Nat) : List Byte :=
  let ws := calWords s.variant
  let entries := ws.flatMap fun a => toBytes 4 a ++ toBytes 4 (reg s a).toNat
  let head := toBytes 4 0x504C4D43 ++ toBytes 4 ws.length ++ toBytes 8 Config.serial.toNat ++ toBytes 4 gen ++ List.replicate 28 0
  head ++ shake256 (head ++ entries) 16 ++ entries

/-! ### Commands (R600 to R615) -/

/-- Whether the full matrix is there for a command that needs it (R601). -/
def fullMatrix (s : State) : Bool := 3 ≤ stage s && stage s ≤ 7 && !testSession s

/-- Starts a command from requester 0 or 1 (R600, R604). -/
def whStart (req : Requester) (code : Nat) (s : State) : State :=
  if !(req == 0 || req == 1) || code = 0 || 11 < code then s
  else if s.wellhead.running.isSome then bumpF Reg.WH_COUNTS 0 8 s
  else
    let run := (code, (reg s Reg.WH_ARG0).toNat, (reg s Reg.WH_ARG1).toNat)
    let s1 := setB Reg.WH_STATUS 0 true (modWh (fun w => { w with running := some run }) s)
    if code = 4 then setReg Reg.WH_STAGE 0 s1 else s1

/-- A write of WH_CMD with a code. -/
def whCommand (req : Requester) (code : Nat) (s : State) : State := hostWrite req Reg.WH_CMD (whStart req code) s

/-- FLASH_ERASE (R600, R602). -/
def execFlashErase (req : Requester) (s : State) : Out := .next (whCommand req 1 s)

/-- FLASH_PROGRAM (R600, R602). -/
def execFlashProgram (req : Requester) (s : State) : Out := .next (whCommand req 2 s)

/-- FLASH_READ (R600, R602). -/
def execFlashRead (req : Requester) (s : State) : Out := .next (whCommand req 3 s)

/-- STAGE (R600, R604). -/
def execStage (req : Requester) (s : State) : Out := .next (whCommand req 4 s)

/-- SVN_COMMIT (R600, R608). -/
def execSvnCommit (req : Requester) (s : State) : Out := .next (whCommand req 5 s)

/-- ENROLL (R600, R606). -/
def execEnroll (req : Requester) (s : State) : Out := .next (whCommand req 6 s)

/-- ATTEST (R600, R613). -/
def execAttest (req : Requester) (s : State) : Out := .next (whCommand req 7 s)

/-- NONCE (R600). -/
def execNonce (req : Requester) (s : State) : Out := .next (whCommand req 8 s)

/-- DEBUG_UNLOCK (R600, R615). -/
def execDebugUnlock (req : Requester) (s : State) : Out := .next (whCommand req 9 s)

/-- DEBUG_LOCK (R600, R615). -/
def execDebugLock (req : Requester) (s : State) : Out := .next (whCommand req 10 s)

/-- CAL_SAVE (R599, R600). -/
def execCalSave (req : Requester) (s : State) : Out := .next (whCommand req 11 s)

/-- A byte of the data window. -/
def windowByte (s : State) (i : Nat) : Byte := byteOf (reg s (Reg.WH_DATA (i / 4))).toNat (i % 4)

/-- Bytes of the data window. -/
def windowBytes (s : State) (i n : Nat) : List Byte := (List.range n).map fun j => windowByte s (i + j)

/-- Writes bytes into the data window. -/
def setWindow (i : Nat) (bs : List Byte) (s : State) : State :=
  match bs with
  | [] => s
  | b :: r => setWindow (i + 1) r (setF (Reg.WH_DATA (i / 4)) (8 * (i % 4)) 8 b.toNat s)

/-- Whether a range of flash is open to commands (R602). -/
def flashRange (a n : Nat) : Bool := 0x100000 ≤ a && a + n ≤ 0x3400000

/-- Whether a range touches the booted slot, which is protected except in HALTED (R602). -/
def protectedFlash (s : State) (a n : Nat) : Bool :=
  match s.wellhead.booted with
  | some b => stage s != 0xE && slotAt b < a + n && a < slotAt b + slotBytes
  | none => false

/-- FLASH_ERASE ends (R602). -/
def endErase (a : Nat) (x : WhOutcome) (s : State) : State :=
  if !flashRange a 0x10000 || a % 0x10000 ≠ 0 then whEnd 1 s
  else if protectedFlash s a 0x10000 then whEnd 2 s
  else if !x.flashOk then whEnd 7 (flashError (spoilFlash a 0x10000 s))
  else whEnd 0 (eraseFlash a 0x10000 s)

/-- Whether a length suits FLASH_PROGRAM and FLASH_READ (R600). -/
def lengthOk (n : Nat) : Bool := 256 ≤ n && n ≤ 3072 && n % 256 = 0

/-- FLASH_PROGRAM ends (R602). -/
def endProgram (a n : Nat) (x : WhOutcome) (s : State) : State :=
  if !lengthOk n || !flashRange a n then whEnd 1 s
  else if protectedFlash s a n then whEnd 2 s
  else if !x.flashOk then whEnd 7 (flashError (spoilFlash a n s))
  else whEnd 0 (writeFlash a (windowBytes s 0 n) s)

/-- FLASH_READ ends (R602). -/
def endRead (a n : Nat) (x : WhOutcome) (s : State) : State :=
  if !lengthOk n || !flashRange a n then whEnd 1 s
  else if !x.flashOk then whEnd 7 (flashError s)
  else whEnd 0 (setWindow 0 (flashBytes s a n) s)

/-- STAGE ends (R604). -/
def endStage (n : Nat) (x : WhOutcome) (s : State) : State :=
  let back := fun (t : State) => setB Reg.WH_STAGE 0 t.kernelStaged.isSome t
  if 1 < n then whEnd 1 (back s)
  else if slotCheck s n (keyInService s.wellhead) x.image ≠ 0 then
    whEnd 3 (back (whenB (!x.image.readable) flashError s))
  else
    whEnd 0 (setReg Reg.WH_STAGED_KERNEL_VER (imageKernel s n) (setReg Reg.WH_STAGE 1 { s with kernelStaged := some (imageKernel s n) }))

/-- SVN_COMMIT: it fails, or its burn starts (R608). -/
def endSvn (s : State) : State :=
  match s.wellhead.booted with
  | some _ =>
    let v := getF s Reg.WH_BOOT_STATUS 8 7
    if v ≤ s.wellhead.svn then whEnd 1 s else modWh (fun w => { w with burn := some (.svn v) }) s
  | none => whEnd 1 s

/-- Whether the message in the data window carries this device's serial, the nonce issued last, and a signer that may sign for
it (R606, R615). -/
def messageOk (s : State) (vendorToo : Bool) (x : WhOutcome) : Bool :=
  let owned := (keyInService s.wellhead).isSome
  let signer := (windowByte s 25).toNat
  windowBytes s 0 8 == toBytes 8 Config.serial.toNat && x.signerKey && x.signature &&
    (if signer = 0 then vendorToo || !owned else if signer = 1 then owned else false)

/-- Whether the message carries the nonce issued last and not used. -/
def nonceOk (s : State) : Bool := s.wellhead.nonce == some (windowBytes s 8 16)

/-- A verification attempt uses the nonce up (R606). -/
def useNonce (s : State) : State := modWh (fun w => { w with nonce := none }) s

/-- The lowest slot with no bit programmed. -/
def freeSlot (w : Wellhead) : Option Nat := (List.range 8).find? fun i => !w.programmed.testBit i

/-- ENROLL: it fails, or its burn starts (R606). -/
def endEnroll (x : WhOutcome) (s : State) : State :=
  match freeSlot s.wellhead with
  | none => whEnd 5 (useNonce s)
  | some k =>
    if !nonceOk s then whEnd 4 (useNonce s)
    else if (windowByte s 24).toNat ≠ k || !messageOk s false x then whEnd 3 (useNonce s)
    else
      let b := Burn.enroll k (shake256 (windowBytes s 100 68) 32) (keyInService s.wellhead)
      modWh (fun w => { w with burn := some b }) (useNonce s)

/-- The attestation report for an index (R613). -/
def attestReport (s : State) (index : Nat) : List Byte :=
  let w := s.wellhead
  let n := w.booted.getD 0
  let part := shake256 (flashBytes s (slotAt n) (imageVlen s n + sigBytes)) 32
  let owner := if hasOwner s n then shake256 (flashBytes s (ownerAt s n) (256 + ownerClen s n + sigBytes)) 32 else List.replicate 32 0
  let id := match s.variant with | .pe2560 => 0x2560 | .pe1280 => 0x1280
  let indices := match w.block with | some b => 64 * b + 64 - w.nextIndex | none => 0
  let body := toBytes 4 0x504C4D41 ++ toBytes 8 Config.serial.toNat ++ toBytes 4 (id + 65536 * Config.stepping.toNat) ++
    windowBytes s 0 32 ++ toBytes 4 index ++ toBytes 1 w.svn ++ toBytes 1 (getF s Reg.WH_BOOT_STATUS 8 7) ++
    toBytes 1 ((keyInService w).getD 255) ++ toBytes 1 (reg s Reg.WH_DEBUG).toNat ++ toBytes 4 (reg s Reg.WH_SEQ).toNat ++
    part ++ owner ++ toBytes 2 (16384 - w.blocks) ++ toBytes 1 indices ++
    toBytes 1 (getF s Reg.GLB_RESET_CAUSE 0 8) ++ toBytes 8 s.time.uptime
  body ++ List.replicate (256 - body.length) 0

/-- Reserves the lowest unblown index block: its burn starts, or ATTEST_EXHAUSTED is raised (R612). -/
def reserveBlock (s : State) : State :=
  if s.wellhead.blocks < 16384 then modWh (fun w => { w with block := none, burn := some .block }) s
  else setFault whPage 2 (modWh (fun w => { w with block := none }) s)

/-- ATTEST ends (R601, R612, R613); the signature is the device's own, which nothing here computes. -/
def endAttest (s : State) : State :=
  if !fullMatrix s then whEnd 1 s
  else
    match s.wellhead.block with
    | none => whEnd 5 s
    | some b =>
      let i := s.wellhead.nextIndex
      let s1 := modWh (fun w => { w with nextIndex := i + 1 }) s
      let sig := (List.range sigBytes).map fun j => byteOf (Config.openNat s.fresh) j
      let s2 := draw (writeShared (getF s Reg.WH_ATTEST_BASE 12 12 * 4096) (attestReport s1 i ++ sig) s1)
      showWh (whEnd 0 (if i + 1 = 64 * b + 64 then reserveBlock s2 else s2))

/-- NONCE ends: a fresh nonce (R600, R606). -/
def endNonce (s : State) : State :=
  let bs := toBytes 16 (Config.openNat s.fresh)
  let s1 := forEach (List.range 4) (fun i t => setReg (Reg.WH_NONCE i) (word (ofBytes ((bs.drop (4 * i)).take 4))) t) s
  whEnd 0 (draw (modWh (fun w => { w with nonce := some bs }) s1))

/-- DEBUG_UNLOCK ends (R615). -/
def endUnlock (x : WhOutcome) (s : State) : State :=
  let scopes := (windowByte s 24).toNat % 8
  let s1 := useNonce s
  if !nonceOk s then whEnd 4 (setFault whPage 6 s1)
  else if !messageOk s true x || (scopes.testBit 2 && windowByte s 25 != 0) then whEnd 3 (setFault whPage 6 s1)
  else
    let d := (reg s Reg.WH_DEBUG) ||| word scopes
    whEnd 0 (setFault whPage 5 (setReg Reg.WH_DEBUG d s1))

/-- The TMUX page. -/
def tmuxPage : Page := ⟨.tmux, 0⟩

/-- Every debug scope closes, and the TMUX page takes its reset values (R615, R629). -/
def closeScopes (s : State) : State :=
  let s1 := setF Reg.WH_DEBUG 0 3 0 s
  setPhase tmuxPage .off { s1 with regs := SMap.dropRange s1.regs (pageBase tmuxPage) 0x1000 }

/-- CAL_SAVE ends (R599, R601). -/
def endCalSave (x : WhOutcome) (s : State) : State :=
  let c := calTarget s
  let other := 1 - c
  if !fullMatrix s then whEnd 1 s
  else if calValid s other && calGen s other = 2 ^ 32 - 1 then whEnd 1 s
  else if !x.flashOk then whEnd 7 (flashError (spoilFlash (calAt c) 0x80000 s))
  else if calValid s other then whEnd 0 (writeFlash (calAt c) (calRecord s (calGen s other + 1)) (eraseFlash (calAt c) 0x80000 s))
  else
    let gen := Config.openNat s.fresh % 2 ^ 32
    whEnd 0 (draw (writeFlash (calAt c) (calRecord s gen) (eraseFlash (calAt c) 0x80000 s)))

/-- WH_COMMAND_COMPLETE: the running command does its work and ends, or its OTP burn starts (R600); it waits for a burn in
progress. -/
def execWhCommandComplete (x : WhOutcome) (s : State) : Out :=
  .next (match s.wellhead.running, s.wellhead.burn with
    | some (code, a0, a1), none =>
      if code = 1 then endErase a0 x s
      else if code = 2 then endProgram a0 a1 x s
      else if code = 3 then endRead a0 a1 x s
      else if code = 4 then endStage a0 x s
      else if code = 5 then endSvn s
      else if code = 6 then endEnroll x s
      else if code = 7 then endAttest s
      else if code = 8 then endNonce s
      else if code = 9 then endUnlock x s
      else if code = 10 then whEnd 0 (closeScopes s)
      else endCalSave x s
    | _, _ => s)

/-- A new owner key: programmed, enrolled, and the key before it revoked, as far as step `k` of the three (R606, R617). -/
def enrollSteps (k slot : Nat) (hash : List Byte) (revoke : Option Nat) (w : Wellhead) : Wellhead :=
  let w1 := if k = 0 then w else { w with programmed := w.programmed ||| 2 ^ slot, hashes := SMap.put w.hashes slot hash }
  let w2 := if k < 2 then w1 else { w1 with enrolled := w1.enrolled ||| 2 ^ slot }
  match revoke with
  | some r => if k < 3 then w2 else { w2 with revoked := w2.revoked ||| 2 ^ r }
  | none => w2

/-- What a burn that is cut short, or fails its verification, leaves in OTP is open, within what it blows (R617). -/
def burnPart (b : Burn) (v : Nat) (w : Wellhead) : Wellhead :=
  match b with
  | .block => { w with blocks := w.blocks + v % 2, block := none, burn := none }
  | .svn t => { w with svn := w.svn + v % (t - w.svn + 1), burn := none }
  | .enroll slot hash revoke => { enrollSteps (v % 4) slot hash revoke w with burn := none }

/-- A burn fails, or is cut short by a loss of power (R617). -/
def burnFails (s : State) : State :=
  match s.wellhead.burn with
  | some b => showWh (draw (modWh (burnPart b (openNow s)) s))
  | none => s

/-- A burn completes (R606 to R612). -/
def burnDone (b : Burn) (s : State) : State :=
  match b with
  | .block =>
    showWh (modWh (fun w => { w with block := some w.blocks, nextIndex := 64 * w.blocks, blocks := w.blocks + 1, burn := none }) s)
  | .svn t =>
    let s1 := showWh (modWh (fun w => { w with svn := t, burn := none }) s)
    whEnd 0 (whenB (t = 64) (setFault whPage 4) s1)
  | .enroll slot hash revoke =>
    let s1 := showWh (modWh (fun w => { enrollSteps 3 slot hash revoke w with burn := none }) s)
    whEnd 0 (whenB (slot = 7) (setFault whPage 3) s1)

/-- OTP_BURN_COMPLETE: verified, or OTP_FAIL with OTP_ERROR raised (R617). -/
def execOtpBurnComplete (verified : Bool) (s : State) : Out :=
  .next (match s.wellhead.burn with
    | none => s
    | some b =>
      if verified then burnDone b s
      else
        let s1 := setFault whPage 1 (burnFails s)
        match b with
        | .block => s1
        | _ => whEnd 6 s1)

/-- The running command on a warm path: a burn completes, and another command ends ABORTED (R617, R618). -/
def whInterrupted (s : State) : State :=
  match s.wellhead.running, s.wellhead.burn with
  | some (2, a, n), _ =>
    let page := (256 - a % 256) % 256
    let k := if page = 0 then 256 else page
    whEnd 8 (if lengthOk n && flashRange a n && !protectedFlash s a n then writeFlash a (windowBytes s 0 k) s else s)
  | some _, none => whEnd 8 s
  | _, _ => s

end Sys2Proof.Machine
end

