-- ==== Sys2Proof/Machine/Priming.lean ====
section
/-! DEFINITION. Priming: the stages, the reset kinds and their paths, start-up failures, the references and the rails, and the
PCIe link (R57, R60 to R71, R117 to R150, R432, R614). -/

namespace Sys2Proof.Machine

open Sys2Proof

/-! ### Stages -/

/-- The CLK page. -/
def clkPage : Page := ⟨.clk, 0⟩

/-- The PWR page. -/
def pwrPage : Page := ⟨.pwr, 0⟩

/-- The PCIE page. -/
def pciePage : Page := ⟨.pcie, 0⟩

/-- Changes the record of the priming path. -/
def modPrime (f : Prime → Prime) (s : State) : State := { s with prime := f s.prime }

/-- The first failure of a path stands in FAIL_STAGE and FAIL_CODE (R146). -/
def failCode (code st : Nat) (s : State) : State :=
  if getF s Reg.GLB_PRIME_STATUS 16 8 = 0 then setF Reg.GLB_PRIME_STATUS 16 8 code (setF Reg.GLB_PRIME_STATUS 12 4 st s) else s

/-- A failure that halts the device (R146). -/
def failHalt (code : Nat) (s : State) : State := haltDevice (failCode code (stage s) s)

/-- Priming sets ENABLE in a page, whose start sequence begins (R122). -/
def enablePage (p : Page) (s : State) : State :=
  let s1 := setB (Reg.CTRL p) 0 true s
  if phase s p == .off then setPhase p .starting s1 else s1

/-- Every page of a kind that the variant has. -/
def pagesOf (v : Variant) (k : PageKind) : List Page :=
  ((List.range 160).map fun i => (⟨k, i⟩ : Page)).filter fun p => p.present v

/-- The stage changes, and DDRk_RESET_N with it: low until training in P3 and in THERMAL_DOWN, and as before in HALTED (R123). -/
def setStage (n : Nat) (s : State) : State :=
  setF Reg.GLB_PRIME_STATUS 0 4 n { s with pins := { s.pins with
    ddrResetN := if 3 ≤ n && n ≤ 7 then true else if n = 0xE then s.pins.ddrResetN else false } }

/-- Milliseconds since the start of the path, as GLB_PRIME_MS shows them (R149, R150). -/
def primeMs (s : State) : Nat := min 0xFFFF ((s.time.uptime - s.prime.started) / 1000000)

/-- The pages whose ENABLE reads as 1 run from P1 (R88). -/
def alwaysOnPages : List Page := [.glb, .pwr, .clk, .heat, .flt, .wellhead, .xbar].map fun k => ⟨k, 0⟩

/-- Whether the path was begun by power-on or RESET_N. -/
def coldPath (s : State) : Bool := s.prime.path == .cold

/-- Whether the path is cold, a thermal restart included (R125). -/
def coldKind (s : State) : Bool := s.prime.path == .cold || s.prime.path == .thermal

/-- Entry into P1 (R118, R122, R130, R612). -/
def enterP1 (s : State) : State :=
  let s1 := setStage 1 (modPrime (fun q => { q with started := s.time.uptime, waiting := false, calDone := false, calHost := false }) s)
  let s2 := forEach alwaysOnPages (fun p t => setPhase p .running t) s1
  let s3 := forEach [.pcie, .xspi, .i2c, .census] (fun k t => enablePage ⟨k, 0⟩ t) s2
  let s4 := setReg Reg.RING_CFG (ringCfgReset s3) (setF Reg.RING_STATUS 0 2 s3.pins.pos s3)
  showWh (if coldPath s4 && s4.wellhead.burn.isNone then reserveBlock s4 else s4)

/-- A warm path finds the PLLs as an earlier path's P3 left them; after a cold path that halted before, it does P3's work itself
(R60, R118, R146, R147). -/
def keepsPlls (s : State) : Bool := s.prime.path == .warm && getBit s Reg.CLK_SRC_STATUS 7

/-- Entry into P3: the full matrix opens, the system PLL relocks to XREF where it may, and the TIME clock is primed; a warm path whose
PLL stays locked keeps both, and starts a TIME clock that stands (R60, R118, R121, R146, R461). -/
def enterP3 (s : State) : State :=
  let s1 := setStage 3 s
  let use := getBit s1 Reg.CLK_XREF_CTRL 0
  let xref := getBit s1 Reg.CLK_SRC_STATUS 1
  let s2 := if keepsPlls s then (if s1.time.running then s1 else clockPrime s1)
    else
      let t1 := setB Reg.CLK_SRC_STATUS 2 false (setB Reg.CLK_SRC_STATUS 4 false (setB Reg.CLK_SRC_STATUS 3 (use && xref) s1))
      let t2 := modPrime (fun q => { q with holdover := none }) t1
      clockPrime (if use && !xref then sendRaise 1 0 none (failCode 5 3 t2) else t2)
  enablePage evtPage (enablePage timePage s2)

/-- The first start of P4's work: wells come up and bias their pads, and on a cold path the Wellhead loads the
calibration record (R122, R143, R328). -/
def enterP4 (s : State) : State :=
  let s1 := setStage 4 (modPrime (fun q => { q with calStaged := if coldKind s then [] else q.calStaged }) s)
  let s2 := forEach (pagesOf s1.variant .tw ++ pagesOf s1.variant .pw ++ pagesOf s1.variant .hw) enablePage s1
  let s3 := forEach (allWells s2) refreshWell { s2 with biasOn := true, wellSpans := [], wellOrigin := none, published := [], settleFrom := [] }
  if coldKind s3 then loadCalRecord s3 else s3

/-- Calibration words that were staged take effect together (R145). -/
def applyCal (s : State) : State :=
  let put := fun (e : Nat × Option Word) (t : State) => match e.2 with
    | some v => setReg e.1 v t
    | none => t
  modPrime (fun q => { q with calStaged := [] }) (forEach s.prime.calStaged put s)

/-- The loop cell of P5: fresh copies, and the bumpless preset from the codes at its driver stage (R133, R294, R309). -/
def primeCell (cell : Nat) (s : State) : State :=
  let side := getBit s Reg.GLB_PRIME_CTRL 1 && cellAuto s cell
  let c := loopCell s cell
  let s1 := setCell cell { LoopCell.empty with presetDue := List.replicate 4 true, firstDue := c.firstDue } s
  let s2 := setReg (claimState cell) 0 (setClaim cell 0 2 (setClaim cell 1 1 s1))
  if side then s2 else forceManual cell s2

/-- A pump of P5: loaded from its firmware and the loop parameter window, and computing (R131, R133, R309, R311). -/
def primePump (k : Nat) (s : State) : State :=
  let s1 := setReg (Reg.PE_KERNEL_VER k) (pump s k).kernel (setB (Reg.CTRL (pumpPage k)) 0 true s)
  setPhase (pumpPage k) .running (setPumpState k 4 (setPump k { Pump.empty with kernel := (pump s k).kernel } (reloadPump k s1)))

/-- Entry into P5: on a cold path the driver stages leave the lockout for active drive at park values (R124, R133, R276, R309). -/
def enterP5 (s : State) : State :=
  let s1 := setStage 5 s
  let s2 := if s1.pins.lockout then
      forEach (allSlots s1) (fun n t => eoPark (parkForced t) n (htrPark n t)) { s1 with pins := { s1.pins with lockout := false } }
    else s1
  let s3 := forEach (pagesOf s2.variant .col) enablePage s2
  let s4 := forEach (allPumps s3) primePump { s3 with loopOrigin := some s3.time.uptime, ncoOrigin := s3.time.uptime, nco := [] }
  let s5 := forEach (allCells s4) primeCell s4
  forEach (allPumps s5) refreshPair s5

/-- The exit from P4 (R145). -/
def exitP4 (s : State) : State :=
  let s1 := modPrime (fun q => { q with waiting := false }) s
  if coldKind s1 then
    let flash := s1.wellhead.calCopy.isSome
    let got := flash || s1.prime.calHost
    let s2 := applyCal (setB Reg.GLB_PRIME_STATUS 7 (!got) (setB Reg.GLB_PRIME_STATUS 6 flash (setB Reg.GLB_PRIME_STATUS 5 got s1)))
    enterP5 s2
  else enterP5 s1

/-- Whether P4 waits for GLB_CAL_DONE (R143). -/
def calWait (s : State) : Bool :=
  coldPath s && getBit s Reg.GLB_PRIME_CTRL 0 && getF s Reg.GLB_PRIME_CTRL 8 8 != 0 && !s.prime.calDone

/-- P0_RELEASE: P0 ends 1 ms after the later of PWRGOOD high and RESET_N high, with the references as they are (R118, R60). -/
def execP0Release (clkref xref : Bool) (s : State) : Out :=
  .next (
    if s.time.counting || !s.pins.pwrgood || !s.pins.resetN then s
    else
      let s1 := { s with time := { s.time with counting := true, uptime := 0 } }
      let s2 := setReg Reg.CLK_SRC_STATUS (word (b2n clkref + 2 * b2n xref + 4 * b2n clkref)) (setF Reg.PWR_MON_STATUS 0 10 0x3FF s1)
      enterP1 s2)

/-- WELLHEAD_READY: P1 ends, or the ROM or OTP self-test has failed (R118, R146). -/
def execWellheadReady (selfTest : Bool) (s : State) : Out :=
  .next (if stage s = 1 && s.time.counting then (if selfTest then setStage 2 s else failHalt 1 s) else s)

/-- FIRMWARE_LOADED: the Wellhead has read, checked and loaded the images; with none booted, priming halts (R594, R595). -/
def execFirmwareLoaded (slot0 slot1 : SlotChecks) (s : State) : Out :=
  .next (
    if stage s = 2 then
      match bootFlash slot0 slot1 s with
      | (t, true) => enterP3 t
      | (t, false) => failHalt 3 t
    else s)

/-- PLLS_LOCKED: P3 ends, and P4 begins (R118). -/
def execPllsLocked (s : State) : Out :=
  .next (
    if stage s = 3 then
      let on := getBit s Reg.CLK_SRC_STATUS 3 || getBit s Reg.CLK_SRC_STATUS 0
      let lock := if keepsPlls s then getBit s Reg.CLK_SRC_STATUS 2 else on
      enterP4 (setB Reg.CLK_SRC_STATUS 7 true (setB Reg.CLK_SRC_STATUS 5 (getBit s Reg.CLK_SRC_STATUS 0) (setB Reg.CLK_SRC_STATUS 2 lock s)))
    else s)

/-- DRAM_TRAINING_COMPLETE: the channel's page is enabled with its DRAM in service, or stays disabled and DEGRADED (R118, R122,
R146). -/
def execDramTrainingComplete (channel : Fin 4) (trained : Bool) (bytes : BitVec 40) (s : State) : Out :=
  .next (
    let p : Page := ⟨.ddr, channel.val⟩
    if stage s < 3 || 7 < stage s || enabled s p then s
    else if trained then enablePage p { s with dramSize := s.dramSize + bytes.toNat }
    else setFault p 2 (setB (Reg.STATUS p) 5 true (failCode 6 3 s)))

/-- SYS_PLL_LOCK_TIMEOUT (R146). -/
def execSysPllLockTimeout (s : State) : Out :=
  .next (if stage s = 3 && !getBit s Reg.CLK_SRC_STATUS 2 then failHalt 4 s else s)

/-- BANDGAP_SETTLE_TIMEOUT (R146). -/
def execBandgapSettleTimeout (s : State) : Out := .next (if stage s = 4 then failHalt 7 s else s)

/-- STAGE_TIMEOUT (R146). -/
def execStageTimeout (s : State) : Out :=
  .next (if s.time.counting && 1 ≤ stage s && stage s ≤ 5 then failHalt 2 s else s)

/-- A write of GLB_CAL_DONE.DONE (R143, R145). -/
def calDoneWrite (s : State) : State :=
  if stage s = 4 && coldKind s then
    let s1 := modPrime (fun q => { q with calDone := true }) s
    if s1.prime.waiting then exitP4 s1 else s1
  else if 4 < stage s && stage s ≤ 7 && getBit s Reg.GLB_PRIME_STATUS 7 then setB Reg.GLB_PRIME_STATUS 7 false (applyCal s)
  else s

/-- CAL_DONE_WRITE (R143, R145). -/
def execCalDoneWrite (req : Requester) (s : State) : Out := .next (hostWrite req Reg.GLB_CAL_DONE calDoneWrite s)

/-- CAL_WAIT_TIMEOUT (R143). -/
def execCalWaitTimeout (s : State) : Out := .next (if stage s = 4 && s.prime.waiting then exitP4 s else s)

/-- P4 completes: the references have settled and the wells are up, but for those that failed bring-up; the host wait follows where the
path has one (R118, R143, R146, R354). -/
def p4Complete (failed : List (Fin 304)) (s : State) : State :=
    if stage s = 4 && !s.prime.waiting then
      let bad := failed.map Fin.val
      let up := fun (p : Page) (t : State) => if phase t p == .starting then setPhase p .running t else t
      let s1 := forEach (pagesOf s.variant .tw ++ pagesOf s.variant .pw ++ pagesOf s.variant .hw) up s
      let s2 := forEach (allWells s1) refreshWells s1
      let lose := fun (w : Nat) (t : State) => setB (Reg.STATUS (wellPage w)) 5 true (loseWell w false t)
      let s3 := forEach (bad.filter fun w => (wellPage w).present s.variant) lose (if bad.isEmpty then s2 else failCode 8 4 s2)
      if calWait s3 then modPrime (fun q => { q with waiting := true }) s3 else exitP4 s3
    else s

/-- P5_COMPLETE: every cell with a healthy pump is preloaded; pumps that failed their self-test are lost (R118, R146, R149, R309). -/
def execP5Complete (failed : List (Fin 128)) (s : State) : Out :=
  .next (
    if stage s = 5 then
      let bad := (failed.map Fin.val).filter fun k => k < s.variant.pumps
      let s1 := forEach bad (fun k t => bumpF (Reg.HEALTH_TEST k) 16 8 (pumpLost k 3 t)) (if bad.isEmpty then s else failCode 9 5 s)
      let s2 := setStage 6 (setF Reg.GLB_PRIME_MS 0 16 (primeMs s1) s1)
      let s3 := enablePage ringPage s2
      if standAlone s3 then
        let t := setB Reg.RING_STATUS 9 true (setB Reg.RING_STATUS 8 true (setF Reg.RING_STATUS 5 3 2 (setB Reg.RING_STATUS 4 true s3)))
        setF Reg.RING_STATUS 2 2 t.pins.pos t
      else trainLanes (setPhase ringPage .running s3)
    else s)

/-- P6_COMPLETE: the member is JOINED, or the bound of P6 has passed (R118, R122, R146, R149, R432). -/
def execP6Complete (s : State) : Out :=
  .next (
    if stage s = 6 then
      let out := !standAlone s && joinState s != 2
      let s1 := if out then sendRaise 51 0 none (setB Reg.GLB_PRIME_STATUS 8 true (failCode 0xA 6 s)) else s
      let s2 := setStage 7 (setF Reg.GLB_PRIME_MS 16 16 (primeMs s1) s1)
      enablePage verdictPage (enablePage routePage (enablePage epochPage s2))
    else s)

/-! ### Cold paths (R71, R124, R125, R131) -/

/-- The bits of a register word that a cold path keeps: GLB_RESET_CAUSE; on a thermal restart also the FLT page, the rails and
references as they are, and the restart count (R131, R548, R568, R639). -/
def coldKeep (thermal : Bool) (a : Nat) : Nat :=
  if a = Reg.GLB_RESET_CAUSE then 0xFFFFFFFF
  else if !thermal then 0
  else
    match decodeFull a with
    | .page p o =>
      if p.kind = .flt then 0xFFFFFFFF
      else if p.kind = .pwr && 0x44 ≤ o then 0xFFFFFFFF
      else if a = Reg.CLK_SRC_STATUS then 0x7
      else if a = Reg.HEAT_RESTART then 0xFFFFFFFF
      else 0
    | _ => 0

/-- Register words with only the named bits kept, in canonical form. -/
def keepWords (keep : Nat → Nat) (m : SMap Word) : SMap Word :=
  (m.map fun e =>
    let k := word (keep e.1)
    (e.1, (e.2 &&& k) ||| (resetWord e.1 &&& ~~~k))).filter fun e => !decide (e.2 = resetWord e.1)

/-- Everything a cold path loses is lost, and the lockout engages (R56, R124, R131). -/
def coldReset (thermal : Bool) (s : State) : State :=
  { State.reset with
    variant := s.variant
    regs := keepWords (coldKeep thermal) s.regs
    pins := { s.pins with lockout := true, pcieUp := if thermal then s.pins.pcieUp else false, thermLow := false }
    dramGen := s.dramGen + 1
    fresh := s.fresh
    out := s.out
    pending := s.pending
    flt := if thermal then { s.flt with windows := [] } else State.reset.flt
    heat := if thermal then { State.reset.heat with restarts := s.heat.restarts } else State.reset.heat
    time := if thermal then { State.reset.time with uptime := s.time.uptime, counting := true } else State.reset.time
    wellhead := { s.wellhead with
      running := none, booted := none, calCopy := none, nonce := none
      block := if thermal then s.wellhead.block else none }
    prime := { State.reset.prime with path := if thermal then .thermal else .cold } }

/-- POWER_ON: PWRGOOD rises, and POS is sampled (R71, R125, R149). -/
def execPowerOn (pos : Fin 4) (s : State) : Out :=
  .next (
    if s.pins.pwrgood then s
    else
      let s1 := coldReset false s
      setReg Reg.GLB_RESET_CAUSE 1 { s1 with pins := { s1.pins with pwrgood := true, pos := pos.val } })

/-- PWRGOOD_FALL: the supply lockout takes effect, and light is lost; a burn is cut short (R57, R126, R617). -/
def execPwrgoodFall (s : State) : Out :=
  .next (
    if !s.pins.pwrgood then s
    else
      let s1 := coldReset false (burnFails s)
      { s1 with pins := { s1.pins with pwrgood := false } })

/-- RESET_N_LOW: a pin reset takes hold (R71, R125, R126). -/
def execResetNLow (s : State) : Out :=
  .next (
    if !s.pins.resetN then s
    else if !s.pins.pwrgood then { s with pins := { s.pins with resetN := false } }
    else
      let s1 := coldReset false s
      setB Reg.GLB_RESET_CAUSE 1 true { s1 with pins := { s1.pins with resetN := false } })

/-- RESET_N_HIGH: the P0 count starts, and POS is sampled (R71, R118). -/
def execResetNHigh (pos : Fin 4) (s : State) : Out :=
  .next (
    if s.pins.resetN then s
    else { s with pins := { s.pins with resetN := true, pos := if s.pins.pwrgood then pos.val else s.pins.pos } })

/-! ### Warm paths (R127 to R135) -/

/-- The bits of a register word that a warm path keeps (R131, R149, R253, R254, R352, R461, R544, R548, R568, R588, R639). -/
def warmKeep (a : Nat) : Nat :=
  match decodeFull a with
  | .slotShadow _ _ | .loopWin _ => 0xFFFFFFFF
  | .page p o =>
    if ((pageReg p o).map RegDef.cal).getD false then 0xFFFFFFFF
    else
      match p.kind with
      | .flt => 0xFFFFFFFF
      | .glb =>
        if o = 0x08 then 8 else if o = 0x108 || o = 0x110 then 0xFFFFFFFF else if o = 0x104 then 0x80 else 0
      | .pe => if o = 0x08 then 8 else 0
      | .pwr => if 0x44 ≤ o then 0xFFFFFFFF else 0
      | .clk => if o = 0x40 then 0xFFFFFFFF else 0
      | .heat => if o = 0x64 then 0xFFFFFFFF else 0
      | .time => if o = 0x08 then 1 else if a = Reg.TIME_INCR_LO || a = Reg.TIME_INCR_HI || a = Reg.TIME_STATUS then 0xFFFFFFFF else 0
      | .col =>
        if o = 0x08 then 8
        else if p.inst = 0 && 0x8000 ≤ o && o < 0xC000 then 0xFFFFFFFF
        else if 0x5000 ≤ o && o < 0x6000 && 8 ≤ o % 16 then 0x1F0000
        else if o = 0x104 then 0xF
        else if 0x6000 ≤ o && o < 0x6400 then 0xFFFFFFFF
        else 0
      | _ => 0
  | _ => 0

/-- A held column: codes and levels stand, its cells wait for their first update (R130). -/
def holdColumn (c : Nat) (s : State) : State :=
  let s1 := forEach (colSlots c) (fun n t => eoFreeze n (holdCode n t)) s
  forEach (colCells c) (fun m t => setCell m { loopCell t m with firstDue := true } t) s1

/-- A column that is not held goes to park (R130). -/
def parkColumn (c : Nat) (s : State) : State :=
  let s1 := forEach (colSlots c) (fun n t => eoPark (parkForced t) n (htrPark n t)) s
  forEach (colCells c) (fun m t => setCell m { loopCell t m with firstDue := false } t) s1

/-- What the device keeps outside its registers through a warm path, and what it loses (R129, R131). -/
def warmState (s : State) : State :=
  { s with
    regs := keepWords warmKeep s.regs
    active := SMap.keep (fun a => match decodeFull a with | .slotShadow _ _ => true | .page p _ => p.kind == .flt | _ => false) s.active
    dram := [], dramGen := s.dramGen + 1, dramSize := 0
    bus := { s.bus with held := [], frozen := [], phase := SMap.keep (fun a => a == pageBase timePage) s.bus.phase }
    colCommit := [], epochs := [], epochNumber := 0, epochPrev := none, submission := none, resultOf := none, reports := []
    schedule := none, preparation := none, ringRoles := [], warmRequested := false, handedOff := false
    eoCal := [], siphonGen := [], rbFail := [], htrCal := [], inputPower := [], kernelStaged := none
    pinsPlaced := [], pin := [], calRun := [], binding := [], wellSpans := [], wellOrigin := none, published := [], epochReset := false, refOut := State.reset.refOut
    verdict := none, pilotDecode := none, pilotBit := none, lastApplied := none, streams := [], trigPulse := []
    ring := State.reset.ring, ports := State.reset.ports, evt := State.reset.evt
    flt := { s.flt with windows := [] }
    heat := { s.heat with sensors := [], cool := none }
    dieThrottled := false, picThrottled := false, census := none
    align := { s.align with departures := [], skip := false, first := none }
    wellhead := { s.wellhead with booted := none, nonce := none }
    prime := { State.reset.prime with path := s.prime.path, holdover := s.prime.holdover, calStaged := s.prime.calStaged } }

/-- A warm or clock reset takes effect; `parkAll` where no column may be held (R129 to R131, R135, R614). -/
def warmTake (kind : PathKind) (parkAll : Bool) (s : State) : State :=
  let cols := List.range s.variant.columns
  let drive := !s.pins.lockout
  let may := drive && kind == .warm && !parkAll && holdThrough s glbPage && !parkForced s
  let held := cols.filter fun c => may && holdThrough s (colPage c)
  let copying := s.census.isSome
  let s1 := leaveRing (censusStop s)
  let s2 := haltPumps (forEach (allPumps s1) loopAbandon (forEach (allCells s1) (injEnd true) s1))
  let s3 := siphonStop (whInterrupted s2)
  let s4 := forEach cols (fun c t => if held.contains c then holdColumn c t else if drive then parkColumn c t else t) s3
  let s5 := warmState (closeScopes s4)
  let s6 := { s5 with prime := { s5.prime with path := kind } }
  let cause := if kind == .clock then 0x10 else 4 + (if held.isEmpty then 0 else 8)
  let s7 := setReg Reg.GLB_RESET_CAUSE (reg s6 Reg.GLB_RESET_CAUSE ||| word cause) s6
  let s8 := whenB copying (setB Reg.CEN_STATUS 3 true) (setB Reg.GLB_PRIME_STATUS 4 (!held.isEmpty) s7)
  let mark := fun (c : Nat) (t : State) => forEach (colSlots c) (markStale true) t
  forEach held mark (enterP1 s8)

/-- An epoch that is committed and has not reached T + 900 ns (R127). -/
def committedEpoch (s : State) : Option Epoch := s.epochs.find? fun e => e.phase != .queued && ptpNow s < e.t + 900

/-- Whether a warm or clock path runs (R126). -/
def warmRuns (s : State) : Bool := !coldKind s && stage s < 7

/-- A write of GLB_RESET_CTRL with WARM_RESET and the key (R126, R127, R147). -/
def warmRequest (req : Requester) (s : State) : State :=
  let st := stage s
  if !(req == 0 || req == 1) || st = 0xF || (st = 0xE && getF s Reg.GLB_PRIME_STATUS 16 8 ≠ 3) || s.warmRequested || warmRuns s then s
  else
    match committedEpoch s with
    | some _ => { s with warmRequested := true }
    | none => warmTake .warm false s

/-- WARM_RESET (R127). -/
def execWarmReset (req : Requester) (s : State) : Out := .next (hostWrite req Reg.GLB_RESET_CTRL (warmRequest req) s)

/-- WARM_RESET_TAKES_EFFECT: at T + 900 ns of the committed epoch (R127, R129). -/
def execWarmResetTakesEffect (s : State) : Out :=
  .next (
    if !s.warmRequested then s
    else
      match committedEpoch s with
      | some e => warmTake .warm false (advanceTo (e.t + 900) s)
      | none => warmTake .warm false s)

/-- SOFT_RESET in the CLK page (R126, R135, R633). -/
def clockReset (s : State) : State :=
  if governed s || (s.prime.path == .clock && stage s < 7) then s else warmTake .clock true s

/-- CLOCK_RESET (R125, R135). -/
def execClockReset (req : Requester) (s : State) : Out := .next (hostWrite req (Reg.CTRL clkPage) clockReset s)

/-- A write of SOFT_RESET = 1; conditions 1 to 4, 6 and 7 of R126 exclude a block reset (R90, R125, R126, R462, R633). -/
def softReset (p : Page) (s : State) : State :=
  match p.kind with
  | .glb | .flt => s
  | .clk => clockReset s
  | _ => if timeRefuses p s then setInt timePage 1 s else if warmRuns s || governed s then s else blockReset p s

/-- SOFT_RESET (R90, R125, R126). -/
def execSoftReset (req : Requester) (p : Page) (s : State) : Out := .next (hostWrite req (Reg.CTRL p) (softReset p) s)

/-! ### Test sessions (R614) -/

/-- TEST_SESSION_START: EXTEST, or an IEEE 1500 instruction under its scope; JTAG_TRST_N is then high (R71, R614, R615). -/
def execTestSessionStart (ieee1500 : Bool) (s : State) : Out :=
  .next (
    if !s.time.counting || testSession s || (ieee1500 && !getBit s Reg.WH_DEBUG 2) then s
    else
      let s1 := setB Reg.WH_DEBUG 3 true { s with pins := { s.pins with trstN := true } }
      if governed s1 then s1 else if s1.pins.lockout then clearEpochs 5 s1 else clearActs s1)

/-- TEST_SESSION_END: the TAP is reset, as by JTAG_TRST_N going low, and the device takes a warm reset with every column parked (R71, R614,
assumption 78). -/
def execTestSessionEnd (s : State) : Out :=
  .next (
    if !testSession s then s
    else
      let s1 := setB Reg.WH_DEBUG 3 false { s with pins := { s.pins with trstN := false } }
      if governed s1 then s1 else warmTake .warm true s1)

/-! ### References (R64 to R67) -/

/-- The system PLL enters holdover (R65, R66). -/
def enterHoldover (s : State) : State :=
  if getBit s Reg.CLK_SRC_STATUS 4 then s
  else
    modPrime (fun q => { q with holdover := some s.time.uptime })
      (setB Reg.CLK_SRC_STATUS 4 true (setB Reg.CLK_SRC_STATUS 2 false s))

/-- CLKREF_LOSS: the serial lanes stop, and a system PLL on CLKREF enters holdover (R64, R66, R67). A peer lane then shows 0 with nothing kept
for replay, and trains again only when its member next joins; these are the model's choices (assumption 78). -/
def execClkrefLoss (s : State) : Out :=
  .next (
    if !s.time.counting || !getBit s Reg.CLK_SRC_STATUS 0 then s
    else
      let s1 := setFault clkPage 0 (setB Reg.CLK_SRC_STATUS 5 false (setB Reg.CLK_SRC_STATUS 0 false s))
      let s2 := forEach (List.range 4) (fun l t => setF (Reg.RING_LANE l) 0 2 0 (modLane l (fun _ => RingLane.empty) t)) (forEach (List.range 4) laneDown s1)
      if getBit s2 Reg.CLK_SRC_STATUS 3 then s2 else enterHoldover s2)

/-- XREF_LOSS: while in use it sets XREF_LOSS, and the system PLL enters holdover (R64, R65, R67). -/
def execXrefLoss (s : State) : Out :=
  .next (
    if !s.time.counting || !getBit s Reg.CLK_SRC_STATUS 1 then s
    else
      let s1 := setB Reg.CLK_SRC_STATUS 1 false s
      if getBit s1 Reg.CLK_SRC_STATUS 3 then enterHoldover (setFault clkPage 1 s1) else s1)

/-- REFERENCE_PRESENT: the device does not return to it by itself (R64, R65). LANE_PLL_LOCK reads 1 again with CLKREF_OK in stages 4 to 7,
which is the model's choice (R67, assumption 78). -/
def execReferencePresent (xref : Bool) (s : State) : Out :=
  .next (
    if !s.time.counting then s
    else if xref then setB Reg.CLK_SRC_STATUS 1 true s
    else
      let s1 := setB Reg.CLK_SRC_STATUS 0 true s
      if 3 < stage s && stage s ≤ 7 then setB Reg.CLK_SRC_STATUS 5 true s1 else s1)

/-- HOLDOVER_EXPIRED: 10 ms after holdover began (R65, R67). -/
def execHoldoverExpired (s : State) : Out :=
  .next (match s.prime.holdover with
    | some h => setFault clkPage 3 (modPrime (fun q => { q with holdover := none }) (advanceUptime (h + 10000000) s))
    | none => s)

/-- SYS_PLL_UNLOCK (R67). -/
def execSysPllUnlock (s : State) : Out :=
  .next (
    if getBit s Reg.CLK_SRC_STATUS 2 && !getBit s Reg.CLK_SRC_STATUS 4 then setFault clkPage 2 (setB Reg.CLK_SRC_STATUS 2 false s) else s)

/-! ### Rails and power (R13, R68 to R70) -/

/-- The windows of the rails in µV, VHTR apart: their ranges in the supply table, VDD first (R49, R69). -/
def railRanges : List (Nat × Nat) :=
  [(728000, 772000), (776000, 824000), (1164000, 1236000), (1710000, 1890000), (4850000, 5150000), (1455000, 3708000), (825000, 875000),
   (1164000, 1236000), (470000, 570000), (1000000, 1100000)]

/-- The window of a rail in µV: that of VHTR is PWR_VHTR_NOMINAL ± 3 %, and 1.455 V to 3.708 V while it is zero (R69). -/
def railWindow (s : State) (rail : Nat) : Nat × Nat :=
  let v := getF s Reg.PWR_VHTR_NOMINAL 0 12
  if rail = 5 && v != 0 then (970 * v, 1030 * v) else (railRanges[rail]?).getD (0, 0)

/-- Whether a voltage lies in a rail's window (R69). -/
def inWindow (s : State) (rail microvolts : Nat) : Bool :=
  (railWindow s rail).1 ≤ microvolts && microvolts ≤ (railWindow s rail).2

/-- The driver-stage lockout follows VDD below 0.6 V and VDDIO below 1.5 V (R56). -/
def railLockout (rail microvolts : Nat) (s : State) : State :=
  { s with pins := { s.pins with
    vddLow := if rail = 0 then decide (microvolts < 600000) else s.pins.vddLow
    vddioLow := if rail = 3 then decide (microvolts < 1500000) else s.pins.vddioLow } }

/-- RAIL_OUT_OF_WINDOW: a rail has stood outside its window for 10 µs (R56, R69, R70). -/
def execRailOutOfWindow (level : RailLevel) (s : State) : Out :=
  .next (
    let r := level.rail.val
    let s1 := railLockout r level.microvolts s
    if s1.time.counting && !inWindow s1 r level.microvolts then setFault pwrPage r (setB Reg.PWR_MON_STATUS r false s1) else s1)

/-- RAIL_BACK_IN_WINDOW: a rail has stood inside its window for 10 µs (R56, R69, R70). -/
def execRailBackInWindow (level : RailLevel) (s : State) : Out :=
  .next (
    let r := level.rail.val
    let s1 := railLockout r level.microvolts s
    if s1.time.counting && inWindow s1 r level.microvolts then setB Reg.PWR_MON_STATUS r true s1 else s1)

/-- CELL_POWER_ESTIMATE_REFRESH: the estimates of R13, in watts in the extended format, and PWR_DEVICE_MW; those before stand for a cutoff
that lies before this refresh (R278). -/
def execCellPowerEstimateRefresh (watts : List Word) (deviceMw : BitVec 16) (s : State) : Out :=
  .next (
    if !s.time.counting then s
    else
      let put := fun (m : Nat) (t : State) => { t with cellPower := SMap.set (fun _ => 0) t.cellPower m ((watts[m]?).getD 0) }
      setF Reg.PWR_DEVICE_MW 0 16 deviceMw.toNat
        (forEach (allCells s) put { s with cellPowerWas := s.cellPower, cellPowerAt := s.time.uptime }))

/-! ### The PCIe link (R119, R138, R583) -/

/-- What the endpoint answers a configuration request with: Configuration Request Retry Status until its register pages answer (R119, R138). -/
inductive ConfigAnswer where
  | none
  | retry
  | complete
  deriving DecidableEq, Repr

/-- The answer to a configuration request (R119, R138): none while PCIE_PERST_N is low or in P0. -/
def configAnswer (s : State) : ConfigAnswer :=
  if !s.pins.perstN || !s.time.counting then .none else if arrives s 0 then .complete else .retry

/-- PCIE_PERST_LOW: the endpoint, its configuration space, its MSI-X table and the host DMA rings reset (R125, R138, R149). PCIE_PLL_LOCK
then reads 0, as the model has it follow the link's state; no rule says what drives it (R67, assumption 78). -/
def execPciePerstLow (s : State) : Out :=
  .next (
    if !s.pins.perstN then s
    else
      let s1 := { s with pins := { s.pins with perstN := false, pcieUp := false }, endpoint := { config := [], msix := [] } }
      if !s1.time.counting then s1
      else clearRings (setB Reg.GLB_RESET_CAUSE 6 true (setReg Reg.PCIE_BAR2_BASE 0 (setB Reg.CLK_SRC_STATUS 6 false s1))))

/-- PCIE_PERST_HIGH: link training restarts (R138). -/
def execPciePerstHigh (s : State) : Out := .next { s with pins := { s.pins with perstN := true } }

/-- PCIE_LINK_UP: the link reaches L0; not in P0, in THERMAL_DOWN, or after code 0x01 (R119, R123, R146). PCIE_PLL_LOCK sets with it, which is
the model's choice (R67, assumption 78). -/
def execPcieLinkUp (s : State) : Out :=
  .next (
    if !s.time.counting || !s.pins.perstN || stage s = 0xF || getF s Reg.GLB_PRIME_STATUS 16 8 = 1 then s
    else setB Reg.CLK_SRC_STATUS 6 true { s with pins := { s.pins with pcieUp := true } })

/-- PCIE_LINK_DOWN: the link leaves L0 other than by PCIE_PERST_N (R583). PCIE_PLL_LOCK clears with it, which is the model's choice (R67,
assumption 78). -/
def execPcieLinkDown (s : State) : Out :=
  .next (
    if !s.pins.pcieUp then s
    else setFault pciePage 0 (setB Reg.CLK_SRC_STATUS 6 false { s with pins := { s.pins with pcieUp := false } }))

end Sys2Proof.Machine
end

