-- ==== Sys2Proof/Machine/Heat.lean ====
section
/-! DEFINITION. Heat supervision: evaluation, limits, throttle, rate of rise, shutdown and restart (R553 to R571). -/

namespace Sys2Proof.Machine

open Sys2Proof

/-- The HEAT page. -/
def heatPage : Page := ⟨.heat, 0⟩

/-- A sensor; 0 to 63 are die sensors, 64 to 95 thermistors (R553). -/
def heatSensor (s : State) (n : Nat) : HeatSensor := SMap.get (fun _ => HeatSensor.empty) s.heat.sensors n

/-- Puts a sensor. -/
def setSensor (n : Nat) (x : HeatSensor) (s : State) : State :=
  { s with heat := { s.heat with sensors := SMap.set (fun _ => HeatSensor.empty) s.heat.sensors n x } }

/-- The temperature word of a sensor (R570). -/
def sensorWord (n : Nat) : Nat := if n < 64 then Reg.HEAT_DIE n else Reg.HEAT_PIC (n - 64)

/-- Whether a sensor is FAULTY (R556). -/
def sensorFaulty (s : State) (n : Nat) : Bool := getBit s (sensorWord n) 17

/-- The value of a valid sensor. -/
def validValue (s : State) (n : Nat) : Option Int := if sensorFaulty s n then none else (heatSensor s n).value

/-- The sensors of a group. -/
def groupSensors : HeatGroup → List Nat
  | .die => List.range 64
  | .pic => (List.range 32).map fun i => 64 + i

/-- The group of a sensor. -/
def groupOf (n : Nat) : HeatGroup := if n < 64 then .die else .pic

/-- A limit of a group in 1/16 °C: 0 WARN, 1 THROTTLE, 2 SHUTDOWN (R559). -/
def heatLimit (s : State) (g : HeatGroup) (i : Nat) : Int :=
  16 * (getF s (match g with | .die => Reg.HEAT_DIE_LIMITS | .pic => Reg.HEAT_PIC_LIMITS) (8 * i) 8 : Nat)

/-- RISE_WIN in core cycles. -/
def riseWindow (s : State) : Nat := 10000000 * getF s Reg.HEAT_CFG 16 8

/-- The rise that a group allows over RISE_WIN, in 1/1,600 °C; 0 where its check is off (R563). -/
def riseLimit (s : State) (g : HeatGroup) : Nat :=
  let r := getF s Reg.HEAT_RISE (match g with | .die => 0 | .pic => 8) 8
  8 * r * getF s Reg.HEAT_CFG 16 8

/-- Whether a thermistor is configured (R555). -/
def configured (s : State) (i : Nat) : Bool :=
  let r := getF s (Reg.HEAT_PIC_COEF i) 0 16
  let b := getF s (Reg.HEAT_PIC_COEF i) 16 16
  1000 ≤ r && r ≤ 10000 && 2000 ≤ b && b ≤ 6000

/-- Whether HW_14 marks a thermistor ABSENT: 16 to 31 of a PE1280 (R2, R343). -/
def thermistorAbsent (s : State) (i : Nat) : Bool := s.variant == .pe1280 && decide (16 ≤ i)

/-- The resistance of a thermistor in 0.1 Ω, where HW_14 has converted it (R343, R356). -/
def thermistorOhms (s : State) (i : Nat) : Option Nat :=
  let w := reg s (Reg.HW_RESULT 14 i)
  if bitOf w 31 then some (fld w 0 20) else none

/-- The least and the greatest temperature, in 1/16 °C, that lie within 0.1 °C of the beta model for a resistance in 0.1 Ω and the
host's R25 and B (R24, R555). -/
def betaRange (ohms r25 beta : Nat) : Int × Int :=
  let num : Int := 16 * 29815 * beta * fixOne
  let den : Int := max 1 (100 * beta * fixOne + 29815 * fixLn (max 1 ohms) (10 * r25))
  (-((-num) / den) - 4372, (10 * num - 8 * den) / (10 * den) - 4368)

/-- The temperature that the device computes for a thermistor: within 0.1 °C of the formula of R555; which value of that range is open,
and the command gives it. -/
def thermistorTemp (s : State) (i ohms : Nat) (open_ : Int) : Int :=
  let r := betaRange ohms (getF s (Reg.HEAT_PIC_COEF i) 0 16) (getF s (Reg.HEAT_PIC_COEF i) 16 16)
  max r.1 (min r.2 open_)

/-- OPEN or SHORT. -/
def thermistorBroken (s : State) (i : Nat) : Bool := getBit s (Reg.HW_RESULT 14 i) 29 || getBit s (Reg.HW_RESULT 14 i) 30

/-- Whether an evaluation finds the sensor faulty (R556). -/
def findsFaulty (s : State) (n : Nat) (t : Int) : Bool :=
  if n < 64 then t < -640 || 2400 < t else thermistorBroken s (n - 64)

/-- Whether a quarter of the die goes unwatched: the 16 sensors of one of HW_10 to HW_13 are faulty, or that well is lost (R557). -/
def dieUnwatched (s : State) : Bool :=
  (List.range 4).any fun q => wellLost s (298 + q) || (List.range 16).all fun i => sensorFaulty s (16 * q + i)

/-- The hottest valid sensor of a group. -/
def hottest (s : State) (g : HeatGroup) : Option (Nat × Int) :=
  (groupSensors g).foldl (fun m n => match validValue s n with
    | none => m
    | some v => match m with
      | some (_, w) => if w < v then some (n, v) else m
      | none => some (n, v)) none

/-- HEAT_STATUS, HEAT_HOT_DIE and HEAT_HOT_PIC (R570). -/
def showHeat (s : State) : State :=
  let all := List.range 96
  let hot := fun (g : HeatGroup) => match hottest s g with
    | some (n, v) => word (unsignedOf 16 v + 65536 * (match g with | .die => n | .pic => n - 64))
    | none => 0
  let s1 := setB Reg.HEAT_STATUS 4 (all.any fun n => getBit s (sensorWord n) 16) s
  let s2 := setB Reg.HEAT_STATUS 5 (all.any fun n => getBit s (sensorWord n) 20) s1
  let s3 := setF Reg.HEAT_STATUS 8 8 (all.filter fun n => sensorFaulty s n).length s2
  setReg Reg.HEAT_HOT_PIC (hot .pic) (setReg Reg.HEAT_HOT_DIE (hot .die) s3)

/-! ### Shutdown and restart -/

/-- Restarts within the 3,600 s before now (R568). -/
def recentRestarts (s : State) : List Nat := s.heat.restarts.filter fun t => s.time.uptime ≤ t + 3600000000000

/-- The thermal shutdown: heaters open, EO channels at park, pumps halted, THERM_N low, lanes idle, the PCIe link down, and the
queues discarded (R564, R565, R568). -/
def thermalShutdown (bit sensor : Nat) (temp : Option Int) (s : State) : State :=
  if stage s = 0xF then s
  else
    let s1 := setReg64 Reg.HEAT_SHUT_T_LO s.time.uptime (setF Reg.HEAT_SHUT_INFO 0 7 sensor s)
    let s2 := match temp with
      | some t => setF Reg.HEAT_SHUT_TEMP 0 16 (unsignedOf 16 t) s1
      | none => draw (setF Reg.HEAT_SHUT_TEMP 0 16 (openNow s1) s1)
    let s3 := discardEpochs { s2 with epochs := [], verdict := none, warmRequested := false, streams := [], ports := State.reset.ports }
    let s4 := siphonStop (censusAbort (modPrime (fun q => { q with waiting := false }) s3))
    let capt := SMap.dropRange (SMap.dropRange (SMap.dropRange s4.regs Reg.CAPT_RESULT 0x38) (Reg.CAPT_STAT 0) 0x800) (Reg.EVT_TASK 64) 0x200
    let s5 := lanesIdle (haltPumps { s4 with regs := capt, trigPulse := [] })
    let s6 := forEach (allSlots s5) (eoPark (parkForced s5)) s5
    let s7 := setStage 0xF (dropHeld { s6 with onTime := [], frames := [], heat := { s6.heat with cool := none } })
    let s8 := { s7 with pins := { s7.pins with thermLow := true } }
    let s9 := if s8.pins.pcieUp then
        setFault pciePage 0 (setB Reg.CLK_SRC_STATUS 6 false { s8 with pins := { s8.pins with pcieUp := false } })
      else s8
    let s10 := setFault heatPage bit s9
    if 3 ≤ (recentRestarts s10).length then setFault heatPage 9 (setB Reg.HEAT_RESTART 2 true s10) else s10

/-- Whether every valid sensor stays 15 °C below its SHUTDOWN limit (R567). -/
def coolEnough (s : State) : Bool :=
  [HeatGroup.die, .pic].all fun g => (groupSensors g).all fun n => match validValue s n with
    | some v => v + 240 ≤ heatLimit s g 2
    | none => true

/-- The count of 5 s in THERMAL_DOWN (R567). -/
def coolStep (s : State) : State :=
  if stage s != 0xF then s
  else
    let c := if coolEnough s then some (s.heat.cool.getD s.time.uptime) else none
    { s with heat := { s.heat with cool := c } }

/-- THERMAL_RESTART: a cold path from P1, once 5 s cool have passed (R567, R568). -/
def execThermalRestart (s : State) : Out :=
  .next (
    match s.heat.cool with
    | none => s
    | some c =>
      if stage s != 0xF || getBit s Reg.HEAT_RESTART 2 || dieUnwatched s then s
      else
        let s1 := advanceUptime (c + 5000000000) s
        let s2 := { s1 with heat := { s1.heat with restarts := s1.time.uptime :: s1.heat.restarts } }
        let s3 := bumpF Reg.HEAT_RESTART 16 16 (setF Reg.HEAT_RESTART 0 2 (min 3 (recentRestarts s2).length) s2)
        enterP1 (setB Reg.GLB_RESET_CAUSE 5 true (coldReset true s3)))

/-! ### Limits and rise -/

/-- Whether a group is throttled. -/
def groupThrottled (s : State) : HeatGroup → Bool
  | .die => s.dieThrottled
  | .pic => s.picThrottled

/-- The measures of HEAT_THR_ACT that stop what runs, those that `sel` selects (R562). -/
def stopMeasures (sel : Nat → Bool) (s : State) : State :=
  let playing := (List.range 32).filter fun n => streamState s n == 3
  let s1 := if sel 0 then forEach playing abortStream s else s
  let s2 := if sel 1 then captStopAll s1 else s1
  if sel 2 then schedStopAtEnd s2 else s2

/-- A group's throttle begins, with the measures that HEAT_THR_ACT selects for it (R561, R562). -/
def throttleBegins (g : HeatGroup) (s : State) : State :=
  let s1 := match g with
    | .die => setFault heatPage 1 (setB Reg.HEAT_STATUS 1 true { s with dieThrottled := true })
    | .pic => setFault heatPage 5 (setB Reg.HEAT_STATUS 3 true { s with picThrottled := true })
  let s2 := setInt heatPage 1 s1
  let act := getF s2 Reg.HEAT_THR_ACT (match g with | .die => 0 | .pic => 8) 4
  stopMeasures act.testBit s2

/-- A group's throttle ends (R561, R562). -/
def throttleEnds (g : HeatGroup) (s : State) : State :=
  let s1 := match g with
    | .die => setB Reg.HEAT_STATUS 1 false { s with dieThrottled := false }
    | .pic => setB Reg.HEAT_STATUS 3 false { s with picThrottled := false }
  if s1.dieThrottled || s1.picThrottled then s1 else setInt heatPage 4 s1

/-- Whether any valid sensor of a group is at or above a value. -/
def anyAt (s : State) (g : HeatGroup) (x : Int) : Bool :=
  (groupSensors g).any fun n => match validValue s n with | some v => x ≤ v | none => false

/-- The WARN and THROTTLE conditions of a group after an evaluation (R561). -/
def groupStep (g : HeatGroup) (s : State) : State :=
  let hyst : Int := 16 * (getF s Reg.HEAT_CFG 8 4 : Nat)
  let bit := match g with | .die => 0 | .pic => 2
  let s1 := if getBit s Reg.HEAT_STATUS bit then
      if anyAt s g (heatLimit s g 0 - hyst) then s else setB Reg.HEAT_STATUS bit false s
    else if anyAt s g (heatLimit s g 0) then
      setInt heatPage 0 (setFault heatPage (match g with | .die => 0 | .pic => 4) (setB Reg.HEAT_STATUS bit true s))
    else s
  if groupThrottled s1 g then if anyAt s1 g (heatLimit s1 g 1 - hyst) then s1 else throttleEnds g s1
  else if anyAt s1 g (heatLimit s1 g 1) then throttleBegins g s1 else s1

/-- The rate of rise of a valid sensor at an evaluation (R563). -/
def riseStep (n : Nat) (t : Int) (s : State) : State :=
  let x := heatSensor s n
  let g := groupOf n
  let now := s.time.uptime
  let window := x.history.filter fun e => now ≤ e.1 + riseWindow s
  let low := window.foldl (fun m e => min m e.2) t
  let rise := 100 * (t - low)
  let lim : Int := riseLimit s g
  let on := getBit s (sensorWord n) 20
  let calm := if 2 * rise ≤ lim then some (x.calm.getD now) else none
  let overRange := match calm with | some c => c + riseWindow s ≤ now | none => false
  let s1 := setSensor n { x with history := (now, t) :: window, calm := calm } s
  if riseLimit s g = 0 then setB (sensorWord n) 20 false s1
  else if lim < rise then
    if on then s1
    else setInt heatPage 2 (setFault heatPage (match g with | .die => 3 | .pic => 7) (setB (sensorWord n) 20 true s1))
  else if on && overRange then setB (sensorWord n) 20 false s1
  else s1

/-- FAULTY after two consecutive evaluations that find it so, valid again after two that do not (R556). -/
def faultStep (n : Nat) (bad : Bool) (s : State) : State :=
  let x := heatSensor s n
  if bad = sensorFaulty s n then setSensor n { x with faultRun := 0 } s
  else if x.faultRun = 0 then setSensor n { x with faultRun := 1 } s
  else if bad then
    let s1 := setF (sensorWord n) 18 3 0 (setB (sensorWord n) 17 true (setSensor n { x with faultRun := 0, shutRun := 0, history := [], calm := none } s))
    setInt heatPage 3 (setFault heatPage 8 s1)
  else setB (sensorWord n) 17 false (setSensor n { x with faultRun := 0, shutRun := 0 } s)

/-- One evaluation of a sensor that takes part (R558, R561, R563, R564, R570). -/
def evaluate (n : Nat) (t : Int) (s : State) : State :=
  let g := groupOf n
  let bad := findsFaulty s n t
  let s1 := if n < 64 || !bad then setSensor n { heatSensor s n with value := some t } s else s
  let s2 := faultStep n bad s1
  let a := sensorWord n
  let fast := match (heatSensor s2 n).value with | some v => decide (heatLimit s2 g 0 - 160 ≤ v) | none => false
  let s3 := setB a 16 fast (setF a 0 16 (unsignedOf 16 ((heatSensor s2 n).value.getD 0)) s2)
  let ok := !sensorFaulty s3 n && (heatSensor s3 n).value.isSome
  let s4 := setB a 31 ok s3
  if !ok || (64 ≤ n && bad) then s4
  else
    let s5 := setB a 19 (decide (heatLimit s4 g 1 ≤ t)) (setB a 18 (decide (heatLimit s4 g 0 ≤ t)) s4)
    let s6 := riseStep n t s5
    let x := heatSensor s6 n
    setSensor n { x with shutRun := if heatLimit s6 g 2 ≤ t then min 2 (x.shutRun + 1) else 0 } s6

/-- The shutdown of a device whose die is not watched (R557). -/
def unwatched (s : State) : State := if dieUnwatched s then thermalShutdown 2 127 none s else s

/-- STUCK: a converter returns one raw code for 65,536 conversions (R354, R557). -/
def execStuck (well : Fin 304) (s : State) : Out :=
  .next (if wellRuns s well then unwatched (loseWell well true s) else s)

/-- P4_COMPLETE (R118, R557). -/
def execP4Complete (failed : List (Fin 304)) (s : State) : Out := .next (if stage s = 4 then unwatched (p4Complete failed s) else s)

/-- What an evaluation sets off (R557, R561, R564, R567). -/
def afterEvaluation (n : Nat) (t : Int) (s : State) : State :=
  let s1 := groupStep .pic (groupStep .die s)
  let s2 := if 2 ≤ (heatSensor s1 n).shutRun then thermalShutdown (match groupOf n with | .die => 2 | .pic => 6) n (some t) s1 else s1
  coolStep (showHeat (unwatched s2))

/-- The temperature of a sensor's latest conversion: of a die sensor what the command gives, since the trims in OTP are the part's own;
of a thermistor the one that the beta model gives for HW_14's resistance; none where HW_14 has yet to convert it (R343, R554, R555). -/
def sensorTemp (s : State) (n : Nat) (temp : Int) : Option Int :=
  if n < 64 then some temp else (thermistorOhms s (n - 64)).map fun o => thermistorTemp s (n - 64) o temp

/-- The evaluation of a sensor that comes next: 62.5 µs after the last one near its WARN limit, and otherwise 1 ms (R558). -/
def evaluationDue (s : State) (n : Nat) : Nat :=
  let x := heatSensor s n
  let near := x.value.any fun v => decide (heatLimit s (groupOf n) 0 - 160 ≤ v)
  match x.evaluated with
  | some t => t + (if near then 62500 else 1000000)
  | none => s.time.uptime

/-- HEAT_EVALUATION: a sensor is evaluated at its latest conversion, in 1/16 °C; where there is none yet, nothing is evaluated
(R554, R555, R558, assumption 79). -/
def execHeatEvaluation (sensor : Fin 96) (temp : Int) (s : State) : Out :=
  .next (
    let n := sensor.val
    if !s.time.counting then s
    else if 64 ≤ n && (thermistorAbsent s (n - 64) || !configured s (n - 64)) then
      let s1 := setReg (sensorWord n) (word (2 ^ 21 * b2n (thermistorAbsent s (n - 64)) + 2 ^ 22 * b2n (!configured s (n - 64)))) s
      showHeat (setSensor n HeatSensor.empty s1)
    else
      match sensorTemp s n temp with
      | none => s
      | some t =>
        let s1 := advanceUptime (evaluationDue s n) s
        afterEvaluation n t (evaluate n t (setSensor n { heatSensor s n with evaluated := some s1.time.uptime } (setF (sensorWord n) 21 2 0 s1))))

end Sys2Proof.Machine
end

