-- ==== Sys2Proof/Machine/Faults.lean ====
section
/-! DEFINITION. The fault collector: raises, records, escalation, reactions, guard windows, acknowledging and clearing
(R534 to R552). -/

namespace Sys2Proof.Machine

open Sys2Proof

/-- The FLT page. -/
def fltPage : Page := ⟨.flt, 0⟩

/-- Word `k` of the record of source `n` (R551). -/
def recWord (n k : Nat) : Nat := Reg.FLT_REC (4 * n + k)

/-- STATE of a record: 0 CLEAR, 1 RAISED, 2 ACKED. -/
def recState (s : State) (n : Nat) : Nat := getF s (recWord n 0) 0 2

/-- LEVEL of a record. -/
def recLevel (s : State) (n : Nat) : Nat := getF s (recWord n 0) 2 2

/-- GUARD in core cycles. -/
def guardTime (s : State) : Nat := 10000 * getF s Reg.FLT_CFG 8 16

/-- The raise of one source in one core cycle (R535): the pages whose bits rose, lowest instance first. -/
structure CycleRaise where
  source : Nat
  pages : List Page
  multi : Bool
  uptime : Nat
  deriving DecidableEq, Repr

/-- The lowest instance among pages. -/
def lowestPage (l : List Page) : Option Page :=
  l.foldl (fun m p => match m with
    | some q => if p.inst < q.inst then some p else m
    | none => some p) none

/-- The raises of one cycle, one a source, in the order of their numbers. -/
def cycleRaises (l : List Raise) : List CycleRaise :=
  (List.range 96).filterMap fun n =>
    match l.filter fun r => r.source == n with
    | [] => none
    | r :: m => some { source := n, pages := (r :: m).filterMap Raise.page, multi := !m.isEmpty, uptime := r.uptime }

/-! ### Guard windows -/

/-- The page kinds in the scope of PARK (R543). -/
def parkScope : PageKind → Bool
  | .col | .pe | .tw | .pw | .hw | .epoch | .verdict | .ring | .mac => true
  | _ => false

/-- Whether a page, or a priming rule, lies in the scope of a window (R543). -/
def inScope (w : Guard) (p : Option Page) : Bool :=
  w.everything || match p with
    | none => false
    | some q => (w.reaction == .park && parkScope q.kind) || w.pages.contains q

/-- Whether a window is open at an uptime (R543). -/
def windowOpen (s : State) (w : Guard) (t : Nat) : Bool := !w.completed || decide (t < w.at_ + guardTime s)

/-- The window that covers a raising page: the one whose reaction started most recently (R543). -/
def coveredBy (s : State) (t : Nat) (p : Option Page) : Option Guard :=
  s.flt.windows.find? fun w => windowOpen s w t && inScope w p

/-- The cause of a consequent raise; none where some raising page lies outside every window (R543). -/
def causeOf (s : State) (r : CycleRaise) : Option Nat :=
  let ps := if r.pages.isEmpty then [none] else r.pages.map some
  if ps.all fun p => (coveredBy s r.uptime p).isSome then
    (coveredBy s r.uptime (lowestPage r.pages)).map Guard.source
  else none

/-- Whether the part of every target of a reaction is complete (R538). -/
def reactionDone (s : State) (w : Guard) : Bool :=
  match w.reaction with
  | .blockReset => w.pages.all fun p => !(phase s p == .resetting)
  | .takeover => w.pages.all fun p => p.kind != .pe || !((pairCells p.inst).any fun m => holds s p.inst m) || inService s p.inst
  | .park => true
  | .hardStop => false

/-- Opens a guard window, the latest first. -/
def openWindow (w : Guard) (s : State) : State := { s with flt := { s.flt with windows := w :: s.flt.windows } }

/-! ### Records -/

/-- The level that a raise takes (R541). -/
def takenLevel (s : State) (n : Nat) : Nat :=
  if recState s n = 0 then getF s (Reg.FLT_SEV n) 0 2 else if recState s n = 1 then min 3 (recLevel s n + 1) else recLevel s n

/-- Sources whose raise never takes HARD_STOP (R566). -/
def neverStops (n : Nat) : Bool := n == 16 || n == 20 || n == 23

/-- Shows the state of a record in its word, FLT_RAISED and FLT_ACKED. -/
def setRecState (n v : Nat) (s : State) : State :=
  setB (Reg.FLT_ACKED (n / 32)) (n % 32) (v == 2) (setB (Reg.FLT_RAISED (n / 32)) (n % 32) (v == 1) (setF (recWord n 0) 0 2 v s))

/-- Instance and block type of a raise; a raise by a priming rule has neither, so the word is open (R551). -/
def raiseOrigin (r : CycleRaise) (s : State) : Nat × State :=
  match lowestPage r.pages with
  | some p => (p.inst + 65536 * p.kind.code, s)
  | none => (openNow s, draw s)

/-- What every raise does to its record: RAISES, MULTI, and the origin of the one that takes it out of CLEAR (R535, R541, R543). -/
def noteRaise (r : CycleRaise) (s : State) : State :=
  let a := recWord r.source 0
  let s1 := setF Reg.FLT_STATUS 16 16 (satInc 16 (getF s Reg.FLT_STATUS 16 16)) (bumpF a 16 16 s)
  let s2 := whenB r.multi (setB a 6 true) s1
  if recState s2 r.source = 0 then
    let o := raiseOrigin r s2
    setReg64 (recWord r.source 2) r.uptime (setReg (recWord r.source 1) (word o.1) o.2)
  else s2

/-- A consequent raise (R543). -/
def consequentRaise (cause : Nat) (r : CycleRaise) (s : State) : State :=
  let n := r.source
  let was := recState s n
  let lvl := takenLevel s n
  let s1 := noteRaise r s
  if was = 0 then setF (recWord n 0) 8 7 cause (setB (recWord n 0) 5 true (setF (recWord n 0) 2 2 lvl (setRecState n 1 s1))) else s1

/-- A raise that is not consequent (R541). -/
def plainRaise (r : CycleRaise) (s : State) : State :=
  let n := r.source
  let was := recState s n
  let lvl := takenLevel s n
  let s1 := setF (recWord n 0) 2 2 lvl (setRecState n 1 (noteRaise r s))
  if was = 1 then setInt fltPage 4 (setB (recWord n 0) 4 true s1) else s1

/-- A raise that the collector has taken: its level, and whether it escalated beyond FATAL. -/
structure Taken where
  source : Nat
  level : Nat
  stop : Bool
  pages : List Page
  deriving DecidableEq, Repr

/-- What a raise that is not consequent will do. -/
def takenOf (s : State) (r : CycleRaise) : Taken :=
  { source := r.source, level := takenLevel s r.source, stop := recState s r.source == 1 && recLevel s r.source == 3, pages := r.pages }

/-- FLT_FIRST, its time and the same-cycle mask (R542). -/
def firstFault (l : List Taken) (t : Nat) (s : State) : State :=
  if getBit s Reg.FLT_FIRST 9 then s
  else
    match l.foldl (fun m x => match m with
        | some y => if y.level < x.level then some x else m
        | none => some x) (none : Option Taken) with
    | none => s
    | some f =>
      let o := raiseOrigin { source := f.source, pages := f.pages, multi := false, uptime := t } s
      let i := o.1 % 65536
      let s1 := setReg64 Reg.FLT_FIRST_T_LO t (setReg Reg.FLT_FIRST (word (f.source + 128 * f.level + 512 + 65536 * i)) o.2)
      forEach (l.filter fun x => x.source != f.source) (fun x u => setB (Reg.FLT_SAMECYCLE (x.source / 32)) (x.source % 32) true u) s1

/-! ### Reactions -/

/-- Whether FLT_REACT of a raise's level selects a reaction (R538). -/
def selects (s : State) (x : Taken) (b : Nat) : Bool := getBit s (Reg.FLT_REACT x.level) b

/-- Whether a raise brings a hard stop (R538, R541, R566). -/
def stops (s : State) (x : Taken) : Bool := (x.stop || selects s x 4) && !neverStops x.source

/-- Opens a reaction's window; a reaction with nothing left to do has completed at once (R543, R549). -/
def startWindow (k : Reaction) (source : Nat) (pages : List Page) (s : State) : State :=
  let w : Guard := { reaction := k, source := source, pages := pages, everything := k == .hardStop, completed := false, at_ := s.time.uptime }
  openWindow { w with completed := k != .park && reactionDone s w } s

/-- The pages in the scope of TAKEOVER of a pump (R543). -/
def takeoverScope (s : State) (k : Nat) : List Page :=
  let cells := (pairCells k).filter fun m => m < s.variant.cells
  [pumpPage (k / 2 * 2), pumpPage (k / 2 * 2 + 1)] ++ (List.range 10).filterMap fun c =>
    if cells.any fun m => m / 64 == c then some (colPage c) else none

/-- TAKEOVER for one raise: each raising pump that the cycle has not yet taken over (R538, R549). -/
def reactTakeover (seen : List Page) (x : Taken) (s : State) : State :=
  let pumps := x.pages.filter fun p => p.kind == .pe && !seen.contains p
  if pumps.isEmpty then s
  else
    let s1 := forEach pumps (fun p t => if inService t p.inst then pumpLost p.inst 5 t else t) s
    startWindow .takeover x.source (pumps.flatMap fun p => takeoverScope s p.inst) s1

/-- BLOCK_RESET for one raise: each raising page that the cycle has neither reset nor taken over (R538, R549). -/
def reactReset (seen : List Page) (x : Taken) (s : State) : State :=
  let pages := x.pages.filter fun p => reactionResets p && !seen.contains p
  if pages.isEmpty then s
  else
    let s1 := forEach pages (fun p t => if timeRefuses p t then setInt timePage 1 t else blockReset p t) s
    startWindow .blockReset x.source pages s1

/-- Applies a reaction to each of the raises that select it, each target once (R539). -/
def eachTarget (b : Nat) (f : List Page → Taken → State → State) (l : List Taken) (seen : List Page) (s : State) : State :=
  match l with
  | [] => s
  | x :: r => if selects s x b then eachTarget b f r (x.pages ++ seen) (f seen x s) else eachTarget b f r seen s

/-- The pumps taken over in a cycle: the loss resets their pages, so BLOCK_RESET does nothing more there (R90, R313). -/
def takenOver (s : State) (l : List Taken) : List Page :=
  (l.filter fun x => selects s x 2).flatMap fun x => x.pages.filter fun p => p.kind == .pe && inService s p.inst

/-- PARK: as CLEAR_N falling and rising within a cycle (R538, R549). -/
def reactPark (l : List Taken) (s : State) : State :=
  match l.find? fun x => selects s x 3 with
  | none => s
  | some x => startWindow .park x.source [] (if parkForced s then s else clearActs s)

/-- The joined reactions of a cycle (R538, R539, R540). -/
def react (l : List Taken) (s : State) : State :=
  let s1 := forEach (l.filter fun x => selects s x 0) (fun x t => setInt fltPage x.level t) s
  match l.find? fun x => stops s x with
  | some x => if stage s1 = 0xF then s1 else startWindow .hardStop x.source [] (haltDevice s1)
  | none =>
    if stage s1 < 5 || 7 < stage s1 then s1
    else
      let overRange := takenOver s1 l
      let s2 := eachTarget 2 reactTakeover l [] s1
      reactPark l (eachTarget 1 reactReset l overRange s2)

/-! ### Taking raises -/

/-- The collector takes every raise of the oldest core cycle that it has not recorded (R535, R536, R541 to R543). -/
def collect (s : State) : State :=
  match s.flt.due with
  | [] => s
  | r :: _ =>
    let cycle := s.flt.due.filter fun q => q.uptime == r.uptime
    let s1 := { s with flt := { s.flt with due := s.flt.due.filter fun q => q.uptime != r.uptime } }
    let all := cycleRaises cycle
    let plain := all.filter fun x => (causeOf s1 x).isNone
    let taken := plain.map (takenOf s1)
    let one := fun (x : CycleRaise) (t : State) => match causeOf s1 x with
      | some c => consequentRaise c x t
      | none => plainRaise x t
    react taken (firstFault taken r.uptime (forEach all one s1))

/-- Takes raises until none stands, at most `n` cycles of them. -/
def settle (n : Nat) (s : State) : State :=
  match n with
  | 0 => s
  | k + 1 => if s.flt.due.isEmpty then s else settle k (collect s)

/-- Every raise before a write of the FLT page applies first (R549). -/
def settleAll (s : State) : State := settle (2 * s.flt.due.length + 64) s

/-! ### Errors that the raise itself names (R582, R583) -/

/-- The DDR_n page of a channel. -/
def ddrPage (c : Nat) : Page := ⟨.ddr, c⟩

/-- The I2C page. -/
def i2cPage : Page := ⟨.i2c, 0⟩

/-- A word of shared SRAM outside the Cistern fails SECDED as a requester reads it: corrected and counted, or answered with an error, its
offset recorded (R582, R588). -/
def sramError (req : Requester) (offset : Nat) (uncorrectable : Bool) (s : State) : State :=
  if !s.time.counting || 0xC00000 ≤ offset then s
  else if uncorrectable then
    let s1 := setReg Reg.XBAR_ECC_ADDR (word (offset / 8 * 8)) (bumpF Reg.XBAR_ECC_UNCORR 0 16 s)
    emit (.errorAnswer req (0x4000000 + offset)) (setInt xbarPage 2 (setFault xbarPage 0 s1))
  else setInt xbarPage 2 (setFault xbarPage 1 (bumpF Reg.XBAR_ECC_CORR 0 32 s))

/-- An error that no other row names sets its bit (R582, R583). -/
def raiseError (cause : FaultCause) (s : State) : State :=
  match cause with
  | .standing => s
  | .sramEcc req offset unc => sramError req offset.toNat unc s
  -- no register of the spec enables inline ECC: the error itself says that it is enabled (assumption 64)
  | .ddrEcc c unc => if enabled s (ddrPage c.val) then setFault (ddrPage c.val) (b2n (!unc)) s else s
  | .pcieError unc => if s.time.counting then setFault pciePage (if unc then 2 else 3) s else s
  | .i2cError => if s.time.counting then setFault i2cPage 0 s else s

/-- FAULT_RAISE: an error that this row names sets its bit, and the collector takes the oldest raises (R541, R582, R583). -/
def execFaultRaise (s : State) (cause : FaultCause := .standing) : Out := .next (collect (raiseError cause s))

/-- REACTION_COMPLETE: the oldest reaction whose targets are all done completes, and GUARD runs (R538, R543). -/
def execReactionComplete (s : State) : Out :=
  .next (
    match s.flt.windows.reverse.find? fun w => !w.completed && reactionDone s w with
    | none => s
    | some w =>
      let now := s.time.uptime
      let ws := s.flt.windows.map fun x => if x = w then { x with completed := true, at_ := now } else x
      { s with flt := { s.flt with windows := ws } })

/-- GUARD_WINDOW_END: GUARD has passed since the reaction that completed first (R543). -/
def execGuardWindowEnd (s : State) : Out :=
  .next (
    match (s.flt.windows.filter Guard.completed).foldl (fun m w => match m with
        | some v => if w.at_ < v.at_ then some w else m
        | none => some w) (none : Option Guard) with
    | none => s
    | some w =>
      let s1 := advanceUptime (w.at_ + guardTime s) s
      { s1 with flt := { s1.flt with windows := s1.flt.windows.erase w } })

/-! ### Acknowledging and clearing (R546, R547, R549) -/

/-- Whether some instance still has a source's bit at 1. -/
def bitStands (s : State) (n : Nat) : Bool :=
  s.regs.any fun e => match decodeFull e.1 with
    | .page p o => o == 0x18 && (List.range 32).any fun i => bitOf e.2 i && faultSource p.kind i == some n
    | _ => false

/-- The sources that a write of FLT_ACK acts on. -/
def ackTargets (source : Nat) (all : Bool) : List Nat := if all then List.range 96 else if source < 96 then [source] else []

/-- Whether CLEAR is refused for a record. -/
def clearRefused (s : State) (n : Nat) : Bool := recState s n == 1 || bitStands s n

/-- A record returns to its reset values. -/
def clearRecord (n : Nat) (s : State) : State :=
  setReg (recWord n 3) 0 (setReg (recWord n 2) 0 (setReg (recWord n 1) 0 (setReg (recWord n 0) 0 (setRecState n 0 s))))

/-- A write of FLT_ACK (R546, R549). -/
def fltAck (source : Nat) (ack clear all : Bool) (s0 : State) : State :=
  let s := settleAll s0
  let l := ackTargets source all
  let s1 := whenB ack (forEach l fun n t => if recState t n = 1 then setRecState n 2 t else t) s
  let bad := if clear then l.filter fun n => clearRefused s1 n else []
  let s2 := whenB clear (forEach l fun n t => if !bad.contains n && recState t n = 2 then clearRecord n t else t) s1
  match bad with
  | [] => setB Reg.FLT_ACK_RESULT 0 false s2
  | n :: _ => setInt fltPage 5 (setF Reg.FLT_ACK_RESULT 8 7 n (setB Reg.FLT_ACK_RESULT 0 true s2))

/-- ACK: FLT_ACK with ACK = 1 and CLEAR = 0. -/
def execAck (req : Requester) (source : BitVec 7) (all : Bool) (s : State) : Out :=
  .next (hostWrite req Reg.FLT_ACK (fltAck source.toNat true false all) s)

/-- CLEAR: FLT_ACK with CLEAR = 1, and with ACK = 1 where the write carries both. -/
def execClear (req : Requester) (source : BitVec 7) (all ack : Bool) (s : State) : Out :=
  .next (hostWrite req Reg.FLT_ACK (fltAck source.toNat ack true all) s)

/-- Clears FLT_FIRST, its time and the same-cycle mask (R542, R550). -/
def firstClear (s : State) : State :=
  let s1 := forEach (List.range 3) (fun i t => setReg (Reg.FLT_SAMECYCLE i) 0 t) (settleAll s)
  setReg64 Reg.FLT_FIRST_T_LO 0 (setReg Reg.FLT_FIRST 0 s1)

/-- FLT_FIRST_CLR. -/
def execFltFirstClr (req : Requester) (s : State) : Out := .next (hostWrite req Reg.FLT_FIRST_CLR firstClear s)

end Sys2Proof.Machine
end

