-- ==== Sys2Proof/Machine/Matrix.lean ====
section
/-! DEFINITION. The main matrix: paths that the sparse matrix lacks, timeouts, and its counters (R572 to R588). -/

namespace Sys2Proof.Machine

open Sys2Proof

/-- The requester identifier of a matrix master (R572). -/
def masterRequester (m : Nat) : Requester := BitVec.ofNat 3 (min m 7)

/-- Whether a master exists on the variant (R572). -/
def masterPresent (v : Variant) (m : Nat) : Bool := m < 13 || (m == 13 && v == .pe2560)

/-- SPARSE_PATH_ERROR: a request of a master to a mapped address on a path that the matrix in force lacks (R578). -/
def execSparsePathError (master : Fin 14) (target : Fin 12) (addr : BitVec 32) (s : State) : Out :=
  .next (
    if s.time.counting && masterPresent s.variant master.val && target.val != 11 && !hasPath s master.val target.val then
      sparseError (masterRequester master.val) master.val target.val addr.toNat s
    else s)

/-- XBAR_TIMEOUT: a target has not answered a granted request within TIMEOUT; PCIe outbound requests have a timeout of their own, and the
sump answers (R580, R581, R588). -/
def execXbarTimeout (master : Fin 14) (target : Fin 12) (addr : BitVec 32) (s : State) : Out :=
  .next (
    if s.time.counting && masterPresent s.variant master.val && target.val < 10 && hasPath s master.val target.val then
      let s1 := bumpF Reg.XBAR_TIMEOUT_INFO 16 16 (setF Reg.XBAR_TIMEOUT_INFO 0 8 (master.val + 16 * target.val) s)
      emit (.errorAnswer (masterRequester master.val) addr.toNat) (setInt xbarPage 0 (setFault xbarPage 2 s1))
    else s)

/-- PCIE_CPL_TIMEOUT: an outbound request has no completion after 50 ms; the master that waits is answered with an error (R586). -/
def execPcieCplTimeout (master : Fin 14) (addr : BitVec 64) (s : State) : Out :=
  .next (
    if s.time.counting && masterPresent s.variant master.val && hasPath s master.val 10 then
      emit (.errorAnswer (masterRequester master.val) addr.toNat) (setFault pciePage 1 s)
    else s)

/-- XBAR_COUNT_CLR (R588). -/
def xbarCountClear (s : State) : State :=
  setReg Reg.XBAR_ECC_UNCORR 0 (setReg Reg.XBAR_ECC_CORR 0 (setF Reg.XBAR_SPARSE_ERR 16 16 0 (setF Reg.XBAR_TIMEOUT_INFO 16 16 0 s)))

/-- XBAR_COUNT_CLR as a command. -/
def execXbarCountClr (req : Requester) (s : State) : Out := .next (hostWrite req Reg.XBAR_COUNT_CLR xbarCountClear s)

end Sys2Proof.Machine
end

