-- ==== Sys2Proof/Machine/Service.lean ====
section
/-! DEFINITION. Pins that show other state: the test multiplexer (R629 to R632), and the management pins (R71, R72). -/

namespace Sys2Proof.Machine

open Sys2Proof

/-- The clock that KIND 1 divides (R631). -/
inductive TestClock where
  | core16 | pwm8 | time8 | shape4 | well | xref | reference
  deriving DecidableEq, Repr

/-- What a DTEST pin carries (R631). -/
inductive TestSignal where
  | low
  | clock (c : TestClock)
  | events (channel : Nat)
  | heaterSwitch (col output : Nat)
  | sync
  | eoFast (slot : Nat)
  deriving DecidableEq, Repr

/-- What an ATEST pin carries (R630). -/
inductive TestLevel where
  | highZ
  | tap (slot : Nat)
  | port (m : Nat)
  | wellReference (well : Nat)
  | bandgap
  | epPad (slot : Nat)
  | enPad (slot : Nat)
  | bankRail (bank : Nat)
  | dieSensor (n : Nat)
  | thermistor (n : Nat)
  deriving DecidableEq, Repr

/-- The clock of an INDEX; none where it names no clock. -/
def testClock (i : Nat) : Option TestClock := ([.core16, .pwm8, .time8, .shape4, .well, .xref, .reference] : List TestClock)[i]?

/-- The signal of a DTEST pin: what KIND and INDEX name, low where the page is not enabled or the resource is absent (R629, R631, R632). -/
def dtestSignal (s : State) (p : Nat) : TestSignal :=
  let i := getF s (Reg.TMUX_DTEST p) 4 13
  let here := fun (b : Bool) (x : TestSignal) => if b then x else .low
  if !enabled s tmuxPage then .low
  else
    match getF s (Reg.TMUX_DTEST p) 0 4 with
    | 1 => ((testClock i).map TestSignal.clock).getD .low
    | 2 => here (i < 256) (.events i)
    | 3 => here (i / 512 < s.variant.columns) (.heaterSwitch (i / 512) (i % 512))
    | 4 => .sync
    | 5 => here (i < s.variant.slots) (.eoFast i)
    | _ => .low

/-- The signal of an ATEST pin (R629, R630, R632). -/
def atestSignal (s : State) (n : Nat) : TestLevel :=
  let i := getF s (Reg.TMUX_ATEST n) 16 12
  let here := fun (b : Bool) (x : TestLevel) => if b then x else .highZ
  if !enabled s tmuxPage then .highZ
  else
    match getF s (Reg.TMUX_ATEST n) 0 4 with
    | 1 => here (i < s.variant.slots) (.tap i)
    | 2 => here (i < s.variant.monitors) (.port i)
    | 3 => here (wellPresent s i) (.wellReference i)
    | 4 => .bandgap
    | 5 => here (i < s.variant.slots) (.epPad i)
    | 6 => here (i < s.variant.slots) (.enPad i)
    | 7 => here (i < 4 * s.variant.columns) (.bankRail i)
    | 8 => here (i < 64) (.dieSensor i)
    | 9 => here (i < 32 && !thermistorAbsent s i) (.thermistor i)
    | _ => .highZ

/-- Whether the switch of an output is closed at this moment of its frame (R238, R239). -/
def switchClosed (s : State) (c h : Nat) : Bool :=
  match frame s c h with
  | some f => f.start ≤ s.time.uptime && decide (s.time.uptime < f.start + 2 * SMap.get (fun _ => 0) s.onTime (512 * c + h))
  | none => false

/-- The level of a DTEST pin's source now, which the pin follows 12 ns later; none for a clock, for SYNC and for events, whose edges lie
within a cycle (R631, assumption 80). -/
def dtestHigh (s : State) (p : Nat) : Option Bool :=
  match dtestSignal s p with
  | .low => some false
  | .heaterSwitch c h => some (switchClosed s c h)
  | .eoFast slot => some (channel s slot).fast
  | _ => none

/-! ### Management pins (R71, R72) -/

/-- The 7-bit SMBus address that the device answers (R72). -/
def smbusAddress (s : State) : Nat := 0x58 + s.pins.pos

/-- Whether a JTAG TAP leaves reset, and JTAG_TDO is driven in its shift states (R71). -/
def tapRuns (s : State) : Bool := s.pins.trstN

/-- Whether JTAG_TDO is driven: in the shift states of a TAP that is not held in reset; otherwise it is high impedance (R71). -/
def tdoDriven (s : State) (shifting : Bool) : Bool := tapRuns s && shifting

end Sys2Proof.Machine
end

