-- ==== Sys2Proof/Machine/Views.lean ====
section
/-! DEFINITION. What reads return (R91, R94, R95, R97, R100, R108): stored words, the words that show other state, and the values
that a frozen page returns. -/

namespace Sys2Proof.Machine

open Sys2Proof

/-! ### Words that show other state -/

/-- The number of a well page's well. -/
def wellOf (p : Page) : Nat :=
  match p.kind with
  | .tw => p.inst
  | .pw => 160 + p.inst
  | _ => 288 + p.inst

/-- A bucket in bytes; its rounding is open (R513, R515, assumption 9). -/
def bucketBytes (x : Int) : Word := word (unsignedOf 32 (openDiv x bucketUnit))

/-- READY of a queued epoch: the device may commit it from now on, its result known to every member (R157, R184). -/
def isReady (s : State) (x : Epoch) : Bool :=
  match x.readyAt with
  | some t => decide (t ≤ ptpNow s)
  | none => false

/-- Word `k` of queue entry `e` (R184). -/
def queueWord (s : State) (e k : Nat) : Word :=
  match (epochQueue s)[e]? with
  | none => 0
  | some x =>
    if k = 0 then lo32 x.t
    else if k = 1 then hi32 x.t
    else if k < 5 then descWord x.desc k
    else if k = 5 then lo32 (x.num.getD 0)
    else if k = 6 then word (1 + 2 * b2n x.routed + 4 * b2n (isReady s x))
    else 0

/-- Records whose state is not CLEAR. -/
def openRecords (s : State) : List Nat := (List.range 96).filter fun n => recState s n != 0

/-- FAULT_N low outside the overrides of R123 (R545). -/
def pinCondition (s : State) : Bool := (openRecords s).any fun n => getF s Reg.FLT_CFG 0 2 ≤ recLevel s n

/-- Whether FAULT_N is low: in P0, in P1 of a cold path and in HALTED, and elsewhere as the collector has it (R123, R545). -/
def faultPinLow (s : State) : Bool :=
  !s.time.counting || stage s == 0xE || (stage s == 1 && coldKind s) || pinCondition s

/-- Whether I2C_ALERT_N is low: while FAULT_N is (R71). -/
def i2cAlertLow (s : State) : Bool := faultPinLow s

/-- FLT_STATUS (R550). -/
def fltStatus (s : State) : Word :=
  let l := openRecords s
  let top := l.foldl (fun m n => max m (recLevel s n)) 0
  setFld (reg s Reg.FLT_STATUS) 0 16 (b2n (pinCondition s) + 2 * top + 8 * b2n (!l.isEmpty) + 256 * l.length)

/-- SCHED_CYCLE: cycles whose end has passed (R184). -/
def schedCycle (s : State) : Nat :=
  let done := match s.schedule with
    | some c => (c.ends.filter fun e => e ≤ ptpNow s).length
    | none => 0
  (reg64 s Reg.SCHED_CYCLE_LO + done) % 2 ^ 64

/-- The bytes of each section of a census on the part (R627). -/
def sectionBytes (v : Variant) (i : Nat) : Nat :=
  let wells := v.tapWells + (match v with | .pe2560 => 128 | .pe1280 => 64) + 16
  ([0x1000 * 9, 0x1000 * 5, 0x1000 * 15, 0x10000 * v.columns, 0x1000 * v.pumps, 0x1000 * wells, 64 * v.slots, 0x200 * v.cells, 4 * v.slots][i]?).getD 0

/-- The sections of a selection. -/
def selectedSections (sel : Nat) : List Nat := (List.range 9).filter fun i => sel.testBit i

/-- CEN_SIZE: the header and the sections, in units of 4 KiB (R624, R627). -/
def censusUnits (v : Variant) (sel : Nat) : Nat := 1 + ((selectedSections sel).map fun i => ceilDiv (sectionBytes v i) 0x1000).sum

/-- EO_CH_STATE of a channel (R234). -/
def channelWord (s : State) (slot : Nat) : Word :=
  let ch := channel s slot
  let code := match ch.state with
    | .hold => 0 | .wake => 1 | .ready => 2 | .play => 3 | .linger => 4 | .stream => 5 | .held => 6 | .parked => 7
  word (code + 8 * b2n ch.fast + 16 * b2n ch.clipped + 32 * b2n (ditherOn s slot) + 64 * b2n (ditherAmp s slot).2 +
    128 * b2n ch.jump.isSome + 256 * b2n ch.badLink + 65536 * ch.seg)

/-- SIPH_n_STATUS: the queue as DRAM keeps up with it, full at ARMED, and the repetitions that a playing stream has completed (R220,
R236, assumption 11). -/
def siphonWord (s : State) (n : Nat) : Word :=
  let w := reg s (Reg.SIPH_STATUS n)
  let fill := min 64 (Config.queueFill n s.time.uptime)
  match streamState s n with
  | 1 => setFld (setFld w 8 8 fill) 0 3 (if fill = 64 then 2 else 1)
  | 3 => setFld (setFld w 8 8 fill) 16 16 (streamReps s n (streamedBy s n s.time.uptime))
  | _ => w

/-- WELL_STATUS and CH_STATUS with the inputs out of scan as of now (R332, R355). -/
def wellView (s : State) (p : Page) (o : Nat) : Option Word :=
  let w := wellOf p
  let n := wellInputs w
  if o = 0x44 && p.kind != .hw then
    some (setFld (reg s (Reg.WELL_STATUS w)) 16 16 (((List.range n).filter fun i => outOfScan s w i).map fun i => 2 ^ i).sum)
  else if p.kind = .pw && 0x400 ≤ o && o < 0x500 && o % 16 = 4 || p.kind = .tw && 0x400 ≤ o && o < 0x500 && o % 16 = 4 then
    let i := (o - 0x400) / 16
    if i < n then some (setFld (reg s (Reg.CH_STATUS w i)) 2 1 (b2n (!outOfScan s w i))) else none
  else none

/-- The low or the high half of a 64-bit number. -/
def half (n : Nat) (high : Bool) : Word := if high then hi32 n else lo32 n

/-- Word `k` of the configuration digest, its first byte in bits [31:24] (R457). -/
def digestWord (s : State) (k : Nat) : Word :=
  word (((configDigest s).drop (4 * k)).take 4 |>.foldl (fun m b => 256 * m + b.toNat) 0)

/-- A word of a page that does not read as it is stored; none where the stored word is read. -/
def pageView (s : State) (p : Page) (o : Nat) : Option Word :=
  if o = 4 then some (word (0x100 + Config.minorRevision.toNat))
  -- SOFT_RESET reads as zero in GLB and FLT (R633)
  else if o = 8 && (p.kind == .glb || p.kind == .flt) then some (reg s (pageBase p + 8) &&& ~~~2)
  else
    match p.kind with
    | .glb =>
      if o = 0x40 then some (word ((match s.variant with | .pe2560 => 0x2560 | .pe1280 => 0x1280) + 65536 * Config.stepping.toNat))
      else if o = 0x44 then some (word (b2n (s.variant == .pe1280) + 16 * s.variant.columns))
      else if o = 0x48 || o = 0x4C then some (half Config.serial.toNat (o == 0x4C))
      else if o = 0x60 || o = 0x64 then some (half s.time.uptime (o == 0x64))
      else none
    | .flt => if o = 0x44 then some (fltStatus s) else none
    | .time => if o = 0x60 || o = 0x64 then some (half (ptpNow s) (o == 0x64)) else none
    | .heat => if o = 0x64 then some (setFld (reg s Reg.HEAT_RESTART) 0 2 (min 3 (recentRestarts s).length)) else none
    | .siphon => if 0x400 ≤ o && o % 32 = 0x1C then some (siphonWord s ((o - 0x400) / 32)) else none
    | .pe =>
      let k := p.inst
      if o = 0x68 then some (setFld (reg s (Reg.TWIN_STATUS k)) 20 2 (min 3 (recentLosses s k).length))
      -- the pair-wide fields are reserved in the odd pump's page (R95, R323)
      else if o = 0x60 && k % 2 = 1 then some (word (getF s (Reg.TWIN_CFG k) 0 2))
      else none
    | .tw | .pw => wellView s p o
    -- HW_14 marks the results of the thermistors that a PE1280 lacks (R343)
    | .hw => if p.inst = 14 && 0x440 ≤ o && o < 0x480 && thermistorAbsent s ((o - 0x400) / 4) then some (word (2 ^ 28)) else none
    | .xbar =>
      -- the words of the master that a PE1280 lacks are reserved (R2, R95)
      if s.variant = .pe1280 && (o = 0xB4 || o = 0x168 || o = 0x16C) then some 0
      else if o = 0x44 then some (word (b2n (sparse s) + 2 * b2n (getBit s Reg.XBAR_CFG 0))) else none
    | .wellhead => if 0x100 ≤ o && o < 0x144 then some (Config.attestKey ((o - 0x100) / 4)) else none
    | .census => if o = 0x58 then some (word (censusUnits s.variant (getF s Reg.CEN_SEL 0 9))) else none
    | .epoch =>
      if 0x800 ≤ o && o < 0xA00 then some (queueWord s ((o - 0x800) / 32) (o / 4 % 8))
      else if o = 0xB8 || o = 0xBC then some (half (schedCycle s) (o == 0xBC))
      else none
    | .ring =>
      if o = 0x50 then some (word (1 + 256 * Config.protoLow.toNat + 65536 * Config.protoHigh.toNat))
      else if 0x80 ≤ o && o < 0x90 then some (digestWord s ((o - 0x80) / 4))
      else none
    | .mac =>
      if 0x480 ≤ o && o < 0x4C0 then
        let b := shaper s p.inst ((o - 0x480) / 8)
        some (bucketBytes (if o % 8 = 0 then b.committed else b.peak))
      else none
    | .police =>
      if 0x400 ≤ o && o < 0xC00 && o % 32 = 0x18 then some (bucketBytes (meter s p.inst ((o - 0x400) / 32)).committed)
      else if 0x400 ≤ o && o < 0xC00 && o % 32 = 0x1C then some (bucketBytes (meter s p.inst ((o - 0x400) / 32)).peak)
      else none
    | .cistern =>
      if o = 0x40 then some (word (poolFree s + 65536 * reserveSum s))
      else if 0x400 ≤ o && o < 0x600 && o % 8 = 4 then
        let q := (o - 0x400) / 8
        some (word (queueCells s q + 65536 * (queueOf s q).length))
      else none
    | .col =>
      let slot := 256 * p.inst
      if o = 0x204 then
        some (word (((colSlots p.inst).filter fun n => (channel s n).fast).length + 65536 * groupsInUse s p.inst))
      else if 0x4000 ≤ o && o < 0x5000 then
        let n := slot + (o - 0x4000) / 16
        if o % 16 = 4 then some (channelWord s n)
        else if o % 16 = 8 then some (padLevel s n)
        else if o % 16 = 12 then some (channel s n).lvlFrom
        else none
      else if 0x5000 ≤ o && o < 0x6000 && o % 16 = 4 then some (htrStateWord s (slot + (o - 0x5000) / 16))
      else if 0x6400 ≤ o && o < 0x6800 then some (word (ncoPhase s (slot + (o - 0x6400) / 4)))
      else if p.inst = 0 && o = 0x7020 then some (word Config.syncRpt.toNat)
      else none
    | _ => none

/-! ### Reading -/

/-- Whether a row reads as zero (R94). -/
def writeOnly (d : Option RegDef) : Bool := match d with | some r => r.acc == .wo | none => false

/-- The word at a place whose register has a stored value: a calibration word that has yet to take effect shows the value written
last (R94, R145). -/
def storedWord (s : State) (a : Nat) : Word :=
  match SMap.get (fun _ => none) s.prime.calStaged a with
  | some v => v
  | none => reg s a

/-- A byte of a byte window of BAR0; PRESET_STATUS shows who names the preset (R169). -/
def barByte (s : State) (a : Nat) : Byte :=
  match decodeAddr s.variant a with
  | .preset o =>
    if o % 0x10000 = 0xF000 then
      let n := o / 0x10000
      BitVec.ofNat 8 ((memByte s a).toNat + 2 * b2n (schedRef s n) + 4 * b2n (queueRef s n))
    else memByte s a
  | .pumpMem _ _ => pumpByte s a
  | _ => memByte s a

/-- The live word of an aligned address (R94, R95, R108). -/
def liveWord (s : State) (a : Nat) : Word :=
  match decodeAddr s.variant a with
  | .hole => 0
  | .page p o => if writeOnly (pageReg p o) then 0 else (pageView s p o).getD (storedWord s a)
  | .slotShadow n o => if writeOnly (findIn slotRegs o) then 0 else if o = 0x0C then (channel s n).target else reg s a
  | .slotActive n o =>
    match findIn slotRegs o with
    | some r =>
      if r.acc = .wo then 0
      else if r.acc = .rws then act s (Reg.SLOT_CFG n + o)
      else if o = 0x0C then (channel s n).target
      else reg s (Reg.SLOT_CFG n + o)
    | none => 0
  | .loopWin o => if writeOnly (Target.reg (.loopWin o)) then 0 else reg s a
  | _ => word (ofBytes ((List.range 4).map fun i => barByte s (a + i)))

/-- Whether FREEZE holds the value that reads of a register return (R91, R94). -/
def freezes (d : Option RegDef) : Bool :=
  match d with
  | some r => r.acc == .ro || r.acc == .rol || r.acc == .w1c
  | none => false

/-- The word that a read returns (R91, R94). -/
def readWord (s : State) (a : Nat) : Word :=
  match decodeAddr s.variant a with
  | .page p o =>
    match SMap.get (fun _ => none) s.bus.frozen (pageBase p) with
    | some m => if freezes (pageReg p o) then SMap.get resetWord m a else liveWord s a
    | none => liveWord s a
  | _ => liveWord s a

/-- The offsets of a page at which registers that FREEZE holds stand. -/
def frozenOffsets (p : Page) : List Nat :=
  ((headerRegs ++ blockRegs p).filter fun d => freezes (some d)).flatMap fun d => (List.range d.count).map fun i => d.off + d.stride * i

/-- FREEZE = 1 holds the values of this cycle; FREEZE = 0 returns reads to live values (R91). -/
def setFreeze (p : Page) (on : Bool) (s : State) : State :=
  let b := pageBase p
  let s1 := setB (Reg.CTRL p) 2 on s
  if !on then { s1 with bus := { s1.bus with frozen := SMap.set (fun _ => none) s1.bus.frozen b none } }
  else if getBit s (Reg.CTRL p) 2 then s1
  else
    let m := (frozenOffsets p).foldl (fun m o => SMap.set resetWord m (b + o) (liveWord s (b + o))) []
    { s1 with bus := { s1.bus with frozen := SMap.set (fun _ => none) s1.bus.frozen b (some m) } }

end Sys2Proof.Machine
end

