-- ==== Sys2Proof/Machine/Census.lean ====
section
/-! DEFINITION. The census (R624 to R628): the image, the commands, and the end of the copy. -/

namespace Sys2Proof.Machine

open Sys2Proof

/-- The CENSUS page. -/
def censusPage : Page := ⟨.census, 0⟩

/-- The words of a page, in address order. -/
def pageWords (p : Page) : List Nat := (List.range (pageSize p / 4)).map fun k => pageBase p + 4 * k

/-- The pages of sections 0 to 5 (R627). -/
def sectionPages (v : Variant) (i : Nat) : List Page :=
  let one := fun (k : PageKind) => (⟨k, 0⟩ : Page)
  match i with
  | 0 => [PageKind.glb, .pwr, .clk, .heat, .flt, .time, .tmux, .wellhead, .xbar].map one
  | 1 => [PageKind.evt, .ring, .epoch, .route, .verdict].map one
  | 2 => [one .capt, one .siphon] ++ pagesOf v .mac ++ pagesOf v .gate ++ pagesOf v .police ++ [one .cistern]
  | 3 => pagesOf v .col
  | 4 => pagesOf v .pe
  | 5 => ((List.range 304).map wellPage).filter fun p => p.present v
  | _ => []

/-- The addresses of a section's words, in order (R627). -/
def sectionPlaces (v : Variant) (i : Nat) : List Nat :=
  match i with
  | 6 => (List.range v.slots).flatMap fun n => (List.range 16).map fun k => 0x1080000 + 64 * n + 4 * k
  | 7 => (List.range v.cells).flatMap fun m => (List.range 128).map fun k => 0x1800000 + 0x1000 * m + 4 * k
  | 8 => (List.range v.slots).map fun n => Reg.LIVE_PATH n
  | _ => (sectionPages v i).flatMap pageWords

/-- The sections that are captured, each with its offset, and the end of the last one (R627, R628). -/
def layout (v : Variant) (l : List Nat) : List (Nat × Nat) × Nat :=
  l.foldl (fun acc i =>
    let o := ceilDiv acc.2 0x1000 * 0x1000
    (acc.1 ++ [(i, o)], o + sectionBytes v i)) ([], 0x1000)

/-- The header's words that are not zero by rule (R627). -/
def censusHeader (seq sel missed : Nat) (parts : List (Nat × Nat)) (s : State) : List (Nat × Word) :=
  let now := s.time.uptime
  let ns := ptpNow s
  [(0, 0x504C4D53), (1, 1), (2, word seq), (3, word (sel + 65536 * missed)), (4, lo32 now), (5, hi32 now), (6, lo32 ns), (7, hi32 ns),
    (8, reg s Reg.EPOCH_LAST_NUM_LO), (9, reg s Reg.EPOCH_LAST_NUM_HI), (10, liveWord s Reg.GLB_PRIME_STATUS),
    (11, liveWord s Reg.GLB_VARIANT)] ++
    parts.flatMap fun e => [(16 + 2 * e.1, word e.2), (17 + 2 * e.1, word (sectionBytes s.variant e.1))]

/-- The image at the end of this cycle: every word as requester 6 would read it, FREEZE disregarded (R626). -/
def censusImage (s : State) : CensusCopy :=
  let sel := getF s Reg.CEN_SEL 0 9
  let all := selectedSections sel
  let got := all.filter fun i => i < 7 || hasPath s 6 3
  let l := layout s.variant got
  let missed := ((all.filter fun i => !got.contains i).map fun i => 2 ^ i).sum
  let body := l.1.flatMap fun e =>
    ((List.range (sectionBytes s.variant e.1 / 4)).zip (sectionPlaces s.variant e.1)).filterMap fun x =>
      let w := liveWord s x.2
      if w = 0 then none else some (e.2 / 4 + x.1, w)
  { base := 0x10000 * getF s Reg.CEN_BASE 0 8, size := l.2
    words := censusHeader ((getF s Reg.CEN_STATUS 16 16 + 1) % 65536) sel missed l.1 s ++ body }

/-- The reason for which a capture is refused; 0 for none (R625). -/
def censusRefusal (s : State) : Nat :=
  let base := 0x10000 * getF s Reg.CEN_BASE 0 8
  if s.census.isSome || getBit s Reg.CEN_STATUS 4 then 1
  else if 0xC00000 < base + 0x1000 * censusUnits s.variant (getF s Reg.CEN_SEL 0 9) then 2
  else if getF s Reg.CEN_SEL 0 9 = 0 then 3
  else 0

/-- A refused command shows (R624, R625). -/
def censusRefuse (reason : Nat) (s : State) : State :=
  setInt censusPage 1 (setF Reg.CEN_STATUS 5 3 reason (setB Reg.CEN_STATUS 2 true s))

/-- DONE, REFUSED, ABORTED and the reason clear as a command is accepted. -/
def censusFresh (s : State) : State := setF Reg.CEN_STATUS 5 3 0 (setF Reg.CEN_STATUS 1 3 0 s)

/-- The capture, in this cycle (R625, R626). -/
def censusCapture (s : State) : State :=
  let s1 := setReg64 Reg.CEN_T_LO s.time.uptime (setB Reg.CEN_STATUS 0 true s)
  { s1 with census := some (censusImage s1) }

/-- SNAP (R625). -/
def censusSnap (s : State) : State :=
  let r := censusRefusal s
  if r = 0 then censusCapture (censusFresh s) else censusRefuse r s

/-- SNAP_AT_EPOCH (R625). -/
def censusArm (s : State) : State :=
  let r := censusRefusal s
  if r = 0 then setB Reg.CEN_STATUS 4 true (censusFresh s) else censusRefuse r s

/-- A whole write of CEN_CMD: ABORT alone acts, then SNAP before SNAP_AT_EPOCH (R624). -/
def censusWrite (v : Word) (s : State) : State :=
  if bitOf v 2 then censusAbort s else if bitOf v 0 then censusSnap s else if bitOf v 1 then censusArm s else s

/-- An armed census meets the instant of an epoch (R106, R625); an area or a selection that has become unfit is refused. -/
def censusEpoch (s : State) : State :=
  if getBit s Reg.CEN_STATUS 4 then
    let s1 := setB Reg.CEN_STATUS 4 false s
    let r := censusRefusal s1
    if r = 0 then censusCapture s1 else censusRefuse r s1
  else s

/-- CENSUS_SNAP. -/
def execCensusSnap (req : Requester) (s : State) : Out := .next (hostWrite req Reg.CEN_CMD censusSnap s)

/-- SNAP_AT_EPOCH. -/
def execSnapAtEpoch (req : Requester) (s : State) : Out := .next (hostWrite req Reg.CEN_CMD censusArm s)

/-- CENSUS_ABORT. -/
def execCensusAbort (req : Requester) (s : State) : Out := .next (hostWrite req Reg.CEN_CMD censusAbort s)

/-- CENSUS_COPY_COMPLETE: the area holds the image, DONE sets and CEN_SEQ increments (R626). -/
def execCensusCopyComplete (s : State) : Out :=
  .next (
    match s.census with
    | none => s
    | some c =>
      let s1 := censusStore (c.size / 4) c { s with census := none }
      setInt censusPage 0 (wrapF Reg.CEN_STATUS 16 16 (setB Reg.CEN_STATUS 1 true (setB Reg.CEN_STATUS 0 false s1))))

end Sys2Proof.Machine
end

