-- ==== Sys2Proof/Machine/Instants.lean ====
section
/-! DEFINITION. What happens across the device at an epoch instant, at a bank switch and at a step of the clock, and the frames of
epochs (R103, R107, R172, R178, R182, R183, R465, R472). -/

namespace Sys2Proof.Machine

open Sys2Proof

/-- Whether the notices of an epoch leave (R176, R182, R184). -/
def noticeDue (s : State) (e : Epoch) : Bool :=
  e.fixed && !e.noticeSent && e.num.isSome && !e.follower && !e.applied &&
    getBit s Reg.EPOCH_CFG 8 && (!e.scheduled || e.override || getBit s Reg.EPOCH_CFG 10)

/-- NOTICE_SEND: at T minus the lead, or as soon as the instant is fixed (R158, R182). -/
def execNoticeSend (s : State) : Out :=
  .next (
    if !isLeader s then s
    else
      match s.epochs.find? fun e => noticeDue s e with
      | none => s
      | some e =>
        let s1 := advanceTo (e.t - 100 * e.lead) s
        sendEpochFrame true (noticePayload s1 e) (modEpoch e.id (fun x => { x with noticeSent := true }) s1))

/-- Every armed commit of the device meets the instant of an epoch (R103, R106, R107). -/
def instantCaptures (num : Nat) (s : State) : State :=
  let s1 := captureAll num s
  censusEpoch (forEach (allPumps s1) loopEpochCapture s1)

/-- EPOCH_INSTANT: T of the committed epoch (R172, R235, R453). -/
def execEpochInstant (s : State) : Out :=
  .next (
    match s.epochs.find? fun e => e.phase == .fast && !e.applied with
    | none => s
    | some e =>
      let s1 := advanceTo e.t s
      let s2 := { s1 with align := { s1.align with trim := reg s1 Reg.SHAPE_DEV_TRIM } }
      let s3 := instantCaptures (e.num.getD 0) s2
      let e1 := (s3.epochs.find? fun x => x.id == e.id).getD e
      handoverInstant (applyEpoch e1 s3))

/-- EPOCH_REPORT_SEND: the next report leaves the leader, and this member writes its record (R183, R187). -/
def execEpochReportSend (s : State) : Out :=
  .next (
    match s.reports with
    | [] => s
    | r :: l => sendReport r { s with reports := l })

/-- SCHED_BANK_SWITCHED: the pending bank takes over at the boundary, and aligned gate lists follow it (R178, R504). -/
def execSchedBankSwitched (s : State) : Out :=
  .next (
    match s.schedule with
    | none => s
    | some c =>
      match c.switchAt with
      | none => s
      | some t =>
        let s1 := advanceTo t s
        let s2 := bankSwitched ((s1.schedule).getD c) s1
        realignGates t (bankCycle s2 (activeBankOf s2)) s2)

/-! ### The step of the clock -/

/-- A PTP instant moved with the clock. -/
def moved (d : Int) (t : Nat) : Nat := ((t : Int) + d).toNat

/-- A pin of a verdict moved with the clock. -/
def WellPin.moved (d : Int) (p : WellPin) : WellPin := { p with start := Machine.moved d p.start, stop := Machine.moved d p.stop }

/-- A judged epoch moved with the clock. -/
def VerdictEpoch.moved (d : Int) (v : VerdictEpoch) : VerdictEpoch :=
  { v with t := Machine.moved d v.t, items := v.items.map fun i => { i with reference := ((i.reference : Int) + 64 * d).toNat } }

/-- Epochs committed before a step complete as committed: what they wait for moves with the clock (R472). -/
def moveCommitted (d : Int) (s : State) : State :=
  { s with
    epochs := s.epochs.map fun e => if e.phase == .queued then e else { e with t := moved d e.t, shift := e.shift + d }
    epochPrev := s.epochPrev.map (moved d)
    verdict := s.verdict.map (VerdictEpoch.moved d)
    pinsPlaced := s.pinsPlaced.map (WellPin.moved d)
    pin := s.pin.map fun e => (e.1, e.2.map (WellPin.moved d))
    lastApplied := s.lastApplied.map fun e => (e.1, moved d e.2) }

/-- STEP_APPLY: the step and what meets it (R465, R470, R472). -/
def execStepApply (s : State) : Out :=
  .next (
    match s.time.step with
    | none => s
    | some (mode, a, b, at_) =>
      let s1 := flushEpochs 2 (advanceUptime at_ s)
      let s2 := applyStep mode a b s1
      let s3 := moveCommitted (lastStep s2) s2
      let s4 := if isLeader s3 then { s3 with align := { s3.align with skip := true } } else s3
      captStepped (stepGates s4))

end Sys2Proof.Machine
end

