-- ==== Sys2Proof/Machine/Standing.lean ====
section
/-! DEFINITION. W1C writes (R91 to R94): which INT_STATUS and FAULT_STATUS bits still have a cause, and what a write clears. -/

namespace Sys2Proof.Machine

open Sys2Proof

/-! ### Causes that stand -/

/-- A word of condition bits, bit 0 first. -/
def condBits (l : List Bool) : Word := word (l.foldr (fun b n => b2n b + 2 * n) 0)

/-- Whether some output of a column has bit `i` of its read-back word set (R253, R254). -/
def readbackShows (s : State) (c i : Nat) : Bool :=
  (SMap.slice s.regs (Reg.HTR_RB_A c 0) 0x1000).any fun e => 8 ≤ e.1 % 16 && bitOf e.2 i

/-- Whether a sensor of a group shows RISE (R563). -/
def riseShows (s : State) (lo n : Nat) : Bool := (List.range n).any fun i => getBit s (sensorWord (lo + i)) 20

/-- Whether some member of the ring is untrusted: this one, or on the leader any that has joined (R445, R458). -/
def untrusted (s : State) : Bool :=
  !standAlone s && joinState s == 2 &&
    (!getBit s Reg.RING_STATUS 9 ||
      (ringLeader s && (otherPositions s).any fun p => peerState s p == 3 && !getBit s (Reg.RING_PEER_A p) 16))

/-- The FAULT_STATUS bits of a page whose cause is still present: those set by a condition that the state shows (R93). Every other bit
is set by an event, which is over (DEDUCED, assumption 26). -/
def standingFaults (s : State) (p : Page) : Word :=
  match p.kind with
  | .clk =>
    let src := fun (i : Nat) => getBit s Reg.CLK_SRC_STATUS i
    condBits [!src 0, !src 1 && src 3, !src 2 && !src 4, src 4 && s.prime.holdover.isNone]
  | .pwr => condBits ((List.range 10).map fun n => !getBit s Reg.PWR_MON_STATUS n)
  | .heat =>
    let down := stage s == 0xF
    let st := fun (i : Nat) => getBit s Reg.HEAT_STATUS i
    condBits [st 0, st 1, down, riseShows s 0 64, st 2, st 3, down, riseShows s 64 32, getF s Reg.HEAT_STATUS 8 8 != 0,
      getBit s Reg.HEAT_RESTART 2]
  | .col =>
    let c := p.inst
    condBits ((List.range 5).map (fun i => readbackShows s c (16 + i)) ++
      [getF s (Reg.HTR_COL_STATUS c) 0 4 != 0, c == 0 && getBit s Reg.HTR_BUDGET_STATUS 0, false,
        (List.range 64).any fun m => getBit s (Reg.CLAIM_STATE c m) 1])
  | .pe =>
    condBits [(pumpCells p.inst).any (fun m => getBit s (Reg.CELL_STATUS m) 3), false, false, pumpState s p.inst == 6]
  | .tw | .pw | .hw =>
    let w := wellOf p
    condBits [p.kind == .pw && getF s (Reg.PW_PLAUS_STATUS w) 0 8 != 0, getBit s (Reg.WELL_STATUS w) 4,
      (s.refOut[getF s (Reg.WELL_CFG w) 0 2]?).getD false]
  | .ring => condBits [false, false, untrusted s, false, (List.range 4).any fun l => laneState s l == 3]
  | .ddr => condBits [false, false, getBit s (Reg.STATUS p) 5]
  | .wellhead =>
    condBits [false, false, getF s Reg.WH_ATTEST_REM 0 15 == 0 && getF s Reg.WH_ATTEST_REM 16 7 == 0, getF s Reg.WH_KEYS 16 4 == 0,
      getF s Reg.WH_SVN 8 7 == 0, getF s Reg.WH_DEBUG 0 3 != 0]
  | _ => 0

/-- The INT_STATUS bits of a page whose cause is still present (R93, assumption 26). -/
def standingInts (s : State) (p : Page) : Word :=
  let f := fun (i : Nat) => bitOf (standingFaults s p) i
  match p.kind with
  | .heat => condBits [f 0 || f 4, f 1 || f 5, f 3 || f 7, f 8]
  | .col => condBits (List.replicate 16 false ++ [f 0 || f 1 || f 2 || f 3, f 4, f 5, f 6])
  | .tw | .pw => condBits [false, false, false, false, f 0]
  | .ring => condBits [false, false, false, false, f 2]
  | _ => 0

/-! ### Clearing -/

/-- What clearing a GLB interrupt does to the record behind it (R114). -/
def glbCleared (cleared : Word) (s : State) : State :=
  let s1 := if bitOf cleared 0 then setReg Reg.GLB_DECODE_ADDR 0 (setF Reg.GLB_DECODE_INFO 16 16 0 s) else s
  if bitOf cleared 1 then setReg Reg.GLB_LOCK_ADDR 0 (setF Reg.GLB_LOCK_INFO 16 16 0 s1) else s1

/-- A W1C write to INT_STATUS: each bit written as 1 clears unless its cause is still present, and one further message leaves where
the request is still active (R92, R93, R114). -/
def clearInts (p : Page) (v : Word) (s : State) : State :=
  let a := Reg.INT_STATUS p
  let gone := reg s a &&& v &&& ~~~(standingInts s p)
  let s1 := setReg a (reg s a &&& ~~~gone) s
  let s2 := if p.kind = .glb then glbCleared gone s1 else s1
  if intActive s2 p then sendInt p s2 else s2

/-- A W1C write to FAULT_STATUS; the collector's record stands (R93, R547). -/
def clearFaults (p : Page) (v : Word) (s : State) : State :=
  let a := Reg.FAULT_STATUS p
  setReg a (reg s a &&& ~~~(v &&& ~~~(standingFaults s p))) s

/-- A W1C write at offset `o` of a page (R93, R94, R149, R189). -/
def w1cAt (p : Page) (o : Nat) (v : Word) (s : State) : State :=
  if o = 0x10 then clearInts p v s
  else if o = 0x18 then clearFaults p v s
  else
    let a := pageBase p + o
    let m := word (((pageReg p o).map RegDef.mask).getD 0)
    setReg a (reg s a &&& ~~~(v &&& m)) s

end Sys2Proof.Machine
end

