-- ==== Sys2Proof/Machine/RegWrites.lean ====
section
/-! DEFINITION. What a write does to a word of a register page, of the element table or of a cell's region, by its access type
(R94 to R96, R102) and by the rules of its chapter. -/

namespace Sys2Proof.Machine

open Sys2Proof

/-- The state that a command leaves. -/
def after (o : Out) (s : State) : State :=
  match o with
  | .next t => t
  | _ => s

/-- Runs a command as part of another. -/
def doCmd (f : State → Out) (s : State) : State := after (f s) s

/-! ### Reserved encodings (R96) -/

/-- Whether a field lies in a range. -/
def within (a b f : Nat) : Bool := a ≤ f && f ≤ b

/-- A field rule: lowest bit, width, and the encodings that are not reserved. -/
abbrev FieldRule := Nat × Nat × (Nat → Bool)

/-- The word that a write leaves: a field given a reserved encoding keeps its value (R96). -/
def keepFields (old v : Word) (rules : List FieldRule) : Word :=
  rules.foldl (fun x r => if r.2.2 (fld v r.1 r.2.1) then x else setFld x r.1 r.2.1 (fld old r.1 r.2.1)) v

/-- The fields of page registers that have reserved encodings (R184, R234, R236, R258, R323, R355, R387, R416, R457, R480, R513 to R515,
R550, R588, R632). -/
def fieldRules (k : PageKind) (o : Nat) : List FieldRule :=
  match k with
  | .epoch => if o = 0xA4 then [(0, 7, within 0 64), (8, 7, within 0 64)] else []
  | .siphon => if 0x400 ≤ o && o % 32 = 0 then [(14, 2, within 0 2)] else []
  | .col => if o = 0x200 then [(0, 6, within 4 63)] else if o = 0x100 then [(0, 5, within 1 31)] else []
  | .pe => if o = 0x60 then [(4, 4, within 1 15), (16, 8, within 1 255)] else []
  | .tw | .pw => if o = 0x84 then [(0, 8, within 1 255)] else []
  | .verdict => if o = 0x40 then [(0, 8, within 1 40)] else if o = 0x44 then [(8, 5, within 5 30)] else []
  | .capt => if 0x100 ≤ o && o < 0x140 && o % 8 = 0 then [(8, 8, within 4 255)] else []
  | .ring => if o = 0x40 then [(0, 3, within 1 4)] else []
  | .time => if o = 0x90 then [(8, 8, within 1 255)] else []
  | .mac => if o = 0x58 then [(0, 6, within 12 63)] else if 0x800 ≤ o && o % 64 = 8 then [(8, 4, within 4 12)] else []
  | .gate => if o = 0x54 then [(0, 9, within 0 256)] else []
  | .police =>
    if o = 0x40 then (List.range 8).map fun i => (2 * i, 2, within 0 2)
    else if 0x400 ≤ o && o < 0xC00 && o % 32 = 4 then [(8, 2, within 0 2), (10, 2, within 0 2), (12, 2, within 0 2)] else []
  | .flt => if o = 0x40 then [(8, 16, within 1 65535)] else []
  | .xbar => if o = 0x40 then [(4, 8, within 1 255), (16, 16, within 1 65535)] else []
  | .tmux => if o < 0x60 then [(0, 4, within 0 9)] else [(0, 4, within 0 5)]
  | _ => []

/-- The fields of element-table words that have reserved encodings (R30, R196). -/
def slotRules (o : Nat) : List FieldRule :=
  if o = 0 then [(4, 2, within 0 2)] else if o = 0x1C then [(0, 11, fun f => f == 0 || within 300 1100 f)] else []

/-- The fields of a cell's words that have reserved encodings (R302). -/
def cellRules (o : Nat) : List FieldRule := if o = 0x200 then [(8, 3, within 0 5)] else []

/-- Whether a register ignores a whole write whose value is out of range (R68, R259, R457, R480). -/
def rangeIgnored (p : Page) (o : Nat) (v : Word) : Bool :=
  match p.kind with
  | .pwr => o == 0x40 && !within 1500 3600 (fld v 0 12)
  | .col => p.inst == 0 && o == 0x7100 && !within 1000 60000 (fld v 0 16)
  | .ring => o == 0x44 && !within 2 1000 (fld v 0 10)
  | .time => o == 0x94 && (signed 32 v.toNat < -500000000 || 500000000 < signed 32 v.toNat)
  | _ => false

/-! ### RW words -/

/-- The bits of a page register that a write reaches; the pair-wide fields of TWIN_CFG are reserved in the odd pump's page (R323). -/
def reached (s : State) (p : Page) (o : Nat) (d : RegDef) : Word :=
  let m := writeMask s.variant p o d
  word (if p.kind = .pe && o = 0x60 && p.inst % 2 = 1 then m % 4 else m)

/-- The word that a write leaves in a page register: bits out of reach and reserved encodings keep their values (R95, R96). -/
def written (s : State) (p : Page) (o : Nat) (d : RegDef) (v : Word) : Word :=
  let old := storedWord s (pageBase p + o)
  let m := reached s p o d
  (old &&& ~~~m) ||| (keepFields old v (fieldRules p.kind o) &&& m)

/-- Whether a calibration word written now waits for its moment: in P4 of a cold path, and while CAL_MISSING is 1 (R143, R145). -/
def calWaits (s : State) : Bool := (stage s == 4 && coldKind s) || getBit s Reg.GLB_PRIME_STATUS 7

/-- Puts a word into a page register, or beside it where a calibration word waits (R94, R145). -/
def putWord (a : Nat) (cal : Bool) (v : Word) (s : State) : State :=
  if cal && calWaits s then
    modPrime (fun q => { q with calStaged := SMap.set (fun _ => none) q.calStaged a (some v), calHost := q.calHost || stage s == 4 }) s
  else setReg a v s

/-- A write of an RW word with no rule of its own (R94). -/
def plainWrite (p : Page) (o : Nat) (d : RegDef) (v : Word) (s : State) : State :=
  if rangeIgnored p o v then s else putWord (pageBase p + o) d.cal (written s p o d v) s

/-- Whether a bank of gate entries is in force or pending (R503). -/
def gateBankHeld (s : State) (n b : Nat) : Bool :=
  ((gateOf s n).inForce.map GateList.bank) == some b || ((gateOf s n).pending.map fun e => e.1.bank) == some b

/-- A write of SCHED_LEN: the length of a bank in use stays (R184). -/
def schedLen (s : State) (v : Word) : Word :=
  let old := reg s Reg.SCHED_LEN
  let keep := fun (b : Nat) (x : Word) => if bankInUse s b then setFld x (8 * b) 7 (fld old (8 * b) 7) else x
  keep 1 (keep 0 v)

/-- A write of an RW word of a page, by its chapter's rules. -/
def rwWrite (req : Requester) (p : Page) (o : Nat) (d : RegDef) (v : Word) (s : State) : State :=
  let plain := plainWrite p o d v
  let n := p.inst
  match p.kind with
  | .epoch =>
    if o = 0xA0 then schedWrite v s
    else if o = 0xA4 then plainWrite p o d (schedLen s v) s
    else if 0x400 ≤ o && o < 0x600 && bankInUse s ((o - 0x400) / 0x100) then s
    else plain s
  | .route => mapWrite (pageBase p + o) v s
  | .siphon => if 0x400 ≤ o && streamState s ((o - 0x400) / 32) != 0 then s else plain s
  | .col => if n = 0 && 0x8000 ≤ o && o < 0xC000 then writeDirAt (o - 0x8000) v s else plain s
  | .tw | .pw =>
    let w := wellOf p
    if o = 0x40 then doCmd (execRefSelWrite req (Fin.ofNat 288 w) v) s
    else if 0x400 ≤ o && o < 0x500 && o % 16 = 0 then chCfgWritten w ((o - 0x400) / 16) (plain s)
    else plain s
  | .capt =>
    let pin := (o - 0x100) / 8
    if 0x100 ≤ o && o < 0x140 && o % 8 = 0 && getBit s (Reg.TRIG_CFG pin) 0 != bitOf v 0 then trigDirChanged pin (plain s)
    else plain s
  | .ring =>
    if o = 0x40 then
      let fixed := joinState s == 1 || joinState s == 2
      disciplineFollows (plainWrite p o d (if fixed then setFld v 0 3 (ringSize s) else v) s)
    else plain s
  | .mac =>
    if o = 0x40 then macCfgWrite n v s
    else if o = 0x58 then chooseFrame n (plain s)
    else if 0x400 ≤ o && o < 0x480 then shaperWrite n ((o - 0x400) / 16) plain s
    else if 0x800 ≤ o && o % 64 = 8 && bitOf (reg s (pageBase p + o)) 0 then
      plainWrite p o d (setFld v 8 4 (fld (reg s (pageBase p + o)) 8 4)) s
    else plain s
  | .gate =>
    if (o = 0x50 || o = 0x54) && (gateOf s n).pending.isSome then s
    else if 0x400 ≤ o && gateBankHeld s n ((o - 0x400) / 0x400) then s
    else plain s
  | .flt => plain (settleAll s)
  | .heat =>
    match heatRule (pageBase p + o) (reg s (pageBase p + o)) v with
    | some w =>
      let t := setReg (pageBase p + o) w s
      stopMeasures (fun i => throttle t i && !throttle s i) t
    | none => s
  | .tmux => if getBit s Reg.WH_DEBUG 1 && enabled s p then plain s else s
  | _ => plain s

/-! ### Pairs (R100 to R102) -/

/-- Whether an address is the low half of a 64-bit pair (R100). -/
def lowHalf (a : Nat) : Bool :=
  match regAt a with
  | some d => d.acc == .rol || d.acc == .rwl
  | none => false

/-- Whether an address is the low half of a 64-bit RW pair (R102). -/
def rwLow (a : Nat) : Bool :=
  match regAt a with
  | some d => d.acc == .rwl
  | none => false

/-- Whether a pair ignores its write now (R237, R302, R503, R508). -/
def pairIgnored (s : State) (a : Nat) : Bool :=
  match decodeFull a with
  | .page p o => match p.kind with
    | .siphon => 0x400 ≤ o && streamState s ((o - 0x400) / 32) != 0
    | .gate => (gateOf s p.inst).pending.isSome
    | .mac => getBit s (a + 8) 0
    | _ => false
  | .loopWin o => getBit s (Reg.INJ_STATUS (o / 0x1000)) 0
  | _ => false

/-- Both halves of a pair take effect together (R102, R463). -/
def pairApply (a : Nat) (lo hi : Word) (s : State) : State :=
  let mask := fun (x : Nat) => word (((regAt x).map RegDef.mask).getD 0)
  if pairIgnored s a then s
  else if a = Reg.TIME_INCR_LO then timeIncr (lo.toNat + 2 ^ 32 * (hi.toNat % 256)) s
  else setReg (a + 4) (hi &&& mask (a + 4)) (setReg a (lo &&& mask a) s)

/-- A write of a low half is held for its requester, unless the pair ignores its writes now (R102, R237, R302). -/
def holdLow (req : Requester) (a : Nat) (v : Word) (s : State) : State :=
  if pairIgnored s a then s
  else { s with bus := { s.bus with held := SMap.set (fun _ => none) s.bus.held (req.toNat * 2 ^ 28 + a) (some v) } }

/-- A write of the high half of the pair at `a`, with the low half that its requester holds, or the current one (R102). -/
def writeHigh (req : Requester) (a : Nat) (v : Word) (s : State) : State :=
  let h := takeHeld req a s
  pairApply a (h.1.getD (reg s a)) v h.2

/-- A 64-bit write of a pair: both halves at once (R97, R102). -/
def writePair (req : Requester) (a : Nat) (lo hi : Word) (s : State) : State := pairApply a lo hi (takeHeld req a s).2

/-! ### Command words -/

/-- Open capture items, as many as a partial unit of the stream can hold: a raw write of CAPT_CMD does not say what the unit holds
(assumption 27). -/
def openRest (n : Nat) (s : State) : List CaptItem × State :=
  let k := openNow s % max 1 (stream s n).desc.unitItems
  let x := fun (j i : Nat) => Config.openNat (s.fresh + 1 + 6 * j + i)
  let item := fun (j : Nat) => { value := x j 0, instant := x j 1, range := x j 2 % 4, overRange := x j 3 % 2 == 1, unsettled := x j 3 / 2 % 2 == 1, gap := x j 3 / 4 % 2 == 1, rateChanged := x j 3 / 8 % 2 == 1, dropped := x j 4 }
  ((List.range k).map item, { s with fresh := s.fresh + 1 + 6 * k })

/-- CAPT_CMD: its bits act in ascending order (R413, R416, assumption 28). -/
def captCommand (req : Requester) (v : Word) (s : State) : State :=
  let n := Fin.ofNat 256 (fld v 0 8)
  let s1 := whenB (bitOf v 8) (doCmd (execArm req n)) s
  let s2 := whenB (bitOf v 9) (fun t => let r := openRest n t; doCmd (execCaptStop req n r.1) r.2) s1
  let s3 := whenB (bitOf v 10) (fun t => let r := openRest n t; doCmd (execStopAfter req n r.1) r.2) s2
  whenB (bitOf v 11) (doCmd (execTrigger req n)) s3

/-- CAL_CMD: ABORT acts alone; otherwise START, and with SOURCE 1 the phase that EXT_PHASE names (R347, R348, R351, assumption 28). -/
def calCommand (req : Requester) (w : Nat) (v : Word) (s : State) : State :=
  let n := Fin.ofNat 288 w
  let chans : BitVec 16 := BitVec.ofNat 16 (fld v 0 16)
  if bitOf v 27 then doCmd (execCalAbort req n) s
  else if bitOf v 25 then
    if bitOf v 26 then doCmd (execExtPhaseFull req n) s
    else if bitOf v 24 then
      let s1 := doCmd (execCalStartExternal req n chans) s
      if (calRun s w).isSome then s1 else doCmd (execExtPhaseZero req n) s1
    else doCmd (execExtPhaseZero req n) s
  else if bitOf v 24 then doCmd (execCalStartInternal req n chans (BitVec.ofNat 4 (fld v 16 4))) s
  else s

/-- LOOP_TABLE_CMD (R638). -/
def loopCommand (req : Requester) (k : Nat) (v : Word) (s : State) : State :=
  let n := Fin.ofNat 128 k
  if bitOf v 2 then doCmd (execDisarm req n) s
  else if bitOf v 0 then doCmd (execLoopCommit req n) s
  else if bitOf v 1 then doCmd (execLoopCommitAtEpoch req n) s
  else s

/-- A write of a WO word of a well page. -/
def wellCommand (req : Requester) (w o : Nat) (v : Word) (s : State) : State :=
  if o = 0x4C then whenB (bitOf v 0) (doCmd (execWellCountClr req (Fin.ofNat 288 w))) s
  else if o = 0x50 then
    let j := Fin.ofNat 80 (w / 2)
    let s1 := whenB (bitOf v 8) (doCmd (execBind req j (Fin.ofNat 32 (fld v 0 5)) (Fin.ofNat 4 (fld v 10 2)))) s
    whenB (bitOf v 9) (doCmd (execIlvRelease req j)) s1
  else if o = 0x70 then calCommand req w v s
  else if o = 0x8C then whenB (bitOf v 0) (doCmd (execPwPlausClr req (Fin.ofNat 64 (w - 160)))) s
  else s

/-- An open measurement of the loop delay: a raw write of SHAPE_ALIGN_CTRL does not say what the leader measures (R227, assumption 27). -/
def openMeasure (s : State) : SkewMeasure × State :=
  let w := fun (i : Nat) => BitVec.ofNat 16 (Config.openNat (s.fresh + i))
  (⟨w 0, [w 1, w 2, w 3, w 4]⟩, { s with fresh := s.fresh + 5 })

/-- A write of a WO word of a column page. -/
def colCommand (req : Requester) (c o : Nat) (v : Word) (s : State) : State :=
  let n := Fin.ofNat 10 c
  if o = 0x218 then whenB (bitOf v 0) (doCmd (execEoColCountClr req n)) s
  else if o = 0x250 then
    whenB (bitOf v 8) (doCmd (execEoCalStart req n (Fin.ofNat 256 (fld v 0 8)) (bitOf v 11) (bitOf v 12))) s
  else if o = 0x118 then whenB (bitOf v 0) (doCmd (execHtrCountClr req n)) s
  else if o = 0x11C then
    -- which bank detectors read above 120 °C is not in the write (assumption 27)
    doCmd (execHtrFaultClr req n (BitVec.ofNat 16 v.toNat) (BitVec.ofNat 4 (openNow s))) (draw s)
  else if o = 0x120 then whenB (bitOf v 0) (doCmd (execHtrCalStart req n)) s
  else if o = 0x308 then whenB (bitOf v 0) (doCmd (execClaimCountClr req n)) s
  else if 0x4000 ≤ o && o < 0x5000 then
    whenB (bitOf v 15) (doCmd (execEoChJump req (Fin.ofNat 2560 (256 * c + (o - 0x4000) / 16)) (BitVec.ofNat 10 v.toNat) (bitOf v 14))) s
  else if 0x5000 ≤ o && o < 0x6000 then
    doCmd (execHtrHostWrite req (Fin.ofNat 2560 (256 * c + (o - 0x5000) / 16)) (BitVec.ofNat 16 v.toNat)) s
  else if o = 0x7004 then whenB (bitOf v 16) (doCmd (execShapeDirInvalidate req (BitVec.ofNat 10 v.toNat))) s
  else if o = 0x7010 then
    whenB (bitOf v 0) (fun t => let m := openMeasure t; doCmd (execSkewCal ⟨req, m.1⟩) m.2) s
  else s

/-- A write of a WO word of a page: what its bits command, in ascending order where the chapter gives no other (R94,
assumption 28). -/
def pageCommand (req : Requester) (p : Page) (o : Nat) (v : Word) (s : State) : State :=
  let n := p.inst
  let b := fun (i : Nat) (f : State → Out) => whenB (bitOf v i) (doCmd f)
  match p.kind with
  | .glb =>
    if o = 0x100 then whenB (fld v 16 16 == 0xA5C3 && bitOf v 0) (warmRequest req) s
    else if o = 0x10C then whenB (bitOf v 0) calDoneWrite s else s
  | .epoch => if o = 0x60 then b 0 (execEpochSubmit req) s else if o = 0x94 then b 0 (execEpochQueueFlush req) s else s
  | .route =>
    if o = 0x4C then presetCommand (fld v 0 6) (bitOf v 8) (bitOf v 9) s
    else if o = 0x58 then whenB (bitOf v 15) (markPort (fld v 0 10)) s else s
  | .col => colCommand req n o v s
  | .siphon =>
    let k := Fin.ofNat 32 ((o - 0x400) / 32)
    b 2 (execRelease req k) (b 1 (execAbort req k) (b 0 (execGo req k) s))
  | .pe =>
    let k := Fin.ofNat 128 n
    if o = 0x40 then loopCommand req n v s
    else if o = 0x64 then b 2 (execTakebackNow req k) (b 1 (execSelfTest req k) (b 0 (execFwUpdate req k) s))
    else if o = 0x84 then b 0 (execHealthClr req k) s else s
  | .tw | .pw => wellCommand req (wellOf p) o v s
  | .verdict => if o = 0x78 then b 0 (execVrdCountClr req) s else s
  | .capt => if o = 0x44 then captCommand req v s else s
  | .ring =>
    if o = 0x4C then b 2 (execHandover req (Fin.ofNat 4 (fld v 4 2))) (b 1 (execRingLeave req) (b 0 (execJoin req) s))
    else if o = 0x6C then b 0 (execRingCountClr req) s else s
  | .time =>
    if o = 0x54 then b 3 (execSlewAbort req) (b 2 (execSlew req) (b 1 (execSnap req) (b 0 (execStep req) s))) else s
  | .mac => if o = 0x94 then b 0 (execMacCountClr req (Fin.ofNat 4 n)) s else s
  | .gate =>
    if o = 0x58 then b 1 (execCancel req (Fin.ofNat 4 n)) (b 0 (execConfigChange req (Fin.ofNat 4 n)) s) else s
  | .police => if o = 0x50 then b 0 (execPoliceCountClr req (Fin.ofNat 4 n)) s else s
  | .cistern =>
    if o = 0x44 then b 8 (execCisFlush req (Fin.ofNat 64 (fld v 0 6))) s
    else if o = 0x60 then b 0 (execCisCountClr req) s else s
  | .evt =>
    if o = 0x44 then b 8 (execEvtFire req (BitVec.ofNat 8 v.toNat)) s
    else if o = 0x50 then b 0 (execEvtCountClr req) s
    else if o = 0x54 then b 0 (execEvtTaskClr req) s else s
  | .flt =>
    if o = 0x80 then fltAck (fld v 0 7) (bitOf v 8) (bitOf v 9) (bitOf v 10) s
    else if o = 0x7C then whenB (bitOf v 0) firstClear s else s
  | .xbar => if o = 0x5C then whenB (bitOf v 0) xbarCountClear s else s
  | .wellhead => if o = 0x44 then whStart req (fld v 0 8) s else s
  | .census => if o = 0x40 then censusWrite v s else s
  | _ => s

/-! ### A word of a page -/

/-- A write of CTRL: HOLD_THROUGH, ENABLE, FREEZE, then SOFT_RESET (R88 to R91, R633). -/
def ctrlWrite (p : Page) (v : Word) (s : State) : State :=
  let s1 := if p.kind.hasHold then setB (Reg.CTRL p) 3 (bitOf v 3) s else s
  let s2 := if bitOf v 0 then enableOn p s1 else enableOff p s1
  whenB (bitOf v 1) (softReset p) (setFreeze p (bitOf v 2) s2)

/-- A write of a header word (R86 to R93, R106, R109). -/
def headerWrite (p : Page) (o : Nat) (v : Word) (s : State) : State :=
  if o = 0x08 then ctrlWrite p v s
  else if o = 0x10 || o = 0x18 then w1cAt p o v s
  else if o = 0x14 then intEdge p s (setReg (Reg.INT_ENABLE p) v s)
  else if o = 0x1C then shadowWrite p v s
  else if o = 0x28 then lockWrite p v s
  else s

/-- Marks a page's shadow as written (R104). -/
def markDirty (p : Page) (s : State) : State := setB (Reg.SHADOW_STATUS p) 0 true s

/-- A write of a shadowed word of a page; a word that takes no writes stays (R94, R104). CIS_Q_CFG keeps a RESERVE that would take the
shadow sum beyond the cells there are (R496). -/
def shadowedWrite (p : Page) (o : Nat) (d : RegDef) (v : Word) (s : State) : State :=
  let a := pageBase p + o
  if reached s p o d = 0 then s
  else
    let w := written s p o d v
    let others := ((List.range 64).filter fun q => Reg.CIS_Q_CFG q != a).map fun q => getF s (Reg.CIS_Q_CFG q) 0 15
    let w1 := if p.kind = .cistern && 16384 < others.sum + fld w 0 15 then setFld w 0 15 (getF s a 0 15) else w
    markDirty p (setReg a w1 s)

/-- A 32-bit write of a page's word, by its access type (R94). -/
def pageWrite (req : Requester) (p : Page) (o : Nat) (v : Word) (s : State) : State :=
  let a := pageBase p + o
  if o < 0x40 then headerWrite p o v s
  else
    match pageReg p o with
    | none => s
    | some d =>
      match d.acc with
      | .ro | .rol => s
      | .rw => rwWrite req p o d v s
      | .rws => shadowedWrite p o d v s
      | .w1c => w1cAt p o v s
      | .wo => pageCommand req p o v s
      | .rwl => holdLow req a v s
      | .rwh => writeHigh req (a - 4) v s

/-- A write of an element-table word in the shadow view (R94, R96, R104, R108). -/
def slotWrite (n o : Nat) (v : Word) (s : State) : State :=
  match findIn slotRegs o with
  | some d =>
    if d.acc = .rws then
      let a := Reg.SLOT_CFG n + o
      markDirty (colPage (n / 256)) (setReg a (keepFields (reg s a) v (slotRules o) &&& word d.mask) s)
    else s
  | none => s

/-! ### A word of a cell's region -/

/-- Whether a bank of a cell ignores writes (R286). -/
def cellBankHeld (s : State) (cell bank : Nat) : Bool := bank == activeBank s cell || cellPending s cell

/-- A write of words of a cell's region, under the bytes that the access covers: `v` holds those bytes in their places, `m` ones
there (R97, R102, R286, R299, R302). -/
def cellWrite (req : Requester) (cell o : Nat) (v m : Word) (s : State) : State :=
  let a := 0x1800000 + 0x1000 * cell + o
  match findIn cellRegs o with
  | none => s
  | some d =>
    let merge := fun (old : Word) => (old &&& ~~~m) ||| (v &&& m)
    match d.acc with
    | .rw =>
      if 0x200 ≤ o && o < 0x400 && getBit s (Reg.INJ_STATUS cell) 0 then s
      else setReg a (keepFields (reg s a) (merge (reg s a)) (cellRules o) &&& word (cellWordMask o d)) s
    | .wo =>
      let n := Fin.ofNat 640 cell
      let w := v &&& m
      if o = 0x0C then doCmd (execCellClr req n (BitVec.ofNat 2 w.toNat)) s
      else whenB (bitOf w 1) (doCmd (execInjStop req n)) (whenB (bitOf w 0) (doCmd (execInjGo req n)) s)
    | .rwl =>
      let h := SMap.get (fun _ => none) s.bus.held (req.toNat * 2 ^ 28 + a)
      holdLow req a (merge (h.getD (reg s a))) s
    | .rwh => writeHigh req (a - 4) (merge (reg s a)) s
    | _ => s

end Sys2Proof.Machine
end

