-- ==== Sys2Proof/Machine/Registers.lean ====
section
/-! DEFINITION. Accesses to BAR0 and BAR2: alignment and width, decode errors, writes by access type, reads that latch, pairs, W1C and
FREEZE (R91 to R102, R112, R116). -/

namespace Sys2Proof.Machine

open Sys2Proof

/-! ### Writing (R94 to R97, R102, R110) -/

/-- The two words of an aligned access. -/
def wordsOf (a n : Nat) (data : Nat) : List (Nat × Word) :=
  if n = 8 then [(a, lo32 data), (a + 4, hi32 data)] else [(a, lo32 data)]

/-- A write of `n` bytes to a place of BAR0 (R94, R97). -/
def effWrite (req : Requester) (a n data : Nat) (s : State) : State :=
  match decodeAddr s.variant a with
  | .page p o =>
    if p.kind = .col && p.inst = 0 && 0x8000 ≤ o && o < 0xC000 then
      shapeWrite a n data s
    else if n = 8 && rwLow a then writePair req a (lo32 data) (hi32 data) s
    else forEach (wordsOf a n data) (fun e t => pageWrite req p (e.1 - pageBase p) e.2 t) s
  | .slotShadow k o => forEach (wordsOf a n data) (fun e t => slotWrite k (o + (e.1 - a)) e.2 t) s
  | .slotActive _ _ => s
  | .shape _ => shapeWrite a n data s
  | .preset o =>
    let k := o / 0x10000
    if 0x1000 ≤ o % 0x10000 then s
    else if presetValid s k || (s.preparation.map Preparation.preset) == some k || !isLeader s then presetIgnored k s
    else
      let top := fun (i : Nat) (b : Byte) => if (a + i) % 2 = 1 then b &&& (if o % 0x10000 < 0x800 then 0x83 else 0x8F) else b
      writeMem a ((toBytes n data).mapIdx top) s
  | .loopWin o =>
    if 0x280000 ≤ o then s
    else
      let cell := o / 0x1000
      let x := o % 0x1000
      if 0x400 ≤ x && cellBankHeld s cell ((x - 0x400) / 0x600) then
        setF (Reg.LOOP_IGNORED (primaryPump cell)) 16 10 cell (bumpF (Reg.LOOP_IGNORED (primaryPump cell)) 0 16 s)
      else if n = 8 && rwLow a then writePair req a (lo32 data) (hi32 data) s
      else if n = 8 then forEach (wordsOf a n data) (fun e t => cellWrite req cell (x + (e.1 - a)) e.2 0xFFFFFFFF t) s
      else
        let sh := 8 * (x % 4)
        cellWrite req cell (x - x % 4) (word (data % 2 ^ (8 * n) * 2 ^ sh)) (word ((2 ^ (8 * n) - 1) * 2 ^ sh)) s
  | .pumpMem _ _ => writePumpMem a (toBytes n data) s
  | .sram o =>
    if 0xC00000 ≤ o then whenB (req == 0 || req == 1) (bumpF Reg.CIS_HOST_WRITES 0 16) s else writeMem a (toBytes n data) s
  | .hole => s

/-- A write access of `n` bytes (R94, R97, R110, R112). -/
def writeAccess (req : Requester) (a n data : Nat) (s : State) : State := sizedWrite req a n (effWrite req a n data) s

/-- REGISTER_WRITE (R94 to R97). -/
def execRegisterWrite (req : Requester) (addr : BitVec 28) (size : AccessSize) (data : DWord) (s : State) : Out :=
  .next (writeAccess req addr.toNat size.bytes data.toNat s)

/-- DECODE_ERROR: an access to a hole, a narrow write or a misaligned access; nothing where the access is none of them (R112, R114). -/
def execDecodeError (req : Requester) (addr : BitVec 28) (size : AccessSize) (write : Bool) (s : State) : Out :=
  .next (if decodeFails s addr.toNat size.bytes write then sizedAccess req addr.toNat size.bytes write id s else s)

/-! ### BAR2 (R116) -/

/-- BAR2_ACCESS: a host access through BAR2, beyond the DRAM in service a decode error with its DRAM offset (R116, R580); where the
matrix in force has no path to DRAM, an error answer (R578). -/
def execBar2Access (req : Requester) (off : BitVec 32) (size : AccessSize) (write : Option DWord) (s : State) : Out :=
  .next (
    let a := getF s Reg.PCIE_BAR2_BASE 0 11 * 2 ^ 26 + off.toNat
    if req != 0 || !arrives s req then s
    else if s.dramSize < a + size.bytes then decodeError req (a % 2 ^ 28) write.isSome s
    else if !hasPath s req.toNat 6 then draw (sparseError req req.toNat (6 + openNow s % 4) a s)
    else
      match write with
      | some v => writeDram a (toBytes size.bytes v.toNat) s
      | none => emit (.readData req (readDram s a size.bytes)) s)

/-! ### Reads (R97, R98, R100, R101) -/

/-- A 32-bit read of the low half of a pair: the high half and the pair's address go into the requester's shadow (R100). -/
def latchHigh (req : Requester) (a : Nat) (s : State) : State :=
  let l := some (a, readWord s (a + 4))
  { s with bus := { s.bus with latch := SMap.set (fun _ => none) s.bus.latch req.toNat l } }

/-- What a 32-bit read of the high half at `a + 4` returns (R100). -/
def highValue (s : State) (req : Requester) (a : Nat) : Word :=
  match SMap.get (fun _ => none) s.bus.latch req.toNat with
  | some (b, v) => if b = a then v else readWord s (a + 4)
  | none => readWord s (a + 4)

/-- Whether an address is the high half of a pair. -/
def highHalf (a : Nat) : Bool := decide (4 ≤ a) && lowHalf (a - 4)

/-- What a 32-bit read of a word returns (R94, R100). -/
def wordRead (s : State) (req : Requester) (a : Nat) : Word := if highHalf a then highValue s req (a - 4) else readWord s a

/-- Whether a place is a byte window, which takes an access of any size as it is (R97). -/
def byteWindow (t : Target) : Bool :=
  match t with
  | .page _ _ | .slotShadow _ _ | .slotActive _ _ => false
  | _ => true

/-- The bytes of an access within the word that contains it. -/
def laneData (w : Word) (a n : Nat) : Nat := w.toNat / 2 ^ (8 * (a % 4)) % 2 ^ (8 * n)

/-- A read of `n` bytes: both halves of one cycle for a 64-bit read; otherwise the 32-bit read of the word that contains it, with that
read's latch. A narrow read of a byte window is no such read and latches nothing (R97, R98, R100, R101). -/
def readEffect (req : Requester) (a n : Nat) (s : State) : State :=
  let w := a - a % 4
  if n = 8 then emit (.readData req ((readWord s a).toNat + 2 ^ 32 * (readWord s (a + 4)).toNat)) s
  else if n < 4 && byteWindow (decodeAddr s.variant a) then emit (.readData req (laneData (readWord s w) a n)) s
  else emit (.readData req (laneData (wordRead s req w) a n)) (if lowHalf w then latchHigh req w s else s)

/-- LOW_HALF_READ: a read of the low half of a pair, or of a word that is no half of a pair (R97, R98, R100, R101). -/
def execLowHalfRead (req : Requester) (place : ReadPlace) (s : State) : Out :=
  .next (
    let a := place.addr.toNat
    let n := place.size.bytes
    if highHalf (a - a % 4) then s else sizedAccess req a n false (readEffect req a n) s)

/-- HIGH_HALF_READ: a read of the high half of a pair (R97, R100). -/
def execHighHalfRead (req : Requester) (place : ReadPlace) (s : State) : Out :=
  .next (
    let a := place.addr.toNat
    let n := place.size.bytes
    if highHalf (a - a % 4) then sizedAccess req a n false (readEffect req a n) s else s)

/-! ### Pairs (R102) -/

/-- PAIR_LOW_WRITE (R102). -/
def execPairLowWrite (req : Requester) (addr : BitVec 28) (data : Word) (s : State) : Out :=
  .next (if rwLow addr.toNat then writeAccess req addr.toNat 4 data.toNat s else s)

/-- PAIR_HIGH_WRITE (R102). -/
def execPairHighWrite (req : Requester) (addr : BitVec 28) (data : Word) (s : State) : Out :=
  .next (if 4 ≤ addr.toNat && rwLow (addr.toNat - 4) then writeAccess req addr.toNat 4 data.toNat s else s)

/-! ### FREEZE and W1C -/

/-- FREEZE: a write of CTRL.FREEZE (R91). -/
def execFreeze (req : Requester) (p : Page) (on : Bool) (s : State) : Out := .next (hostWrite req (Reg.CTRL p) (setFreeze p on) s)

/-- Whether an address holds a W1C word. -/
def isW1c (a : Nat) : Bool :=
  match regAt a with
  | some d => d.acc == .w1c
  | none => false

/-- W1C_WRITE (R92, R93). -/
def execW1cWrite (req : Requester) (addr : BitVec 28) (data : Word) (s : State) : Out :=
  .next (if isW1c addr.toNat then writeAccess req addr.toNat 4 data.toNat s else s)

end Sys2Proof.Machine
end

