-- ==== Sys2Proof/Machine/Dispatch.lean ====
section
/-! DEFINITION. The meaning of each command: one arm per constructor. -/

namespace Sys2Proof.Machine

open Sys2Proof

def exec (i : Instr) (s : State) : Host.Outcome State Fault Refusal :=
  match i with
  | .registerWrite req addr size data => Sys2Proof.Machine.execRegisterWrite req addr size data s
  | .decodeError req addr size write => Sys2Proof.Machine.execDecodeError req addr size write s
  | .sparsePathError master target addr => Sys2Proof.Machine.execSparsePathError master target addr s
  | .bar2Access req off size write => Sys2Proof.Machine.execBar2Access req off size write s
  | .lowHalfRead req place => Sys2Proof.Machine.execLowHalfRead req place s
  | .highHalfRead req place => Sys2Proof.Machine.execHighHalfRead req place s
  | .pairLowWrite req addr data => Sys2Proof.Machine.execPairLowWrite req addr data s
  | .pairHighWrite req addr data => Sys2Proof.Machine.execPairHighWrite req addr data s
  | .enableOn req p => Sys2Proof.Machine.execEnableOn req p s
  | .enableOff req p => Sys2Proof.Machine.execEnableOff req p s
  | .blockStartComplete p => Sys2Proof.Machine.execBlockStartComplete p s
  | .blockShutdownComplete p => Sys2Proof.Machine.execBlockShutdownComplete p s
  | .softReset req p => Sys2Proof.Machine.execSoftReset req p s
  | .blockResetComplete p => Sys2Proof.Machine.execBlockResetComplete p s
  | .freeze req p on => Sys2Proof.Machine.execFreeze req p on s
  | .w1cWrite req addr data => Sys2Proof.Machine.execW1cWrite req addr data s
  | .commit req p => Sys2Proof.Machine.execCommit req p s
  | .commitAtEpoch req p => Sys2Proof.Machine.execCommitAtEpoch req p s
  | .discard req p => Sys2Proof.Machine.execDiscard req p s
  | .slotCommitTakesEffect cell => Sys2Proof.Machine.execSlotCommitTakesEffect cell s
  | .pageLockWrite req p data => Sys2Proof.Machine.execPageLockWrite req p data s
  | .cellPowerEstimateRefresh watts deviceMw => Sys2Proof.Machine.execCellPowerEstimateRefresh watts deviceMw s
  | .powerOn pos => Sys2Proof.Machine.execPowerOn pos s
  | .pwrgoodFall => Sys2Proof.Machine.execPwrgoodFall s
  | .resetNLow => Sys2Proof.Machine.execResetNLow s
  | .resetNHigh pos => Sys2Proof.Machine.execResetNHigh pos s
  | .clearNFall => Sys2Proof.Machine.execClearNFall s
  | .clearNRise => Sys2Proof.Machine.execClearNRise s
  | .pciePerstLow => Sys2Proof.Machine.execPciePerstLow s
  | .pciePerstHigh => Sys2Proof.Machine.execPciePerstHigh s
  | .pcieLinkDown => Sys2Proof.Machine.execPcieLinkDown s
  | .clkrefLoss => Sys2Proof.Machine.execClkrefLoss s
  | .xrefLoss => Sys2Proof.Machine.execXrefLoss s
  | .referencePresent xref => Sys2Proof.Machine.execReferencePresent xref s
  | .holdoverExpired => Sys2Proof.Machine.execHoldoverExpired s
  | .sysPllUnlock => Sys2Proof.Machine.execSysPllUnlock s
  | .railOutOfWindow level => Sys2Proof.Machine.execRailOutOfWindow level s
  | .railBackInWindow level => Sys2Proof.Machine.execRailBackInWindow level s
  | .p0Release clkref xref => Sys2Proof.Machine.execP0Release clkref xref s
  | .wellheadReady selfTest => Sys2Proof.Machine.execWellheadReady selfTest s
  | .firmwareLoaded slot0 slot1 => Sys2Proof.Machine.execFirmwareLoaded slot0 slot1 s
  | .pllsLocked => Sys2Proof.Machine.execPllsLocked s
  | .dramTrainingComplete channel trained bytes => Sys2Proof.Machine.execDramTrainingComplete channel trained bytes s
  | .sysPllLockTimeout => Sys2Proof.Machine.execSysPllLockTimeout s
  | .bandgapSettleTimeout => Sys2Proof.Machine.execBandgapSettleTimeout s
  | .stageTimeout => Sys2Proof.Machine.execStageTimeout s
  | .calDoneWrite req => Sys2Proof.Machine.execCalDoneWrite req s
  | .calWaitTimeout => Sys2Proof.Machine.execCalWaitTimeout s
  | .p5Complete failed => Sys2Proof.Machine.execP5Complete failed s
  | .p6Complete => Sys2Proof.Machine.execP6Complete s
  | .warmReset req => Sys2Proof.Machine.execWarmReset req s
  | .warmResetTakesEffect => Sys2Proof.Machine.execWarmResetTakesEffect s
  | .clockReset req => Sys2Proof.Machine.execClockReset req s
  | .epochSubmit req => Sys2Proof.Machine.execEpochSubmit req s
  | .epochChecksComplete => Sys2Proof.Machine.execEpochChecksComplete s
  | .epochQueueFlush req => Sys2Proof.Machine.execEpochQueueFlush req s
  | .routeJobComplete => Sys2Proof.Machine.execRouteJobComplete s
  | .prepare req preset => Sys2Proof.Machine.execPrepare req preset s
  | .invalidate req preset => Sys2Proof.Machine.execInvalidate req preset s
  | .presetPreparationComplete => Sys2Proof.Machine.execPresetPreparationComplete s
  | .routeMapWrite req addr data => Sys2Proof.Machine.execRouteMapWrite req addr data s
  | .routePortMark req port => Sys2Proof.Machine.execRoutePortMark req port s
  | .noticeSend => Sys2Proof.Machine.execNoticeSend s
  | .epochStaging => Sys2Proof.Machine.execEpochStaging s
  | .prepareSend => Sys2Proof.Machine.execPrepareSend s
  | .commitDeadline => Sys2Proof.Machine.execCommitDeadline s
  | .epochCommitDeadline => Sys2Proof.Machine.execEpochCommitDeadline s
  | .epochInstant => Sys2Proof.Machine.execEpochInstant s
  | .transitionStart col => Sys2Proof.Machine.execTransitionStart col s
  | .epochReportSend => Sys2Proof.Machine.execEpochReportSend s
  | .start req => Sys2Proof.Machine.execStart req s
  | .stop req => Sys2Proof.Machine.execStop req s
  | .stopAtCycleEnd req => Sys2Proof.Machine.execStopAtCycleEnd req s
  | .switchBank req => Sys2Proof.Machine.execSwitchBank req s
  | .schedSlotGenerate => Sys2Proof.Machine.execSchedSlotGenerate s
  | .schedBankSwitched => Sys2Proof.Machine.execSchedBankSwitched s
  | .wakeComplete slot => Sys2Proof.Machine.execWakeComplete slot s
  | .readyTimeout slot => Sys2Proof.Machine.execReadyTimeout slot s
  | .segmentEnd slot => Sys2Proof.Machine.execSegmentEnd slot s
  | .lingerExpiry slot => Sys2Proof.Machine.execLingerExpiry slot s
  | .exitRampEnd slot => Sys2Proof.Machine.execExitRampEnd slot s
  | .eoChJump req slot target dflt => Sys2Proof.Machine.execEoChJump req slot target dflt s
  | .eoJump col => Sys2Proof.Machine.execEoJump col s
  | .segmentValidate req seg data => Sys2Proof.Machine.execSegmentValidate req seg data s
  | .shapeLibraryWrite req addr size data => Sys2Proof.Machine.execShapeLibraryWrite req addr size data s
  | .shapeDirInvalidate req seg => Sys2Proof.Machine.execShapeDirInvalidate req seg s
  | .skewCal start => Sys2Proof.Machine.execSkewCal start s
  | .skewCalComplete loopDelay theta1 theta2 othersAgree => Sys2Proof.Machine.execSkewCalComplete loopDelay theta1 theta2 othersAgree s
  | .syncEmit millisecond => Sys2Proof.Machine.execSyncEmit millisecond s
  | .syncArrival departure => Sys2Proof.Machine.execSyncArrival departure s
  | .noSync => Sys2Proof.Machine.execNoSync s
  | .eoCalStart req col tier darkOk maxIsCross => Sys2Proof.Machine.execEoCalStart req col tier darkOk maxIsCross s
  | .eoCalComplete col run1 run2 => Sys2Proof.Machine.execEoCalComplete col run1 run2 s
  | .eoColCountClr req col => Sys2Proof.Machine.execEoColCountClr req col s
  | .go req stream => Sys2Proof.Machine.execGo req stream s
  | .abort req stream => Sys2Proof.Machine.execAbort req stream s
  | .release req stream => Sys2Proof.Machine.execRelease req stream s
  | .siphonStreamStart stream fill => Sys2Proof.Machine.execSiphonStreamStart stream fill s
  | .siphonStart fills => Sys2Proof.Machine.execSiphonStart fills s
  | .siphonUnderrun stream position reps => Sys2Proof.Machine.execSiphonUnderrun stream position reps s
  | .siphonEnd stream => Sys2Proof.Machine.execSiphonEnd stream s
  | .pwmFrameStart col output => Sys2Proof.Machine.execPwmFrameStart col output s
  | .budgetEvaluation => Sys2Proof.Machine.execBudgetEvaluation s
  | .htrHostWrite req slot code => Sys2Proof.Machine.execHtrHostWrite req slot code s
  | .readbackVisit col output sample => Sys2Proof.Machine.execReadbackVisit col output sample s
  | .overcurrent col output => Sys2Proof.Machine.execOvercurrent col output s
  | .bankOt col bank => Sys2Proof.Machine.execBankOt col bank s
  | .htrFaultClr req col data hot => Sys2Proof.Machine.execHtrFaultClr req col data hot s
  | .htrCountClr req col => Sys2Proof.Machine.execHtrCountClr req col s
  | .htrCalStart req col => Sys2Proof.Machine.execHtrCalStart req col s
  | .htrCalDone col runs => Sys2Proof.Machine.execHtrCalDone col runs s
  | .loopUpdate pump cell taps => Sys2Proof.Machine.execLoopUpdate pump cell taps s
  | .tableBankLoaded pump cell => Sys2Proof.Machine.execTableBankLoaded pump cell s
  | .loopCommit req pump => Sys2Proof.Machine.execLoopCommit req pump s
  | .loopCommitAtEpoch req pump => Sys2Proof.Machine.execLoopCommitAtEpoch req pump s
  | .disarm req pump => Sys2Proof.Machine.execDisarm req pump s
  | .injGo req cell => Sys2Proof.Machine.execInjGo req cell s
  | .injStop req cell => Sys2Proof.Machine.execInjStop req cell s
  | .cellClr req cell data => Sys2Proof.Machine.execCellClr req cell data s
  | .claimUpdate pump cell claim => Sys2Proof.Machine.execClaimUpdate pump cell claim s
  | .missingUpdate pump cell => Sys2Proof.Machine.execMissingUpdate pump cell s
  | .pumpEccError pump => Sys2Proof.Machine.execPumpEccError pump s
  | .backgroundSelfTest pump pass => Sys2Proof.Machine.execBackgroundSelfTest pump pass s
  | .quickSelfTestComplete pair evenPass oddPass => Sys2Proof.Machine.execQuickSelfTestComplete pair evenPass oddPass s
  | .pumpLoadComplete pump => Sys2Proof.Machine.execPumpLoadComplete pump s
  | .pumpSelfTestComplete pump pass => Sys2Proof.Machine.execPumpSelfTestComplete pump pass s
  | .fwUpdate req pump => Sys2Proof.Machine.execFwUpdate req pump s
  | .selfTest req pump => Sys2Proof.Machine.execSelfTest req pump s
  | .takebackNow req pump => Sys2Proof.Machine.execTakebackNow req pump s
  | .healthClr req pump => Sys2Proof.Machine.execHealthClr req pump s
  | .claimCountClr req col => Sys2Proof.Machine.execClaimCountClr req col s
  | .autoRangeUp well input => Sys2Proof.Machine.execAutoRangeUp well input s
  | .autoRangeDown well input => Sys2Proof.Machine.execAutoRangeDown well input s
  | .monitorImplausible run => Sys2Proof.Machine.execMonitorImplausible run s
  | .monitorPlausible run => Sys2Proof.Machine.execMonitorPlausible run s
  | .pmReadPublish primary samples => Sys2Proof.Machine.execPmReadPublish primary samples s
  | .stuck well => Sys2Proof.Machine.execStuck well s
  | .pinStart well => Sys2Proof.Machine.execPinStart well s
  | .pinEnd well => Sys2Proof.Machine.execPinEnd well s
  | .bind req pair tier mode => Sys2Proof.Machine.execBind req pair tier mode s
  | .ilvRelease req pair => Sys2Proof.Machine.execIlvRelease req pair s
  | .ilvBindingStart pair => Sys2Proof.Machine.execIlvBindingStart pair s
  | .ilvStart pair => Sys2Proof.Machine.execIlvStart pair s
  | .ilvBindingEnd pair => Sys2Proof.Machine.execIlvBindingEnd pair s
  | .housekeepingConversion hw input code tenthOhms millivolts => Sys2Proof.Machine.execHousekeepingConversion hw input code tenthOhms millivolts s
  | .refSelWrite req well data => Sys2Proof.Machine.execRefSelWrite req well data s
  | .refSettleTimer well => Sys2Proof.Machine.execRefSettleTimer well s
  | .calStartInternal req well channels ranges => Sys2Proof.Machine.execCalStartInternal req well channels ranges s
  | .calStartExternal req well channels => Sys2Proof.Machine.execCalStartExternal req well channels s
  | .extPhaseZero req well => Sys2Proof.Machine.execExtPhaseZero req well s
  | .extPhaseFull req well => Sys2Proof.Machine.execExtPhaseFull req well s
  | .zeroHeld well => Sys2Proof.Machine.execZeroHeld well s
  | .extCalTimeout well => Sys2Proof.Machine.execExtCalTimeout well s
  | .calAbort req well => Sys2Proof.Machine.execCalAbort req well s
  | .wellCalComplete well runs => Sys2Proof.Machine.execWellCalComplete well runs s
  | .wellCountClr req well => Sys2Proof.Machine.execWellCountClr req well s
  | .pwPlausClr req primary => Sys2Proof.Machine.execPwPlausClr req primary s
  | .inputPowerExchange => Sys2Proof.Machine.execInputPowerExchange s
  | .verdictOffsetDue tap index offset sample => Sys2Proof.Machine.execVerdictOffsetDue tap index offset sample s
  | .verdictAbandon => Sys2Proof.Machine.execVerdictAbandon s
  | .pilotBitBoundary => Sys2Proof.Machine.execPilotBitBoundary s
  | .pilotFrameStart => Sys2Proof.Machine.execPilotFrameStart s
  | .pilotDecodeComplete primary input => Sys2Proof.Machine.execPilotDecodeComplete primary input s
  | .vrdCountClr req => Sys2Proof.Machine.execVrdCountClr req s
  | .arm req stream => Sys2Proof.Machine.execArm req stream s
  | .captStop req stream rest => Sys2Proof.Machine.execCaptStop req stream rest s
  | .stopAfter req stream rest => Sys2Proof.Machine.execStopAfter req stream rest s
  | .trigger req stream => Sys2Proof.Machine.execTrigger req stream s
  | .captTrig stream => Sys2Proof.Machine.execCaptTrig stream s
  | .trigIn pin rising stamp => Sys2Proof.Machine.execTrigIn pin rising stamp s
  | .trigOut pin => Sys2Proof.Machine.execTrigOut pin s
  | .trigPulseEnd pin => Sys2Proof.Machine.execTrigPulseEnd pin s
  | .captUnitWritten stream items => Sys2Proof.Machine.execCaptUnitWritten stream items s
  | .recordHeaderWrite stream rest => Sys2Proof.Machine.execRecordHeaderWrite stream rest s
  | .writeError stream => Sys2Proof.Machine.execWriteError stream s
  | .hello lane hello => Sys2Proof.Machine.execHello lane hello s
  | .heartbeatSend => Sys2Proof.Machine.execHeartbeatSend s
  | .heartbeat source beat => Sys2Proof.Machine.execHeartbeat source beat s
  | .leave source => Sys2Proof.Machine.execLeave source s
  | .lead source term claim => Sys2Proof.Machine.execLead source term claim s
  | .prepareReceived source prepare => Sys2Proof.Machine.execPrepareReceived source prepare s
  | .vote source num nack => Sys2Proof.Machine.execVote source num nack s
  | .commitReceived num => Sys2Proof.Machine.execCommitReceived num s
  | .abortReceived num position code => Sys2Proof.Machine.execAbortReceived num position code s
  | .committed source num => Sys2Proof.Machine.execCommitted source num s
  | .adopt presets => Sys2Proof.Machine.execAdopt presets s
  | .presetData data => Sys2Proof.Machine.execPresetData data s
  | .payload serial perm cells => Sys2Proof.Machine.execPayload serial perm cells s
  | .roleReport source slots => Sys2Proof.Machine.execRoleReport source slots s
  | .mark port => Sys2Proof.Machine.execMark port s
  | .summary num judged failing => Sys2Proof.Machine.execSummary num judged failing s
  | .skewCalMessage source loopDelay => Sys2Proof.Machine.execSkewCalMessage source loopDelay s
  | .presetInvalidate preset => Sys2Proof.Machine.execPresetInvalidate preset s
  | .handoverState source handed => Sys2Proof.Machine.execHandoverState source handed s
  | .inputPower source readings => Sys2Proof.Machine.execInputPower source readings s
  | .healthSend => Sys2Proof.Machine.execHealthSend s
  | .health source words => Sys2Proof.Machine.execHealth source words s
  | .timeProbeSend => Sys2Proof.Machine.execTimeProbeSend s
  | .timeProbe lane t1 t2 t3 t4 => Sys2Proof.Machine.execTimeProbe lane t1 t2 t3 t4 s
  | .offsetMeasurementTimeout => Sys2Proof.Machine.execOffsetMeasurementTimeout s
  | .slewSaturated => Sys2Proof.Machine.execSlewSaturated s
  | .linkControlBlock lane ack nack crcErrors discarded => Sys2Proof.Machine.execLinkControlBlock lane ack nack crcErrors discarded s
  | .replayTimeout lane => Sys2Proof.Machine.execReplayTimeout lane s
  | .laneFailed lane crcErrors => Sys2Proof.Machine.execLaneFailed lane crcErrors s
  | .laneRetrain lane => Sys2Proof.Machine.execLaneRetrain lane s
  | .laneReturnToService lane => Sys2Proof.Machine.execLaneReturnToService lane s
  | .memberSilent position => Sys2Proof.Machine.execMemberSilent position s
  | .leaderIsolated => Sys2Proof.Machine.execLeaderIsolated s
  | .joinRetry => Sys2Proof.Machine.execJoinRetry s
  | .join req => Sys2Proof.Machine.execJoin req s
  | .ringLeave req => Sys2Proof.Machine.execRingLeave req s
  | .handover req target => Sys2Proof.Machine.execHandover req target s
  | .takebackHandoverTimer => Sys2Proof.Machine.execTakebackHandoverTimer s
  | .ringCountClr req => Sys2Proof.Machine.execRingCountClr req s
  | .step req => Sys2Proof.Machine.execStep req s
  | .stepApply => Sys2Proof.Machine.execStepApply s
  | .snap req => Sys2Proof.Machine.execSnap req s
  | .slew req => Sys2Proof.Machine.execSlew req s
  | .slewAbort req => Sys2Proof.Machine.execSlewAbort req s
  | .slewEnd => Sys2Proof.Machine.execSlewEnd s
  | .timeIncrWrite req low high => Sys2Proof.Machine.execTimeIncrWrite req low high s
  | .ppsPulse => Sys2Proof.Machine.execPpsPulse s
  | .ppsPulseEnd => Sys2Proof.Machine.execPpsPulseEnd s
  | .macModeWrite req port data => Sys2Proof.Machine.execMacModeWrite req port data s
  | .linkStateChange port blockLock fecAligned localFault remoteFault => Sys2Proof.Machine.execLinkStateChange port blockLock fecAligned localFault remoteFault s
  | .frameReceived port frame => Sys2Proof.Machine.execFrameReceived port frame s
  | .rxDelivery port cls addr size ecc => Sys2Proof.Machine.execRxDelivery port cls addr size ecc s
  | .txDescriptorFetch port cls desc => Sys2Proof.Machine.execTxDescriptorFetch port cls desc s
  | .frameTransmitComplete port departure ecc => Sys2Proof.Machine.execFrameTransmitComplete port departure ecc s
  | .gateEntryBoundary port => Sys2Proof.Machine.execGateEntryBoundary port s
  | .configChange req port => Sys2Proof.Machine.execConfigChange req port s
  | .cancel req port => Sys2Proof.Machine.execCancel req port s
  | .gateListTakesEffect port => Sys2Proof.Machine.execGateListTakesEffect port s
  | .cisFlush req queue => Sys2Proof.Machine.execCisFlush req queue s
  | .cisFlushComplete queue => Sys2Proof.Machine.execCisFlushComplete queue s
  | .macCountClr req port => Sys2Proof.Machine.execMacCountClr req port s
  | .policeCountClr req port => Sys2Proof.Machine.execPoliceCountClr req port s
  | .cisCountClr req => Sys2Proof.Machine.execCisCountClr req s
  | .evtFire req channel => Sys2Proof.Machine.execEvtFire req channel s
  | .evtCountClr req => Sys2Proof.Machine.execEvtCountClr req s
  | .evtTaskClr req => Sys2Proof.Machine.execEvtTaskClr req s
  | .faultRaise cause => Sys2Proof.Machine.execFaultRaise s cause
  | .reactionComplete => Sys2Proof.Machine.execReactionComplete s
  | .guardWindowEnd => Sys2Proof.Machine.execGuardWindowEnd s
  | .ack req source all => Sys2Proof.Machine.execAck req source all s
  | .clear req source all ack => Sys2Proof.Machine.execClear req source all ack s
  | .fltFirstClr req => Sys2Proof.Machine.execFltFirstClr req s
  | .heatEvaluation sensor temp => Sys2Proof.Machine.execHeatEvaluation sensor temp s
  | .thermalRestart => Sys2Proof.Machine.execThermalRestart s
  | .xbarTimeout master target addr => Sys2Proof.Machine.execXbarTimeout master target addr s
  | .pcieCplTimeout master addr => Sys2Proof.Machine.execPcieCplTimeout master addr s
  | .xbarCountClr req => Sys2Proof.Machine.execXbarCountClr req s
  | .flashErase req => Sys2Proof.Machine.execFlashErase req s
  | .flashProgram req => Sys2Proof.Machine.execFlashProgram req s
  | .flashRead req => Sys2Proof.Machine.execFlashRead req s
  | .stage req => Sys2Proof.Machine.execStage req s
  | .svnCommit req => Sys2Proof.Machine.execSvnCommit req s
  | .enroll req => Sys2Proof.Machine.execEnroll req s
  | .attest req => Sys2Proof.Machine.execAttest req s
  | .nonce req => Sys2Proof.Machine.execNonce req s
  | .debugUnlock req => Sys2Proof.Machine.execDebugUnlock req s
  | .debugLock req => Sys2Proof.Machine.execDebugLock req s
  | .calSave req => Sys2Proof.Machine.execCalSave req s
  | .whCommandComplete outcome => Sys2Proof.Machine.execWhCommandComplete outcome s
  | .otpBurnComplete verified => Sys2Proof.Machine.execOtpBurnComplete verified s
  | .testSessionStart ieee1500 => Sys2Proof.Machine.execTestSessionStart ieee1500 s
  | .testSessionEnd => Sys2Proof.Machine.execTestSessionEnd s
  | .censusSnap req => Sys2Proof.Machine.execCensusSnap req s
  | .snapAtEpoch req => Sys2Proof.Machine.execSnapAtEpoch req s
  | .censusAbort req => Sys2Proof.Machine.execCensusAbort req s
  | .censusCopyComplete => Sys2Proof.Machine.execCensusCopyComplete s
  | .p4Complete failed => Sys2Proof.Machine.execP4Complete failed s
  | .pcieLinkUp => Sys2Proof.Machine.execPcieLinkUp s
  | .laneBlockLock lane => Sys2Proof.Machine.execLaneBlockLock lane s
  | .helloSend => Sys2Proof.Machine.execHelloSend s
  | .stagingDeadline => Sys2Proof.Machine.execStagingDeadline s
  | .peakBucketFilled port cls => Sys2Proof.Machine.execPeakBucketFilled port cls s

end Sys2Proof.Machine
end

