-- ==== Sys2Proof/WellFormed.lean ====
section
/-! DEFINITION. Which commands name only what the part has: pages, units and measured values within the device's ranges (R2, R84, R85,
R113). What a well-formed command finds in the state is no part of this check. -/

namespace Sys2Proof

/-- Whether a pump runs a cell as its primary or its secondary (R260, R305). -/
def servesCell (v : Variant) (pump cell : Nat) : Bool :=
  cell < v.cells && pump < v.pumps && (pump == cell / 5 || pump == cell / 5 + 1 - 2 * (cell / 5 % 2))

/-- A run of a level calibration measures 342 points of the sweep, and 65 about each extreme (R232). -/
def SweepRun.complete (r : SweepRun) : Bool := r.sweep.length == 342 && r.nearMax.length == 65 && r.nearMin.length == 65

/-- Whether a command is well formed on a variant. -/
def Instr.wellFormed (v : Variant) : Instr → Bool
  | .enableOn _ p | .enableOff _ p | .blockStartComplete p | .blockShutdownComplete p | .softReset _ p |
    .blockResetComplete p | .freeze _ p _ | .commit _ p | .commitAtEpoch _ p | .discard _ p | .pageLockWrite _ p _ => p.present v
  | .eoJump col | .eoCalStart _ col _ _ _ | .eoColCountClr _ col | .transitionStart col |
    .pwmFrameStart col _ | .readbackVisit col _ _ | .overcurrent col _ | .bankOt col _ | .htrFaultClr _ col _ _ |
    .htrCountClr _ col | .htrCalStart _ col | .claimCountClr _ col => col.val < v.columns
  | .wakeComplete slot | .readyTimeout slot | .segmentEnd slot | .lingerExpiry slot | .exitRampEnd slot | .eoChJump _
    slot _ _ | .htrHostWrite _ slot _ => slot.val < v.slots
  | .stuck well | .refSettleTimer well => (wellPage well.val).present v
  | .autoRangeUp well _ | .autoRangeDown well _ | .pinStart well | .pinEnd well | .refSelWrite _ well _
    | .calStartInternal _ well _ _ | .calStartExternal _ well _ | .extPhaseZero _ well |
    .extPhaseFull _ well | .zeroHeld well | .extCalTimeout well | .calAbort _ well | .wellCountClr _ well => (wellPage well.val).present v
  | .eoCalComplete col run1 run2 => col.val < v.columns && run1.complete && run2.complete
  | .skewCal ⟨_, m⟩ | .skewCalComplete m _ _ _ | .skewCalMessage _ (.measure m) => m.rpts.length ≤ 4
  | .monitorImplausible ⟨monitor, _⟩ | .monitorPlausible ⟨monitor, _⟩ => monitor.val < v.monitors && v.hasPortWell (monitor.val / 8)
  | .pilotDecodeComplete primary _ => 8 * primary.val < v.monitors && v.hasPortWell primary.val
  | .bind _ pair _ _ | .ilvRelease _ pair | .ilvBindingStart pair | .ilvStart pair | .ilvBindingEnd pair => 2 * pair.val + 1 < v.tapWells
  | .sparsePathError master _ _ | .xbarTimeout master _ _ | .pcieCplTimeout master _ => master.val < 13 || v == .pe2560
  | .quickSelfTestComplete pair _ _ => 2 * pair.val + 1 < v.pumps
  | .pwPlausClr _ primary => v.hasPortWell primary.val
  | .tableBankLoaded pump cell | .claimUpdate pump cell _ | .missingUpdate pump cell => servesCell v pump.val cell.val
  | .loopCommit _ pump | .loopCommitAtEpoch _ pump | .disarm _ pump | .pumpEccError pump | .backgroundSelfTest pump _
    | .pumpLoadComplete pump | .pumpSelfTestComplete pump _ | .fwUpdate _ pump | .selfTest _ pump | .takebackNow _
    pump | .healthClr _ pump => pump.val < v.pumps
  | .slotCommitTakesEffect cell | .injGo _ cell | .injStop _ cell | .cellClr _ cell _ => cell.val < v.cells
  | .loopUpdate pump cell taps => servesCell v pump.val cell.val && taps.length == 4
  | .htrCalDone col runs => col.val < v.columns && runs.all fun r => r.output < 512
  | .pmReadPublish primary samples => v.hasPortWell primary.val && samples.length == 8
  | .wellCalComplete well runs =>
    (wellPage well.val).present v && runs.all fun r => r.channel < 16 && r.range < 4 && [r.zero1, r.full1, r.zero2, r.full2].all (fun x => x ≤ 256 * 4095)
  | .siphonStreamStart _ fill => fill ≤ 64
  | .siphonStart fills => fills.all fun f => f.stream < 32 && f.fill ≤ 64
  | .captStop _ _ rest | .stopAfter _ _ rest | .recordHeaderWrite _ rest => rest.length < 64 && rest.all fun x => x.range < 4
  | .captUnitWritten _ items => 0 < items.length && items.length ≤ 64 && items.all fun x => x.range < 4
  | .payload _ perm cells => perm.length ≤ 1024 && perm.all (· < 1024) && cells.all fun c => c.slot < v.slots
  | .presetData d => d.tables.length == 0x1000 && d.cells.all fun c => c.slot < v.slots
  | .prepareReceived _ x => x.config.length == 16 && x.payload.length == 16
  | .health _ words => words.length ≤ 139
  | .cellPowerEstimateRefresh watts _ => watts.length == v.cells
  | .p5Complete failed => failed.all fun k => k.val < v.pumps
  | .p4Complete failed => failed.all fun w => (wellPage w.val).present v
  | .frameReceived _ f => f.bytes.length ≤ 16383
  | .dramTrainingComplete _ trained bytes => trained || bytes == 0
  | _ => true

end Sys2Proof
end

