-- ==== Sys2Proof/Safety.lean ====
section
/-! DEFINITION. What counts as a sound state, in the terms of the claims: sparse stores in their one canonical form, and waiting
commands that name only what the part has. -/

namespace Sys2Proof.Machine

open Sys2Proof

/-- The byte windows of BAR0 in canonical form: addresses rise strictly, and no listed byte equals what an unlisted one reads as. -/
def Memory.wf (m : List Host.Cell) : Bool := SMap.wf memDefault m

/-- Device DRAM in canonical form: addresses rise strictly; a byte that has been written stays listed. -/
def Dram.wf (m : List Host.Cell) : Bool := SMap.rising 0 m

/-- The register file in canonical form: addresses rise strictly, and no listed word equals its reset value. -/
def Registers.wf (m : SMap Word) : Bool := SMap.wf resetWord m

/-- Every store of a state is in its canonical form, so that equal contents are equal data. -/
abbrev Canonical (s : State) : Prop := Registers.wf s.regs = true ∧ Memory.wf s.mem = true ∧ Dram.wf s.dram = true

/-- Every waiting command names only what the part has. -/
abbrev QueueFits (s : State) : Prop := s.pending.all (Instr.wellFormed s.variant) = true

/-! ### Who reaches what -/

/-- A requester's access to an address of BAR0 gets to what stands there: it arrives (R123), is not barred (R585, R615), something is
there on this part (R112, R113), and the matrix in force has a path (R577). -/
abbrev Reaches (req : Requester) (a : Nat) (write : Bool) (s : State) : Prop :=
  arrives s req = true ∧ barred s req (decodeAddr s.variant a) write = false ∧ decodeAddr s.variant a ≠ .hole ∧
    hasPath s req.toNat (matrixTarget (decodeAddr s.variant a)) = true

/-- A write gets to what stands at an address, and no lock stops it there (R110). -/
abbrev WriteReaches (req : Requester) (a : Nat) (s : State) : Prop :=
  Reaches req a true s ∧ lockStops s req (decodeAddr s.variant a) = false

/-- The requester and the register of a command that is a write of one command register of BAR0. Writes at a free address
(REGISTER_WRITE, SHAPE_LIBRARY_WRITE, the pair and W1C rows), PAGE_LOCK and everything that is no write have none. -/
def commandRegister : Instr → Option (Requester × Nat)
  | .enableOn req p => some (req, Reg.CTRL p)
  | .enableOff req p => some (req, Reg.CTRL p)
  | .softReset req p => some (req, Reg.CTRL p)
  | .freeze req p _ => some (req, Reg.CTRL p)
  | .commit req p => some (req, Reg.SHADOW_CTRL p)
  | .commitAtEpoch req p => some (req, Reg.SHADOW_CTRL p)
  | .discard req p => some (req, Reg.SHADOW_CTRL p)
  | .calDoneWrite req => some (req, Reg.GLB_CAL_DONE)
  | .warmReset req => some (req, Reg.GLB_RESET_CTRL)
  | .clockReset req => some (req, Reg.CTRL clkPage)
  | .epochSubmit req => some (req, Reg.EPOCH_SUBMIT)
  | .epochQueueFlush req => some (req, Reg.EPOCH_QUEUE_FLUSH)
  | .prepare req _ => some (req, Reg.ROUTE_PRESET_CMD)
  | .invalidate req _ => some (req, Reg.ROUTE_PRESET_CMD)
  | .routeMapWrite req addr _ => some (req, addr.toNat)
  | .routePortMark req _ => some (req, Reg.ROUTE_PORT_MARK)
  | .start req => some (req, Reg.SCHED_CTRL)
  | .stop req => some (req, Reg.SCHED_CTRL)
  | .stopAtCycleEnd req => some (req, Reg.SCHED_CTRL)
  | .switchBank req => some (req, Reg.SCHED_CTRL)
  | .eoChJump req slot _ _ => some (req, Reg.EO_CH_JUMP (slot.val / 256) (slot.val % 256))
  | .segmentValidate req seg _ => some (req, Reg.SHAPE_DIR (4 * seg.toNat))
  | .shapeDirInvalidate req _ => some (req, Reg.SHAPE_DIR_CMD)
  | .skewCal start => some (start.req, Reg.SHAPE_ALIGN_CTRL)
  | .eoCalStart req col _ _ _ => some (req, Reg.EO_CAL_CMD col)
  | .eoColCountClr req col => some (req, Reg.EO_COL_COUNT_CLR col)
  | .go req stream => some (req, Reg.SIPH_CMD stream)
  | .abort req stream => some (req, Reg.SIPH_CMD stream)
  | .release req stream => some (req, Reg.SIPH_CMD stream)
  | .htrHostWrite req slot _ => some (req, Reg.HTR_HOST (slot.val / 256) (slot.val % 256))
  | .htrFaultClr req col _ _ => some (req, Reg.HTR_FAULT_CLR col)
  | .htrCountClr req col => some (req, Reg.HTR_COUNT_CLR col)
  | .htrCalStart req col => some (req, Reg.HTR_CAL_CMD col)
  | .loopCommit req pump => some (req, Reg.LOOP_TABLE_CMD pump)
  | .loopCommitAtEpoch req pump => some (req, Reg.LOOP_TABLE_CMD pump)
  | .disarm req pump => some (req, Reg.LOOP_TABLE_CMD pump)
  | .injGo req cell => some (req, Reg.INJ_CMD cell)
  | .injStop req cell => some (req, Reg.INJ_CMD cell)
  | .cellClr req cell _ => some (req, Reg.CELL_CLR cell)
  | .fwUpdate req pump => some (req, Reg.TWIN_CMD pump)
  | .selfTest req pump => some (req, Reg.TWIN_CMD pump)
  | .takebackNow req pump => some (req, Reg.TWIN_CMD pump)
  | .healthClr req pump => some (req, Reg.HEALTH_CLR pump)
  | .claimCountClr req col => some (req, Reg.CLAIM_COUNT_CLR col)
  | .bind req pair _ _ => some (req, Reg.ILV_CTRL (2 * pair))
  | .ilvRelease req pair => some (req, Reg.ILV_CTRL (2 * pair))
  | .refSelWrite req well _ => some (req, Reg.WELL_CFG well)
  | .calStartInternal req well _ _ => some (req, Reg.CAL_CMD well)
  | .calStartExternal req well _ => some (req, Reg.CAL_CMD well)
  | .extPhaseZero req well => some (req, Reg.CAL_CMD well)
  | .extPhaseFull req well => some (req, Reg.CAL_CMD well)
  | .calAbort req well => some (req, Reg.CAL_CMD well)
  | .wellCountClr req well => some (req, Reg.WELL_COUNT_CLR well)
  | .pwPlausClr req primary => some (req, Reg.PW_PLAUS_CLR (160 + primary.val))
  | .vrdCountClr req => some (req, Reg.VRD_COUNT_CLR)
  | .arm req _ => some (req, Reg.CAPT_CMD)
  | .captStop req _ _ => some (req, Reg.CAPT_CMD)
  | .stopAfter req _ _ => some (req, Reg.CAPT_CMD)
  | .trigger req _ => some (req, Reg.CAPT_CMD)
  | .join req => some (req, Reg.RING_CMD)
  | .ringLeave req => some (req, Reg.RING_CMD)
  | .handover req _ => some (req, Reg.RING_CMD)
  | .ringCountClr req => some (req, Reg.RING_COUNT_CLR)
  | .step req => some (req, Reg.TIME_CMD)
  | .snap req => some (req, Reg.TIME_CMD)
  | .slew req => some (req, Reg.TIME_CMD)
  | .slewAbort req => some (req, Reg.TIME_CMD)
  | .timeIncrWrite req _ _ => some (req, Reg.TIME_INCR_HI)
  | .macModeWrite req port _ => some (req, Reg.MAC_CFG port)
  | .configChange req port => some (req, Reg.GATE_CMD port)
  | .cancel req port => some (req, Reg.GATE_CMD port)
  | .cisFlush req _ => some (req, Reg.CIS_FLUSH)
  | .macCountClr req port => some (req, Reg.MAC_COUNT_CLR port)
  | .policeCountClr req port => some (req, Reg.POLICE_COUNT_CLR port)
  | .cisCountClr req => some (req, Reg.CIS_COUNT_CLR)
  | .evtFire req _ => some (req, Reg.EVT_FIRE)
  | .evtCountClr req => some (req, Reg.EVT_COUNT_CLR)
  | .evtTaskClr req => some (req, Reg.EVT_TASK_CLR)
  | .ack req _ _ => some (req, Reg.FLT_ACK)
  | .clear req _ _ _ => some (req, Reg.FLT_ACK)
  | .fltFirstClr req => some (req, Reg.FLT_FIRST_CLR)
  | .xbarCountClr req => some (req, Reg.XBAR_COUNT_CLR)
  | .flashErase req => some (req, Reg.WH_CMD)
  | .flashProgram req => some (req, Reg.WH_CMD)
  | .flashRead req => some (req, Reg.WH_CMD)
  | .stage req => some (req, Reg.WH_CMD)
  | .svnCommit req => some (req, Reg.WH_CMD)
  | .enroll req => some (req, Reg.WH_CMD)
  | .attest req => some (req, Reg.WH_CMD)
  | .nonce req => some (req, Reg.WH_CMD)
  | .debugUnlock req => some (req, Reg.WH_CMD)
  | .debugLock req => some (req, Reg.WH_CMD)
  | .calSave req => some (req, Reg.WH_CMD)
  | .censusSnap req => some (req, Reg.CEN_CMD)
  | .snapAtEpoch req => some (req, Reg.CEN_CMD)
  | .censusAbort req => some (req, Reg.CEN_CMD)
  | .registerWrite _ _ _ _ | .decodeError _ _ _ _ | .sparsePathError _ _ _ | .bar2Access _ _ _ _ | .lowHalfRead _ _
  | .highHalfRead _ _ | .pairLowWrite _ _ _ | .pairHighWrite _ _ _ | .blockStartComplete _ | .blockShutdownComplete _
  | .blockResetComplete _ | .w1cWrite _ _ _ | .slotCommitTakesEffect _ | .pageLockWrite _ _ _ | .cellPowerEstimateRefresh _ _
  | .powerOn _ | .pwrgoodFall | .resetNLow | .resetNHigh _ | .clearNFall | .clearNRise | .pciePerstLow | .pciePerstHigh
  | .pcieLinkDown | .clkrefLoss | .xrefLoss | .referencePresent _ | .holdoverExpired | .sysPllUnlock | .railOutOfWindow _
  | .railBackInWindow _ | .p0Release _ _ | .wellheadReady _ | .firmwareLoaded _ _ | .pllsLocked | .dramTrainingComplete _ _ _
  | .sysPllLockTimeout | .bandgapSettleTimeout | .stageTimeout | .calWaitTimeout | .p5Complete _ | .p6Complete
  | .warmResetTakesEffect | .epochChecksComplete | .routeJobComplete | .presetPreparationComplete | .noticeSend
  | .epochStaging | .prepareSend | .commitDeadline | .epochCommitDeadline | .epochInstant | .transitionStart _
  | .epochReportSend | .schedSlotGenerate | .schedBankSwitched | .wakeComplete _ | .readyTimeout _ | .segmentEnd _
  | .lingerExpiry _ | .exitRampEnd _ | .eoJump _ | .shapeLibraryWrite _ _ _ _ | .skewCalComplete _ _ _ _ | .syncEmit _
  | .syncArrival _ | .noSync | .eoCalComplete _ _ _ | .siphonStreamStart _ _ | .siphonStart _ | .siphonUnderrun _ _ _
  | .siphonEnd _ | .pwmFrameStart _ _ | .budgetEvaluation | .readbackVisit _ _ _ | .overcurrent _ _ | .bankOt _ _
  | .htrCalDone _ _ | .loopUpdate _ _ _ | .tableBankLoaded _ _ | .claimUpdate _ _ _ | .missingUpdate _ _ | .pumpEccError _
  | .backgroundSelfTest _ _ | .quickSelfTestComplete _ _ _ | .pumpLoadComplete _ | .pumpSelfTestComplete _ _
  | .autoRangeUp _ _ | .autoRangeDown _ _ | .monitorImplausible _ | .monitorPlausible _ | .pmReadPublish _ _ | .stuck _
  | .pinStart _ | .pinEnd _ | .ilvBindingStart _ | .ilvStart _ | .ilvBindingEnd _ | .housekeepingConversion _ _ _ _ _
  | .refSettleTimer _ | .zeroHeld _ | .extCalTimeout _ | .wellCalComplete _ _ | .inputPowerExchange
  | .verdictOffsetDue _ _ _ _ | .verdictAbandon | .pilotBitBoundary | .pilotFrameStart | .pilotDecodeComplete _ _
  | .captTrig _ | .trigIn _ _ _ | .trigOut _ | .trigPulseEnd _ | .captUnitWritten _ _ | .recordHeaderWrite _ _
  | .writeError _ | .hello _ _ | .heartbeatSend | .heartbeat _ _ | .leave _ | .lead _ _ _ | .prepareReceived _ _
  | .vote _ _ _ | .commitReceived _ | .abortReceived _ _ _ | .committed _ _ | .adopt _ | .presetData _ | .payload _ _ _
  | .roleReport _ _ | .mark _ | .summary _ _ _ | .skewCalMessage _ _ | .presetInvalidate _ | .handoverState _ _
  | .inputPower _ _ | .healthSend | .health _ _ | .timeProbeSend | .timeProbe _ _ _ _ _ | .offsetMeasurementTimeout
  | .slewSaturated | .linkControlBlock _ _ _ _ _ | .replayTimeout _ | .laneFailed _ _ | .laneRetrain _
  | .laneReturnToService _ | .memberSilent _ | .leaderIsolated | .joinRetry | .takebackHandoverTimer | .stepApply | .slewEnd
  | .ppsPulse | .ppsPulseEnd | .linkStateChange _ _ _ _ _ | .frameReceived _ _ | .rxDelivery _ _ _ _ _
  | .txDescriptorFetch _ _ _ | .frameTransmitComplete _ _ _ | .gateEntryBoundary _ | .gateListTakesEffect _
  | .cisFlushComplete _ | .faultRaise _ | .reactionComplete | .guardWindowEnd | .heatEvaluation _ _ | .thermalRestart
  | .xbarTimeout _ _ _ | .pcieCplTimeout _ _ | .whCommandComplete _ | .otpBurnComplete _ | .testSessionStart _
  | .testSessionEnd | .censusCopyComplete | .p4Complete _ | .pcieLinkUp | .laneBlockLock _ | .helloSend | .stagingDeadline
  | .peakBucketFilled _ _ => none

/-! ### Frames -/

/-- No byte of a window of BAR0 or of DRAM has changed. -/
def SameBytes (s t : State) : Prop := (∀ a, memByte t a = memByte s a) ∧ ∀ a, dramByte t a = dramByte s a

/-- No register has changed but those listed. -/
def SameRegsBut (l : List Nat) (s t : State) : Prop := ∀ a, a ∉ l → reg t a = reg s a

/-- Nothing has changed but registers, and of those only the ones listed. -/
def OnlyRegs (l : List Nat) (s t : State) : Prop := (∃ r, t = { s with regs := r }) ∧ SameRegsBut l s t

/-- Nothing has changed but registers, of those only the ones listed, and what has left the device. -/
def OnlyRegsOut (l : List Nat) (s t : State) : Prop := (∃ r o, t = { s with regs := r, out := o }) ∧ SameRegsBut l s t

/-- No register outside these pages has changed. -/
def SameRegsOff (pages : List Page) (s t : State) : Prop :=
  ∀ a, (∀ p ∈ pages, ¬(pageBase p ≤ a ∧ a < pageBase p + pageSize p)) → reg t a = reg s a

/-- No channel but one slot's has changed. -/
def OnlyChannel (slot : Nat) (s t : State) : Prop := ∀ n, n ≠ slot → channel t n = channel s n

/-! ### Epochs -/

/-- What the loss of pump `k` for a cause does (R311 to R313, R316, R318): LOADING, or FAILED_HELD at the third loss within 10 s, the cause
and the bits of both pages, and each cell it held permitted to its twin in service, or to be orphaned at its next boundary, where only a block
reset with HOLD_THROUGH 0 parks it. -/
def PumpLossFollows (k cause : Nat) (s t : State) : Prop :=
  pumpState t k = (if 2 ≤ (recentLosses s k).length then 6 else if enabled s (pumpPage k) then 1 else 0) ∧ getF t (Reg.TWIN_STATUS k) 16 4 = cause ∧
  (pump t k).losses = s.time.uptime :: recentLosses s k ∧
  getBit t (Reg.FAULT_STATUS (pumpPage k)) 1 = true ∧ getBit t (Reg.INT_STATUS (pumpPage k)) 8 = true ∧
  getBit t (Reg.INT_STATUS (pumpPage (twin k))) 10 = true ∧
  (2 ≤ (recentLosses s k).length → getBit t (Reg.FAULT_STATUS (pumpPage k)) 3 = true) ∧
  (∀ m ∈ pairCells k, m < s.variant.cells → holds s k m = true → (loopCell s m).permit ≠ sideOf k m →
    (inService s (twin k) = true → (loopCell t m).permit = sideOf (twin k) m) ∧
    (inService s (twin k) = false → (loopCell t m).orphanDue = some (cause == 6 && !holdThrough s (pumpPage k)) ∧ orphaned t m = false ∧
      ∀ n ∈ cellSlots m, (heater t n).code = (heater s n).code))

/-- A binding of interleave pair `j` comes into force (R333, R336 to R338): both wells are INTERLEAVED and convert
the bound input alone, no pin is in force, and the end is counted from now. -/
def BindingStarts (j : Nat) (b : Binding) (s t : State) : Prop :=
  (∃ x, bindingOf t j = some x ∧ x.bound = true ∧ x.tier = b.tier ∧ x.mode = b.mode ∧
    (getF s (Reg.ILV_LEN (2 * j)) 0 16 = 0 → x.ends = none) ∧
    (getF s (Reg.ILV_LEN (2 * j)) 0 16 ≠ 0 → x.ends = some (t.time.uptime + 1000 * getF s (Reg.ILV_LEN (2 * j)) 0 16))) ∧
  getF t (Reg.ILV_STATUS (2 * j)) 0 2 = 2 ∧ getF t (Reg.ILV_STATUS (2 * j)) 3 5 = b.tier % 32 ∧
  getBit t (Reg.INT_STATUS (wellPage (2 * j))) 2 = true ∧
  (∀ w, w = 2 * j ∨ w = 2 * j + 1 → pinOf t w = none ∧ getF t (Reg.WELL_STATUS w) 1 2 = 3 ∧
    ∃ p ∈ SMap.get (fun _ => []) t.wellSpans w, p.use = .bound b.tier ∧ p.until_ = none) ∧
  SameRegsOff [wellPage (2 * j), wellPage (2 * j + 1), evtPage] s t ∧ SameBytes s t

/-- A binding in force on interleave pair `j` ends (R336, R357). -/
def BindingEnds (j : Nat) (s t : State) : Prop :=
  bindingOf t j = none ∧ getF t (Reg.ILV_STATUS (2 * j)) 0 2 = 0 ∧
  getF t (Reg.ILV_STATUS (2 * j)) 16 16 = (getF s (Reg.ILV_STATUS (2 * j)) 16 16 + 1) % 2 ^ 16 ∧
  getBit t (Reg.INT_STATUS (wellPage (2 * j))) 3 = true ∧ (∀ k, k ≠ j → bindingOf t k = bindingOf s k) ∧
  SameRegsOff [wellPage (2 * j), wellPage (2 * j + 1), evtPage] s t ∧ SameBytes s t

/-- A calibration run of well `w` is over with every calibration value as it was (R348, R350, R351). -/
def CalRunEnds (w : Nat) (s t : State) : Prop :=
  calRun t w = none ∧ getBit t (Reg.CAL_STATUS w) 0 = false ∧ getBit t (Reg.INT_STATUS (wellPage w)) 1 = true ∧
  getF t (Reg.CAL_STATUS w) 8 2 = getF s (Reg.CAL_STATUS w) 8 2 ∧
  (∀ v k, v = w ∨ v = partnerWell w → k < 64 → reg t (Reg.CH_CAL v k) = reg s (Reg.CH_CAL v k)) ∧
  SameRegsOff [wellPage w, wellPage (partnerWell w), evtPage] s t ∧ SameBytes s t

/-- A lane of the ring is FAILED (R423): its frames, each replayed once more, stand on an up lane of its own hop where there is one, and the
fault and the interrupt are set. -/
def LaneFails (l : Nat) (s t : State) : Prop :=
  laneState t l = 3 ∧ (ringLane t l).probation = true ∧ (ringLane t l).sent = [] ∧
  getBit t (Reg.FAULT_STATUS ringPage) 4 = true ∧ getBit t (Reg.INT_STATUS ringPage) 5 = true ∧
  (∀ m ∈ hopLanes (if l < 2 then 0 else 1), m ≠ l → laneState s m = 2 →
    (ringLane t m).sent = (ringLane s m).sent ++ (ringLane s l).sent.map LaneFrame.again) ∧
  SameBytes s t

/-- The member at position `p` is lost to this one, which stands in state `u` (R434, R449, R450): its place is lost, ALL_JOINED falls, and
where it led, the joined member with the highest claim heard lately leads with the next term. -/
def MemberLost (p : Nat) (u t : State) : Prop :=
  peerState t p = 4 ∧ getBit t (Reg.INT_STATUS ringPage) 1 = true ∧ getBit t Reg.RING_STATUS 8 = false ∧ (peer t p).heard = none ∧
  (joinState u = 2 → ringLeader u = false → leaderPos u = p →
    getBit t (Reg.FAULT_STATUS ringPage) 3 = true ∧
    ((∀ q ∈ otherPositions u, q ≠ p → peerState u q = 3 → heardLately u q = true → (peer u q).claim < ownClaim u) →
      getBit t Reg.RING_STATUS 4 = true ∧ getF t Reg.RING_STATUS 2 2 = ringPos u % 4 ∧ ringTerm t = (ringTerm u + 1) % 65536 ∧
      t.ring.takebackPos = some p ∧ getBit t (Reg.INT_STATUS ringPage) 2 = true ∧ getBit t Reg.TIME_STATUS 2 = false))

/-- This member follows the leader at a position from now on, with its term (R449, R467). -/
def FollowsLeader (p term : Nat) (s t : State) : Prop :=
  getBit t Reg.RING_STATUS 4 = false ∧ getF t Reg.RING_STATUS 2 2 = p ∧ ringTerm t = term ∧ t.ring.handover = none ∧
  t.ring.takebackPos = none ∧ t.handedOff = false ∧
  (getBit t Reg.TIME_STATUS 2 = (decide (joinState s = 2) && getBit s Reg.RING_CFG 10))

/-- An epoch that had not committed is dropped as NOT_COMMITTED (R173, R440): no record of it is left, and a report of its number follows. -/
def EpochAborted (e : Epoch) (s t : State) : Prop :=
  (∀ x ∈ t.epochs, x.id ≠ e.id) ∧ (∃ r ∈ t.reports, r.status = 1 ∧ ∀ n, e.num = some n → r.num = n) ∧
  getBit t (Reg.INT_STATUS epochPage) 2 = true ∧ getBit t (Reg.FAULT_STATUS epochPage) 1 = true ∧ SameBytes s t

/-- A message of a type has left on the ring. -/
def RingSent (kind : Nat) (t : State) : Prop := ∃ mask content, Emission.ring kind mask content ∈ t.out

/-- No two epoch records carry one serial, and the next serial is new. -/
abbrev EpochsDistinct (s : State) : Prop := (s.epochs.map Epoch.id).Nodup ∧ ∀ e ∈ s.epochs, e.id < s.epochSerial

end Sys2Proof.Machine
end

