-- ==== Sys2Proof/Certificates/Slice0/Obligations.lean ====
section
/-! DEFINITION. The statements about this model: what its commands do, what they leave alone, and what every step keeps. -/

open Sys2Proof Sys2Proof.Machine

/-- When a command c is at the front of the queue of waiting commands, the step answers what exec answers for c in the state
whose queue is the rest. The per-command statements reach a run through this one. -/
def Obligations.FrontCommandIsExecuted : Prop :=
  ∀ (c : Instr) (rest : List Instr) (s : State), s.pending = c :: rest → step s = exec c { s with pending := rest }

/-- MODEL CHOICE (assumption 6): with an empty queue the step lets one 2 ns tick of the TIME domain pass. Uptime advances by 2
ns once it counts, a stopped TIME clock keeps its reading, a running one without a slew gains TIME_INCR, and nothing but the
clock changes. -/
def Obligations.EmptyQueueLetsOneTickPass : Prop :=
  ∀ s : State, s.pending = [] → ∃ t, step s = .next t ∧ (∃ c, t = { s with time := c }) ∧
    (s.time.counting = true → t.time.uptime = s.time.uptime + 2) ∧
    (s.time.running = false → t.time.sec = s.time.sec ∧ t.time.ns = s.time.ns ∧ t.time.frac = s.time.frac) ∧
    (s.time.running = true → s.time.slew = none → s.time.total + s.time.incr < 2 ^ 64 * 1000000000 * 2 ^ 32 →
      t.time.total = s.time.total + s.time.incr)

/-- For every command and every state, exec answers a next state: no command of the table faults or is refused. -/
def Obligations.EveryCommandAnswersANextState : Prop :=
  ∀ (c : Instr) (s : State), ∃ t, exec c s = .next t

/-- After reset (PWRGOOD has just risen) the supply lockout is engaged, P0 has not been released so uptime does not count,
GLB_PRIME_STATUS.STAGE reads its reset value 1, every register reads as its reset word, the interrupt, fault, generation, lock
and shadow words of every page are zero, PAGE_ID and PAGE_REV read as R86 and R87 give them, the byte windows, the pump memories
and DRAM list nothing, no command waits, and the stores of Canonical are in their canonical form. -/
def Obligations.ResetStateIsCanonicalAndIdle : Prop :=
  stage State.reset = 1 ∧ State.reset.pins.lockout = true ∧ State.reset.time.counting = false ∧ State.reset.time.uptime = 0 ∧
  State.reset.pending = [] ∧ State.reset.pins.pwrgood = true ∧ State.reset.mem = [] ∧ State.reset.pumpMem = [] ∧ State.reset.dram = [] ∧ Canonical State.reset ∧
  (∀ a, reg State.reset a = resetWord a) ∧ (∀ a, act State.reset a = resetWord a) ∧
  (∀ p : Page, p.present .pe2560 = true →
    reg State.reset (Reg.INT_STATUS p) = 0 ∧ reg State.reset (Reg.FAULT_STATUS p) = 0 ∧ reg State.reset (Reg.GEN p) = 0 ∧
    reg State.reset (Reg.PAGE_LOCK p) = 0 ∧ reg State.reset (Reg.SHADOW_STATUS p) = 0 ∧
    readWord State.reset (Reg.PAGE_ID p) = word (65536 * p.kind.code + p.inst) ∧
    readWord State.reset (Reg.PAGE_REV p) = word (0x100 + Config.minorRevision.toNat))

/-- From every state whose register file, byte windows of BAR0 and device DRAM are in canonical form (keys strictly rising; no
register entry equal to its reset word and no window byte equal to what an unlisted one reads as), every step that answers a
next state leaves them in canonical form. Equal contents are then equal data in every state that a run from reset reaches. -/
def Obligations.StepKeepsCanonicalStores : Prop :=
  ∀ s t : State, Canonical s → step s = .next t → Canonical t

/-- For every state, a step that answers a next state leaves the queue without its first command and otherwise as it was, and
leaves the variant as it was; so if every waiting command names only what the part has, the same holds after the step. No
command adds, drops or reorders waiting commands, and no command turns one part into the other. -/
def Obligations.StepTakesExactlyTheFrontCommand : Prop :=
  ∀ s t : State, step s = .next t →
    t.pending = s.pending.tail ∧ t.variant = s.variant ∧ (QueueFits s → QueueFits t)

/-- Every low half stands at a multiple of 8. A read of a low half by requester i, of 32 bits or narrower and not in a byte
window where narrower, answers the bytes read of the low half, stores the current high half with the address of the pair in
shadow i, and changes no other shadow and nothing else. Such a read of the high half by requester i answers the bytes read of
shadow i where it holds the address of this pair and otherwise of the live high half, and changes nothing. A 64-bit read answers
both halves of one cycle and changes nothing. A read of a word that is no half of a pair answers its bytes and changes nothing.
(A read changes nothing means: nothing but what has left the device, which gains the answer.) -/
def Obligations.LowHalfReadLatchesTheHighHalf : Prop :=
  (∀ a, lowHalf a = true → a % 8 = 0) ∧
  (∀ (req : Requester) (addr : BitVec 28) (size : AccessSize) (s : State), lowHalf (addr.toNat - addr.toNat % 4) = true →
    size ≠ .eight → addr.toNat % size.bytes = 0 → size = .four ∨ byteWindow (decodeAddr s.variant addr.toNat) = false →
    Reaches req addr.toNat false s →
    ∃ t, exec (.lowHalfRead req ⟨addr, size⟩) s = .next t ∧
      SMap.get (fun _ => none) t.bus.latch req.toNat =
        some (addr.toNat - addr.toNat % 4, readWord s (addr.toNat - addr.toNat % 4 + 4)) ∧
      (∀ i, i ≠ req.toNat → SMap.get (fun _ => none) t.bus.latch i = SMap.get (fun _ => none) s.bus.latch i) ∧
      t.out = .readData req (laneData (readWord s (addr.toNat - addr.toNat % 4)) addr.toNat size.bytes) :: s.out ∧
      ∃ l o, t = { s with bus := { s.bus with latch := l }, out := o }) ∧
  (∀ (req : Requester) (addr : BitVec 28) (size : AccessSize) (a : Nat) (s : State), lowHalf a = true →
    addr.toNat - addr.toNat % 4 = a + 4 → size ≠ .eight → addr.toNat % size.bytes = 0 →
    size = .four ∨ byteWindow (decodeAddr s.variant addr.toNat) = false → Reaches req addr.toNat false s →
    ∃ t, exec (.highHalfRead req ⟨addr, size⟩) s = .next t ∧
      (∀ v, SMap.get (fun _ => none) s.bus.latch req.toNat = some (a, v) →
        t = { s with out := .readData req (laneData v addr.toNat size.bytes) :: s.out }) ∧
      ((∀ v, SMap.get (fun _ => none) s.bus.latch req.toNat ≠ some (a, v)) →
        t = { s with out := .readData req (laneData (readWord s (a + 4)) addr.toNat size.bytes) :: s.out })) ∧
  (∀ (req : Requester) (addr : BitVec 28) (s : State), addr.toNat % 8 = 0 → Reaches req addr.toNat false s →
    exec (.lowHalfRead req ⟨addr, .eight⟩) s =
      .next { s with out := .readData req ((readWord s addr.toNat).toNat + 2 ^ 32 * (readWord s (addr.toNat + 4)).toNat) :: s.out }) ∧
  (∀ (req : Requester) (addr : BitVec 28) (size : AccessSize) (s : State), lowHalf (addr.toNat - addr.toNat % 4) = false →
    highHalf (addr.toNat - addr.toNat % 4) = false → size ≠ .eight → addr.toNat % size.bytes = 0 → Reaches req addr.toNat false s →
    exec (.lowHalfRead req ⟨addr, size⟩) s =
      .next { s with out := .readData req (laneData (readWord s (addr.toNat - addr.toNat % 4)) addr.toNat size.bytes) :: s.out })

/-- A write of the low half of a 64-bit RW pair by requester i is held for i and changes nothing else; where its chapter says
that the pair ignores writes now, it changes nothing at all. A write of the high half by i applies the low half that i holds, or
the current low half where it holds none, together with the written high half; the held half is then spent. Only the two words
of the pair change, and neither where the pair ignores writes now. The clock increment pair has a statement of its own. -/
def Obligations.PairTakesEffectWithItsHighHalf : Prop :=
  (∀ (req : Requester) (addr : BitVec 28) (v : Word) (s : State), rwLow addr.toNat = true → addr.toNat % 4 = 0 →
    WriteReaches req addr.toNat s →
    (pairIgnored s addr.toNat = true → exec (.pairLowWrite req addr v) s = .next s) ∧
    (pairIgnored s addr.toNat = false →
      ∃ t, exec (.pairLowWrite req addr v) s = .next t ∧
        SMap.get (fun _ => none) t.bus.held (req.toNat * 2 ^ 28 + addr.toNat) = some v ∧
        ∃ h, t = { s with bus := { s.bus with held := h } })) ∧
  (∀ (req : Requester) (a : Nat) (v : Word) (s : State), rwLow a = true → a % 4 = 0 → a + 4 < 2 ^ 28 → a ≠ Reg.TIME_INCR_LO →
    WriteReaches req (a + 4) s →
    ∃ t, exec (.pairHighWrite req (BitVec.ofNat 28 (a + 4)) v) s = .next t ∧
      SMap.get (fun _ => none) t.bus.held (req.toNat * 2 ^ 28 + a) = none ∧
      (pairIgnored s a = true → t.regs = s.regs) ∧
      (pairIgnored s a = false →
        reg t a = ((SMap.get (fun _ => none) s.bus.held (req.toNat * 2 ^ 28 + a)).getD (reg s a)) &&& word (((regAt a).map RegDef.mask).getD 0) ∧
        reg t (a + 4) = v &&& word (((regAt (a + 4)).map RegDef.mask).getD 0)) ∧
      SameRegsBut [a, a + 4] s t ∧ SameBytes s t)

/-- For every command that writes a register of BAR0, and for a register write of any width that is no decode error, where a
lock stops the requester at that place: the write has no effect but its record in the GLB page. INT_STATUS[1] of GLB is then
set; if it was clear before, GLB_LOCK_ADDR takes the address and GLB_LOCK_INFO the requester with a count of 1; if it was set,
the count goes up by one and saturates, and the address stays. Every other register, every byte and all other state is as
before. -/
def Obligations.LockedWritesAreIgnoredAndRecorded : Prop :=
  (∀ (req : Requester) (a : Nat) (s : State),
    getBit (recordLocked req a s) (Reg.INT_STATUS glbPage) 1 = true ∧
    (getBit s (Reg.INT_STATUS glbPage) 1 = false →
      reg (recordLocked req a s) Reg.GLB_LOCK_ADDR = word a ∧ getF (recordLocked req a s) Reg.GLB_LOCK_INFO 0 3 = req.toNat ∧
      getF (recordLocked req a s) Reg.GLB_LOCK_INFO 16 16 = 1) ∧
    (getBit s (Reg.INT_STATUS glbPage) 1 = true →
      reg (recordLocked req a s) Reg.GLB_LOCK_ADDR = reg s Reg.GLB_LOCK_ADDR ∧
      getF (recordLocked req a s) Reg.GLB_LOCK_INFO 16 16 = satInc 16 (getF s Reg.GLB_LOCK_INFO 16 16)) ∧
    OnlyRegsOut [Reg.INT_STATUS glbPage, Reg.GLB_LOCK_ADDR, Reg.GLB_LOCK_INFO] s (recordLocked req a s)) ∧
  (∀ (c : Instr) (req : Requester) (a : Nat) (s : State), commandRegister c = some (req, a) → Reaches req a true s →
    lockStops s req (decodeAddr s.variant a) = true → exec c s = .next (recordLocked req a s)) ∧
  (∀ (req : Requester) (addr : BitVec 28) (size : AccessSize) (v : DWord) (s : State), Reaches req addr.toNat true s →
    decodeFails s addr.toNat size.bytes true = false → isPageLock s.variant addr.toNat = false →
    lockStops s req (decodeAddr s.variant addr.toNat) = true →
    exec (.registerWrite req addr size v) s = .next (recordLocked req addr.toNat s) ∧
    exec (.shapeLibraryWrite req addr size v) s = .next (recordLocked req addr.toNat s) ∧
    (size = .four → rwLow addr.toNat = true → exec (.pairLowWrite req addr (lo32 v.toNat)) s = .next (recordLocked req addr.toNat s)) ∧
    (size = .four → 4 ≤ addr.toNat → rwLow (addr.toNat - 4) = true →
      exec (.pairHighWrite req addr (lo32 v.toNat)) s = .next (recordLocked req addr.toNat s)) ∧
    (size = .four → isW1c addr.toNat = true → exec (.w1cWrite req addr (lo32 v.toNat)) s = .next (recordLocked req addr.toNat s))) ∧
  (∀ (s : State) (p : Page) (o : Nat) (req : Requester), getBit s (Reg.PAGE_LOCK p) 0 = true → (req = 0 ∨ req = 1 ∨ req = 5) →
    lockStops s req (.page p o) = true)

/-- An access that is a decode error is recorded in GLB: INT_STATUS[0] sets, and the first since it was last clear gives
GLB_DECODE_ADDR, the requester, the direction and a count of 1; a later one leaves the address and counts up to saturation. What
leaves the device is the answer, before it at most the message of the interrupt: on a PE2560 zero for a read and nothing for a
write; on a PE1280 an Unsupported Request report for a PCIe write, nothing for the write of another master but SMBus, and an
error answer for every other access. No other register changes. Every command that writes one command register of BAR0 is such a
decode error where the part has nothing there, and has no other effect. A request on a path that the sparse matrix lacks is
counted, shown in XBAR_SPARSE_ERR with the XBAR interrupt, and answered with an error. -/
def Obligations.DecodeErrorsAreRecordedAndAnsweredByVariant : Prop :=
  (∀ (req : Requester) (addr : BitVec 28) (size : AccessSize) (w : Bool) (s : State), arrives s req = true →
    barred s req (decodeAddr s.variant addr.toNat) w = false → decodeFails s addr.toNat size.bytes w = true →
    ∃ t, exec (.decodeError req addr size w) s = .next t ∧
      getBit t (Reg.INT_STATUS glbPage) 0 = true ∧
      (getBit s (Reg.INT_STATUS glbPage) 0 = false →
        reg t Reg.GLB_DECODE_ADDR = word addr.toNat ∧ getF t Reg.GLB_DECODE_INFO 0 3 = req.toNat ∧
        getBit t Reg.GLB_DECODE_INFO 3 = w ∧ getF t Reg.GLB_DECODE_INFO 16 16 = 1) ∧
      (getBit s (Reg.INT_STATUS glbPage) 0 = true →
        reg t Reg.GLB_DECODE_ADDR = reg s Reg.GLB_DECODE_ADDR ∧
        getF t Reg.GLB_DECODE_INFO 16 16 = satInc 16 (getF s Reg.GLB_DECODE_INFO 16 16)) ∧
      OnlyRegsOut [Reg.INT_STATUS glbPage, Reg.GLB_DECODE_ADDR, Reg.GLB_DECODE_INFO] s t ∧
      ∃ m, (m = [] ∨ ∃ v, m = [Emission.msix v]) ∧
        (s.variant = .pe2560 → w = false → t.out = .readData req 0 :: (m ++ s.out)) ∧
        (s.variant = .pe2560 → w = true → t.out = m ++ s.out) ∧
        (s.variant = .pe1280 → w = true → req = 0 → t.out = .unsupportedRequest addr.toNat :: (m ++ s.out)) ∧
        (s.variant = .pe1280 → w = true → req ≠ 0 → req ≠ 1 → t.out = m ++ s.out) ∧
        (s.variant = .pe1280 → w = false ∨ req = 1 → t.out = .errorAnswer req addr.toNat :: (m ++ s.out))) ∧
  (∀ (c : Instr) (req : Requester) (a : Nat) (s : State), commandRegister c = some (req, a) → arrives s req = true →
    barred s req (decodeAddr s.variant a) true = false → decodeAddr s.variant a = .hole →
    exec c s = .next (decodeError req a true s)) ∧
  (∀ (m : Fin 14) (target : Fin 12) (addr : BitVec 32) (s : State), s.time.counting = true → hasPath s m.val target.val = false →
    target.val ≠ 11 → (m.val = 13 → s.variant = .pe2560) →
    ∃ t, exec (.sparsePathError m target addr) s = .next t ∧
      getF t Reg.XBAR_SPARSE_ERR 16 16 = satInc 16 (getF s Reg.XBAR_SPARSE_ERR 16 16) ∧
      getF t Reg.XBAR_SPARSE_ERR 0 8 = m.val + 16 * target.val ∧ getBit t (Reg.INT_STATUS xbarPage) 1 = true ∧
      t.out.head? = some (.errorAnswer (masterRequester m.val) addr.toNat) ∧
      OnlyRegsOut [Reg.XBAR_SPARSE_ERR, Reg.INT_STATUS xbarPage] s t)

/-- A 32-bit write that reaches a register page leaves a word of type RO or RO-L, and an offset that holds no register, as it
was, with everything else. An RW word that is no calibration value and whose written value is in range, of a page whose chapter
gives its writes no rule of their own, keeps the bits that a write does not reach and takes the written value in the others,
except that where the word has one field with reserved encodings and is given one, that field keeps its value; no other register
and no other state changes. A write of any of the four widths to shared SRAM below the Cistern, or to a pump local memory,
stores exactly its bytes, least significant first; a write into the Cistern does nothing but count in CIS_HOST_WRITES, where it
comes over PCIe or SMBus. -/
def Obligations.PlainRegisterWritesFollowTheAccessType : Prop :=
  (∀ (req : Requester) (p : Page) (o : Nat) (v : DWord) (s : State), p.present s.variant = true → o < pageSize p → o % 4 = 0 → 0x40 ≤ o →
    (p.kind = .col → p.inst = 0 → o < 0x8000) →
    ((pageReg p o).map RegDef.acc = none ∨ (pageReg p o).map RegDef.acc = some .ro ∨ (pageReg p o).map RegDef.acc = some .rol) →
    WriteReaches req (pageBase p + o) s →
    exec (.registerWrite req (BitVec.ofNat 28 (pageBase p + o)) .four v) s = .next s) ∧
  (∀ (req : Requester) (p : Page) (o : Nat) (d : RegDef) (v : DWord) (s : State), p.present s.variant = true → 0x40 ≤ o → o < pageSize p →
    o % 4 = 0 → p.kind ∉ [.epoch, .route, .siphon, .col, .tw, .pw, .capt, .ring, .mac, .gate, .flt, .heat, .tmux] →
    pageReg p o = some d → d.acc = .rw → d.cal = false → rangeIgnored p o (lo32 v.toNat) = false → WriteReaches req (pageBase p + o) s →
    ∃ t, exec (.registerWrite req (BitVec.ofNat 28 (pageBase p + o)) .four v) s = .next t ∧
      (∀ i, i < 32 → bitOf (reached s p o d) i = false → getBit t (pageBase p + o) i = bitOf (storedWord s (pageBase p + o)) i) ∧
      (fieldRules p.kind o = [] → ∀ i, i < 32 → bitOf (reached s p o d) i = true → getBit t (pageBase p + o) i = v.getLsbD i) ∧
      (∀ lo w ok, fieldRules p.kind o = [(lo, w, ok)] → ∀ i, i < 32 → bitOf (reached s p o d) i = true →
        getBit t (pageBase p + o) i =
          if ok (fld (lo32 v.toNat) lo w) = false ∧ lo ≤ i ∧ i < lo + w then bitOf (storedWord s (pageBase p + o)) i else v.getLsbD i) ∧
      OnlyRegs [pageBase p + o] s t) ∧
  (∀ (req : Requester) (addr : BitVec 28) (size : AccessSize) (v : DWord) (s : State) (off : Nat),
    decodeAddr s.variant addr.toNat = .sram off → addr.toNat % size.bytes = 0 → WriteReaches req addr.toNat s →
    ∃ t, exec (.registerWrite req addr size v) s = .next t ∧
      (0xC00000 ≤ off → ¬ (req = 0 ∨ req = 1) → t = s) ∧
      (0xC00000 ≤ off → req = 0 ∨ req = 1 → getF t Reg.CIS_HOST_WRITES 0 16 = satInc 16 (getF s Reg.CIS_HOST_WRITES 0 16) ∧ OnlyRegs [Reg.CIS_HOST_WRITES] s t) ∧
      (off < 0xC00000 → (∃ m, t = { s with mem := m }) ∧
        (∀ i, i < size.bytes → memByte t (addr.toNat + i) = byteOf v.toNat i) ∧
        (∀ a, a < addr.toNat ∨ addr.toNat + size.bytes ≤ a → memByte t a = memByte s a))) ∧
  (∀ (req : Requester) (addr : BitVec 28) (size : AccessSize) (v : DWord) (s : State) (k off : Nat),
    decodeAddr s.variant addr.toNat = .pumpMem k off → addr.toNat % size.bytes = 0 → WriteReaches req addr.toNat s →
    ∃ t, exec (.registerWrite req addr size v) s = .next t ∧ (∃ m, t = { s with pumpMem := m }) ∧
      (∀ i, i < size.bytes → pumpByte t (addr.toNat + i) = byteOf v.toNat i) ∧
      (∀ a, a < addr.toNat ∨ addr.toNat + size.bytes ≤ a → pumpByte t a = pumpByte s a))

/-- With the full matrix and the PCIe link up, a host write of n bytes at BAR2 offset x stores exactly its n bytes at DRAM
address B + x, where B is PCIE_BAR2_BASE times 64 MiB, and a read answers the n bytes there and changes nothing else. An access
that would go beyond the DRAM in service is a decode error with that address. -/
def Obligations.Bar2ReachesDramAtTheWindowBase : Prop :=
  (∀ (off : BitVec 32) (size : AccessSize) (v : DWord) (s : State), arrives s 0 = true → hasPath s 0 6 = true →
    getF s Reg.PCIE_BAR2_BASE 0 11 * 2 ^ 26 + off.toNat + size.bytes ≤ s.dramSize →
    ∃ t, exec (.bar2Access 0 off size (some v)) s = .next t ∧ (∃ m, t = { s with dram := m }) ∧
      (∀ i, i < size.bytes → dramByte t (getF s Reg.PCIE_BAR2_BASE 0 11 * 2 ^ 26 + off.toNat + i) = byteOf v.toNat i) ∧
      (∀ a, a < getF s Reg.PCIE_BAR2_BASE 0 11 * 2 ^ 26 + off.toNat ∨
          getF s Reg.PCIE_BAR2_BASE 0 11 * 2 ^ 26 + off.toNat + size.bytes ≤ a → dramByte t a = dramByte s a)) ∧
  (∀ (off : BitVec 32) (size : AccessSize) (s : State), arrives s 0 = true → hasPath s 0 6 = true →
    getF s Reg.PCIE_BAR2_BASE 0 11 * 2 ^ 26 + off.toNat + size.bytes ≤ s.dramSize →
    exec (.bar2Access 0 off size none) s = .next { s with
      out := .readData 0 (readDram s (getF s Reg.PCIE_BAR2_BASE 0 11 * 2 ^ 26 + off.toNat) size.bytes) :: s.out }) ∧
  (∀ (off : BitVec 32) (size : AccessSize) (w : Option DWord) (s : State), arrives s 0 = true →
    s.dramSize < getF s Reg.PCIE_BAR2_BASE 0 11 * 2 ^ 26 + off.toNat + size.bytes →
    exec (.bar2Access 0 off size w) s =
      .next (decodeError 0 ((getF s Reg.PCIE_BAR2_BASE 0 11 * 2 ^ 26 + off.toNat) % 2 ^ 28) w.isSome s))

/-- A write of ENABLE = 1 to a page whose block may stop sets ENABLE; a stopped block other than a pump begins its start
sequence, and a block whose shut-down runs takes PENDING_ON and stays in its shut-down. When that shut-down completes the start
sequence begins, PENDING_ON still set; when a start completes READY sets and PENDING_ON clears. A write of ENABLE = 0 clears
ENABLE, begins the shut-down of a running block, or clears PENDING_ON and leaves the shut-down to complete, after which the
block is stopped. The pages of R88 ignore both. The shut-down of EPOCH lasts while a committed epoch has yet to be applied. A
pump's shut-down and start end with its handover and its self-test and not with these events, which leave it as it is, and TIME
refuses ENABLE = 0 while EPOCH or a gate is enabled. -/
def Obligations.EnableDuringShutdownIsPending : Prop :=
  (∀ (req : Requester) (p : Page) (s : State), WriteReaches req (Reg.CTRL p) s → p.kind.alwaysOn = true →
    exec (.enableOn req p) s = .next s ∧ exec (.enableOff req p) s = .next s) ∧
  (∀ (req : Requester) (p : Page) (s : State), WriteReaches req (Reg.CTRL p) s → p.kind.alwaysOn = false →
    (∃ t, exec (.enableOn req p) s = .next t ∧ enabled t p = true ∧
      (phase s p = .off → p.kind ≠ .pe → phase t p = .starting ∧ getBit t (Reg.STATUS p) 1 = true ∧ getBit t (Reg.STATUS p) 0 = false) ∧
      (phase s p = .stopping → phase t p = .pendingOn ∧ getBit t (Reg.STATUS p) 2 = true ∧ OnlyRegs [Reg.CTRL p, Reg.STATUS p] { s with bus := t.bus } t) ∧
      (phase s p = .running → OnlyRegs [Reg.CTRL p] s t) ∧ SameBytes s t)) ∧
  (∀ (p : Page) (s : State), p.kind = .pe ∨ (p.kind = .epoch ∧ epochCommitted s = true) → exec (.blockShutdownComplete p) s = .next s) ∧
  (∀ (p : Page) (s : State), p.kind = .pe → exec (.blockStartComplete p) s = .next s) ∧
  (∀ (p : Page) (s : State), p.present s.variant = true → p.kind ≠ .pe → (p.kind = .epoch → epochCommitted s = false) →
    (phase s p = .pendingOn → getBit s (Reg.STATUS p) 2 = true →
      ∃ t, exec (.blockShutdownComplete p) s = .next t ∧ phase t p = .starting ∧ getBit t (Reg.STATUS p) 2 = true ∧
        (p.kind ≠ .time → OnlyRegs [Reg.STATUS p] { s with bus := t.bus } t)) ∧
    (phase s p = .stopping →
      ∃ t, exec (.blockShutdownComplete p) s = .next t ∧ phase t p = .off ∧ getBit t (Reg.STATUS p) 1 = applying s p ∧
        OnlyRegs [Reg.STATUS p] { s with bus := t.bus } t) ∧
    (phase s p = .starting →
      ∃ t, exec (.blockStartComplete p) s = .next t ∧ phase t p = .running ∧ getBit t (Reg.STATUS p) 0 = true ∧
        getBit t (Reg.STATUS p) 2 = false ∧
        (p.kind ∉ [.ring, .tw, .pw, .mac] → OnlyRegs [Reg.STATUS p] { s with bus := t.bus } t)) ∧
    (phase s p = .starting → p.kind = .ring → exec (.blockStartComplete p) s = .next (tryJoin (setPhase p .running s)))) ∧
  (∀ (req : Requester) (p : Page) (s : State), p.present s.variant = true → WriteReaches req (Reg.CTRL p) s → p.kind.alwaysOn = false →
    timeRefuses p s = false →
    (phase s p = .pendingOn →
      ∃ t, exec (.enableOff req p) s = .next t ∧ phase t p = .stopping ∧ enabled t p = false ∧ getBit t (Reg.STATUS p) 2 = false ∧
        OnlyRegs [Reg.CTRL p, Reg.STATUS p] { s with bus := t.bus } t) ∧
    (phase s p = .running → p.kind ≠ .pe →
      ∃ t, exec (.enableOff req p) s = .next t ∧ phase t p = .stopping ∧ enabled t p = false ∧
        getBit t (Reg.STATUS p) 0 = false ∧ getBit t (Reg.STATUS p) 1 = true)) ∧
  (∀ (req : Requester) (s : State), WriteReaches req (Reg.CTRL timePage) s → timeHeld s = true →
    ∃ t, exec (.enableOff req timePage) s = .next t ∧ enabled t timePage = enabled s timePage ∧
      getBit t (Reg.INT_STATUS timePage) 1 = true ∧ OnlyRegsOut [Reg.INT_STATUS timePage] s t)

/-- In the GLB and FLT pages a write of SOFT_RESET changes nothing, a write of the whole CTRL word leaves SOFT_RESET as it was,
and CTRL reads with SOFT_RESET 0. In the CLK page the write is the clock reset. In the TIME page it is refused where EPOCH or a
gate is enabled: it sets TIME INT_STATUS[1] and changes nothing else but what has left the device. In every other page that does
not refuse it, no write has an effect in THERMAL_DOWN, in HALTED and while a warm or clock path runs. Otherwise the block enters
its reset, SOFT_RESET reads 1, READY is 0 and BUSY is 1, and no write has a further effect until the reset ends. When the reset
of a page completes SOFT_RESET is 0 and READY shows whether the block runs: a page that cannot be stopped runs; any other but a
pump's starts where ENABLE is 1 and is stopped otherwise. The reset of EPOCH lasts while a committed epoch has yet to be
applied. ENABLE is as before. -/
def Obligations.SoftResetBlockResetAndItsEnd : Prop :=
  (∀ (req : Requester) (p : Page) (s : State), WriteReaches req (Reg.CTRL p) s → p.kind = .glb ∨ p.kind = .flt →
    exec (.softReset req p) s = .next s) ∧
  (∀ (p : Page) (v : Word) (s : State), p.kind = .glb ∨ p.kind = .flt →
    getBit (ctrlWrite p v s) (Reg.CTRL p) 1 = getBit s (Reg.CTRL p) 1) ∧
  (∀ (p : Page) (s : State), p.present s.variant = true → p.kind = .glb ∨ p.kind = .flt → bitOf (readWord s (Reg.CTRL p)) 1 = false) ∧
  (∀ (req : Requester) (s : State), WriteReaches req (Reg.CTRL clkPage) s →
    exec (.softReset req clkPage) s = exec (.clockReset req) s) ∧
  (∀ (req : Requester) (s : State), WriteReaches req (Reg.CTRL timePage) s → timeHeld s = true →
    ∃ t, exec (.softReset req timePage) s = .next t ∧ getBit t (Reg.INT_STATUS timePage) 1 = true ∧
      OnlyRegsOut [Reg.INT_STATUS timePage] s t) ∧
  (∀ (req : Requester) (p : Page) (s : State), p.present s.variant = true → WriteReaches req (Reg.CTRL p) s →
    p.kind ∉ [.glb, .flt, .clk] → timeRefuses p s = false →
    (governed s = true ∨ warmRuns s = true ∨ phase s p = .resetting → exec (.softReset req p) s = .next s) ∧
    (governed s = false → warmRuns s = false → phase s p ≠ .resetting →
      ∃ t, exec (.softReset req p) s = .next t ∧ getBit t (Reg.CTRL p) 1 = true ∧ phase t p = .resetting ∧
        getBit t (Reg.STATUS p) 0 = false ∧ getBit t (Reg.STATUS p) 1 = true)) ∧
  (∀ (p : Page) (s : State), p.present s.variant = true → phase s p = .resetting →
    (p.kind = .epoch → epochCommitted s = true → exec (.blockResetComplete p) s = .next s) ∧
    (p.kind ≠ .epoch ∨ epochCommitted s = false →
      ∃ t, exec (.blockResetComplete p) s = .next t ∧ getBit t (Reg.CTRL p) 1 = false ∧ enabled t p = enabled s p ∧
        getBit t (Reg.STATUS p) 0 = (phase t p == .running) ∧
        (p.kind ≠ .pe → phase t p = (if p.kind.alwaysOn then .running else if enabled s p then .starting else .off))))

/-- A write of FREEZE = 1 to a page that is not frozen changes no register but CTRL. From then on, in every state that still
holds that snapshot, whatever the block and later writes have done, a read of any register of the page of type RO, RO-L or W1C
returns the value it had at the write. A write of FREEZE = 0 returns every read of the page to its live value. -/
def Obligations.FrozenPagesReturnTheValuesOfTheFreeze : Prop :=
  (∀ (req : Requester) (p : Page) (s : State), p.present s.variant = true → WriteReaches req (Reg.CTRL p) s → getBit s (Reg.CTRL p) 2 = false →
    ∃ t, exec (.freeze req p true) s = .next t ∧ getBit t (Reg.CTRL p) 2 = true ∧ OnlyRegs [Reg.CTRL p] { s with bus := t.bus } t ∧
      ∀ (u : State) (o : Nat), u.bus.frozen = t.bus.frozen → u.variant = t.variant → o < pageSize p → freezes (pageReg p o) = true →
        readWord u (pageBase p + o) = liveWord s (pageBase p + o)) ∧
  (∀ (req : Requester) (p : Page) (s : State), p.present s.variant = true → WriteReaches req (Reg.CTRL p) s →
    ∃ t, exec (.freeze req p false) s = .next t ∧ getBit t (Reg.CTRL p) 2 = false ∧ OnlyRegs [Reg.CTRL p] { s with bus := t.bus } t ∧
      ∀ o, o < pageSize p → readWord t (pageBase p + o) = liveWord t (pageBase p + o))

/-- A W1C write to INT_STATUS clears each bit written as 1 unless its cause is still present, and changes no other bit; where
the page's request is then still active one message leaves on its VECTOR. Clearing GLB bit 0 returns GLB_DECODE_ADDR and the
count to zero, clearing bit 1 does so for the lock record. A W1C write to FAULT_STATUS clears the same way, and the fault
collector keeps what it holds. No other register changes, and no byte. MODEL CHOICE (assumption 26): the causes taken to be
still present are the conditions that the state shows; every other bit is set by an event, which is over. -/
def Obligations.W1cClearsOnlyBitsWhoseCauseHasEnded : Prop :=
  (∀ (req : Requester) (p : Page) (v : Word) (s : State), p.present s.variant = true → WriteReaches req (Reg.INT_STATUS p) s →
    ∃ t, exec (.w1cWrite req (BitVec.ofNat 28 (Reg.INT_STATUS p)) v) s = .next t ∧
      (∀ i, i < 32 → getBit t (Reg.INT_STATUS p) i =
        (getBit s (Reg.INT_STATUS p) i && !(bitOf v i && !bitOf (standingInts s p) i))) ∧
      t.out = (if intActive t p then .msix (getF s (Reg.INT_ENABLE p) 26 6) :: s.out else s.out) ∧
      (p.kind ≠ .glb → OnlyRegsOut [Reg.INT_STATUS p] s t) ∧
      (p.kind = .glb → getBit s (Reg.INT_STATUS p) 0 = true → bitOf v 0 = true →
        reg t Reg.GLB_DECODE_ADDR = 0 ∧ getF t Reg.GLB_DECODE_INFO 16 16 = 0) ∧
      (p.kind = .glb → getBit s (Reg.INT_STATUS p) 1 = true → bitOf v 1 = true →
        reg t Reg.GLB_LOCK_ADDR = 0 ∧ getF t Reg.GLB_LOCK_INFO 16 16 = 0) ∧
      OnlyRegsOut [Reg.INT_STATUS p, Reg.GLB_DECODE_ADDR, Reg.GLB_DECODE_INFO, Reg.GLB_LOCK_ADDR, Reg.GLB_LOCK_INFO] s t) ∧
  (∀ (req : Requester) (p : Page) (v : Word) (s : State), p.present s.variant = true → WriteReaches req (Reg.FAULT_STATUS p) s →
    ∃ t, exec (.w1cWrite req (BitVec.ofNat 28 (Reg.FAULT_STATUS p)) v) s = .next t ∧
      (∀ i, i < 32 → getBit t (Reg.FAULT_STATUS p) i =
        (getBit s (Reg.FAULT_STATUS p) i && !(bitOf v i && !bitOf (standingFaults s p) i))) ∧
      OnlyRegs [Reg.FAULT_STATUS p] s t)

/-- In a page other than a column, COMMIT with APPLYING 0 and DIRTY 1 brings every shadowed word of the page into the active
copy at once, clears DIRTY, ARMED and DEFERRED, leaves LAST_REFUSED at 0 and moves GEN on by one, wrapping; no other active word
and no byte changes. With DIRTY 0 it clears ARMED and LAST_REFUSED, and GEN and everything outside SHADOW_STATUS stay. In a
column, the captured words and the cells that are to follow are held, APPLYING sets and the active copy does not change yet.
With APPLYING 1 COMMIT is refused: LAST_REFUSED sets and nothing else changes. COMMIT_AT_EPOCH sets ARMED, in a page without
shadowed words too, clears LAST_REFUSED and changes nothing else. DISCARD returns every shadowed word to the active value, or to
the value being applied where a column commit is under way, clears DIRTY, ARMED and DEFERRED, and changes nothing outside the
registers, of those none outside the page's shadow but SHADOW_STATUS. (These hold for stores in canonical form.) At its
loop-cycle boundary a cell takes the captured words of its four slots and no other slot changes; when the last cell has
followed, APPLYING clears and GEN moves on by one. -/
def Obligations.ShadowCommandsFollowTheCommitTable : Prop :=
  (∀ (req : Requester) (p : Page) (s : State), p.present s.variant = true → WriteReaches req (Reg.SHADOW_CTRL p) s → applying s p = false →
    dirty s p = true → p.kind ≠ .col →
    ∃ t, exec (.commit req p) s = .next t ∧ dirty t p = false ∧ armed t p = false ∧ getBit t (Reg.SHADOW_STATUS p) 4 = false ∧
      getBit t (Reg.SHADOW_STATUS p) 3 = false ∧ getF t (Reg.GEN p) 0 16 = (getF s (Reg.GEN p) 0 16 + 1) % 2 ^ 16 ∧
      (∀ a, isShadowed a = true → (shadowRange p).1 ≤ a → a < (shadowRange p).1 + (shadowRange p).2 → act t a = reg s a) ∧
      (∀ a, a < (shadowRange p).1 ∨ (shadowRange p).1 + (shadowRange p).2 ≤ a → act t a = act s a) ∧ SameBytes s t) ∧
  (∀ (req : Requester) (p : Page) (s : State), p.present s.variant = true → WriteReaches req (Reg.SHADOW_CTRL p) s → applying s p = false →
    dirty s p = false →
    ∃ t, exec (.commit req p) s = .next t ∧ dirty t p = false ∧ armed t p = false ∧ getBit t (Reg.SHADOW_STATUS p) 3 = false ∧
      OnlyRegs [Reg.SHADOW_STATUS p] s t) ∧
  (∀ (req : Requester) (p : Page) (s : State), p.present s.variant = true → WriteReaches req (Reg.SHADOW_CTRL p) s → applying s p = false →
    dirty s p = true → p.kind = .col →
    ∃ t, exec (.commit req p) s = .next t ∧ dirty t p = false ∧ applying t p = true ∧ armed t p = false ∧ t.active = s.active ∧
      (∃ v, SMap.get (fun _ => none) t.colCommit p.inst = some v ∧ v.cells = colCells p.inst ∧
        ∀ a, isShadowed a = true → (shadowRange p).1 ≤ a → a < (shadowRange p).1 + (shadowRange p).2 →
          SMap.get resetWord v.words a = reg s a) ∧
      OnlyRegs [Reg.SHADOW_STATUS p, Reg.STATUS p] { s with colCommit := t.colCommit } t) ∧
  (∀ (req : Requester) (p : Page) (s : State), p.present s.variant = true → WriteReaches req (Reg.SHADOW_CTRL p) s → applying s p = true →
    ∃ t, exec (.commit req p) s = .next t ∧ getBit t (Reg.SHADOW_STATUS p) 3 = true ∧ armed t p = armed s p ∧ dirty t p = dirty s p ∧
      OnlyRegs [Reg.SHADOW_STATUS p] s t) ∧
  (∀ (req : Requester) (p : Page) (s : State), p.present s.variant = true → WriteReaches req (Reg.SHADOW_CTRL p) s →
    ∃ t, exec (.commitAtEpoch req p) s = .next t ∧ armed t p = true ∧ getBit t (Reg.SHADOW_STATUS p) 3 = false ∧ dirty t p = dirty s p ∧
      OnlyRegs [Reg.SHADOW_STATUS p] s t) ∧
  (∀ (req : Requester) (p : Page) (s : State), p.present s.variant = true → WriteReaches req (Reg.SHADOW_CTRL p) s →
    ∃ t, exec (.discard req p) s = .next t ∧ dirty t p = false ∧ armed t p = false ∧ getBit t (Reg.SHADOW_STATUS p) 4 = false ∧
      (p.kind ≠ .col ∨ SMap.get (fun _ => none) s.colCommit p.inst = none →
        ∀ a, isShadowed a = true → (shadowRange p).1 ≤ a → a < (shadowRange p).1 + (shadowRange p).2 → Registers.wf s.active = true →
          reg t a = act s a) ∧
      (∀ v, p.kind = .col → SMap.get (fun _ => none) s.colCommit p.inst = some v → Registers.wf v.words = true →
        ∀ a, isShadowed a = true → (shadowRange p).1 ≤ a → a < (shadowRange p).1 + (shadowRange p).2 → reg t a = SMap.get resetWord v.words a) ∧
      (∀ a, a ≠ Reg.SHADOW_STATUS p → a < (shadowRange p).1 ∨ (shadowRange p).1 + (shadowRange p).2 ≤ a → reg t a = reg s a) ∧
      (∃ r, t = { s with regs := r })) ∧
  (∀ (cell : Fin 640) (s : State) (v : ColCommit), SMap.get (fun _ => none) s.colCommit (cell.val / 64) = some v → cell.val ∈ v.cells →
    ∃ t, exec (.slotCommitTakesEffect cell) s = .next t ∧
      (∀ slot k, slot / 4 = cell.val → k < 16 → act t (Reg.SLOT_CFG slot + 4 * k) = SMap.get resetWord v.words (Reg.SLOT_CFG slot + 4 * k)) ∧
      (∀ slot k, slot / 4 ≠ cell.val → k < 16 → act t (Reg.SLOT_CFG slot + 4 * k) = act s (Reg.SLOT_CFG slot + 4 * k)) ∧
      (v.cells.erase cell.val = [] →
        SMap.get (fun _ => none) t.colCommit (cell.val / 64) = none ∧ applying t (colPage (cell.val / 64)) = false ∧
        getF t (Reg.GEN (colPage (cell.val / 64))) 0 16 = (getF s (Reg.GEN (colPage (cell.val / 64))) 0 16 + 1) % 2 ^ 16) ∧
      (v.cells.erase cell.val ≠ [] →
        SMap.get (fun _ => none) t.colCommit (cell.val / 64) = some { v with cells := v.cells.erase cell.val } ∧
        reg t (Reg.GEN (colPage (cell.val / 64))) = reg s (Reg.GEN (colPage (cell.val / 64)))))

/-- A write to PAGE_LOCK with KEY other than 0x5AFE is ignored. While STICKY is 1 every write to PAGE_LOCK is ignored. With the
key and STICKY 0 the write gives LOCKED and STICKY, even while the page is locked, and STICKY = 1 forces LOCKED to 1. A register
write of the word does the same. A block reset of any page keeps PAGE_LOCK of every page, and a device reset (RESET_N low, and
power-on) leaves every PAGE_LOCK at 0. -/
def Obligations.PageLockNeedsItsKeyAndSticks : Prop :=
  (∀ (req : Requester) (p : Page) (v : Word) (s : State), Reaches req (Reg.PAGE_LOCK p) true s →
    (fld v 16 16 ≠ 0x5AFE → exec (.pageLockWrite req p v) s = .next s) ∧
    (getBit s (Reg.PAGE_LOCK p) 1 = true → exec (.pageLockWrite req p v) s = .next s) ∧
    (fld v 16 16 = 0x5AFE → getBit s (Reg.PAGE_LOCK p) 1 = false →
      ∃ t, exec (.pageLockWrite req p v) s = .next t ∧ reg t (Reg.PAGE_LOCK p) = (if bitOf v 1 then 3 else v &&& 1) ∧ OnlyRegs [Reg.PAGE_LOCK p] s t) ∧
    (p.present s.variant = true →
      exec (.registerWrite req (BitVec.ofNat 28 (Reg.PAGE_LOCK p)) .four (v.setWidth 64)) s = exec (.pageLockWrite req p v) s)) ∧
  (∀ (p q : Page) (s : State), p.present .pe2560 = true → q.present .pe2560 = true →
    reg (resetPageRegs p s) (Reg.PAGE_LOCK q) &&& 3 = reg s (Reg.PAGE_LOCK q) &&& 3) ∧
  (∀ (p : Page) (s : State), p.present .pe2560 = true →
    (s.pins.resetN = true → s.pins.pwrgood = true → ∃ t, exec .resetNLow s = .next t ∧ reg t (Reg.PAGE_LOCK p) = 0) ∧
    (∀ pos, s.pins.pwrgood = false → ∃ t, exec (.powerOn pos) s = .next t ∧ reg t (Reg.PAGE_LOCK p) = 0))

/-- When PWRGOOD falls, when RESET_N goes low under power, and when PWRGOOD rises, the driver lockout is engaged, uptime no
longer counts, every register other than GLB_RESET_CAUSE reads its reset word, every active copy is at reset, no byte of a
window or of a pump memory is listed, the DRAM contents are lost, and no epoch, stream or schedule is left. A pin reset adds PIN
to GLB_RESET_CAUSE and keeps its other bits; power-on sets POWER_ON and clears every other bit. The rise of RESET_N, and
power-on, sample POS. -/
def Obligations.ColdPathsLoseEverythingButTheResetCause : Prop :=
  (∀ s : State, s.pins.pwrgood = true →
    ∃ t, exec .pwrgoodFall s = .next t ∧ t.pins.pwrgood = false ∧ t.pins.lockout = true ∧ t.time.counting = false ∧
      (∀ a, a ≠ Reg.GLB_RESET_CAUSE → reg t a = resetWord a) ∧ t.active = [] ∧ t.mem = [] ∧ t.pumpMem = [] ∧ t.dram = [] ∧ t.dramGen = s.dramGen + 1 ∧
      t.epochs = [] ∧ t.streams = [] ∧ t.schedule = none) ∧
  (∀ s : State, s.pins.resetN = true → s.pins.pwrgood = true →
    ∃ t, exec .resetNLow s = .next t ∧ t.pins.resetN = false ∧ t.pins.lockout = true ∧ t.time.counting = false ∧
      (∀ a, a ≠ Reg.GLB_RESET_CAUSE → reg t a = resetWord a) ∧ getBit t Reg.GLB_RESET_CAUSE 1 = true ∧
      (∀ i, i < 32 → i ≠ 1 → getBit t Reg.GLB_RESET_CAUSE i = getBit s Reg.GLB_RESET_CAUSE i) ∧
      t.active = [] ∧ t.mem = [] ∧ t.pumpMem = [] ∧ t.dram = [] ∧ t.epochs = [] ∧ t.streams = [] ∧ t.schedule = none) ∧
  (∀ (pos : Fin 4) (s : State), s.pins.pwrgood = false →
    ∃ t, exec (.powerOn pos) s = .next t ∧ t.pins.pwrgood = true ∧ t.pins.pos = pos.val ∧ t.pins.lockout = true ∧
      t.time.counting = false ∧ reg t Reg.GLB_RESET_CAUSE = 1 ∧ (∀ a, a ≠ Reg.GLB_RESET_CAUSE → reg t a = resetWord a) ∧
      t.active = [] ∧ t.mem = [] ∧ t.pumpMem = [] ∧ t.dram = [] ∧ t.epochs = [] ∧ t.streams = [] ∧ t.schedule = none) ∧
  (∀ (pos : Fin 4) (s : State), s.pins.resetN = false → s.pins.pwrgood = true →
    exec (.resetNHigh pos) s = .next { s with pins := { s.pins with resetN := true, pos := pos.val } })

/-- P0 release starts uptime at 0 and leads to P1; Wellhead ready leads from P1 to P2 and changes only the stage and the pins
that follow it; a boot that loads an image leads from P2 to P3; the locked PLLs lead from P3 to P4, where the wells come to bias
their pads; the end of P4's work leads to P5, or to the host wait within P4, or where a quarter of the die is left unwatched to
THERMAL_DOWN; the host wait GLB_CAL_DONE and its timeout end into P5; the end of P5 leads to P6 and records TO_LOOPS; the end of
P6 leads to P7, records TO_OPERATIONAL, sets ENABLE in EPOCH, ROUTE and VERDICT and sets the bit that shows the ring left out
exactly where a ring is set up and the member is not JOINED. DRAM training that succeeds brings the bytes of the channel into
service and sets ENABLE in its page. -/
def Obligations.PrimingPassesItsStagesInOrder : Prop :=
  (∀ (clkref xref : Bool) (s : State), s.time.counting = false → s.pins.pwrgood = true → s.pins.resetN = true →
    ∃ t, exec (.p0Release clkref xref) s = .next t ∧ t.time.counting = true ∧ t.time.uptime = 0 ∧ stage t = 1) ∧
  (∀ s : State, stage s = 1 → s.time.counting = true →
    ∃ t, exec (.wellheadReady true) s = .next t ∧ stage t = 2 ∧ OnlyRegs [Reg.GLB_PRIME_STATUS] { s with pins := t.pins } t) ∧
  (∀ (a b : SlotChecks) (s : State), stage s = 2 → (bootFlash a b s).2 = true →
    ∃ t, exec (.firmwareLoaded a b) s = .next t ∧ stage t = 3) ∧
  (∀ s : State, stage s = 3 →
    ∃ t, exec .pllsLocked s = .next t ∧ stage t = 4 ∧ getBit t Reg.CLK_SRC_STATUS 7 = true ∧ t.biasOn = true) ∧
  (∀ (failed : List (Fin 304)) (s : State), stage s = 4 → s.prime.waiting = false →
      (∀ e ∈ s.prime.calStaged, calMask s.variant e.1 ≠ none) →
    ∃ t, exec (.p4Complete failed) s = .next t ∧
      (dieUnwatched s = false → (∀ w ∈ failed, w.val < 298 ∨ 301 < w.val) →
        (stage t = 4 ∧ t.prime.waiting = true) ∨ (stage t = 5 ∧ t.prime.waiting = false)) ∧
      ((∃ w ∈ failed, 298 ≤ w.val ∧ w.val ≤ 301) → stage t = 0xF)) ∧
  (∀ (req : Requester) (s : State), stage s = 4 → coldKind s = true → WriteReaches req Reg.GLB_CAL_DONE s →
    ∃ t, exec (.calDoneWrite req) s = .next t ∧
      (s.prime.waiting = true → stage t = 5 ∧ t.prime.waiting = false) ∧
      (s.prime.waiting = false → t = { s with prime := { s.prime with calDone := true } })) ∧
  (∀ s : State, stage s = 4 → s.prime.waiting = true →
    ∃ t, exec .calWaitTimeout s = .next t ∧ stage t = 5 ∧ t.prime.waiting = false) ∧
  (∀ (failed : List (Fin 128)) (s : State), stage s = 5 →
    ∃ t, exec (.p5Complete failed) s = .next t ∧ stage t = 6 ∧ getF t Reg.GLB_PRIME_MS 0 16 = primeMs s) ∧
  (∀ s : State, stage s = 6 →
    ∃ t, exec .p6Complete s = .next t ∧ stage t = 7 ∧ getF t Reg.GLB_PRIME_MS 16 16 = primeMs s ∧
      enabled t epochPage = true ∧ enabled t routePage = true ∧ enabled t verdictPage = true ∧
      (standAlone s = false → joinState s ≠ 2 → getBit t Reg.GLB_PRIME_STATUS 8 = true) ∧
      (standAlone s = true ∨ joinState s = 2 → getBit t Reg.GLB_PRIME_STATUS 8 = getBit s Reg.GLB_PRIME_STATUS 8)) ∧
  (∀ (ch : Fin 4) (bytes : BitVec 40) (s : State), 3 ≤ stage s → stage s ≤ 7 → enabled s ⟨.ddr, ch.val⟩ = false →
    ∃ t, exec (.dramTrainingComplete ch true bytes) s = .next t ∧ t.dramSize = s.dramSize + bytes.toNat ∧
      enabled t ⟨.ddr, ch.val⟩ = true ∧ SameRegsBut [Reg.CTRL ⟨.ddr, ch.val⟩, Reg.STATUS ⟨.ddr, ch.val⟩] s t)

/-- A failure records its stage and code where none is recorded yet and leaves a recorded one; a halt leads to stage 0xE unless
the device is in P0, HALTED or THERMAL_DOWN. A self-test that fails in P1 halts with 0x01, a stage past its bound in P1 to P5
with 0x02, a boot without an image with 0x03, a system PLL not locked in P3 with 0x04, a bandgap reference not settled in P4
with 0x07. A DRAM channel that fails training goes on: its page shows DEGRADED and stays disabled, its fault is set, and code
0x06 of stage 3 is recorded where none is. Missing calibration values that a later GLB_CAL_DONE supplies clear CAL_MISSING. -/
def Obligations.StartupFailuresRecordTheFirstCode : Prop :=
  (∀ (code st : Nat) (s : State), 0 < code → code < 256 → st < 16 →
    (getF s Reg.GLB_PRIME_STATUS 16 8 = 0 →
      getF (failCode code st s) Reg.GLB_PRIME_STATUS 16 8 = code ∧ getF (failCode code st s) Reg.GLB_PRIME_STATUS 12 4 = st ∧
      OnlyRegs [Reg.GLB_PRIME_STATUS] s (failCode code st s) ∧ stage (failCode code st s) = stage s) ∧
    (getF s Reg.GLB_PRIME_STATUS 16 8 ≠ 0 → failCode code st s = s)) ∧
  (∀ s : State, (governed s = false → stage (haltDevice s) = 0xE) ∧ (governed s = true → haltDevice s = s)) ∧
  (∀ s : State, stage s = 1 → s.time.counting = true → exec (.wellheadReady false) s = .next (haltDevice (failCode 1 1 s))) ∧
  (∀ s : State, s.time.counting = true → 1 ≤ stage s → stage s ≤ 5 → exec .stageTimeout s = .next (haltDevice (failCode 2 (stage s) s))) ∧
  (∀ (a b : SlotChecks) (s : State), stage s = 2 → (bootFlash a b s).2 = false →
    exec (.firmwareLoaded a b) s = .next (failHalt 3 (bootFlash a b s).1)) ∧
  (∀ s : State, stage s = 3 → getBit s Reg.CLK_SRC_STATUS 2 = false → exec .sysPllLockTimeout s = .next (haltDevice (failCode 4 3 s))) ∧
  (∀ s : State, stage s = 4 → exec .bandgapSettleTimeout s = .next (haltDevice (failCode 7 4 s))) ∧
  (∀ (ch : Fin 4) (bytes : BitVec 40) (s : State), 3 ≤ stage s → stage s ≤ 7 → enabled s ⟨.ddr, ch.val⟩ = false →
    ∃ t, exec (.dramTrainingComplete ch false bytes) s = .next t ∧ getBit t (Reg.STATUS ⟨.ddr, ch.val⟩) 5 = true ∧
      enabled t ⟨.ddr, ch.val⟩ = false ∧ getBit t (Reg.FAULT_STATUS ⟨.ddr, ch.val⟩) 2 = true ∧ t.dramSize = s.dramSize ∧ stage t = stage s ∧
      (getF s Reg.GLB_PRIME_STATUS 16 8 = 0 → getF t Reg.GLB_PRIME_STATUS 16 8 = 6 ∧ getF t Reg.GLB_PRIME_STATUS 12 4 = 3)) ∧
  (∀ (req : Requester) (s : State), 4 < stage s → stage s ≤ 7 → getBit s Reg.GLB_PRIME_STATUS 7 = true → WriteReaches req Reg.GLB_CAL_DONE s →
    ∃ t, exec (.calDoneWrite req) s = .next t ∧ getBit t Reg.GLB_PRIME_STATUS 7 = false ∧ t.prime.calStaged = [] ∧ stage t = stage s)

/-- A keyed GLB_RESET_CTRL write from requester 0 or 1, outside THERMAL_DOWN, outside HALTED but for its code 0x03, and outside
a warm or clock path, only marks the request where a committed epoch has not reached T + 900 ns; otherwise the warm reset takes
effect. A marked request takes effect at that instant. When a warm or clock reset takes effect the device is in P1, WARM or
CLK_BLOCK is added to GLB_RESET_CAUSE, and the epoch queue, the schedule, the capture streams, the reports to come and any
Cistern contents are gone. A clock reset, and the end of a test session (which is the reset of the TAP and leaves JTAG_TRST_N
low), hold no column, whatever HOLD_THROUGH says: HELD reads 0. -/
def Obligations.WarmResetWaitsForTheCommittedEpoch : Prop :=
  (∀ (kind : PathKind) (parkAll : Bool) (s : State), kind = .warm ∨ kind = .clock →
    stage (warmTake kind parkAll s) = 1 ∧
    (kind = .warm → getBit (warmTake kind parkAll s) Reg.GLB_RESET_CAUSE 2 = true) ∧
    (kind = .clock → getBit (warmTake kind parkAll s) Reg.GLB_RESET_CAUSE 4 = true) ∧
    (parkAll = true → getBit (warmTake kind parkAll s) Reg.GLB_PRIME_STATUS 4 = false) ∧
    (warmTake kind parkAll s).epochs = [] ∧ (warmTake kind parkAll s).schedule = none ∧ (warmTake kind parkAll s).streams = [] ∧
    (warmTake kind parkAll s).reports = [] ∧ (warmTake kind parkAll s).ports.queues = [] ∧ (warmTake kind parkAll s).warmRequested = false) ∧
  (∀ (req : Requester) (s : State), req = 0 ∨ req = 1 → WriteReaches req Reg.GLB_RESET_CTRL s → stage s ≠ 0xF →
    (stage s = 0xE → getF s Reg.GLB_PRIME_STATUS 16 8 = 3) → s.warmRequested = false → warmRuns s = false →
    (∀ e, committedEpoch s = some e → exec (.warmReset req) s = .next { s with warmRequested := true }) ∧
    (committedEpoch s = none → exec (.warmReset req) s = .next (warmTake .warm false s))) ∧
  (∀ s : State, s.warmRequested = true →
    (∀ e, committedEpoch s = some e → exec .warmResetTakesEffect s = .next (warmTake .warm false (advanceTo (e.t + 900) s))) ∧
    (committedEpoch s = none → exec .warmResetTakesEffect s = .next (warmTake .warm false s))) ∧
  (∀ (req : Requester) (s : State), WriteReaches req (Reg.CTRL clkPage) s → governed s = false → (s.prime.path = .clock → 7 ≤ stage s) →
    exec (.clockReset req) s = .next (warmTake .clock true s)) ∧
  (∀ s : State, testSession s = true →
    (governed s = false →
      exec .testSessionEnd s = .next (warmTake .warm true (setB Reg.WH_DEBUG 3 false { s with pins := { s.pins with trstN := false } }))) ∧
    (governed s = true →
      exec .testSessionEnd s = .next (setB Reg.WH_DEBUG 3 false { s with pins := { s.pins with trstN := false } })))

/-- CLEAR_N falling puts every EO channel into PARKED, every loop cell into manual and drops the epochs not yet applied with the
pending submission, unless P0, HALTED or THERMAL_DOWN governs, where only the pin changes. While it is low the outputs are
forced to park. Its rise changes nothing but the pin. The start of a test session (EXTEST, or an IEEE 1500 instruction under its
scope) raises JTAG_TRST_N, sets the session flag and does what CLEAR_N falling does; in lockout it only empties the epoch unit,
and under a stronger condition it does no more. -/
def Obligations.ClearNAndTestSessionsParkTheOutputs : Prop :=
  (∀ s : State, s.pins.clearN = true →
    (governed s = true → exec .clearNFall s = .next { s with pins := { s.pins with clearN := false } }) ∧
    (governed s = false → exec .clearNFall s = .next (clearActs { s with pins := { s.pins with clearN := false } }) ∧
      parkForced { s with pins := { s.pins with clearN := false } } = true)) ∧
  (∀ s : State, (clearActs s).submission = none ∧ (∀ e ∈ (clearActs s).epochs, e.applied = true) ∧
    (∀ n, n < s.variant.slots → (channel (clearActs s) n).state = .parked) ∧
    (∀ m, m < s.variant.cells → cellAuto (clearActs s) m = false)) ∧
  (∀ s : State, s.pins.clearN = false → exec .clearNRise s = .next { s with pins := { s.pins with clearN := true } }) ∧
  (∀ (ieee : Bool) (s : State), s.time.counting = true → testSession s = false → (ieee = true → getBit s Reg.WH_DEBUG 2 = true) →
    (governed s = true → exec (.testSessionStart ieee) s = .next (setB Reg.WH_DEBUG 3 true { s with pins := { s.pins with trstN := true } })) ∧
    (governed s = false → s.pins.lockout = true →
      exec (.testSessionStart ieee) s = .next (clearEpochs 5 (setB Reg.WH_DEBUG 3 true { s with pins := { s.pins with trstN := true } }))) ∧
    (governed s = false → s.pins.lockout = false →
      exec (.testSessionStart ieee) s = .next (clearActs (setB Reg.WH_DEBUG 3 true { s with pins := { s.pins with trstN := true } }))))

/-- Loss of XREF clears XREF_PRESENT; while the system PLL runs on it outside holdover, XREF_LOSS is set and the PLL enters
holdover with the uptime of its start kept. Loss of CLKREF clears CLKREF_PRESENT and sets its fault. A reference that returns is
shown and the PLL keeps its source. Ten milliseconds after its start an expired holdover sets its fault; an unlocked PLL outside
holdover sets its own. A voltage outside its rail's window clears the rail's bit of PWR_MON_STATUS and sets its fault, and one
inside sets the bit and leaves the fault. The estimates of R13 and PWR_DEVICE_MW take the values refreshed. PCIE_PERST_N low
adds PCIE_PERST to the reset causes, takes the link down, resets the configuration space and the MSI-X table and returns the
BAR2 base to 0; its rise changes only the pin. A link that comes up or goes down otherwise is shown in PCIE_PLL_LOCK (the
model's choice, assumption 78), the latter with its fault. -/
def Obligations.ReferencesRailsAndThePcieLinkAreShown : Prop :=
  (∀ s : State, s.time.counting = true → getBit s Reg.CLK_SRC_STATUS 1 = true →
    (getBit s Reg.CLK_SRC_STATUS 3 = false →
      ∃ t, exec .xrefLoss s = .next t ∧ getBit t Reg.CLK_SRC_STATUS 1 = false ∧ OnlyRegs [Reg.CLK_SRC_STATUS] s t) ∧
    (getBit s Reg.CLK_SRC_STATUS 3 = true → getBit s Reg.CLK_SRC_STATUS 4 = false →
      ∃ t, exec .xrefLoss s = .next t ∧ getBit t Reg.CLK_SRC_STATUS 1 = false ∧ getBit t Reg.CLK_SRC_STATUS 4 = true ∧
        t.prime.holdover = some s.time.uptime ∧ getBit t (Reg.FAULT_STATUS clkPage) 1 = true ∧
        SameRegsBut [Reg.CLK_SRC_STATUS, Reg.FAULT_STATUS clkPage] s t)) ∧
  (∀ s : State, s.time.counting = true → getBit s Reg.CLK_SRC_STATUS 0 = true →
    ∃ t, exec .clkrefLoss s = .next t ∧ getBit t Reg.CLK_SRC_STATUS 0 = false ∧ getBit t (Reg.FAULT_STATUS clkPage) 0 = true) ∧
  (∀ (x : Bool) (s : State), s.time.counting = true →
    ∃ t, exec (.referencePresent x) s = .next t ∧ getBit t Reg.CLK_SRC_STATUS (if x then 1 else 0) = true ∧
      getBit t Reg.CLK_SRC_STATUS 3 = getBit s Reg.CLK_SRC_STATUS 3 ∧ OnlyRegs [Reg.CLK_SRC_STATUS] s t) ∧
  (∀ (h : Nat) (s : State), s.prime.holdover = some h → s.time.counting = true →
    ∃ t, exec .holdoverExpired s = .next t ∧ getBit t (Reg.FAULT_STATUS clkPage) 3 = true ∧ t.prime.holdover = none ∧
      h + 10000000 ≤ t.time.uptime ∧ SameRegsBut [Reg.FAULT_STATUS clkPage] s t) ∧
  (∀ s : State, getBit s Reg.CLK_SRC_STATUS 2 = true → getBit s Reg.CLK_SRC_STATUS 4 = false →
    ∃ t, exec .sysPllUnlock s = .next t ∧ getBit t Reg.CLK_SRC_STATUS 2 = false ∧ getBit t (Reg.FAULT_STATUS clkPage) 2 = true ∧
      SameRegsBut [Reg.CLK_SRC_STATUS, Reg.FAULT_STATUS clkPage] s t) ∧
  (∀ (r : Fin 10) (v : Nat) (s : State), s.time.counting = true →
    (inWindow s r v = false → ∃ t, exec (.railOutOfWindow ⟨r, v⟩) s = .next t ∧ getBit t Reg.PWR_MON_STATUS r.val = false ∧
      getBit t (Reg.FAULT_STATUS pwrPage) r.val = true ∧ SameRegsBut [Reg.PWR_MON_STATUS, Reg.FAULT_STATUS pwrPage] s t) ∧
    (inWindow s r v = true → ∃ t, exec (.railBackInWindow ⟨r, v⟩) s = .next t ∧ getBit t Reg.PWR_MON_STATUS r.val = true ∧
      OnlyRegs [Reg.PWR_MON_STATUS] { s with pins := t.pins } t)) ∧
  (∀ (w : List Word) (mw : BitVec 16) (s : State), s.time.counting = true →
    ∃ t, exec (.cellPowerEstimateRefresh w mw) s = .next t ∧ getF t Reg.PWR_DEVICE_MW 0 16 = mw.toNat ∧
      (∀ m, m < s.variant.cells → SMap.get (fun _ => 0) t.cellPower m = (w[m]?).getD 0) ∧
      OnlyRegs [Reg.PWR_DEVICE_MW] { s with cellPower := t.cellPower, cellPowerWas := s.cellPower, cellPowerAt := s.time.uptime } t) ∧
  (∀ s : State, s.pins.perstN = true → s.time.counting = true →
    ∃ t, exec .pciePerstLow s = .next t ∧ t.pins.perstN = false ∧ t.pins.pcieUp = false ∧ getBit t Reg.GLB_RESET_CAUSE 6 = true ∧
      t.endpoint = { config := [], msix := [] } ∧ reg t Reg.PCIE_BAR2_BASE = 0) ∧
  (∀ s : State, exec .pciePerstHigh s = .next { s with pins := { s.pins with perstN := true } }) ∧
  (∀ s : State, s.time.counting = true → s.pins.perstN = true → stage s ≠ 0xF → getF s Reg.GLB_PRIME_STATUS 16 8 ≠ 1 →
    ∃ t, exec .pcieLinkUp s = .next t ∧ t.pins = { s.pins with pcieUp := true } ∧ getBit t Reg.CLK_SRC_STATUS 6 = true ∧
      OnlyRegs [Reg.CLK_SRC_STATUS] { s with pins := t.pins } t) ∧
  (∀ s : State, s.pins.pcieUp = true →
    ∃ t, exec .pcieLinkDown s = .next t ∧ t.pins = { s.pins with pcieUp := false } ∧ getBit t Reg.CLK_SRC_STATUS 6 = false ∧
      getBit t (Reg.FAULT_STATUS pciePage) 0 = true ∧ SameRegsBut [Reg.CLK_SRC_STATUS, Reg.FAULT_STATUS pciePage] s t)

/-- A write of EPOCH_SUBMIT takes the eight descriptor words and the acceptance time and sets PENDING; while PENDING is 1 it is
ignored and sets SUBMIT_IGNORED. At the end of the checks PENDING clears, RESULT sets, EPOCH_RESULT shows TAG, and CODE is that
of the first check of R156 that fails: a device that is a ring member other than the leader gives 0x0A whatever follows, a lead
outside 50 to 5,000 or a misplaced inline list gives 0x06, a T that is no multiple of 4 gives 0x05, an invalid preset 0x07, an
offending inline list 0x08, a full queue 0x01, a late one without LATE_OK 0x02, one before a queued instant, or a late one
behind a queue, 0x04, one closer than 10 us to the previous instant 0x03, one on no free slot of a running schedule 0x0B, and 0
anything else. A rejected descriptor changes only the EPOCH page and counts; an accepted one stands in the list of epochs under
the next serial. A queue flush leaves no queued epoch and reports each of them as FLUSHED. -/
def Obligations.SubmissionsAreTakenDecidedAndFlushed : Prop :=
  (∀ (req : Requester) (s : State), WriteReaches req Reg.EPOCH_SUBMIT s →
    (s.submission = none → ∃ t, exec (.epochSubmit req) s = .next t ∧
      t.submission = some { desc := (List.range 8).map fun k => reg s (Reg.EPOCH_DESC k), accepted := ptpNow s } ∧
      getBit t Reg.EPOCH_RESULT 0 = true ∧ OnlyRegs [Reg.EPOCH_RESULT] { s with submission := t.submission } t) ∧
    (s.submission ≠ none → ∃ t, exec (.epochSubmit req) s = .next t ∧ getBit t (Reg.INT_STATUS epochPage) 3 = true ∧
      OnlyRegsOut [Reg.INT_STATUS epochPage] s t)) ∧
  (∀ (s : State) (x : Submission), s.submission = some x →
    ∃ t, exec .epochChecksComplete s = .next t ∧ t.submission = none ∧ getBit t (Reg.INT_STATUS epochPage) 0 = true ∧
      getBit t Reg.EPOCH_RESULT 0 = false ∧ getF t Reg.EPOCH_RESULT 16 16 = fld (descWord x.desc 3) 16 16 ∧
      getBit t Reg.EPOCH_RESULT 1 = decide (checkSubmission { s with submission := none } x = 0) ∧
      getF t Reg.EPOCH_RESULT 8 8 = checkSubmission { s with submission := none } x ∧ SameBytes s t ∧
      (checkSubmission { s with submission := none } x ≠ 0 →
        getF t Reg.EPOCH_QUEUE_STATUS 16 16 = satInc 16 (getF s Reg.EPOCH_QUEUE_STATUS 16 16) ∧
        OnlyRegsOut [Reg.EPOCH_RESULT, Reg.EPOCH_QUEUE_STATUS, Reg.EPOCH_BAD_PERM, Reg.INT_STATUS epochPage]
          { s with submission := none } t) ∧
      (checkSubmission { s with submission := none } x = 0 →
        t.epochSerial = s.epochSerial + 1 ∧ ∃ e ∈ t.epochs, e.id = s.epochSerial ∧ e.desc = x.desc ∧ e.phase = .queued)) ∧
  (∀ (s : State) (x : Submission), getBit s (Reg.STATUS epochPage) 0 = true → parkForced s = false → s.warmRequested = false →
    getBit s Reg.GLB_PRIME_STATUS 7 = false → getBit s Reg.GLB_PRIME_STATUS 8 = false → netK s ≠ 0 →
    (isLeader s = false → checkSubmission s x = 0x0A) ∧
    (isLeader s = true → s.handedOff = false →
      (fld (descWord x.desc 3) 0 13 < 50 ∨ 5000 < fld (descWord x.desc 3) 0 13 → checkSubmission s x = 0x06) ∧
      (descInline x.desc = true → fld (descWord x.desc 4) 0 24 % 64 ≠ 0 ∨ 0x1000000 < fld (descWord x.desc 4) 0 24 + 2 * 2 ^ netK s →
        checkSubmission s x = 0x06) ∧
      (50 ≤ fld (descWord x.desc 3) 0 13 → fld (descWord x.desc 3) 0 13 ≤ 5000 →
          (descInline x.desc = true → fld (descWord x.desc 4) 0 24 % 64 = 0 ∧ fld (descWord x.desc 4) 0 24 + 2 * 2 ^ netK s ≤ 0x1000000) →
        (descT x.desc % 4 ≠ 0 → checkSubmission s x = 0x05) ∧
        (descT x.desc % 4 = 0 → presetValid s (fld (descWord x.desc 2) 0 6) = false → checkSubmission s x = 0x07) ∧
        (descT x.desc % 4 = 0 → presetValid s (fld (descWord x.desc 2) 0 6) = true →
          (descInline x.desc = true → permFault (2 ^ netK s) 0 [] (inlineEntries s x.desc) ≠ none → checkSubmission s x = 0x08) ∧
          ((descInline x.desc = true → permFault (2 ^ netK s) 0 [] (inlineEntries s x.desc) = none) →
            (16 ≤ (epochQueue s).length → checkSubmission s x = 0x01) ∧
            ((epochQueue s).length < 16 → descLate s x = true → bitOf (descWord x.desc 2) 9 = false → checkSubmission s x = 0x02) ∧
            ((epochQueue s).length < 16 → (descLate s x = true → bitOf (descWord x.desc 2) 9 = true) →
              ((∃ e ∈ epochQueue s, descT x.desc < e.t) ∨ (descLate s x = true ∧ epochQueue s ≠ []) → checkSubmission s x = 0x04) ∧
              ((∀ e ∈ epochQueue s, e.t ≤ descT x.desc) → (descLate s x = true → epochQueue s = []) →
                (descLate s x = true → checkSubmission s x = 0) ∧
                (descLate s x = false → schedRunning s = false →
                  ((∃ p, s.epochPrev = some p ∧ descT x.desc < p + 10000) → checkSubmission s x = 0x03) ∧
                  ((∀ p, s.epochPrev = some p → p + 10000 ≤ descT x.desc) → checkSubmission s x = 0)) ∧
                (descLate s x = false → schedRunning s = true →
                  (slotInstant s (descT x.desc) = true → checkSubmission s x = 0) ∧
                  (slotInstant s (descT x.desc) = false → checkSubmission s x = 0x0B))))))))) ∧
  (∀ (req : Requester) (s : State), WriteReaches req Reg.EPOCH_QUEUE_FLUSH s → EpochsDistinct s →
    ∃ t, exec (.epochQueueFlush req) s = .next t ∧ epochQueue t = [] ∧
      (∀ e ∈ epochQueue s, ∃ r ∈ t.reports, r.status = 4 ∧ r.tag = e.tag ∧ r.preset = e.preset) ∧
      SameBytes s t ∧ SameRegsOff [epochPage, routePage, evtPage] s t)

/-- START is refused, with START_REFUSED set and nothing else changed, while a schedule runs, while the queue is not empty, for
a bank of length 0 or with a dwell below 10 us, for a lead out of range, and while a throttle forbids it. Otherwise RUNNING
sets, START_REFUSED clears, and the first slot to execute is the first slot instant counted from BASE that lies at least the
lead, the route bound and 10 us after the write. SWITCH_BANK is refused while no schedule runs, with a bank pending, with an end
set, with epochs queued, and for a bank or a lead that START would refuse, and otherwise sets PENDING_BANK and clears
START_REFUSED. STOP leaves no schedule, RUNNING and PENDING_BANK 0 and no uncommitted slot. STOP_AT_CYCLE_END clears
PENDING_BANK, gives the schedule an end, and no uncommitted slot at or after that end is left. -/
def Obligations.ScheduleCommandsActOrAreRefused : Prop :=
  (∀ (req : Requester) (s : State), WriteReaches req Reg.SCHED_CTRL s →
    (schedRunning s = true ∨ epochQueue s ≠ [] ∨ bankLen s (activeBankOf s) = 0 ∨ (∃ d ∈ bankDwells s (activeBankOf s), d < 10000) ∨
        getF s Reg.SCHED_LEAD 0 13 < 50 ∨ 5000 < getF s Reg.SCHED_LEAD 0 13 ∨ throttle s 2 = true →
      ∃ t, exec (.start req) s = .next t ∧ getBit t Reg.SCHED_CTRL 10 = true ∧ schedRunning t = schedRunning s ∧ OnlyRegs [Reg.SCHED_CTRL] s t) ∧
    (schedRunning s = false → epochQueue s = [] → bankLen s (activeBankOf s) ≠ 0 → (∀ d ∈ bankDwells s (activeBankOf s), 10000 ≤ d) →
        50 ≤ getF s Reg.SCHED_LEAD 0 13 → getF s Reg.SCHED_LEAD 0 13 ≤ 5000 → throttle s 2 = false →
      ∃ t c, exec (.start req) s = .next t ∧ schedRunning t = true ∧ getBit t Reg.SCHED_CTRL 10 = false ∧ t.schedule = some c ∧
        c.stopAt = none ∧ c.switchAt = none ∧ ptpNow s + slotLead s ≤ c.at_ ∧
        onGrid s (activeBankOf s) (reg64 s Reg.SCHED_BASE_LO / 4 * 4) c.at_ = true ∧
        (∀ u, onGrid s (activeBankOf s) (reg64 s Reg.SCHED_BASE_LO / 4 * 4) u = true → reg64 s Reg.SCHED_BASE_LO / 4 * 4 ≤ u → u < c.at_ →
          u < ptpNow s + slotLead s) ∧
        OnlyRegs [Reg.SCHED_CTRL] { s with schedule := t.schedule } t)) ∧
  (∀ (req : Requester) (s : State), WriteReaches req Reg.SCHED_CTRL s → schedRunning s = true → EpochsDistinct s →
    ∃ t, exec (.stop req) s = .next t ∧ t.schedule = none ∧ schedRunning t = false ∧ bankPending t = false ∧
      (∀ e ∈ t.epochs, e.scheduled = true → e.phase ≠ .queued) ∧
      (∀ e ∈ s.epochs, e.scheduled = true → e.phase = .queued → ∃ r ∈ t.reports, r.status = 4 ∧ r.tag = e.tag) ∧
      SameBytes s t ∧ SameRegsOff [epochPage, routePage, evtPage] s t) ∧
  (∀ (req : Requester) (s : State) (c : Schedule), WriteReaches req Reg.SCHED_CTRL s → s.schedule = some c → c.stopAt = none → EpochsDistinct s →
    ∃ t stop, exec (.stopAtCycleEnd req) s = .next t ∧ bankPending t = false ∧
      (t.schedule = none ∨ ∃ c', t.schedule = some c' ∧ c'.stopAt = some stop ∧ c'.switchAt = none ∧ c'.at_ = c.at_) ∧
      (∀ e ∈ t.epochs, e.scheduled = true → e.phase = .queued → e.t < stop) ∧ SameBytes s t ∧
      SameRegsOff [epochPage, routePage, evtPage] s t) ∧
  (∀ (req : Requester) (s : State), WriteReaches req Reg.SCHED_CTRL s →
    (s.schedule = none ∨ bankPending s = true ∨ (∃ c e, s.schedule = some c ∧ c.stopAt = some e) ∨ epochQueue s ≠ [] ∨
        bankLen s (1 - activeBankOf s) = 0 ∨ (∃ d ∈ bankDwells s (1 - activeBankOf s), d < 10000) ∨ getF s Reg.SCHED_LEAD 0 13 < 50 ∨
        5000 < getF s Reg.SCHED_LEAD 0 13 →
      ∃ t, exec (.switchBank req) s = .next t ∧ getBit t Reg.SCHED_CTRL 10 = true ∧ bankPending t = bankPending s ∧ OnlyRegs [Reg.SCHED_CTRL] s t) ∧
    (∀ c, s.schedule = some c → c.stopAt = none → bankPending s = false → bankRefused s (1 - activeBankOf s) = false →
      ∃ t, exec (.switchBank req) s = .next t ∧ bankPending t = true ∧ getBit t Reg.SCHED_CTRL 10 = false ∧ activeBankOf t = activeBankOf s ∧
        (c.next = 0 → t.schedule = some { c with switchAt := some c.at_, base := c.at_ }) ∧ (c.next ≠ 0 → t.schedule = s.schedule) ∧
        OnlyRegs [Reg.SCHED_CTRL] { s with schedule := t.schedule } t))

/-- When the running schedule generates its next slot, the next epoch number is given. Where no override holds the slot, an
epoch joins the list with that number, the slot's instant, the preset and verdict plan of its bank entry, SCHED_LEAD as its
lead, EPOCH_CFG.SKEW as its skew and the tag 0x8000 + 64 x bank + entry (while the unit takes no new epoch, as with CLEAR_N low,
the epoch is dropped at once and only its report stays: the model's choice, assumption 75); where one holds it, that override
takes the number and no epoch joins. At the boundary the pending bank becomes the active one, PENDING_BANK clears and
BANK_SWITCHED sets. -/
def Obligations.ScheduleSlotsTakeTheirNumbersAndBanks : Prop :=
  (∀ (s : State) (c : Schedule), s.schedule = some c → (∀ e, c.stopAt = some e → c.at_ < e) → EpochsDistinct s →
    ∃ t, exec .schedSlotGenerate s = .next t ∧ t.epochNumber = s.epochNumber + 1 ∧ t.epochPrev = some c.at_ ∧
      SameBytes s t ∧ SameRegsOff [epochPage, routePage, evtPage] s t ∧
      (epochsBarred s = true → (∀ e ∈ s.epochs, e.override = true → e.t = c.at_ → e.phase = .queued → e.num ≠ none) →
        (∀ e ∈ t.epochs, e.num ≠ some (s.epochNumber + 1) ∨ e ∈ s.epochs) ∧ ∃ r ∈ t.reports, r.num = s.epochNumber + 1 ∧ r.tag = 0x8000 + 64 * frontBank s c + c.next) ∧
      (epochsBarred s = false → (∀ e ∈ s.epochs, e.override = true → e.t = c.at_ → e.phase = .queued → e.num ≠ none) →
        t.epochSerial = s.epochSerial + 1 ∧
        ∃ e ∈ t.epochs, e.id = s.epochSerial ∧ e.num = some (s.epochNumber + 1) ∧ e.t = c.at_ ∧ e.scheduled = true ∧ e.override = false ∧
          e.preset = fld (bankEntry s (frontBank s c) c.next) 0 6 ∧ e.vplan = fld (bankEntry s (frontBank s c) c.next) 8 5 ∧
          e.lead = getF s Reg.SCHED_LEAD 0 13 ∧ e.skew = getF s Reg.EPOCH_CFG 0 6 ∧ e.tag = 0x8000 + 64 * frontBank s c + c.next ∧
          e.routed = anyMarked s) ∧
      (∀ e ∈ s.epochs, e.override = true → e.t = c.at_ → e.phase = .queued → e.num = none →
        t.epochSerial = s.epochSerial ∧ t.epochs.length = s.epochs.length ∧
        ∃ x ∈ t.epochs, x.override = true ∧ x.t = c.at_ ∧ x.num = some (s.epochNumber + 1))) ∧
  (∀ (s : State) (c : Schedule) (u : Nat), s.schedule = some c → c.switchAt = some u →
    ∃ t, exec .schedBankSwitched s = .next t ∧ activeBankOf t = 1 - activeBankOf s ∧ bankPending t = false ∧
      getBit t (Reg.INT_STATUS epochPage) 4 = true ∧ schedRunning t = schedRunning s ∧ SameBytes s t)

/-- While a preparation is pending, PREPARE and INVALIDATE of any preset only add one to ROUTE_PRESET_IGNORED and record their
preset. Otherwise PREPARE on the leader sets PENDING and a preparation of the preset is pending; on another member it answers
reason 3, with NET_K 0 reason 4. INVALIDATE is refused with reason 2 where the preset is in use; otherwise VALID clears. A
preparation that ends with a routing sets VALID, adds one to PRESET_GEN, wrapping, and shows OK; one whose routing failed leaves
VALID 0 with reason 1, and an offending port table with reason 5, PRESET_GEN standing. A write of ROUTE_NET (0 or 4 to 10) or
ROUTE_STAGE_MAP that changes it clears VALID of every preset, and none is taken while epochs are enabled or busy. A port mark
sets its one bit. -/
def Obligations.PresetsArePreparedAndInvalidated : Prop :=
  (∀ (req : Requester) (n : Fin 64) (s : State), WriteReaches req Reg.ROUTE_PRESET_CMD s → s.preparation ≠ none →
    ∃ t, exec (.prepare req n) s = .next t ∧ exec (.invalidate req n) s = .next t ∧
      getF t Reg.ROUTE_PRESET_IGNORED 0 16 = satInc 16 (getF s Reg.ROUTE_PRESET_IGNORED 0 16) ∧ getF t Reg.ROUTE_PRESET_IGNORED 16 6 = n.val ∧
      OnlyRegs [Reg.ROUTE_PRESET_IGNORED] s t) ∧
  (∀ (req : Requester) (n : Fin 64) (s : State), WriteReaches req Reg.ROUTE_PRESET_CMD s → s.preparation = none →
    (isLeader s = true → netK s ≠ 0 →
      ∃ t p, exec (.prepare req n) s = .next t ∧ reg t Reg.ROUTE_PRESET_RESULT = word (1 + 2 ^ 8 * n.val) ∧ t.preparation = some p ∧ p.preset = n.val ∧
        SameBytes s t ∧ SameRegsBut [Reg.ROUTE_PRESET_RESULT, Reg.ROUTE_STATUS] s t) ∧
    (isLeader s = false →
      ∃ t, exec (.prepare req n) s = .next t ∧ reg t Reg.ROUTE_PRESET_RESULT = word (4 * 3 + 2 ^ 8 * n.val) ∧ OnlyRegs [Reg.ROUTE_PRESET_RESULT] s t) ∧
    (isLeader s = true → netK s = 0 →
      ∃ t, exec (.prepare req n) s = .next t ∧ reg t Reg.ROUTE_PRESET_RESULT = word (4 * 4 + 2 ^ 8 * n.val) ∧ OnlyRegs [Reg.ROUTE_PRESET_RESULT] s t) ∧
    (queueRef s n = true ∨ schedRef s n = true →
      ∃ t, exec (.invalidate req n) s = .next t ∧ reg t Reg.ROUTE_PRESET_RESULT = word (4 * 2 + 2 ^ 8 * n.val) ∧
        OnlyRegs [Reg.ROUTE_PRESET_RESULT] s t) ∧
    (queueRef s n = false → schedRef s n = false →
      ∃ t, exec (.invalidate req n) s = .next t ∧ presetValid t n = false ∧ getBit t Reg.ROUTE_PRESET_RESULT 1 = true ∧
        (∀ a, a ∉ (List.range 4).map (fun i => presetAt n 0xF000 + i) → memByte t a = memByte s a) ∧
        SameRegsBut [Reg.ROUTE_PRESET_RESULT] s t)) ∧
  (∀ (s : State) (p : Preparation) (r : RouteResult), s.preparation = some p → p.job = .done → p.preset < 64 → p.result = some r → p.badPerm = none →
    (r.reason = 0 → ∃ t, exec .presetPreparationComplete s = .next t ∧ t.preparation = none ∧ presetValid t p.preset = true ∧
      presetGen t p.preset = (presetGen s p.preset + 1) % 65536 ∧ getBit t Reg.ROUTE_PRESET_RESULT 0 = false ∧
      getBit t Reg.ROUTE_PRESET_RESULT 1 = true ∧ t.epochs = s.epochs ∧ (∀ o, o < 0x1000 → memByte t (presetAt p.preset o) = memByte s (presetAt p.preset o))) ∧
    (r.reason ≠ 0 → ∃ t, exec .presetPreparationComplete s = .next t ∧ t.preparation = none ∧ presetValid t p.preset = false ∧
      fld (presetStatus t p.preset) 24 8 = 1 ∧ presetGen t p.preset = presetGen s p.preset ∧ getF t Reg.ROUTE_PRESET_RESULT 2 4 = 1 ∧
      OnlyRegs [Reg.ROUTE_PRESET_RESULT] { s with preparation := none, mem := t.mem } t)) ∧
  (∀ (s : State) (p : Preparation) (b : Nat × Nat), s.preparation = some p → p.job = .done → p.preset < 64 → p.badPerm = some b → b.1 < 2 ^ 11 → b.2 < 2 →
    ∃ t, exec .presetPreparationComplete s = .next t ∧ t.preparation = none ∧ presetValid t p.preset = false ∧
      fld (presetStatus t p.preset) 24 8 = 5 ∧ presetGen t p.preset = presetGen s p.preset ∧ getF t Reg.ROUTE_PRESET_RESULT 2 4 = 5 ∧ getF t Reg.ROUTE_FAIL 0 11 = b.1 ∧
      getF t Reg.ROUTE_FAIL 11 1 = b.2 ∧ getF t Reg.ROUTE_FAIL 12 3 = 5 ∧ reg t Reg.EPOCH_BAD_PERM = reg s Reg.EPOCH_BAD_PERM ∧
      SameRegsBut [Reg.ROUTE_PRESET_RESULT, Reg.ROUTE_FAIL] s t) ∧
  (∀ (req : Requester) (q : Nat) (v : Word) (s : State), q < 19 → WriteReaches req (Reg.ROUTE_STAGE_MAP q) s →
    (enabled s epochPage = true ∨ getBit s (Reg.STATUS epochPage) 1 = true ∨ s.preparation ≠ none →
      exec (.routeMapWrite req (BitVec.ofNat 28 (Reg.ROUTE_STAGE_MAP q)) v) s = .next s) ∧
    (enabled s epochPage = false → getBit s (Reg.STATUS epochPage) 1 = false → s.preparation = none → v &&& 0x01F301F3 = v →
        v ≠ reg s (Reg.ROUTE_STAGE_MAP q) →
      ∃ t, exec (.routeMapWrite req (BitVec.ofNat 28 (Reg.ROUTE_STAGE_MAP q)) v) s = .next t ∧ reg t (Reg.ROUTE_STAGE_MAP q) = v ∧
        (∀ n, n < 64 → presetValid t n = false) ∧ SameRegsBut [Reg.ROUTE_STAGE_MAP q] s t)) ∧
  (∀ (req : Requester) (k : Nat) (s : State), WriteReaches req Reg.ROUTE_NET s → k = 0 ∨ (4 ≤ k ∧ k ≤ 10) →
    (enabled s epochPage = true ∨ getBit s (Reg.STATUS epochPage) 1 = true ∨ s.preparation ≠ none →
      exec (.routeMapWrite req (BitVec.ofNat 28 Reg.ROUTE_NET) (word k)) s = .next s) ∧
    (enabled s epochPage = false → getBit s (Reg.STATUS epochPage) 1 = false → s.preparation = none → word k ≠ reg s Reg.ROUTE_NET →
      ∃ t, exec (.routeMapWrite req (BitVec.ofNat 28 Reg.ROUTE_NET) (word k)) s = .next t ∧ reg t Reg.ROUTE_NET = word k ∧
        (∀ n, n < 64 → presetValid t n = false) ∧ SameRegsBut [Reg.ROUTE_NET] s t)) ∧
  (∀ (req : Requester) (port : BitVec 10) (s : State), WriteReaches req Reg.ROUTE_PORT_MARK s →
    ∃ t, exec (.routePortMark req port) s = .next t ∧ portMarked t port.toNat = true ∧
      (∀ p, p < 1024 → p ≠ port.toNat → portMarked t p = portMarked s p) ∧ OnlyRegs [Reg.ROUTE_PORT_FAILED (port.toNat / 32)] s t)

/-- A routing that succeeds stages the member's cells (but for a schedule slot whose preset is no longer valid, which is dropped
with status 6); one that fails drops the epoch as UNROUTABLE with its fault. An epoch with stored states is staged from its
preset at T - 10 us, and one whose preset is no longer valid is dropped with status 6. At T - 2 us of a stand-alone device an
epoch not staged is dropped as MISSED with its fault and the light in service stands; a staged one commits: EPOCH_LAST_NUM and
EPOCH_LAST_T show it; while new epochs are barred it is dropped with status 1 instead. At T the epoch applies: its number and
instant stand as those applied last, and a report of status 0 with its tag follows. Each column's start marks the column as
started. A notice leaves the device once per epoch and only for one that has a number; a report goes to the log record and
EPOCH_LAST_STATUS, in order. -/
def Obligations.EpochTimelineFromStagingToReport : Prop :=
  (∀ (s : State) (e : Epoch) (r : RouteResult), EpochsDistinct s → s.epochs.find? (fun x => x.job == .running) = some e → e.result = some r →
    (r.reason = 0 → e.scheduled = true → e.override = false → presetValid s e.preset = false →
      ∃ t, exec .routeJobComplete s = .next t ∧ (∀ x ∈ t.epochs, x.id ≠ e.id) ∧ (∃ x ∈ t.reports, x.status = 6 ∧ x.tag = e.tag) ∧ SameBytes s t) ∧
    (r.reason = 0 → (e.scheduled = true → e.override = true ∨ presetValid s e.preset = true) →
      ∃ t, exec .routeJobComplete s = .next t ∧ SameBytes s t ∧
        ∃ x ∈ t.epochs, x.id = e.id ∧ x.job = .done ∧ x.staged = some (memberCells s (ringPos s) r)) ∧
    (r.reason ≠ 0 → r.reason < 8 → e.phase = .queued →
      ∃ t, exec .routeJobComplete s = .next t ∧ (∀ x ∈ t.epochs, x.id ≠ e.id) ∧ getBit t (Reg.FAULT_STATUS epochPage) 2 = true ∧
        getBit t (Reg.INT_STATUS epochPage) 2 = true ∧ getF t Reg.ROUTE_FAIL 12 3 = r.reason ∧
        (∃ x ∈ t.reports, x.status = 3 ∧ x.tag = e.tag ∧ x.reason = r.reason) ∧ SameBytes s t)) ∧
  (∀ (s : State) (e : Epoch), EpochsDistinct s →
    s.epochs.find? (fun x => !x.routed && x.staged.isNone && x.fixed && x.phase == .queued) = some e →
    (presetValid s e.preset = true →
      ∃ t, exec .epochStaging s = .next t ∧ (∃ x ∈ t.epochs, x.id = e.id ∧ x.staged = some (presetCells s e.preset)) ∧
        ∃ c es, t = { s with time := c, epochs := es }) ∧
    (presetValid s e.preset = false → e.follower = false →
      ∃ t, exec .epochStaging s = .next t ∧ (∀ x ∈ t.epochs, x.id ≠ e.id) ∧ (∃ r ∈ t.reports, r.status = 6 ∧ r.tag = e.tag) ∧ SameBytes s t)) ∧
  (∀ (s : State) (e : Epoch), EpochsDistinct s → s.epochs.find? (fun x => (x.fixed || x.job == .lost) && x.phase != .fast) = some e → e.phase = .queued →
      standAlone s = true → e.follower = false →
    (e.staged = none →
      ∃ t, exec .epochCommitDeadline s = .next t ∧ (∀ x ∈ t.epochs, x.id ≠ e.id) ∧ getBit t (Reg.FAULT_STATUS epochPage) 0 = true ∧
        (∃ r ∈ t.reports, r.status = 2 ∧ r.tag = e.tag) ∧ t.eo = s.eo ∧ t.lastApplied = s.lastApplied ∧ SameBytes s t) ∧
    (e.staged ≠ none → epochsBarred s = true →
      ∃ t, exec .epochCommitDeadline s = .next t ∧ (∀ x ∈ t.epochs, x.id ≠ e.id) ∧ (∃ r ∈ t.reports, r.status = 1 ∧ r.tag = e.tag) ∧
        t.eo = s.eo ∧ SameBytes s t) ∧
    (e.staged ≠ none → epochsBarred s = false → (∀ n, e.num = some n → n < 2 ^ 64) → e.t < 2 ^ 64 → s.epochNumber + 1 < 2 ^ 64 →
      ∃ t, exec .epochCommitDeadline s = .next t ∧ reg64 t Reg.EPOCH_LAST_T_LO = e.t ∧
        reg64 t Reg.EPOCH_LAST_NUM_LO = e.num.getD (s.epochNumber + 1) ∧ t.reports.length = s.reports.length ∧ SameBytes s t ∧
        ∃ x ∈ t.epochs, x.id = e.id ∧ x.phase = .fast ∧ x.applied = e.applied)) ∧
  (∀ (s : State) (e : Epoch), EpochsDistinct s → s.epochs.find? (fun x => x.phase == .fast && !x.applied) = some e → s.ring.handover = none →
    ∃ t, exec .epochInstant s = .next t ∧ t.lastApplied = some (e.num.getD 0, e.t) ∧ t.align.trim = reg s Reg.SHAPE_DEV_TRIM ∧
      (∃ x ∈ t.epochs, x.id = e.id ∧ x.applied = true ∧ x.started = e.started) ∧
      (∃ r, t.reports = s.reports ++ [r] ∧ r.status = 0 ∧ r.tag = e.tag ∧ r.num = e.num.getD 0 ∧ r.preset = e.preset)) ∧
  (∀ (col : Fin 10) (s : State) (e : Epoch), EpochsDistinct s → col.val < s.variant.columns →
      s.epochs.find? (fun x => x.applied && !x.started.contains col.val) = some e →
    ∃ t, exec (.transitionStart col) s = .next t ∧ (∃ x ∈ t.epochs, x.id = e.id ∧ x.started = col.val :: e.started) ∧ SameBytes s t ∧
      (∀ slot, slot / 256 ≠ col.val → channel t slot = channel s slot)) ∧
  (∀ s : State, EpochsDistinct s → isLeader s = true →
    (∀ e, s.epochs.find? (fun x => noticeDue s x) = some e →
      ∃ t, exec .noticeSend s = .next t ∧ (∃ x ∈ t.epochs, x.id = e.id ∧ x.noticeSent = true) ∧ e.num ≠ none ∧ SameBytes s t) ∧
    ((∀ e ∈ s.epochs, noticeDue s e = false) → exec .noticeSend s = .next s)) ∧
  (∀ (s : State) (r : Report) (l : List Report), s.reports = r :: l → r.status < 2 ^ 16 → r.tag < 2 ^ 16 →
    ∃ t, exec .epochReportSend s = .next t ∧ t.reports = l ∧ reg t Reg.EPOCH_LAST_STATUS = word (r.status + 2 ^ 16 * r.tag) ∧
      getF t Reg.EPOCH_LOG_WR 0 8 = (getF s Reg.EPOCH_LOG_WR 0 8 + 1) % 256 ∧ getBit t (Reg.INT_STATUS epochPage) 1 = true ∧
      (getF s Reg.EPOCH_LOG_BASE 14 10 * 0x4000 + 64 * getF s Reg.EPOCH_LOG_WR 0 8 < 0xC00000 → ∀ i, i < 64 → memByte t (sramAt (getF s Reg.EPOCH_LOG_BASE 14 10 * 0x4000 + 64 * getF s Reg.EPOCH_LOG_WR 0 8) + i) =
        ((reportPayload r)[i]?).getD 0) ∧
      (∀ a, a < sramAt (getF s Reg.EPOCH_LOG_BASE 14 10 * 0x4000 + 64 * getF s Reg.EPOCH_LOG_WR 0 8) ∨
          sramAt (getF s Reg.EPOCH_LOG_BASE 14 10 * 0x4000 + 64 * getF s Reg.EPOCH_LOG_WR 0 8) + 64 ≤ a ∨
          0xC00000 ≤ getF s Reg.EPOCH_LOG_BASE 14 10 * 0x4000 + 64 * getF s Reg.EPOCH_LOG_WR 0 8 → memByte t a = memByte s a))

/-- A channel in WAKE becomes READY with CLIPPED and BAD_LINK clear 1 us after WAKE began, or plays its pending jump then where
the limit of play groups leaves room; where it does not, the jump is dropped and counted. READY with no transition to come
passes to LINGER; one with a transition to come stays. At the end of a play the segment repeats until LOOP + 1 plays are
complete, always for LOOP 0xFF; then it follows NEXT where that is valid and the limit leaves room, and otherwise halts in
LINGER at the level of its last source sample, with BAD_LINK for an invalid successor; a pending jump that may begin is taken in
place of all this, and one that may not is gone. LINGER enters its exit ramp, and at the ramp's end the channel is in HOLD at
TO, or at the new level where one was committed meanwhile; a difference beyond 2 LSB counts END_MISMATCH. FROM and TO never
change in these, except by that direct step, and no other channel does. -/
def Obligations.SequencerFollowsItsStates : Prop :=
  (∀ (slot : Fin 2560) (s : State), (channel s slot).state = .wake →
    ((channel s slot).jump = none →
      ∃ t, exec (.wakeComplete slot) s = .next t ∧ OnlyChannel slot s t ∧
        channel t slot = { channel s slot with state := .ready, clipped := false, badLink := false, since := (channel s slot).since + 1000 } ∧
        t.regs = s.regs ∧ SameBytes s t) ∧
    (∀ j, (channel s slot).jump = some j →
      ∃ t, exec (.wakeComplete slot) s = .next t ∧ OnlyChannel slot s t ∧ SameBytes s t ∧ (channel t slot).jump = none ∧
        (channel t slot).lvlFrom = (channel s slot).lvlFrom ∧ (channel t slot).lvlTo = (channel s slot).lvlTo ∧
        (channel t slot).clipped = false ∧ (channel t slot).badLink = false ∧
        (mayBegin s slot j.target ((channel s slot).since + 1000) = true →
          (channel t slot).state = .play ∧ (channel t slot).seg = j.target ∧ (channel t slot).plays = 0 ∧
          (channel t slot).begun = (channel s slot).since + 1000 ∧ t.regs = s.regs) ∧
        (mayBegin s slot j.target ((channel s slot).since + 1000) = false →
          (channel t slot).state = .ready ∧ getBit t (Reg.INT_STATUS (slotCol slot.val)) 4 = true ∧
          getF t (Reg.EO_COL_COUNT_B (slot.val / 256)) 16 16 = satInc 16 (getF s (Reg.EO_COL_COUNT_B (slot.val / 256)) 16 16) ∧
          SameRegsBut [Reg.EO_COL_COUNT_B (slot.val / 256), Reg.INT_STATUS (slotCol slot.val)] s t))) ∧
  (∀ (slot : Fin 2560) (s : State), (channel s slot).state = .ready →
    ((channel s slot).changing = false →
      ∃ t e c, exec (.readyTimeout slot) s = .next t ∧ t = { s with eo := e, time := c } ∧ OnlyChannel slot s t ∧
        channel t slot = { channel s slot with state := .linger, since := (channel s slot).since + 2000 }) ∧
    ((channel s slot).changing = true → exec (.readyTimeout slot) s = .next s)) ∧
  (∀ (slot : Fin 2560) (s : State), (channel s slot).state = .play →
    ∃ t, exec (.segmentEnd slot) s = .next t ∧ OnlyChannel slot s t ∧ SameBytes s t ∧
      SameRegsBut [Reg.EO_COL_COUNT_A (slot.val / 256), Reg.EO_COL_COUNT_B (slot.val / 256), Reg.INT_STATUS (slotCol slot.val)] s t ∧
      (channel t slot).lvlFrom = (channel s slot).lvlFrom ∧ (channel t slot).lvlTo = (channel s slot).lvlTo ∧ (channel t slot).jump = none ∧
      ((∀ j, (channel s slot).jump = some j → mayBegin s slot j.target (playEnd s slot) = false) →
        (fld (dirWord s (channel s slot).seg 2) 16 8 = 0xFF ∨ (channel s slot).plays < fld (dirWord s (channel s slot).seg 2) 16 8 →
          (channel t slot).state = .play ∧ (channel t slot).seg = (channel s slot).seg ∧ (channel t slot).plays = (channel s slot).plays + 1) ∧
        (fld (dirWord s (channel s slot).seg 2) 16 8 ≠ 0xFF → fld (dirWord s (channel s slot).seg 2) 16 8 ≤ (channel s slot).plays →
          (fld (dirWord s (channel s slot).seg 2) 10 2 = 0 →
            (channel t slot).state = .linger ∧ (channel t slot).badLink = (channel s slot).badLink ∧
            (channel t slot).out = segLastLevel s (channel s slot).seg (channel s slot).lvlFrom (channel s slot).lvlTo) ∧
          (fld (dirWord s (channel s slot).seg 2) 10 2 = 1 →
            (segValid s (fld (dirWord s (channel s slot).seg 2) 0 10) = false →
              (channel t slot).state = .linger ∧ (channel t slot).badLink = true ∧
              (channel t slot).out = segLastLevel s (channel s slot).seg (channel s slot).lvlFrom (channel s slot).lvlTo) ∧
            (segValid s (fld (dirWord s (channel s slot).seg 2) 0 10) = true →
              (mayBegin s slot (fld (dirWord s (channel s slot).seg 2) 0 10) (playEnd s slot) = true →
                (channel t slot).state = .play ∧ (channel t slot).seg = fld (dirWord s (channel s slot).seg 2) 0 10 ∧ (channel t slot).plays = 0) ∧
              (mayBegin s slot (fld (dirWord s (channel s slot).seg 2) 0 10) (playEnd s slot) = false →
                (channel t slot).state = .linger ∧ getBit t (Reg.INT_STATUS (slotCol slot.val)) 4 = true))))) ∧
      (∀ j, (channel s slot).jump = some j → mayBegin s slot j.target (playEnd s slot) = true →
        (channel t slot).state = .play ∧ (channel t slot).seg = j.target ∧ (channel t slot).plays = 0)) ∧
  (∀ (slot : Fin 2560) (s : State),
    ((channel s slot).state = .linger → (channel s slot).changing = false → (channel s slot).exiting = false →
      ∃ t e c, exec (.lingerExpiry slot) s = .next t ∧ t = { s with eo := e, time := c } ∧ OnlyChannel slot s t ∧
        channel t slot = { channel s slot with exiting := true, since := (channel s slot).since + lingerTime s slot }) ∧
    ((channel s slot).state = .held → (channel s slot).heldFast = true →
      ∃ t e c, exec (.lingerExpiry slot) s = .next t ∧ t = { s with eo := e, time := c } ∧ OnlyChannel slot s t ∧
        channel t slot = { channel s slot with heldFast := false, since := (channel s slot).since + lingerTime s slot }) ∧
    ((channel s slot).state = .linger → (channel s slot).exiting = true →
      ∃ t, exec (.exitRampEnd slot) s = .next t ∧ OnlyChannel slot s t ∧ (channel t slot).state = .hold ∧ (channel t slot).exiting = false ∧
        OnlyRegs [Reg.EO_COL_COUNT_C (slot.val / 256)] { s with eo := t.eo, time := t.time } t ∧
        (mismatched (channel s slot).out (channel s slot).lvlTo = true →
          getF t (Reg.EO_COL_COUNT_C (slot.val / 256)) 16 16 = satInc 16 (getF s (Reg.EO_COL_COUNT_C (slot.val / 256)) 16 16)) ∧
        (mismatched (channel s slot).out (channel s slot).lvlTo = false → t.regs = s.regs) ∧
        ((channel s slot).due = false → (channel t slot).out = (channel s slot).lvlTo ∧ (channel t slot).lvlTo = (channel s slot).lvlTo ∧
          (channel t slot).lvlFrom = (channel s slot).lvlFrom) ∧
        ((channel s slot).due = true → (channel t slot).out = (channel s slot).target ∧ (channel t slot).lvlTo = (channel s slot).target ∧
          (channel t slot).lvlFrom = (channel s slot).target)))

/-- A host write of EO_CH_JUMP with a valid target, its own or the JUMP field of the segment last played, starts WAKE in HOLD
with the jump pending, becomes the pending jump in WAKE or PLAY where none waits, and plays at the next output sample in READY
and in LINGER, its exit ramp included, where the limit of play groups leaves room. It is dropped, adds one to JUMP_DROPPED and
sets the interrupt bit in STREAM, HELD and PARKED, under EO calibration, on a channel whose outputs are held through a reset
(the model's reading, assumption 42), with an invalid target, with DEFAULT while JUMP_EN is 0, and where a jump already waits,
since no source ranks below the host. An event on EO_JUMP_c is used up and asks each channel of the column's mask in the same
way, and no other channel; it replaces a waiting host jump. FROM and TO stand. EO_COL_COUNT_CLR clears the three counter words
of its column and nothing else. -/
def Obligations.JumpRequestsAreTakenKeptOrDropped : Prop :=
  (∀ (req : Requester) (slot : Fin 2560) (target : BitVec 10) (dflt : Bool) (s : State),
      WriteReaches req (Reg.EO_CH_JUMP (slot.val / 256) (slot.val % 256)) s →
    ∃ t, exec (.eoChJump req slot target dflt) s = .next t ∧ OnlyChannel slot s t ∧ SameBytes s t ∧
      (channel t slot).lvlFrom = (channel s slot).lvlFrom ∧ (channel t slot).lvlTo = (channel s slot).lvlTo ∧
      SameRegsBut [Reg.EO_COL_COUNT_A (slot.val / 256), Reg.EO_COL_COUNT_B (slot.val / 256), Reg.INT_STATUS (slotCol slot.val)] s t ∧
      ((channel s slot).state = .stream ∨ (channel s slot).state = .held ∨ (channel s slot).state = .parked ∨ underEoCal s slot = true ∨
          channelHeld s slot = true ∨ (dflt = false ∧ segValid s target.toNat = false) ∨
          (dflt = true ∧ bitOf (dirWord s (channel s slot).seg 3) 15 = false) ∨
          (((channel s slot).state = .play ∨ (channel s slot).state = .wake) ∧ (channel s slot).jump ≠ none) →
        channel t slot = channel s slot ∧ getBit t (Reg.INT_STATUS (slotCol slot.val)) 2 = true ∧
        getF t (Reg.EO_COL_COUNT_A (slot.val / 256)) 16 16 = satInc 16 (getF s (Reg.EO_COL_COUNT_A (slot.val / 256)) 16 16)) ∧
      (∀ q, jumpTarget s slot target.toNat dflt = some q → segValid s q = true → underEoCal s slot = false → channelHeld s slot = false →
        ((channel s slot).state = .hold →
          channel t slot = { channel s slot with state := .wake, since := s.time.uptime, jump := some ⟨q, .host⟩ } ∧ t.regs = s.regs) ∧
        ((channel s slot).state = .wake → (channel s slot).jump = none →
          channel t slot = { channel s slot with jump := some ⟨q, .host⟩ } ∧ t.regs = s.regs) ∧
        ((channel s slot).state = .play → (channel s slot).jump = none → (∀ x, (channel s slot).took = some x → x.1 ≠ shapeCycle s) →
          channel t slot = { channel s slot with jump := some ⟨q, .host⟩ } ∧ t.regs = s.regs) ∧
        ((channel s slot).state = .ready ∨ (channel s slot).state = .linger → mayBegin s slot q (nextSample s) = true →
          (channel t slot).state = .play ∧ (channel t slot).seg = q ∧ (channel t slot).plays = 0 ∧ (channel t slot).begun = nextSample s))) ∧
  (∀ (col : Fin 10) (s s1 : State) (g : Nat), takeEvent col s = some (g, s1) →
    ∃ t, exec (.eoJump col) s = .next t ∧ t.evt = s1.evt ∧ SameBytes s t ∧
      (∀ n, n ∉ eventSlots s col → channel t n = channel s n) ∧
      (∀ n, n ∈ eventSlots s col → (channel t n).lvlFrom = (channel s n).lvlFrom ∧ (channel t n).lvlTo = (channel s n).lvlTo) ∧
      (getBit s (Reg.EO_EVT_JUMP col) 15 = false → segValid s (getF s (Reg.EO_EVT_JUMP col) 0 10) = true →
        ∀ n, n ∈ eventSlots s col → underEoCal s n = false → channelHeld s n = false →
          ((channel s n).state = .hold →
            channel t n = { channel s n with
              state := .wake, since := s1.time.uptime, jump := some ⟨getF s (Reg.EO_EVT_JUMP col) 0 10, .event⟩ }) ∧
          ((channel s n).state = .play → (∀ x, (channel s n).took = some x → x.1 ≠ shapeCycle s1) →
            ((∀ j, (channel s n).jump = some j → j.source = .host) →
              channel t n = { channel s n with jump := some ⟨getF s (Reg.EO_EVT_JUMP col) 0 10, .event⟩ }) ∧
            (∀ j, (channel s n).jump = some j → j.source ≠ .host → channel t n = channel s n)))) ∧
  (∀ (req : Requester) (col : Fin 10) (s : State), WriteReaches req (Reg.EO_COL_COUNT_CLR col) s →
    ∃ t, exec (.eoColCountClr req col) s = .next t ∧ reg t (Reg.EO_COL_COUNT_A col) = 0 ∧ reg t (Reg.EO_COL_COUNT_B col) = 0 ∧
      reg t (Reg.EO_COL_COUNT_C col) = 0 ∧ OnlyRegs [Reg.EO_COL_COUNT_A col, Reg.EO_COL_COUNT_B col, Reg.EO_COL_COUNT_C col] s t)

/-- A write of word 0 with VALID = 1 to an invalid entry sets VALID where START + LEN_M1 is at most 1,048,575 and STEP lies
between 0x0400 and 0x8000; otherwise VALID stays 0 and REASON is 2 for the range, whatever the step, or else 3. One with VALID =
0 only stores the word. A write to a valid entry, and a library write any byte of which a valid segment protects, changes
nothing but SHAPE_IGNORED: one more, with the lowest segment that protects it. An unprotected library write stores its bytes and
nothing else. INVALIDATE is refused with reason 1 while the segment is referenced, and otherwise clears VALID and nothing else
of the directory. -/
def Obligations.SegmentsAreValidatedAndProtected : Prop :=
  (∀ (req : Requester) (seg : BitVec 10) (data : Word) (s : State), WriteReaches req (Reg.SHAPE_DIR (4 * seg.toNat)) s →
    (segValid s seg.toNat = true →
      ∃ t, exec (.segmentValidate req seg data) s = .next t ∧ getF t Reg.SHAPE_IGNORED 0 16 = satInc 16 (getF s Reg.SHAPE_IGNORED 0 16) ∧
        getF t Reg.SHAPE_IGNORED 16 10 = seg.toNat ∧ OnlyRegs [Reg.SHAPE_IGNORED] s t) ∧
    (segValid s seg.toNat = false → bitOf data 31 = false →
      ∃ t, exec (.segmentValidate req seg data) s = .next t ∧ segValid t seg.toNat = false ∧ segStart t seg.toNat = fld data 0 20 ∧
        OnlyRegs [Reg.SHAPE_DIR (4 * seg.toNat)] s t) ∧
    (segValid s seg.toNat = false → bitOf data 31 = true →
      (fld data 0 20 + segLen s seg.toNat ≤ 1048576 → 0x400 ≤ segStep s seg.toNat → segStep s seg.toNat ≤ 0x8000 →
        ∃ t, exec (.segmentValidate req seg data) s = .next t ∧ segValid t seg.toNat = true ∧ segStart t seg.toNat = fld data 0 20 ∧
          reg t Reg.SHAPE_DIR_RESULT = word (1 + 2 ^ 16 * seg.toNat) ∧
          OnlyRegs [Reg.SHAPE_DIR (4 * seg.toNat), Reg.SHAPE_DIR_RESULT] s t) ∧
      (1048576 < fld data 0 20 + segLen s seg.toNat →
        ∃ t, exec (.segmentValidate req seg data) s = .next t ∧ segValid t seg.toNat = false ∧
          reg t Reg.SHAPE_DIR_RESULT = word (2 * 2 + 2 ^ 16 * seg.toNat) ∧
          OnlyRegs [Reg.SHAPE_DIR (4 * seg.toNat), Reg.SHAPE_DIR_RESULT] s t) ∧
      (fld data 0 20 + segLen s seg.toNat ≤ 1048576 → segStep s seg.toNat < 0x400 ∨ 0x8000 < segStep s seg.toNat →
        ∃ t, exec (.segmentValidate req seg data) s = .next t ∧ segValid t seg.toNat = false ∧
          reg t Reg.SHAPE_DIR_RESULT = word (2 * 3 + 2 ^ 16 * seg.toNat) ∧
          OnlyRegs [Reg.SHAPE_DIR (4 * seg.toNat), Reg.SHAPE_DIR_RESULT] s t))) ∧
  (∀ (req : Requester) (addr : BitVec 28) (size : AccessSize) (data : DWord) (o : Nat) (s : State), WriteReaches req addr.toNat s →
      decodeAddr s.variant addr.toNat = .shape o → decodeFails s addr.toNat size.bytes true = false →
    (∀ k, protector s o size.bytes = some k →
      segValid s k = true ∧ (∀ j, j < k → segTouches s o size.bytes j = false) ∧
      ∃ t, exec (.shapeLibraryWrite req addr size data) s = .next t ∧ getF t Reg.SHAPE_IGNORED 16 10 = k ∧
        getF t Reg.SHAPE_IGNORED 0 16 = satInc 16 (getF s Reg.SHAPE_IGNORED 0 16) ∧ OnlyRegs [Reg.SHAPE_IGNORED] s t) ∧
    (protector s o size.bytes = none →
      ∃ t, exec (.shapeLibraryWrite req addr size data) s = .next t ∧
        (∀ i, i < size.bytes → memByte t (addr.toNat + i) = byteOf data.toNat i) ∧
        (∀ a, a < addr.toNat ∨ addr.toNat + size.bytes ≤ a → memByte t a = memByte s a) ∧ ∃ m, t = { s with mem := m })) ∧
  (∀ (req : Requester) (seg : BitVec 10) (s : State), WriteReaches req Reg.SHAPE_DIR_CMD s →
    (segReferenced s seg.toNat = true →
      ∃ t, exec (.shapeDirInvalidate req seg) s = .next t ∧ segValid t seg.toNat = segValid s seg.toNat ∧
        reg t Reg.SHAPE_DIR_RESULT = word (2 + 2 ^ 16 * seg.toNat) ∧ OnlyRegs [Reg.SHAPE_DIR_RESULT] s t) ∧
    (segReferenced s seg.toNat = false →
      ∃ t, exec (.shapeDirInvalidate req seg) s = .next t ∧ segValid t seg.toNat = false ∧ segStart t seg.toNat = segStart s seg.toNat ∧
        reg t Reg.SHAPE_DIR_RESULT = word (1 + 2 ^ 16 * seg.toNat) ∧
        OnlyRegs [Reg.SHAPE_DIR (4 * seg.toNat), Reg.SHAPE_DIR_RESULT] s t))

/-- GO sets only REFUSED for a stream that is not idle, a slot that is absent or UNUSED, a PARKED channel, one under EO
calibration or held through a reset, a channel that another stream holds, a step or a length out of range, and while a throttle
forbids it; otherwise the stream begins to fill, with its flags clear. At its start with 16 KiB or more in the queue it plays
and its channel is in STREAM; with less it is an underrun. An underrun holds the channel in HELD, sets UNDERRUN and INVALID,
counts and raises its interrupt bit. The end of the last repetition, and ABORT of a playing stream, hold the channel, show state
4 and set STREAM_END; ABORT of a waiting one makes it idle. RELEASE makes the stream idle and takes a HELD channel to HOLD at
its target level. A SIPHON_START event starts every stream armed for it, and with none it is lost and counted. -/
def Obligations.SiphonStreamsAreArmedPlayedAndHeld : Prop :=
  (∀ (req : Requester) (n : Fin 32) (s : State), WriteReaches req (Reg.SIPH_CMD n) s →
    (streamState s n ≠ 0 ∨ role s (streamSlot s n) = roleUnused ∨ (channel s (streamSlot s n)).state = .parked ∨
        underEoCal s (streamSlot s n) = true ∨ channelHeld s (streamSlot s n) = true ∨ streamOn s (streamSlot s n) ≠ none ∨
        getF s (Reg.SIPH_STEP n) 0 16 < 0x400 ∨ 0x4000 < getF s (Reg.SIPH_STEP n) 0 16 ∨
        (getBit s (Reg.SIPH_CFG n) 12 = true ∧ 0x2000 < getF s (Reg.SIPH_STEP n) 0 16) ∨ reg s (Reg.SIPH_LEN n) = 0 ∨
        (reg s (Reg.SIPH_LEN n)).toNat % 32 ≠ 0 ∨ ¬ streamSlot s n < s.variant.slots ∨ throttle s 0 = true →
      ∃ t, exec (.go req n) s = .next t ∧ getBit t (Reg.SIPH_STATUS n) 6 = true ∧ streamState t n = streamState s n ∧
        OnlyRegs [Reg.SIPH_STATUS n] s t) ∧
    (streamState s n = 0 → goRefused s n = false →
      ∃ t, exec (.go req n) s = .next t ∧ streamState t n = 1 ∧
        getF t (Reg.SIPH_STATUS n) 3 4 = 0 ∧ getBit t Reg.SIPH_ACTIVE n = true ∧ OnlyRegs [Reg.SIPH_STATUS n, Reg.SIPH_ACTIVE] s t) ∧
    (streamState s n = 3 →
      ∃ t, exec (.abort req n) s = .next t ∧ streamState t n = 4 ∧ (channel t (streamSlot s n)).state = .held ∧
        getBit t (Reg.INT_STATUS siphonPage) 0 = true ∧ getBit t Reg.SIPH_ACTIVE n = false ∧ OnlyChannel (streamSlot s n) s t ∧ SameBytes s t) ∧
    (streamState s n = 1 ∨ streamState s n = 2 →
      ∃ t, exec (.abort req n) s = .next t ∧ streamState t n = 0 ∧ getBit t Reg.SIPH_ACTIVE n = false ∧
        OnlyRegs [Reg.SIPH_STATUS n, Reg.SIPH_ACTIVE] s t) ∧
    (streamState s n = 4 →
      ∃ t, exec (.release req n) s = .next t ∧ streamState t n = 0 ∧
        ((channel s (streamSlot s n)).state = .held →
          (channel t (streamSlot s n)).state = .hold ∧ (channel t (streamSlot s n)).out = (channel s (streamSlot s n)).target) ∧
        ((channel s (streamSlot s n)).state ≠ .held → t.eo = s.eo) ∧
        OnlyChannel (streamSlot s n) s t ∧ OnlyRegs [Reg.SIPH_STATUS n, Reg.SIPH_ACTIVE] { s with eo := t.eo } t)) ∧
  (∀ (n : Fin 32) (fill : Nat) (s : State), streamState s n = 1 → getF s (Reg.SIPH_CFG n) 14 2 ≠ 2 →
    (16 ≤ fill → ∃ t, exec (.siphonStreamStart n fill) s = .next t ∧ streamState t n = 3 ∧ (channel t (streamSlot s n)).state = .stream ∧
      OnlyChannel (streamSlot s n) s t ∧ SameBytes s t) ∧
    (fill < 16 → ∃ t, exec (.siphonStreamStart n fill) s = .next t ∧ streamState t n = 4 ∧ (channel t (streamSlot s n)).state = .held ∧
      getBit t (Reg.SIPH_STATUS n) 3 = true ∧ getBit t (Reg.SIPH_STATUS n) 4 = true ∧ getBit t (Reg.INT_STATUS siphonPage) 1 = true ∧
      getF t Reg.SIPH_UNDERRUNS 0 16 = satInc 16 (getF s Reg.SIPH_UNDERRUNS 0 16))) ∧
  (∀ (fills : List StreamFill) (s s1 : State) (g : Nat), takeEvent 10 s = some (g, s1) →
    (∀ n, n < 32 → streamState s n = 1 → getF s (Reg.SIPH_CFG n) 14 2 = 2 → (∀ f ∈ fills, f.stream = n → 16 ≤ f.fill) →
      ∃ t, exec (.siphonStart fills) s = .next t ∧ streamState t n = 3) ∧
    ((∀ n, n < 32 → streamState s n = 1 → getF s (Reg.SIPH_CFG n) 14 2 ≠ 2) →
      ∃ t, exec (.siphonStart fills) s = .next t ∧ t.evt = s1.evt ∧ getBit t (Reg.EVT_TASK_STAT 5) 15 = true ∧
        getBit t (Reg.INT_STATUS evtPage) 1 = true ∧ t.eo = s.eo)) ∧
  (∀ (n : Fin 32) (position reps : Nat) (s : State), streamState s n = 3 →
    ∃ t, exec (.siphonUnderrun n position reps) s = .next t ∧ streamState t n = 4 ∧ (channel t (streamSlot s n)).state = .held ∧
      (channel t (streamSlot s n)).out = streamLevel s n position ∧ getBit t (Reg.SIPH_STATUS n) 3 = true ∧
      getBit t (Reg.SIPH_STATUS n) 4 = true ∧ getBit t (Reg.INT_STATUS siphonPage) 1 = true ∧
      getF t Reg.SIPH_UNDERRUNS 0 16 = satInc 16 (getF s Reg.SIPH_UNDERRUNS 0 16) ∧ OnlyChannel (streamSlot s n) s t ∧ SameBytes s t) ∧
  (∀ (n : Fin 32) (s : State), streamState s n = 3 → getF s (Reg.SIPH_REPEAT n) 0 16 ≠ 0xFFFF →
    ∃ t, exec (.siphonEnd n) s = .next t ∧ streamState t n = 4 ∧ (channel t (streamSlot s n)).state = .held ∧
      getBit t (Reg.INT_STATUS siphonPage) 0 = true ∧ getF t (Reg.SIPH_STATUS n) 16 16 = getF s (Reg.SIPH_REPEAT n) 0 16 + 1 ∧
      OnlyChannel (streamSlot s n) s t ∧ SameBytes s t)

/-- SKEW_CAL on the leader sets BUSY, clears DONE, shows the loop delay and keeps the first pass's measurement; on another
member nothing changes, until the leader's measurement comes and begins it there. Its end clears BUSY, sets DONE and the
interrupt bit; this member's two offsets agree within 10 ps or CAL_DISAGREE sets; SHAPE_DEV_TRIM becomes minus the second offset
only where every member agrees, and stands otherwise. The leader emits a SYNC pulse at the first SHAPE edge at or after the next
whole millisecond, and notes its delay; no other millisecond has one now, and no other member emits it. An arrival clears
NO_SYNC; sixteen departures whose mean passes 50 ps set SKEW_DRIFT; every member but the leader passes the pulse on. A pulse
that is missing for 2 ms sets NO_SYNC. EO_CAL_CMD.START is refused for a SWITCH or ATTEN slot without DARK_OK, while a
calibration runs in the column and while outputs are forced to park, and otherwise sets BUSY with the tier. At its end the two
runs that agree give EO_BAR and EO_CROSS in both copies; runs that disagree, or found no extreme, leave every level word. -/
def Obligations.AlignmentAndLevelCalibration : Prop :=
  (∀ (req : Requester) (m : SkewMeasure) (s : State), WriteReaches req Reg.SHAPE_ALIGN_CTRL s →
    (isLeader s = true → ∃ t, exec (.skewCal ⟨req, m⟩) s = .next t ∧ getBit t Reg.SHAPE_ALIGN_STATUS 0 = true ∧
      getBit t Reg.SHAPE_ALIGN_STATUS 1 = false ∧ getF t Reg.SHAPE_LOOP_DELAY 0 16 = m.loopDelay.toNat ∧
      t.align.first = some (m.loopDelay.toNat, m.rpts.map BitVec.toNat) ∧ SameRegsBut [Reg.SHAPE_ALIGN_STATUS, Reg.SHAPE_LOOP_DELAY] s t ∧ SameBytes s t) ∧
    (isLeader s = false → exec (.skewCal ⟨req, m⟩) s = .next s)) ∧
  (∀ (p : Fin 4) (m : SkewMeasure) (s : State), ringHears s p = true → ringLeader s = false → leaderPos s = p.val →
    ∃ t, exec (.skewCalMessage p (.measure m)) s = .next t ∧ getBit t Reg.SHAPE_ALIGN_STATUS 0 = true ∧ getBit t Reg.SHAPE_ALIGN_STATUS 1 = false ∧
      t.align.first = some (m.loopDelay.toNat, m.rpts.map BitVec.toNat) ∧ SameRegsBut [Reg.SHAPE_ALIGN_STATUS] s t ∧ SameBytes s t) ∧
  (∀ (m : SkewMeasure) (a1 a2 : Int) (others : Bool) (s : State) (x : Nat × List Nat), getBit s Reg.SHAPE_ALIGN_STATUS 0 = true → s.align.first = some x →
    ∃ t b, exec (.skewCalComplete m a1 a2 others) s = .next t ∧ b = arrivalOffset s m.loopDelay.toNat (m.rpts.map BitVec.toNat) a2 ∧
      getBit t Reg.SHAPE_ALIGN_STATUS 0 = false ∧ getBit t Reg.SHAPE_ALIGN_STATUS 1 = true ∧ getBit t (Reg.INT_STATUS (colPage 0)) 8 = true ∧
      getBit t Reg.SHAPE_ALIGN_STATUS 2 = !thetaAgree (arrivalOffset s x.1 x.2 a1) b ∧
      (thetaAgree (arrivalOffset s x.1 x.2 a1) b = true → others = true → getF t Reg.SHAPE_DEV_TRIM 0 16 = unsignedOf 16 (-b)) ∧
      (thetaAgree (arrivalOffset s x.1 x.2 a1) b = false ∨ others = false → reg t Reg.SHAPE_DEV_TRIM = reg s Reg.SHAPE_DEV_TRIM) ∧
      SameRegsBut [Reg.SHAPE_ALIGN_STATUS, Reg.SHAPE_DEV_TRIM, Reg.SHAPE_LOOP_DELAY, Reg.INT_STATUS (colPage 0)] s t ∧ t.align.trim = s.align.trim ∧
      t.align.first = none ∧ SameBytes s t) ∧
  (∀ (n : Nat) (s : State), isLeader s = false ∨ syncPasses s = false ∨ s.time.running = false ∨ n ≠ ptpNow s / 1000000 + 1 →
    exec (.syncEmit n) s = .next s) ∧
  (∀ (s u : State) (n ms : Nat), isLeader s = true → syncPasses s = true → s.time.running = true → n = ptpNow s / 1000000 + 1 →
      ms = n * 1000000 → u = advanceTo ms s →
    ∃ t, exec (.syncEmit n) s = .next t ∧ t.out = .syncPulse :: s.out ∧ t.time = (advanceUptime (4 * ceilDiv u.time.uptime 4) u).time ∧
      t.ring.epsilon = (openDiv (t.time.total - ms * 2 ^ 32 : Nat) (2 ^ 26)).toNat ∧ t.align.pulse = some (t.time.uptime, ms) ∧
      t.regs = s.regs ∧ SameBytes s t) ∧
  (∀ (arrival : Int) (s : State), syncPasses s = true →
    ∃ t, exec (.syncArrival arrival) s = .next t ∧ getBit t Reg.SHAPE_ALIGN_STATUS 4 = false ∧ t.align.last = s.time.uptime ∧ SameBytes s t ∧
      SameRegsBut [Reg.SHAPE_ALIGN_STATUS, Reg.SHAPE_SYNC_OFFSET, Reg.INT_STATUS (colPage 0)] s t ∧
      (isLeader s = false → Emission.syncPulse ∈ t.out) ∧
      (s.align.skip = false →
        t.align.departures = (departure s arrival :: s.align.departures).take 16 ∧
        (15 ≤ s.align.departures.length → 50000 * 16 < absI ((departure s arrival :: s.align.departures).take 16).sum * 15625 →
          getBit t Reg.SHAPE_ALIGN_STATUS 3 = true ∧ getBit t (Reg.INT_STATUS (colPage 0)) 9 = true))) ∧
  (∀ s : State, syncPasses s = true →
    ∃ t, exec .noSync s = .next t ∧ getBit t Reg.SHAPE_ALIGN_STATUS 4 = true ∧ OnlyRegs [Reg.SHAPE_ALIGN_STATUS] { s with time := t.time } t) ∧
  (∀ (req : Requester) (col : Fin 10) (tier : Fin 256) (dark m : Bool) (s : State), WriteReaches req (Reg.EO_CAL_CMD col) s →
    ((driven s (256 * col.val + tier.val) = true ∧ dark = false) ∨ SMap.get (fun _ => none) s.eoCal col.val ≠ none ∨ parkForced s = true →
      ∃ t, exec (.eoCalStart req col tier dark m) s = .next t ∧ getBit t (Reg.EO_CAL_STATUS col) 3 = true ∧ OnlyRegs [Reg.EO_CAL_STATUS col] s t) ∧
    (driven s (256 * col.val + tier.val) = false ∨ dark = true → SMap.get (fun _ => none) s.eoCal col.val = none → parkForced s = false →
      ∃ t, exec (.eoCalStart req col tier dark m) s = .next t ∧ reg t (Reg.EO_CAL_STATUS col) = word (1 + 256 * tier.val) ∧
        underEoCal t (256 * col.val + tier.val) = true ∧ SameBytes s t)) ∧
  (∀ (col : Fin 10) (r1 r2 : SweepRun) (s : State) (c : EoCal), SMap.get (fun _ => none) s.eoCal col.val = some c → c.tier < 256 →
    ∃ t, exec (.eoCalComplete col r1 r2) s = .next t ∧ SMap.get (fun _ => none) t.eoCal col.val = none ∧
      getBit t (Reg.INT_STATUS (colPage col)) 0 = true ∧ getBit t (Reg.EO_CAL_STATUS col) 0 = false ∧ getBit t (Reg.EO_CAL_STATUS col) 1 = true ∧
      getF t (Reg.EO_CAL_STATUS col) 8 8 = c.tier ∧ SameBytes s t ∧
      (runExtremes r1 = none ∨ runExtremes r2 = none → getBit t (Reg.EO_CAL_STATUS col) 4 = true ∧ getBit t (Reg.EO_CAL_STATUS col) 2 = true ∧ t.active = s.active ∧ t.eo = s.eo) ∧
      (∀ a b, runExtremes r1 = some a → runExtremes r2 = some b →
        (extremesAgree a.1 b.1 = false ∨ extremesAgree a.2 b.2 = false →
          getBit t (Reg.EO_CAL_STATUS col) 2 = true ∧ getBit t (Reg.EO_CAL_STATUS col) 4 = false ∧ t.active = s.active ∧ t.eo = s.eo) ∧
        (extremesAgree a.1 b.1 = true → extremesAgree a.2 b.2 = true →
          getBit t (Reg.EO_CAL_STATUS col) 2 = false ∧
          reg t (Reg.EO_BAR (256 * col.val + c.tier)) = (if c.maxIsCross then calLevel a.2 b.2 else calLevel a.1 b.1) ∧
          act t (Reg.EO_BAR (256 * col.val + c.tier)) = reg t (Reg.EO_BAR (256 * col.val + c.tier)) ∧
          reg t (Reg.EO_CROSS (256 * col.val + c.tier)) = (if c.maxIsCross then calLevel a.1 b.1 else calLevel a.2 b.2) ∧
          act t (Reg.EO_CROSS (256 * col.val + c.tier)) = reg t (Reg.EO_CROSS (256 * col.val + c.tier)))))

/-- At a frame start the on-time n, the old accumulator a, the new one a' and the magnitude m in force satisfy 64 n + a' = m + a
with a' below 64, so no part of a code is lost and 64 frames of one magnitude mean m / 64 clocks exactly; of the registers only
that output's accumulator can change. HA's frame start takes the code for both outputs. An opened slot and a latched output give
magnitude 0, and no slot drives both outputs. A host code is taken, with the uptime of its arrival, only while row 7 governs and
the cell is in manual; otherwise HOST_IGNORED counts it and every code stands. With no measurement of VHTR nothing is scaled and
HTR_TOTAL_MW reads zero; with a sum within the budget nothing is scaled; beyond it BUDGET_LIMIT sets, k times the sum does not
exceed 65,536 times the budget, the frame counts, and the first such frame raises interrupt and fault. -/
def Obligations.HeaterFramesCarryTheirCodesInTheMean : Prop :=
  (∀ (col : Fin 10) (h : Fin 512) (s : State), col.val < s.variant.columns →
    ∃ t n, exec (.pwmFrameStart col h) s = .next t ∧ SMap.get (fun _ => 0) t.onTime (512 * col.val + h.val) = n ∧
      64 * n + getF t (Reg.HTR_ACC col (h.val / 2)) (accLow h.val) 6 =
        scaledMag s (magOf s col h (startCode s col h (nextFrame s col h))) + getF s (Reg.HTR_ACC col (h.val / 2)) (accLow h.val) 6 ∧
      (frame t col h).map HeaterFrame.mag = some (scaledMag s (magOf s col h (startCode s col h (nextFrame s col h)))) ∧
      getF t (Reg.HTR_ACC col (h.val / 2)) (accLow (h.val + 1)) 6 = getF s (Reg.HTR_ACC col (h.val / 2)) (accLow (h.val + 1)) 6 ∧
      (∀ k, k ≠ 512 * col.val + h.val → SMap.get (fun _ => 0) t.onTime k = SMap.get (fun _ => 0) s.onTime k) ∧
      (h.val % 2 = 0 → heater t (256 * col.val + h.val / 2) =
          { heater s (256 * col.val + h.val / 2) with taken := codeFrom s (256 * col.val + h.val / 2) t.time.uptime }) ∧
      (∀ n, h.val % 2 = 1 ∨ n ≠ 256 * col.val + h.val / 2 → heater t n = heater s n) ∧ SameBytes s t ∧
      SameRegsBut [Reg.HTR_ACC col (h.val / 2)] s t) ∧
  (∀ (s : State) (slot : Nat),
    (lockedOut s = true ∨ thermalDown s = true ∨ bankFlag s (slot / 256) (slot % 256) = true → slotMags s slot = (0, 0)) ∧
    (latched s (slot / 256) (2 * (slot % 256)) = true → (slotMags s slot).1 = 0) ∧
    (latched s (slot / 256) (2 * (slot % 256) + 1) = true → (slotMags s slot).2 = 0) ∧
    (role s slot = roleUnused → (heater s slot).held = none → slotMags s slot = (0, 0)) ∧ ((slotMags s slot).1 = 0 ∨ (slotMags s slot).2 = 0)) ∧
  (∀ (req : Requester) (slot : Fin 2560) (code : BitVec 16) (s : State), WriteReaches req (Reg.HTR_HOST (slot.val / 256) (slot.val % 256)) s →
    (rowSeven s slot = true → cellAuto s (slot.val / 4) = false →
      ∃ t, exec (.htrHostWrite req slot code) s = .next t ∧ (heater t slot).code = code.toNat ∧ (heater t slot).source = .host ∧ (heater t slot).arrived = s.time.uptime ∧
        (heater t slot).held = (heater s slot).held ∧ (∀ n, n ≠ slot.val → heater t n = heater s n) ∧ (loopCell t (slot.val / 4)).hostWrote = true ∧
        (limitedMags s slot code.toNat = magnitudes (bipolar s slot) code.toNat → t.regs = s.regs) ∧
        SameRegsBut [Reg.HTR_COUNT_A (slot.val / 256)] s t ∧ SameBytes s t) ∧
    (rowSeven s slot = false ∨ cellAuto s (slot.val / 4) = true →
      ∃ t, exec (.htrHostWrite req slot code) s = .next t ∧
        getF t (Reg.HTR_COUNT_A (slot.val / 256)) 16 16 = satInc 16 (getF s (Reg.HTR_COUNT_A (slot.val / 256)) 16 16) ∧
        OnlyRegs [Reg.HTR_COUNT_A (slot.val / 256)] s t)) ∧
  (∀ (s u : State) (total : Rat), u = advanceUptime (ceilDiv s.time.uptime 2048 * 2048) s →
      total = ((List.range s.variant.columns).map (colPower u (getF s (Reg.PWR_RAIL_MV 5) 0 16))).sum →
    ∃ t, exec .budgetEvaluation s = .next t ∧ t.heaters = s.heaters ∧ t.onTime = s.onTime ∧
      (getF s (Reg.PWR_RAIL_MV 5) 0 16 = 0 → scaling t = false ∧ reg t Reg.HTR_TOTAL_MW = 0) ∧
      (getF s (Reg.PWR_RAIL_MV 5) 0 16 ≠ 0 → total ≤ (effectiveBudget s (getF s (Reg.PWR_RAIL_MV 5) 0 16) : Rat) →
        scaling t = false ∧ reg t Reg.HTR_LIMITED_FRAMES = reg s Reg.HTR_LIMITED_FRAMES) ∧
      (getF s (Reg.PWR_RAIL_MV 5) 0 16 ≠ 0 → (effectiveBudget s (getF s (Reg.PWR_RAIL_MV 5) 0 16) : Rat) < total →
        scaling t = true ∧ (scaleK t : Rat) * total ≤ 65536 * (effectiveBudget s (getF s (Reg.PWR_RAIL_MV 5) 0 16) : Rat) ∧
        getF t Reg.HTR_LIMITED_FRAMES 0 32 = satInc 32 (getF s Reg.HTR_LIMITED_FRAMES 0 32) ∧
        (scaling s = false → getBit t (Reg.INT_STATUS (colPage 0)) 19 = true ∧ getBit t (Reg.FAULT_STATUS (colPage 0)) 6 = true)))

/-- A visit of the output at which its bank's scan stands stores the resistance V / I with VALID and sets a check's bit only
where it failed on this visit and on the one before; codes and on-times stand. A switch that limits sets its output's latch,
counts it, raises interrupt and fault, and the output is open from then on. A hot bank sets its flag, raises both, and every
output of the bank is open. HTR_FAULT_CLR clears the bits of the outputs it names and the flags of banks no longer hot, and no
other output's. HTR_COUNT_CLR clears the two counter words. A read-back calibration is refused while one runs in the column or
CLEAR_N is low; otherwise every slot of the column but the UNUSED ones holds the code that drives it below rows 1 to 3, and the
column's cells are STALE. At its end outputs that agree take their value, a disagreement leaves every HTR_RCAL and names the
first tier, and the holds end. -/
def Obligations.ReadBackFlagsAndProtectionOpens : Prop :=
  (∀ (col : Fin 10) (h : Fin 512) (r : ReadBack) (s : State), nextVisit s col (h.val / 128) = some h.val →
    ∃ t, exec (.readbackVisit col h r) s = .next t ∧ getBit t (rbAddr col h) 31 = true ∧ getF t (rbAddr col h) 0 16 = min (visitRes s col h r) 65535 ∧
      (∀ i, i < 4 → getBit t (rbAddr col h) (16 + i) = (getBit s (rbAddr col h) (16 + i) ||
        (rbChecks s col h r).testBit i && (SMap.get (fun _ => 0) s.rbFail (512 * col.val + h.val)).testBit i)) ∧
      (∀ i, i < 4 → (rbChecks s col h r).testBit i = true → (SMap.get (fun _ => 0) s.rbFail (512 * col.val + h.val)).testBit i = true →
        getBit t (Reg.FAULT_STATUS (colPage col)) i = true ∧ getBit t (Reg.INT_STATUS (colPage col)) 16 = true) ∧
      SMap.get (fun _ => 0) t.rbFail (512 * col.val + h.val) = rbChecks s col h r ∧ latched t col h = latched s col h ∧
      t.heaters = s.heaters ∧ t.onTime = s.onTime ∧ SameBytes s t ∧
      SameRegsBut [rbAddr col h, Reg.INT_STATUS (colPage col), Reg.FAULT_STATUS (colPage col), Reg.HTR_COUNT_B col, Reg.HTR_COL_STATUS col] s t) ∧
  (∀ (col : Fin 10) (h : Fin 512) (s : State), col.val < s.variant.columns →
    ∃ t, exec (.overcurrent col h) s = .next t ∧ latched t col h = true ∧ outputMag t col h = 0 ∧
      SMap.get (fun _ => 0) t.onTime (512 * col.val + h.val) = 0 ∧ getF t (Reg.HTR_COUNT_B col) 16 16 = satInc 16 (getF s (Reg.HTR_COUNT_B col) 16 16) ∧
      getBit t (Reg.FAULT_STATUS (colPage col)) 4 = true ∧ getBit t (Reg.INT_STATUS (colPage col)) 17 = true ∧ t.heaters = s.heaters ∧
      SameRegsBut [rbAddr col h, Reg.INT_STATUS (colPage col), Reg.FAULT_STATUS (colPage col), Reg.HTR_COUNT_B col] s t ∧ SameBytes s t) ∧
  (∀ (col : Fin 10) (b : Fin 4) (s : State), col.val < s.variant.columns →
    ∃ t, exec (.bankOt col b) s = .next t ∧ getBit t (Reg.HTR_COL_STATUS col) b.val = true ∧
      (∀ h, 128 * b.val ≤ h → h < 128 * b.val + 128 → outputMag t col h = 0 ∧ SMap.get (fun _ => 0) t.onTime (512 * col.val + h) = 0) ∧
      getBit t (Reg.FAULT_STATUS (colPage col)) 5 = true ∧ getBit t (Reg.INT_STATUS (colPage col)) 18 = true ∧ t.heaters = s.heaters ∧
      SameRegsBut [Reg.HTR_COL_STATUS col, Reg.INT_STATUS (colPage col), Reg.FAULT_STATUS (colPage col)] s t ∧ SameBytes s t) ∧
  (∀ (req : Requester) (col : Fin 10) (data : BitVec 16) (hot : BitVec 4) (s : State), WriteReaches req (Reg.HTR_FAULT_CLR col) s →
    ∃ t, exec (.htrFaultClr req col data hot) s = .next t ∧ t.heaters = s.heaters ∧ SameBytes s t ∧
      (∀ h, h < 512 → data.getLsbD 10 = true ∨ (h / 2 = data.toNat % 256 ∧ data.getLsbD (8 + h % 2) = true) → getF t (rbAddr col h) 16 5 = 0) ∧
      (∀ h, h < 512 → data.getLsbD 10 = false → h / 2 ≠ data.toNat % 256 ∨ data.getLsbD (8 + h % 2) = false → reg t (rbAddr col h) = reg s (rbAddr col h)) ∧
      (∀ b, b < 4 → getBit t (Reg.HTR_COL_STATUS col) b = (getBit s (Reg.HTR_COL_STATUS col) b && !(data.getLsbD (12 + b) && !hot.getLsbD b)))) ∧
  (∀ (req : Requester) (col : Fin 10) (s : State), WriteReaches req (Reg.HTR_COUNT_CLR col) s →
    ∃ t, exec (.htrCountClr req col) s = .next t ∧ reg t (Reg.HTR_COUNT_A col) = 0 ∧ reg t (Reg.HTR_COUNT_B col) = 0 ∧
      OnlyRegs [Reg.HTR_COUNT_A col, Reg.HTR_COUNT_B col] s t) ∧
  (∀ (req : Requester) (col : Fin 10) (s : State), WriteReaches req (Reg.HTR_CAL_CMD col) s →
    (SMap.get (fun _ => false) s.htrCal col.val = true ∨ s.pins.clearN = false →
      ∃ t, exec (.htrCalStart req col) s = .next t ∧ getBit t (Reg.HTR_CAL_STATUS col) 3 = true ∧ OnlyRegs [Reg.HTR_CAL_STATUS col] s t) ∧
    (SMap.get (fun _ => false) s.htrCal col.val = false → s.pins.clearN = true →
      ∃ t, exec (.htrCalStart req col) s = .next t ∧ reg t (Reg.HTR_CAL_STATUS col) = 1 ∧ SMap.get (fun _ => false) t.htrCal col.val = true ∧
        (∀ n, n / 256 = col.val → role s n ≠ roleUnused → heater t n = { heater s n with held := some (lowerCode s n) }) ∧
        (∀ n, n / 256 ≠ col.val ∨ role s n = roleUnused → heater t n = heater s n) ∧
        (∀ m, m / 64 = col.val → getF t (Reg.CELL_STATUS m) 8 4 = 15) ∧ SameBytes s t)) ∧
  (∀ (col : Fin 10) (runs : List ReadPair) (s : State), SMap.get (fun _ => false) s.htrCal col.val = true →
    ∃ t, exec (.htrCalDone col runs) s = .next t ∧ SMap.get (fun _ => false) t.htrCal col.val = false ∧
      getBit t (Reg.INT_STATUS (colPage col)) 20 = true ∧ getBit t (Reg.HTR_CAL_STATUS col) 0 = false ∧ getBit t (Reg.HTR_CAL_STATUS col) 1 = true ∧
      (∀ n, n / 256 = col.val → (loopCell s (n / 4)).firstDue = false → (heater t n).held = none) ∧
      ((∀ p ∈ runs, p.output < 512 → readAgree p = true) →
        getBit t (Reg.HTR_CAL_STATUS col) 2 = false ∧
        (∀ p, runs = [p] → p.output < 512 → p.second = p.first → p.first < 2 ^ 16 →
          getF t (if p.output % 2 = 0 then Reg.HTR_RCAL_A col (p.output / 2) else Reg.HTR_RCAL_B col (p.output / 2)) 0 16 = p.first)) ∧
      (∀ p ∈ runs, p.output < 512 → readAgree p = false → (∀ q ∈ runs, q.output < p.output → readAgree q = true) →
        getBit t (Reg.HTR_CAL_STATUS col) 2 = true ∧ getF t (Reg.HTR_CAL_STATUS col) 8 8 = p.output / 2 ∧
        (∀ i, i < 256 → reg t (Reg.HTR_RCAL_A col i) = reg s (Reg.HTR_RCAL_A col i) ∧ reg t (Reg.HTR_RCAL_B col i) = reg s (Reg.HTR_RCAL_B col i))))

/-- A COMMIT captures every cell of the pump whose NEXT_BANK_READY is 1: it is pending, with no refuse reason and with the roles
of this moment kept, and the page shows PENDING and MIXED_GEN; no other cell changes and every cell keeps its active bank. With
no ready cell it only clears ARMED. COMMIT_AT_EPOCH sets ARMED and DISARM clears it, and nothing else changes. A loaded bank
that fails a check of R288 is refused: the reason shows, PENDING and NEXT_BANK_READY clear, its bit in REFUSED_CELLS and
TABLE_REFUSED set, and the old bank stays active. One that passes is marked as loaded by that pump and nothing else changes. -/
def Obligations.LoopTablesAreCapturedLoadedOrRefused : Prop :=
  (∀ (req : Requester) (k : Fin 128) (s : State), WriteReaches req (Reg.LOOP_TABLE_CMD k) s →
    (∃ t, exec (.loopCommitAtEpoch req k) s = .next t ∧ getBit t (Reg.LOOP_TABLE_STATUS k) 1 = true ∧ OnlyRegs [Reg.LOOP_TABLE_STATUS k] s t) ∧
    (∃ t, exec (.disarm req k) s = .next t ∧ getBit t (Reg.LOOP_TABLE_STATUS k) 1 = false ∧ OnlyRegs [Reg.LOOP_TABLE_STATUS k] s t) ∧
    ((∀ m ∈ pumpCells k, m < s.variant.cells → getBit s (Reg.CELL_CTRL m) 1 = true → cellPending s m = true) →
      ∃ t, exec (.loopCommit req k) s = .next t ∧ getBit t (Reg.LOOP_TABLE_STATUS k) 1 = false ∧ OnlyRegs [Reg.LOOP_TABLE_STATUS k] s t) ∧
    (∀ m ∈ pumpCells k, m < s.variant.cells → getBit s (Reg.CELL_CTRL m) 1 = true → cellPending s m = false →
      ∃ t, exec (.loopCommit req k) s = .next t ∧ cellPending t m = true ∧ getF t (Reg.CELL_STATUS m) 5 3 = 0 ∧
        (loopCell t m).capture = some ((cellSlots m).map fun n => slotInLoop s n && (slotMeas s n).1 != 3) ∧
        getBit t (Reg.LOOP_TABLE_STATUS k) 0 = true ∧ getBit t (Reg.LOOP_TABLE_STATUS k) 1 = false ∧
        getBit t (Reg.STATUS (pumpPage k)) 4 = true ∧ t.heaters = s.heaters ∧ SameBytes s t ∧
        (∀ j, activeBank t j = activeBank s j ∧ cellAuto t j = cellAuto s j) ∧
        (∀ j, j ∉ pumpCells k ∨ getBit s (Reg.CELL_CTRL j) 1 = false → cellPending t j = cellPending s j ∧ loopCell t j = loopCell s j))) ∧
  (∀ (k : Fin 128) (m : Fin 640) (side : Nat) (s : State), sideOf k m = some side → cellPending s m = true → m.val < s.variant.cells →
    (captureFault s m ≠ 0 →
      ∃ t, exec (.tableBankLoaded k m) s = .next t ∧ getF t (Reg.CELL_STATUS m) 5 3 = captureFault s m ∧ cellPending t m = false ∧
        getBit t (Reg.CELL_CTRL m) 1 = false ∧ getBit t (Reg.LOOP_TABLE_STATUS (primaryPump m)) (16 + m.val % 5) = true ∧
        getBit t (Reg.INT_STATUS (pumpPage (primaryPump m))) 1 = true ∧ activeBank t m = activeBank s m ∧ t.heaters = s.heaters ∧ SameBytes s t) ∧
    (captureFault s m = 0 → inService s k = true →
      ∃ t c, exec (.tableBankLoaded k m) s = .next t ∧ t = { s with cells := c } ∧ ((loopCell t m).copy side).loaded = true ∧
        (loopCell t m).copy (1 - side) = (loopCell s m).copy (1 - side) ∧ (∀ j, j ≠ m.val → loopCell t j = loopCell s j))) ∧
  (∀ (m : Nat) (s : State) (flags : List Bool),
    (bitOf (bankWord s m (1 - activeBank s m) 0) 15 = true →
      crc32 (crcBytes s m (1 - activeBank s m)) ≠ (bankWord s m (1 - activeBank s m) 2).toNat →
      bankFault s m (1 - activeBank s m) flags = 1) ∧
    (bitOf (bankWord s m (1 - activeBank s m) 0) 15 = false ∨
        crc32 (crcBytes s m (1 - activeBank s m)) = (bankWord s m (1 - activeBank s m) 2).toNat →
      (bankStates s m (1 - activeBank s m) = 0 ∨ 12 < bankStates s m (1 - activeBank s m) ∨ 3 < bankKernel s m (1 - activeBank s m) ∨
          (fld (bankWord s m (1 - activeBank s m) 0) 8 6 ≠ 0 ∧
            (fld (bankWord s m (1 - activeBank s m) 0) 8 6 < 4 ∨ 40 < fld (bankWord s m (1 - activeBank s m) 0) 8 6)) →
        bankFault s m (1 - activeBank s m) flags = 2) ∧
      (1 ≤ bankStates s m (1 - activeBank s m) → bankStates s m (1 - activeBank s m) ≤ 12 →
          bankKernel s m (1 - activeBank s m) = 1 ∨ bankKernel s m (1 - activeBank s m) = 2 →
          fld (bankWord s m (1 - activeBank s m) 0) 8 6 = 0 ∨
            (4 ≤ fld (bankWord s m (1 - activeBank s m) 0) 8 6 ∧ fld (bankWord s m (1 - activeBank s m) 0) 8 6 ≤ 40) →
          (∃ i j, i < 4 ∧ j < 4 ∧ i ≠ j ∧ (rowElement s m (1 - activeBank s m) (0x420 + 12 * i) j).man ≠ 0) →
        bankFault s m (1 - activeBank s m) flags = 3)) ∧
    ((loopCell s m).capture = some flags → bankFault s m (1 - activeBank s m) flags = 0 → overLoad s m = true → captureFault s m = 4) ∧
    ((loopCell s m).capture = some flags → bankFault s m (1 - activeBank s m) flags = 0 → overLoad s m = false →
      inService s (primaryPump m) = false → inService s (twin (primaryPump m)) = false → captureFault s m = 5))

/-- At a cell's boundary the pump that computes first brings what is due: a divergence found before switches the cell to manual
with DIVERGED and its fault; a pending bank that every pump in service has loaded becomes the active one, PENDING and
NEXT_BANK_READY clear, or is refused with reason 4 where it would now take the pair above 0.45; MODE = 1 takes the cell to
automatic unless outputs are forced to park, the kernel is OFF or DIVERGED is set, where MODE clears; MODE = 0 takes it to
manual, where no code is computed. The update itself changes no code at a driver stage and no other cell. A cell that lost both
pumps is orphaned at the boundary. INJ_CMD.GO is refused for a cell in manual, with kernel OFF, a TYPE or LEN of zero, no chosen
slot in the loop, or a reference injection under OBSERVE_ONLY, and otherwise arms; STOP ends a running or armed one as DONE.
CELL_CLR clears what it names. -/
def Obligations.LoopBoundariesSwapAndChangeModes : Prop :=
  (∀ (k : Fin 128) (m : Fin 640) (taps : List (List (BitVec 12))) (s : State) (o side : Nat), s.loopOrigin = some o → sideOf k m = some side →
      m.val < s.variant.cells → columnResetting s m = false →
    (computes s k = false → (loopCell s m).orphanDue ≠ none → ((loopCell s m).copy side).tick = (loopCell s m).tick →
      ∃ t, exec (.loopUpdate k m taps) s = .next t ∧ orphaned t m = true) ∧
    (computes s k = true → ∃ t, exec (.loopUpdate k m taps) s = .next t ∧ (∀ j, j ≠ m.val → loopCell t j = loopCell s j) ∧ SameBytes s t ∧
      ((loopCell s m).firstDue = false → (loopCell s m).orphanDue = none → t.heaters = s.heaters) ∧ t.eo = s.eo ∧ t.epochs = s.epochs ∧
      (((loopCell s m).copy side).tick = (loopCell s m).tick → (loopCell s m).permit = none → (loopCell s m).firstDue = false →
          (loopCell s m).orphanDue = none →
        ((loopCell s m).diverge = true →
          cellAuto t m = false ∧ getBit t (Reg.CELL_STATUS m) 3 = true ∧ getBit t (Reg.CELL_CTRL m) 0 = false ∧
          getBit t (Reg.FAULT_STATUS (pumpPage (primaryPump m))) 0 = true) ∧
        ((loopCell s m).diverge = false → cellPending s m = true → bankReady s m = true → overLoad s m = true →
          activeBank t m = activeBank s m ∧ cellPending t m = false ∧ getF t (Reg.CELL_STATUS m) 5 3 = 4) ∧
        ((loopCell s m).diverge = false → cellPending s m = true → bankReady s m = true → overLoad s m = false →
          activeBank t m = 1 - activeBank s m ∧ cellPending t m = false ∧ getBit t (Reg.CELL_CTRL m) 1 = false ∧
          getF t (Reg.CELL_STATUS m) 16 16 = fld (bankWord s m (1 - activeBank s m) 1) 0 16) ∧
        ((loopCell s m).diverge = false → cellPending s m = false → activeBank t m = activeBank s m ∧
          (getBit s (Reg.CELL_CTRL m) 0 = true → parkForced s = false → bankKernel s m (activeBank s m) ≠ 0 →
            getBit s (Reg.CELL_STATUS m) 3 = false → cellAuto t m = true) ∧
          (getBit s (Reg.CELL_CTRL m) 0 = true → cellAuto s m = false →
            parkForced s = true ∨ bankKernel s m (activeBank s m) = 0 ∨ getBit s (Reg.CELL_STATUS m) 3 = true →
            cellAuto t m = false ∧ getBit t (Reg.CELL_CTRL m) 0 = false) ∧
          (getBit s (Reg.CELL_CTRL m) 0 = false →
            cellAuto t m = false ∧
            (((loopCell s m).copy side).copied = true → ((loopCell t m).copy side).codes = List.replicate 4 none)))))) ∧
  (∀ (req : Requester) (m : Fin 640) (s : State), WriteReaches req (Reg.INJ_CMD m) s →
    (cellAuto s m = false ∨ bankKernel s m (activeBank s m) = 0 ∨ (getBit s (Reg.INJ_CFG m) 2 = true ∧ bankKernel s m (activeBank s m) = 3) ∨
        getF s (Reg.INJ_CFG m) 0 2 = 0 ∨ getF s (Reg.INJ_LEN m) 0 24 = 0 ∨
        (∀ i, i < 4 → getBit s (Reg.INJ_CFG m) (4 + i) = true → slotInLoop s (4 * m.val + i) = false) →
      ∃ t, exec (.injGo req m) s = .next t ∧ getBit t (Reg.INJ_STATUS m) 3 = true ∧ OnlyRegs [Reg.INJ_STATUS m] s t) ∧
    (cellAuto s m = true → bankKernel s m (activeBank s m) ≠ 0 →
        (getBit s (Reg.INJ_CFG m) 2 = true → bankKernel s m (activeBank s m) ≠ 3) → getF s (Reg.INJ_CFG m) 0 2 ≠ 0 →
        getF s (Reg.INJ_LEN m) 0 24 ≠ 0 → (∃ i, i < 4 ∧ getBit s (Reg.INJ_CFG m) (4 + i) = true ∧ slotInLoop s (4 * m.val + i) = true) →
      ∃ t, exec (.injGo req m) s = .next t ∧ (loopCell t m).injArmed = true ∧ getF t (Reg.INJ_STATUS m) 1 3 = 0 ∧
        (∀ j, j ≠ m.val → loopCell t j = loopCell s j) ∧ OnlyRegs [Reg.INJ_STATUS m] { s with cells := t.cells } t) ∧
    (getBit s (Reg.INJ_STATUS m) 0 = true ∨ (loopCell s m).injArmed = true →
      ∃ t, exec (.injStop req m) s = .next t ∧ getBit t (Reg.INJ_STATUS m) 0 = false ∧ getBit t (Reg.INJ_STATUS m) 1 = true ∧
        getBit t (Reg.CELL_STATUS m) 4 = false ∧ getBit t (Reg.INT_STATUS (pumpPage (primaryPump m))) 2 = true ∧ cellAuto t m = cellAuto s m ∧
        OnlyRegsOut [Reg.INJ_STATUS m, Reg.CELL_STATUS m, Reg.INT_STATUS (pumpPage (primaryPump m))] { s with cells := t.cells } t)) ∧
  (∀ (req : Requester) (m : Fin 640) (data : BitVec 2) (s : State), WriteReaches req (Reg.CELL_CLR m) s →
    ∃ t, exec (.cellClr req m data) s = .next t ∧ OnlyRegs [Reg.CELL_STATUS m, Reg.CELL_MISS m] s t ∧
      (data.getLsbD 0 = true → reg t (Reg.CELL_MISS m) = 0) ∧ (data.getLsbD 0 = false → reg t (Reg.CELL_MISS m) = reg s (Reg.CELL_MISS m)) ∧
      getBit t (Reg.CELL_STATUS m) 3 = (getBit s (Reg.CELL_STATUS m) 3 && !data.getLsbD 1))

/-- An update that meets the arbiter and whose twin's update of the same boundary has not come: the registered claim from the
holder of a cell that is no orphan passes its codes; the twin's claim plus one, with a raise permitted and new or meeting an
orphan, is registered, makes the pump the holder, ends an orphan and passes its codes; the registered claim of the pump that
does not hold, or of an orphan, changes no code; any other claim changes no code and counts one refusal. A code that passes in
automatic under row 7 is the slot's code, from the pump. The twin's registered claim stands. When the update is the second of
its boundary from two pumps in service, the comparison counts; within CMP_TOL the run ends and the agreement of both pumps
grows; beyond it a mismatch counts with MISMATCH, and at MISMATCH_RUN two ACTIVE pumps of one version both run the quick
self-test. SELF_TEST, TAKEBACK_NOW, HEALTH_CLR and CLAIM_COUNT_CLR act on their own words alone. -/
def Obligations.ClaimArbiterRegistersPassesOrRefuses : Prop :=
  (∀ (k : Fin 128) (cell : Fin 640) (claim : BitVec 16) (s : State) (sd : Nat), sideOf k cell.val = some sd → cell.val < s.variant.cells →
      s.loopOrigin.isSome = true → columnResetting s cell.val = false → computes s k = true →
    ((∀ n, ((loopCell s cell.val).copy sd).tick = some n → ((loopCell s cell.val).copy (1 - sd)).received ≠ some n) →
      ∃ t, exec (.claimUpdate k cell claim) s = .next t ∧ claimOf t cell.val (1 - sd) = claimOf s cell.val (1 - sd) ∧ SameBytes s t ∧
        ((loopCell t cell.val).copy sd).received = ((loopCell s cell.val).copy sd).tick ∧
        (claim.toNat = claimOf s cell.val sd → orphaned s cell.val = false →
          claimOf t cell.val sd = claim.toNat ∧ holderSide t cell.val = holderSide s cell.val) ∧
        (claim.toNat = claimOf s cell.val sd →
            (orphaned s cell.val = false ∧ holderSide s cell.val ≠ sd) ∨ (orphaned s cell.val = true ∧ raisePermitted s cell.val sd = false) →
          t.heaters = s.heaters) ∧
        (claim.toNat ≠ claimOf s cell.val sd ∨ orphaned s cell.val = true → claim.toNat = (claimOf s cell.val (1 - sd) + 1) % 65536 →
            raisePermitted s cell.val sd = true →
          claimOf t cell.val sd = claim.toNat ∧ holderSide t cell.val = sd ∧ orphaned t cell.val = false ∧ (loopCell t cell.val).permit = none ∧
          getBit t (Reg.INT_STATUS (colPage (cell.val / 64))) 21 = true) ∧
        ((claim.toNat = claimOf s cell.val sd ∧ orphaned s cell.val = false ∧ holderSide s cell.val = sd) ∨
            ((claim.toNat ≠ claimOf s cell.val sd ∨ orphaned s cell.val = true) ∧ claim.toNat = (claimOf s cell.val (1 - sd) + 1) % 65536 ∧
              raisePermitted s cell.val sd = true) →
          cellAuto s cell.val = true → ∀ i code, i < 4 → ((loopCell s cell.val).copy sd).codes[i]? = some (some code) →
            rowSeven s (4 * cell.val + i) = true → (heater t (4 * cell.val + i)).code = code ∧ (heater t (4 * cell.val + i)).source = .pump) ∧
        (claim.toNat ≠ claimOf s cell.val sd → ¬ (claim.toNat = (claimOf s cell.val (1 - sd) + 1) % 65536 ∧ raisePermitted s cell.val sd = true) →
          ((loopCell t cell.val).copy sd).refused = List.replicate 4 true ∧ t.heaters = s.heaters ∧
          getF t (Reg.CLAIM_COUNT (cell.val / 64)) 0 16 = satInc 16 (getF s (Reg.CLAIM_COUNT (cell.val / 64)) 0 16) ∧
          SameRegsBut [Reg.CLAIM_COUNT (cell.val / 64), claimState cell.val] s t)) ∧
    (∀ n, ((loopCell s cell.val).copy sd).tick = some n → ((loopCell s cell.val).copy (1 - sd)).received = some n →
        (loopCell s cell.val).compared ≠ some n → (loopCell s cell.val).primary.copied = true → (loopCell s cell.val).secondary.copied = true →
        inService s (primaryPump cell.val) = true → inService s (twin (primaryPump cell.val)) = true → cellAuto s cell.val = true →
        claim.toNat = claimOf s cell.val sd → orphaned s cell.val = false →
      ∃ t, exec (.claimUpdate k cell claim) s = .next t ∧ (loopCell t cell.val).compared = some n ∧
        ((largestDiff s cell.val).1 ≤ pairCfg s (primaryPump cell.val) 8 8 → getF t (claimState cell.val) 4 4 = 0 ∧
          reg64 t (Reg.HEALTH_CMP_LO (primaryPump cell.val)) = (reg64 s (Reg.HEALTH_CMP_LO (primaryPump cell.val)) + 1) % 2 ^ 64 ∧
          (loopCell t cell.val).primary.agreed = (loopCell s cell.val).primary.agreed + 1 ∧
          (loopCell t cell.val).secondary.agreed = (loopCell s cell.val).secondary.agreed + 1 ∧
          reg t (Reg.HEALTH_MISMATCH (primaryPump cell.val)) = reg s (Reg.HEALTH_MISMATCH (primaryPump cell.val))) ∧
        (pairCfg s (primaryPump cell.val) 8 8 < (largestDiff s cell.val).1 →
          (loopCell s cell.val).run + 1 ≠ pairCfg s (primaryPump cell.val) 4 4 →
          (loopCell t cell.val).run = (loopCell s cell.val).run + 1 ∧ getF t (claimState cell.val) 4 4 = min 15 ((loopCell s cell.val).run + 1) ∧
          getF t (Reg.HEALTH_MISMATCH (primaryPump cell.val)) 0 16 = satInc 16 (getF s (Reg.HEALTH_MISMATCH (primaryPump cell.val)) 0 16) ∧
          getBit t (Reg.INT_STATUS (pumpPage (primaryPump cell.val))) 11 = true) ∧
        (pairCfg s (primaryPump cell.val) 8 8 < (largestDiff s cell.val).1 →
          (loopCell s cell.val).run + 1 = pairCfg s (primaryPump cell.val) 4 4 →
          reg s (Reg.PE_KERNEL_VER (primaryPump cell.val)) = reg s (Reg.PE_KERNEL_VER (twin (primaryPump cell.val))) →
          pumpState s (primaryPump cell.val) = 4 → pumpState s (twin (primaryPump cell.val)) = 4 →
          (pump t (primaryPump cell.val)).quick = some .mismatch ∧ (pump t (twin (primaryPump cell.val))).quick = some .mismatch ∧
          pumpState t (primaryPump cell.val) = 4 ∧ pumpState t (twin (primaryPump cell.val)) = 4))) ∧
  (∀ (req : Requester) (k : Fin 128) (s : State), WriteReaches req (Reg.TWIN_CMD k) s →
    (∃ t, exec (.takebackNow req k) s = .next t ∧ pump t k = { pump s k with takebackNow := true } ∧ (∃ p, t = { s with pumps := p }) ∧
      ∀ n, n ≠ k.val → pump t n = pump s n) ∧
    (inService s k = false ∨ (pump s k).quick ≠ none → exec (.selfTest req k) s = .next s) ∧
    (inService s k = true → (pump s k).quick = none →
      ∃ t, exec (.selfTest req k) s = .next t ∧ (pump t k).quick = some .host ∧ (∀ n, n ≠ k.val → pump t n = pump s n) ∧
        getF t (Reg.HEALTH_TEST k) 24 8 = satInc 8 (getF s (Reg.HEALTH_TEST k) 24 8) ∧ SameRegsBut [Reg.HEALTH_TEST k] s t ∧ SameBytes s t)) ∧
  (∀ (req : Requester) (k : Fin 128) (s : State), WriteReaches req (Reg.HEALTH_CLR k) s →
    ∃ t, exec (.healthClr req k) s = .next t ∧ reg t (Reg.HEALTH_MISMATCH k) = 0 ∧ reg64 t (Reg.HEALTH_CMP_LO k) = 0 ∧
      reg t (Reg.HEALTH_DEV k) = 0 ∧ reg t (Reg.HEALTH_TEST k) = 0 ∧ reg t (Reg.HEALTH_EVENTS k) = 0 ∧
      OnlyRegs [Reg.HEALTH_MISMATCH k, Reg.HEALTH_CMP_LO k, Reg.HEALTH_CMP_LO k + 4, Reg.HEALTH_DEV k, Reg.HEALTH_TEST k, Reg.HEALTH_EVENTS k] s t) ∧
  (∀ (req : Requester) (col : Fin 10) (s : State), WriteReaches req (Reg.CLAIM_COUNT_CLR col) s →
    ∃ t, exec (.claimCountClr req col) s = .next t ∧ reg t (Reg.CLAIM_COUNT col) = 0 ∧ OnlyRegs [Reg.CLAIM_COUNT col] s t)

/-- A missing update, an uncorrectable error, a failed background or full self-test, and a failed quick self-test after a
mismatch are causes 1, 2, 3, 3 and 4: the pump goes to LOADING, or to FAILED_HELD at the third loss within 10 s, PUMP_FAILED,
TAKEOVER and the twin's TWIN_LOST set, and each cell it held is permitted to a twin in service, or is to be orphaned at its next
boundary with its codes kept (a missing update orphans that cell at once). Both pumps passing raises TWIN_DISAGREE of the pair
and loses none. Loading goes on to SELF_TEST, and a pass to SYNC, where each cell of the pair is to be copied from a twin that
computes, counts no agreement yet, and an orphan that waits for nobody, or a cell about to be orphaned, is permitted to the
pump. FW_UPDATE between two ACTIVE pumps with a staged kernel sends the pump to HANDING_OVER with its cells permitted to the
twin, or at once to LOADING of that kernel when it holds none; otherwise it is refused. -/
def Obligations.LostPumpsPassTheirCellsOrOrphanThem : Prop :=
  (∀ (k : Fin 128) (cell : Fin 640) (s : State) (o sd : Nat), sideOf k cell.val = some sd → cell.val < s.variant.cells → s.loopOrigin = some o →
      columnResetting s cell.val = false → computes s k = true →
    ∃ t n, exec (.missingUpdate k cell) s = .next t ∧ SameBytes s t ∧
      (computes (reachBoundary o cell.val n s) k = true →
        ∃ u, PumpLossFollows k 1 (reachBoundary o cell.val n s) u ∧ t = lostBoundary cell.val u ∧
          (holds (reachBoundary o cell.val n s) k cell.val = true → (loopCell (reachBoundary o cell.val n s) cell.val).permit ≠ some sd →
            inService (reachBoundary o cell.val n s) (twin k) = false → orphaned t cell.val = true)) ∧
      (((loopCell s cell.val).copy sd).tick = some n ∨ n = dueTick s o sd cell.val)) ∧
  (∀ (k : Fin 128) (s : State), computes s k = true →
    ∃ t, exec (.pumpEccError k) s = .next t ∧ PumpLossFollows k 2 s t ∧ SameBytes s t) ∧
  (∀ (k : Fin 128) (s : State), inService s k = true →
    (∃ t, exec (.backgroundSelfTest k false) s = .next t ∧ PumpLossFollows k 3 s t) ∧
    (∃ t, exec (.backgroundSelfTest k true) s = .next t ∧ getF t (Reg.HEALTH_TEST k) 0 16 = (getF s (Reg.HEALTH_TEST k) 0 16 + 1) % 2 ^ 16 ∧
      OnlyRegs [Reg.HEALTH_TEST k] s t)) ∧
  (∀ (pair : Fin 64) (s : State), (pump s (2 * pair.val)).quick = some .mismatch → (pump s (2 * pair.val + 1)).quick = some .mismatch →
    (∃ t, exec (.quickSelfTestComplete pair true true) s = .next t ∧ getBit t (Reg.FAULT_STATUS (pumpPage (2 * pair.val))) 2 = true ∧
      (pump t (2 * pair.val)).quick = none ∧ (pump t (2 * pair.val + 1)).quick = none ∧ t.cells = s.cells ∧ t.heaters = s.heaters ∧
      SameRegsBut [Reg.FAULT_STATUS (pumpPage (2 * pair.val))] s t) ∧
    (∃ t, exec (.quickSelfTestComplete pair true false) s = .next t ∧ PumpLossFollows (2 * pair.val + 1) 4 s t ∧
      (pump t (2 * pair.val)).quick = none ∧ (pump t (2 * pair.val + 1)).quick = none)) ∧
  (∀ (k : Fin 128) (s : State), pumpState s k = 1 →
    ∃ t, exec (.pumpLoadComplete k) s = .next t ∧ pumpState t k = 2 ∧ reg t (Reg.PE_KERNEL_VER k) = (pump s k).kernel ∧
      SameRegsBut [Reg.TWIN_STATUS k, Reg.PE_KERNEL_VER k] s t ∧ SameBytes s t ∧ t.cells = s.cells ∧ t.heaters = s.heaters) ∧
  (∀ (k : Fin 128) (s : State), pumpState s k = 2 →
    (∃ t, exec (.pumpSelfTestComplete k false) s = .next t ∧ PumpLossFollows k 3 s t) ∧
    (∃ t, exec (.pumpSelfTestComplete k true) s = .next t ∧ pumpState t k = 3 ∧ (phase s (pumpPage k) ≠ .resetting → phase t (pumpPage k) = .running) ∧
      t.heaters = s.heaters ∧ SameBytes s t ∧
      (∀ m ∈ pairCells k, m < s.variant.cells → ∀ sd, sideOf k m = some sd →
        ((loopCell t m).copy sd).agreed = 0 ∧ ((loopCell t m).copy (1 - sd)).agreed = 0 ∧
        ((loopCell t m).copy sd).copied = !computes s (twin k) ∧ (loopCell t m).orphanDue = none ∧
        (orphaned s m = true → (loopCell s m).permit = none → (loopCell t m).permit = some sd) ∧
        ((loopCell s m).orphanDue ≠ none → (loopCell t m).permit = some sd)))) ∧
  (∀ (req : Requester) (k : Fin 128) (s : State), WriteReaches req (Reg.TWIN_CMD k) s →
    (pumpState s k = 4 → pumpState s (twin k) = 4 → ∀ v, s.kernelStaged = some v →
      ∃ t, exec (.fwUpdate req k) s = .next t ∧ getF t (Reg.TWIN_STATUS k) 16 4 = 7 ∧ getBit t (Reg.TWIN_STATUS k) 14 = false ∧
        pumpState t (twin k) = 4 ∧ getBit t (Reg.INT_STATUS (pumpPage (twin k))) 10 = true ∧
        (∀ m ∈ pairCells k, m < s.variant.cells → holds s k m = true → (loopCell s m).permit ≠ sideOf k m →
          (loopCell t m).permit = sideOf (twin k) m ∧ pumpState t k = 5 ∧ (pump t k).update = true) ∧
        ((∀ m ∈ pairCells k, holds s k m = false) → pumpState t k = 1 ∧ (pump t k).kernel = v ∧ (pump t k).update = false)) ∧
    (pumpState s k ≠ 4 ∨ pumpState s (twin k) ≠ 4 ∨ s.kernelStaged = none →
      ∃ t, exec (.fwUpdate req k) s = .next t ∧ getBit t (Reg.TWIN_STATUS k) 14 = true ∧ OnlyRegs [Reg.TWIN_STATUS k] s t))

/-- AUTO_RANGE moves a channel one range in the pages of every well that converts it and counts it there; on RANGE 0, or 3, it
stays. PW_PLAUS_COUNT disagreeing pairs set IMPLAUSIBLE in both pages, count the fault and raise PLAUS; agreeing ones clear it;
a shorter run of pairs, or one that does not agree throughout, changes nothing. PM_READ takes the mean of the last microsecond's
samples, the primary's or where only the checker converts the checker's, with its marks, and an input monitor that serves a port
refreshes its entry. A stuck well is LOST and DEGRADED with WELL_LOST and STUCK, its pin and run end, its pair's binding ends,
and it converts nothing from now on; one that leaves a quarter of the die unwatched shuts the device down. A housekeeping
conversion shows in its word with VALID, and HW_15's rails in PWR_RAIL_MV; the words of HW_14 that PE1280 lacks read ABSENT.
HW_15 finding a reference outside 1.10 V to 1.30 V clears REF_SETTLED of every well that uses it, and outside P4 faults it;
after the interval REF_SETTLED rises unless the reference is outside. A change of REF_SEL clears REF_SETTLED and aborts a run.
The clear commands clear their counts alone. -/
def Obligations.RangesReadingsAndReferencesShow : Prop :=
  (∀ (well : Fin 288) (input : Fin 16) (s : State), autoRanges s well input = true →
    (0 < chRange s well input →
      ∃ t, exec (.autoRangeUp well input) s = .next t ∧
        OnlyRegs ((rangeWells well).flatMap fun v => [Reg.CH_STATUS v input, Reg.WELL_COUNT v]) { s with rangeChanges := t.rangeChanges } t ∧
        ∀ v ∈ rangeWells well, chRange t v input = chRange s well input - 1 ∧
          getF t (Reg.CH_STATUS v input) 16 16 = (getF s (Reg.CH_STATUS v input) 16 16 + 1) % 2 ^ 16 ∧
          getF t (Reg.WELL_COUNT v) 16 16 = satInc 16 (getF s (Reg.WELL_COUNT v) 16 16)) ∧
    (chRange s well input = 0 → exec (.autoRangeUp well input) s = .next s) ∧
    (chRange s well input < 3 →
      ∃ t, exec (.autoRangeDown well input) s = .next t ∧
        OnlyRegs ((rangeWells well).flatMap fun v => [Reg.CH_STATUS v input, Reg.WELL_COUNT v]) { s with rangeChanges := t.rangeChanges } t ∧
        ∀ v ∈ rangeWells well, chRange t v input = chRange s well input + 1 ∧
          getF t (Reg.CH_STATUS v input) 16 16 = (getF s (Reg.CH_STATUS v input) 16 16 + 1) % 2 ^ 16 ∧
          getF t (Reg.WELL_COUNT v) 16 16 = satInc 16 (getF s (Reg.WELL_COUNT v) 16 16)) ∧
    (chRange s well input = 3 → exec (.autoRangeDown well input) s = .next s)) ∧
  (∀ (m : Fin 512) (pairs : List (BitVec 12 × BitVec 12)) (s : State), wellPresent s (160 + m.val / 8) = true →
      comparesPairs s (160 + m.val / 8) (m.val % 8) = true →
    (getBit s (Reg.PW_PLAUS_STATUS (160 + m.val / 8)) (m.val % 8) = false → plausRun s (160 + m.val / 8) (m.val % 8) true pairs = true →
      ∃ t, exec (.monitorImplausible ⟨m, pairs⟩) s = .next t ∧ SameBytes s t ∧
        getBit t (Reg.PW_PLAUS_STATUS (160 + m.val / 8)) (m.val % 8) = true ∧ getBit t (Reg.PW_PLAUS_STATUS (160 + m.val / 8)) (8 + m.val % 8) = true ∧
        getF t (Reg.PW_PLAUS_STATUS (160 + m.val / 8)) 16 16 = satInc 16 (getF s (Reg.PW_PLAUS_STATUS (160 + m.val / 8)) 16 16) ∧
        getBit t (Reg.FAULT_STATUS (wellPage (160 + m.val / 8))) 0 = true ∧ getBit t (Reg.INT_STATUS (wellPage (160 + m.val / 8))) 4 = true ∧
        ∀ v, v = 160 + m.val / 8 ∨ v = partnerWell (160 + m.val / 8) → getBit t (Reg.CH_STATUS v (m.val % 8)) 6 = true) ∧
    (plausRun s (160 + m.val / 8) (m.val % 8) false pairs = true →
      ∃ t, exec (.monitorPlausible ⟨m, pairs⟩) s = .next t ∧ getBit t (Reg.PW_PLAUS_STATUS (160 + m.val / 8)) (m.val % 8) = false ∧
      getBit t (Reg.PW_PLAUS_STATUS (160 + m.val / 8)) (8 + m.val % 8) = getBit s (Reg.PW_PLAUS_STATUS (160 + m.val / 8)) (8 + m.val % 8) ∧
      OnlyRegs [Reg.PW_PLAUS_STATUS (160 + m.val / 8), Reg.CH_STATUS (160 + m.val / 8) (m.val % 8),
        Reg.CH_STATUS (partnerWell (160 + m.val / 8)) (m.val % 8)] s t) ∧
    (plausRun s (160 + m.val / 8) (m.val % 8) true pairs = false → exec (.monitorImplausible ⟨m, pairs⟩) s = .next s) ∧
    (plausRun s (160 + m.val / 8) (m.val % 8) false pairs = false → exec (.monitorPlausible ⟨m, pairs⟩) s = .next s)) ∧
  (∀ (p : Fin 64) (samples : List MonitorSamples) (s : State) (o : Nat), wellPresent s (160 + p.val) = true → s.wellOrigin = some o →
    ∃ t, exec (.pmReadPublish p samples) s = .next t ∧ SameBytes s t ∧
      ∀ i x l, i < 8 → samples[i]? = some x →
          l = (if checkerOnly s (160 + p.val) i then monitorSamples s (partnerWell (160 + p.val)) i (nextPublish s (160 + p.val) o) x.checker
            else monitorSamples s (160 + p.val) i (nextPublish s (160 + p.val) o) x.primary) →
        getF t (Reg.PM_READ (160 + p.val) i) 0 24 = readingOf (l.map Prod.fst) ∧
        getBit t (Reg.PM_READ (160 + p.val) i) 24 = checkerOnly s (160 + p.val) i ∧
        getBit t (Reg.PM_READ (160 + p.val) i) 25 = getBit s (Reg.PW_PLAUS_STATUS (160 + p.val)) i ∧
        getBit t (Reg.PM_READ (160 + p.val) i) 26 = (l.isEmpty || externalCal s (160 + p.val) i) ∧
        getBit t (Reg.PM_READ (160 + p.val) i) 27 = l.any Prod.snd ∧
        (bitOf (monEntry s (8 * p.val + i)) 15 = true → fld (monEntry s (8 * p.val + i)) 10 1 = 0 →
          monitorFor s (fld (monEntry s (8 * p.val + i)) 0 10) 0 = some (8 * p.val + i) →
          ∃ v, SMap.get (fun _ => none) t.inputPower (fld (monEntry s (8 * p.val + i)) 0 10) = some v ∧
            v.reading = readingOf (l.map Prod.fst) ∧ v.remote = false ∧ v.time = t.time.uptime)) ∧
  (∀ (well : Fin 304) (s : State), wellRuns s well = true →
      dieUnwatched (loseWell well true s) = false →
    ∃ t, exec (.stuck well) s = .next t ∧ wellLost t well = true ∧ getBit t (Reg.STATUS (wellPage well)) 5 = true ∧
      getBit t (Reg.FAULT_STATUS (wellPage well)) 1 = true ∧ getBit t (Reg.FAULT_STATUS (wellPage well)) 3 = true ∧
      pinOf t well = none ∧ calShown t well = none ∧ (isTap well = true → bindingOf t (well.val / 2) = none) ∧
      (∃ x ∈ SMap.get (fun _ => []) t.wellSpans well.val, x.use = .idle ∧ x.until_ = none) ∧ SameBytes s t) ∧
  (∀ (well : Fin 304) (s : State), wellRuns s well = true → dieUnwatched (loseWell well true s) = true →
    ∃ t, exec (.stuck well) s = .next t ∧ stage t = 0xF) ∧
  (∀ (hw : Fin 16) (input : Fin 32) (code : BitVec 16) (ohms : BitVec 20) (mv : BitVec 16) (s : State), wellLost s (288 + hw.val) = false →
    (10 ≤ hw.val → hw.val < 14 → input.val < 16 →
      ∃ t, exec (.housekeepingConversion hw input code ohms mv) s = .next t ∧
        reg t (Reg.HW_RESULT hw input) = word (code.toNat + 2 ^ 31) ∧ OnlyRegs [Reg.HW_RESULT hw input] s t) ∧
    (hw.val < 10 → exec (.housekeepingConversion hw input code ohms mv) s = .next s) ∧
    (hw.val = 14 → ∃ t, exec (.housekeepingConversion hw input code ohms mv) s = .next t ∧ OnlyRegs [Reg.HW_RESULT hw input] s t ∧
      (s.variant = .pe1280 → 16 ≤ input.val → reg t (Reg.HW_RESULT hw input) = word (2 ^ 28)) ∧
      (s.variant = .pe2560 ∨ input.val < 16 →
        reg t (Reg.HW_RESULT hw input) = word (ohms.toNat + 2 ^ 29 * b2n (decide (200000 < ohms.toNat)) + 2 ^ 30 * b2n (decide (ohms.toNat < 2000)) + 2 ^ 31))) ∧
    (hw.val = 15 → 10 ≤ input.val → input.val < 13 → 1100 ≤ mv.toNat → mv.toNat ≤ 1300 →
      ∃ t, exec (.housekeepingConversion hw input code ohms mv) s = .next t ∧ (t.refOut[input.val - 10]?).getD false = false ∧
        (∀ w, w < 304 → wellPresent s w = true → getF s (Reg.WELL_CFG w) 0 2 = input.val - 10 → (s.refOut[input.val - 10]?).getD false = true →
          SMap.get (fun _ => none) t.settleFrom w = some s.time.uptime) ∧
        OnlyRegs [Reg.HW_RESULT hw input] { s with refOut := t.refOut, settleFrom := t.settleFrom } t) ∧
    (hw.val = 15 → input.val < 10 →
      ∃ t, exec (.housekeepingConversion hw input code ohms mv) s = .next t ∧
        getF t (Reg.PWR_RAIL_MV input) 0 16 = mv.toNat ∧ OnlyRegs [Reg.HW_RESULT hw input, Reg.PWR_RAIL_MV input] s t) ∧
    (hw.val = 15 → 10 ≤ input.val → input.val < 13 → mv.toNat < 1100 ∨ 1300 < mv.toNat →
      ∃ t, exec (.housekeepingConversion hw input code ohms mv) s = .next t ∧ t.refOut = s.refOut.set (input.val - 10) true ∧
        (∀ w, w < 304 → wellPresent s w = true → getF s (Reg.WELL_CFG w) 0 2 = input.val - 10 →
          getBit t (Reg.WELL_STATUS w) 0 = false ∧ (stage s ≠ 4 → getBit t (Reg.FAULT_STATUS (wellPage w)) 2 = true)) ∧
        (∀ w, w < 304 → getF s (Reg.WELL_CFG w) 0 2 ≠ input.val - 10 → reg t (Reg.WELL_STATUS w) = reg s (Reg.WELL_STATUS w)))) ∧
  (∀ (hw : Fin 16) (input : Fin 32) (code : BitVec 16) (ohms : BitVec 20) (mv : BitVec 16) (s : State), wellLost s (288 + hw.val) = true →
    exec (.housekeepingConversion hw input code ohms mv) s = .next s) ∧
  (∀ (well : Fin 304) (s : State), wellPresent s well = true →
    ((s.refOut[getF s (Reg.WELL_CFG well) 0 2]?).getD false = false → getBit s (Reg.WELL_STATUS well) 0 = false →
      ∃ t, exec (.refSettleTimer well) s = .next t ∧ getBit t (Reg.WELL_STATUS well) 0 = true ∧
        (SMap.get (fun _ => none) s.settleFrom well.val = none → OnlyRegs [Reg.WELL_STATUS well] { s with settledAt := t.settledAt } t) ∧
        ∀ from_, SMap.get (fun _ => none) s.settleFrom well.val = some from_ → t.time = (advanceUptime (from_ + 200000) s).time) ∧
    ((s.refOut[getF s (Reg.WELL_CFG well) 0 2]?).getD false = true ∨ getBit s (Reg.WELL_STATUS well) 0 = true →
      exec (.refSettleTimer well) s = .next s)) ∧
  (∀ (req : Requester) (well : Fin 288) (data : Word) (s : State), WriteReaches req (Reg.WELL_CFG well) s →
    ∃ t, exec (.refSelWrite req well data) s = .next t ∧
      (fld data 0 2 ≠ 3 → getF t (Reg.WELL_CFG well) 0 2 = fld data 0 2) ∧
      (fld data 0 2 = 3 → getF t (Reg.WELL_CFG well) 0 2 = getF s (Reg.WELL_CFG well) 0 2) ∧
      (fld data 8 8 ≤ 200 → isTap well = true ∨ isPrimary well = true → getF t (Reg.WELL_CFG well) 8 8 = fld data 8 8) ∧
      (fld data 0 2 = 3 ∨ fld data 0 2 = getF s (Reg.WELL_CFG well) 0 2 → OnlyRegs [Reg.WELL_CFG well] s t) ∧
      (fld data 0 2 ≠ 3 → fld data 0 2 ≠ getF s (Reg.WELL_CFG well) 0 2 →
        getBit t (Reg.WELL_STATUS well) 0 = false ∧ SMap.get (fun _ => none) t.settleFrom well.val = some s.time.uptime ∧ calShown t well = none ∧
        (calShown s well ≠ none → getBit t (Reg.CAL_STATUS (runOwner well)) 4 = true) ∧
        getBit t (Reg.WELL_STATUS well) 3 = (fld data 0 2 != getF s (Reg.CAL_STATUS well) 8 2))) ∧
  (∀ (req : Requester) (well : Fin 288) (s : State), WriteReaches req (Reg.WELL_COUNT_CLR well) s →
    ∃ t, exec (.wellCountClr req well) s = .next t ∧ reg t (Reg.WELL_COUNT well) = 0 ∧ OnlyRegs [Reg.WELL_COUNT well] s t) ∧
  (∀ (req : Requester) (p : Fin 64) (s : State), WriteReaches req (Reg.PW_PLAUS_CLR (160 + p.val)) s →
    ∃ t, exec (.pwPlausClr req p) s = .next t ∧ getF t (Reg.PW_PLAUS_STATUS (160 + p.val)) 8 24 = 0 ∧
      getF t (Reg.PW_PLAUS_STATUS (160 + p.val)) 0 8 = getF s (Reg.PW_PLAUS_STATUS (160 + p.val)) 0 8 ∧
      OnlyRegs [Reg.PW_PLAUS_STATUS (160 + p.val)] s t)

/-- A placed pin that falls due on a running well that has neither pin nor binding is in force, and MODE shows SHARED or
EXCLUSIVE; under a pin or a binding it is denied, counted, and what was in force stays. A pin ends and the scan resumes. BIND is
refused, with only REFUSED set, while a binding is armed or in force, a well of the pair does not run, calibrates or is pinned,
or START_MODE is 3; otherwise it is armed, or in force at once for START_MODE 0, and comes into force at ILV_START_T for 1 and
at the event of ILV_START_j for 2. In force, both wells are INTERLEAVED and convert the bound input alone. RELEASE ends a
binding, and so does the end of ILV_LEN: STATE is free, the completed count grows, ILV_RELEASED sets; an armed one is only
withdrawn. -/
def Obligations.PinsAndBindingsTakeWellsFromTheScan : Prop :=
  (∀ (well : Fin 288) (p : WellPin) (s : State), s.pinsPlaced.find? (fun q => q.well == well.val) = some p → wellRuns s well = true →
    (boundWell s well = none → pinOf s well = none →
      ∃ t, exec (.pinStart well) s = .next t ∧ pinOf t well = some p ∧ t.pinsPlaced = s.pinsPlaced.erase p ∧
        t.time = (advanceTo p.start s).time ∧ getF t (Reg.WELL_STATUS well) 1 2 = (if p.exclusive then 2 else 1) ∧
        (∀ w, w ≠ well.val → pinOf t w = pinOf s w) ∧ SameRegsOff [wellPage well, wellPage (partnerWell well)] s t ∧ SameBytes s t) ∧
    (boundWell s well ≠ none ∨ pinOf s well ≠ none →
      ∃ t, exec (.pinStart well) s = .next t ∧ t.pin = s.pin ∧ t.binding = s.binding ∧ t.pinsPlaced = s.pinsPlaced.erase p ∧
        getF t (Reg.WELL_COUNT well) 0 16 = satInc 16 (getF s (Reg.WELL_COUNT well) 0 16) ∧ SameRegsBut [Reg.WELL_COUNT well] s t)) ∧
  (∀ (well : Fin 288) (p : WellPin) (s : State), pinOf s well = some p →
    ∃ t, exec (.pinEnd well) s = .next t ∧ pinOf t well = none ∧ (∀ w, w ≠ well.val → pinOf t w = pinOf s w) ∧
      t.time = (advanceTo p.stop s).time ∧ SameRegsOff [wellPage well, wellPage (partnerWell well)] s t ∧ SameBytes s t) ∧
  (∀ (req : Requester) (pair : Fin 80) (tier : Fin 32) (mode : Fin 4) (s : State), WriteReaches req (Reg.ILV_CTRL (2 * pair.val)) s →
    ((bindingOf s pair ≠ none ∨ mode = 3 ∨ ∃ w, (w = 2 * pair.val ∨ w = 2 * pair.val + 1) ∧ (wellRuns s w = false ∨ calRun s w ≠ none ∨ pinOf s w ≠ none)) →
      ∃ t, exec (.bind req pair tier mode) s = .next t ∧ getBit t (Reg.ILV_STATUS (2 * pair.val)) 2 = true ∧
        OnlyRegs [Reg.ILV_STATUS (2 * pair.val)] s t) ∧
    (bindingOf s pair = none → mode ≠ 3 →
        (∀ w, w = 2 * pair.val ∨ w = 2 * pair.val + 1 → wellRuns s w = true ∧ calRun s w = none ∧ pinOf s w = none) →
      ∃ t, exec (.bind req pair tier mode) s = .next t ∧ getBit t (Reg.ILV_STATUS (2 * pair.val)) 2 = false ∧
        (mode ≠ 0 → bindingOf t pair = some { mode := mode, tier := tier, bound := false, gen := 0, ends := none } ∧
          getF t (Reg.ILV_STATUS (2 * pair.val)) 0 2 = 1 ∧ SameRegsBut [Reg.ILV_STATUS (2 * pair.val)] s t) ∧
        (mode = 0 → BindingStarts pair { mode := 0, tier := tier, bound := false, gen := 0, ends := none } s t))) ∧
  (∀ (pair : Fin 80) (b : Binding) (s : State), bindingOf s pair = some b → b.bound = false →
      wellRuns s (2 * pair.val) = true → wellRuns s (2 * pair.val + 1) = true →
    (b.mode = 1 → ∃ t, exec (.ilvBindingStart pair) s = .next t ∧ BindingStarts pair b s t ∧
      t.time = (advanceTo (reg64 s (Reg.ILV_START_T_LO (2 * pair.val))) s).time) ∧
    (b.mode = 2 → ∀ g s1, takeEvent (32 + pair.val) s = some (g, s1) →
      ∃ t, exec (.ilvStart pair) s = .next t ∧ BindingStarts pair b s t)) ∧
  (∀ (pair : Fin 80) (b : Binding) (s : State), bindingOf s pair = some b → b.bound = true →
    (∀ e, b.ends = some e → ∃ t, exec (.ilvBindingEnd pair) s = .next t ∧ BindingEnds pair s t ∧ t.time = (advanceUptime e s).time) ∧
    (∀ req, WriteReaches req (Reg.ILV_CTRL (2 * pair.val)) s → ∃ t, exec (.ilvRelease req pair) s = .next t ∧ BindingEnds pair s t)) ∧
  (∀ (req : Requester) (pair : Fin 80) (b : Binding) (s : State), WriteReaches req (Reg.ILV_CTRL (2 * pair.val)) s →
    bindingOf s pair = some b → b.bound = false →
    ∃ t, exec (.ilvRelease req pair) s = .next t ∧ bindingOf t pair = none ∧ getF t (Reg.ILV_STATUS (2 * pair.val)) 0 2 = 0 ∧
      getF t (Reg.ILV_STATUS (2 * pair.val)) 16 16 = getF s (Reg.ILV_STATUS (2 * pair.val)) 16 16)

/-- In a page that has CAL_CMD, START is refused with only REFUSED set where R351 says so, and otherwise shows BUSY with CAL_REF
alone kept. EXT_PHASE = 0 begins the zero phase of an external run; its end holds the results with ZERO_HELD. EXT_PHASE = 1 is
refused without ZERO_HELD, fails the run with TARGET_BAD on a target out of bounds, and otherwise begins the full-scale phase. A
held run times out, and ABORT ends a run, with ABORTED. While a channel, range or well that the run selects is not measured,
nothing changes. When the measurements are complete, a channel whose two do not agree ends the run with CAL_DISAGREE and the
first such channel and range; a GAIN out of its range ends it with CAL_FAILED; in both, as in every run that ends early, no
calibration value changes. Otherwise every channel and range takes its OFS and GAIN, CAL_REF takes the reference in use, and
DONE and CAL_DONE set. -/
def Obligations.CalibrationRunsAgreeOrChangeNothing : Prop :=
  (∀ (req : Requester) (well : Fin 288) (ch : BitVec 16) (ranges : BitVec 4) (s : State), WriteReaches req (Reg.CAL_CMD well) s →
      isTap well = true ∨ isPrimary well = true →
    (calRefused s well ch.toNat = true →
      (∃ t, exec (.calStartInternal req well ch ranges) s = .next t ∧ getBit t (Reg.CAL_STATUS well) 3 = true ∧ OnlyRegs [Reg.CAL_STATUS well] s t) ∧
      (∃ t, exec (.calStartExternal req well ch) s = .next t ∧ getBit t (Reg.CAL_STATUS well) 3 = true ∧ OnlyRegs [Reg.CAL_STATUS well] s t)) ∧
    (calRefused s well ch.toNat = false →
      (∃ t, exec (.calStartInternal req well ch ranges) s = .next t ∧
        calRun t well = some { phase := .internal, channels := ch.toNat, ranges := ranges.toNat, heldAt := 0, start := s.time.uptime } ∧
        reg t (Reg.CAL_STATUS well) = word (1 + 256 * getF s (Reg.CAL_STATUS well) 8 2) ∧ getBit t (Reg.WELL_STATUS well) 5 = true ∧
        (∀ i, i < wellInputs well → getBit t (Reg.CH_STATUS well i) 5 = ch.getLsbD i) ∧
        SameRegsOff [wellPage well, wellPage (partnerWell well)] s t ∧ SameBytes s t) ∧
      (∃ t, exec (.calStartExternal req well ch) s = .next t ∧
        calRun t well = some { phase := .external, channels := ch.toNat, ranges := 0, heldAt := 0, start := s.time.uptime } ∧
        reg t (Reg.CAL_STATUS well) = word (1 + 256 * getF s (Reg.CAL_STATUS well) 8 2) ∧ getBit t (Reg.WELL_STATUS well) 5 = true ∧
        SameRegsOff [wellPage well, wellPage (partnerWell well)] s t ∧ SameBytes s t))) ∧
  (∀ (req : Requester) (well : Fin 288) (s : State), WriteReaches req (Reg.CAL_CMD well) s → isTap well = true ∨ isPrimary well = true →
    (∀ r, calRun s well = some r →
      (r.phase = .external → ∃ t m, exec (.extPhaseZero req well) s = .next t ∧ t = { s with calRun := m } ∧
        calRun t well = some { r with phase := .zero }) ∧
      (r.phase = .held → (selected well r.channels).any (targetBad s well) = false →
        ∃ t m, exec (.extPhaseFull req well) s = .next t ∧ t = { s with calRun := m } ∧ calRun t well = some { r with phase := .full }) ∧
      (r.phase = .held → (selected well r.channels).any (targetBad s well) = true →
        ∃ t, exec (.extPhaseFull req well) s = .next t ∧ CalRunEnds well s t ∧ getBit t (Reg.CAL_STATUS well) 6 = true) ∧
      (r.phase ≠ .held → ∃ t, exec (.extPhaseFull req well) s = .next t ∧ getBit t (Reg.CAL_STATUS well) 3 = true ∧ OnlyRegs [Reg.CAL_STATUS well] s t) ∧
      (∃ t, exec (.calAbort req well) s = .next t ∧ CalRunEnds well s t ∧ getBit t (Reg.CAL_STATUS well) 4 = true)) ∧
    (calRun s well = none →
      exec (.calAbort req well) s = .next s ∧ exec (.extPhaseZero req well) s = .next s ∧
      ∃ t, exec (.extPhaseFull req well) s = .next t ∧ getBit t (Reg.CAL_STATUS well) 3 = true ∧ OnlyRegs [Reg.CAL_STATUS well] s t)) ∧
  (∀ (well : Fin 288) (r : CalRun) (s : State), calRun s well = some r →
    (r.phase = .zero → ∃ t, exec (.zeroHeld well) s = .next t ∧ calRun t well = some { r with phase := .held, heldAt := s.time.uptime } ∧
      getBit t (Reg.CAL_STATUS well) 5 = true ∧ SameRegsBut [Reg.CAL_STATUS well] s t ∧ SameBytes s t) ∧
    (r.phase = .held → ∃ t, exec (.extCalTimeout well) s = .next t ∧ CalRunEnds well s t ∧ getBit t (Reg.CAL_STATUS well) 4 = true ∧
      t.time = (advanceUptime (r.heldAt + 10000000000) s).time)) ∧
  (∀ (well : Fin 288) (runs got : List CalMeasure) (r : CalRun) (s : State), calRun s well = some r → r.phase = .internal ∨ r.phase = .full →
      calGathered runs (calNeeded s well r) = some got →
    (∀ m, got.find? (fun x => !calAgrees s well r x) = some m →
      ∃ t, exec (.wellCalComplete well runs) s = .next t ∧ CalRunEnds well s t ∧ getBit t (Reg.CAL_STATUS well) 2 = true ∧
        getF t (Reg.CAL_STATUS well) 12 4 = m.channel ∧ getF t (Reg.CAL_STATUS well) 16 2 = m.range) ∧
    ((∀ m ∈ got, calAgrees s well r m = true) → (∃ m ∈ got, gainBad s well r m = true) →
      ∃ t, exec (.wellCalComplete well runs) s = .next t ∧ CalRunEnds well s t) ∧
    ((∀ m ∈ got, calAgrees s well r m = true ∧ gainBad s well r m = false) →
      ∃ t, exec (.wellCalComplete well runs) s = .next t ∧ calRun t well = none ∧ getBit t (Reg.CAL_STATUS well) 1 = true ∧
        getBit t (Reg.CAL_STATUS well) 0 = false ∧ getF t (Reg.CAL_STATUS well) 8 2 = getF s (Reg.WELL_CFG well) 0 2 ∧
        getBit t (Reg.INT_STATUS (wellPage well)) 0 = true ∧
        ∀ m ∈ got, reg t (Reg.CH_CAL (if m.checker then partnerWell well else well.val) (4 * m.channel + m.range)) =
          word (unsignedOf 16 (calStored s well r m).2 + 2 ^ 16 * unsignedOf 16 (calStored s well r m).1))) ∧
  (∀ (well : Fin 288) (runs : List CalMeasure) (r : CalRun) (s : State), calRun s well = some r →
    calGathered runs (calNeeded s well r) = none → exec (.wellCalComplete well runs) s = .next s)

/-- At an offset of an undecided item, at its instant, while another item of the epoch is undecided: no sample of its monitor or
tap within MAXWAIT before that is neither UNSETTLED nor of an IMPLAUSIBLE monitor leaves the item to its other offsets, and
makes it NO_SAMPLE at the last; an UNKNOWN input or E below ABS_MIN makes it NOT_JUDGED; a sample in window that completes REQ
makes it PASS; one out of window after which more than NSAMP − REQ are out makes it FAIL in the sample's direction, with FAIL
set where the plan selects INT, and one log record where LOG_EN is 1; any other sample counts and the item goes on. At T + 25
µs, or at once if that has passed, every undecided item is ABANDONED, all pins end, the last-epoch registers take the counts,
JUDGED sets, and on the leader the masks of judged and failing input ports join the report. VRD_COUNT_CLR clears VRD_ACT_COUNT
alone. -/
def Obligations.ItemsAreJudgedSampleBySample : Prop :=
  (∀ (tap : Bool) (index : Fin 2560) (offset : Fin 4) (v : VerdictEpoch) (i : VerdictItem) (s : State), s.verdict = some v →
      v.items.find? (fun i => i.tap == tap && i.index == index.val && i.result.isNone && i.left.contains offset.val) = some i →
      (∃ x ∈ v.items, x.result = none ∧ ¬ (x.tap = i.tap ∧ x.index = i.index)) →
    ∀ (raw : BitVec 12) (a : State), a = advanceTo ((i.reference + 64 * v.offset offset + 63) / 64) s →
    (itemSample a v i offset = none →
      ∃ t, exec (.verdictOffsetDue tap index offset raw) s = .next t ∧ t.time = a.time ∧
        (i.left.erase offset.val ≠ [] → t.verdict = some (v.withItem { i with left := i.left.erase offset.val })) ∧
        (i.left.erase offset.val = [] → t.verdict = some (v.withItem { i with left := [], result := some .noSample }))) ∧
    (∀ (x : Nat × Nat) (u : State), itemSample a v i offset = some x → u = recordSample (itemSource a i).1 (itemSource a i).2 raw a →
      ∃ t, exec (.verdictOffsetDue tap index offset raw) s = .next t ∧ t.time = a.time ∧
        (expected u v i (x.1 / 2) = none →
          t.verdict = some (v.withItem { i with left := i.left.erase offset.val, result := some .notJudged }) ∧ t.regs = u.regs) ∧
        ∀ e, expected u v i (x.1 / 2) = some e →
          (e < ((80 * fld (v.word 5) 0 16 : Nat) : Rat) →
            t.verdict = some (v.withItem { i with left := i.left.erase offset.val, result := some .notJudged }) ∧ t.regs = u.regs) ∧
          (((80 * fld (v.word 5) 0 16 : Nat) : Rat) ≤ e → windowSide v i e (itemCurrent u i x raw) (isOver raw) = 0 →
            (v.required ≤ i.inside + 1 →
              t.verdict = some (v.withItem { i with left := i.left.erase offset.val, result := some .pass }) ∧ t.regs = u.regs) ∧
            (i.inside + 1 < v.required → i.left.erase offset.val ≠ [] →
              t.verdict = some (v.withItem { i with left := i.left.erase offset.val, inside := i.inside + 1 }) ∧ t.regs = u.regs)) ∧
          (((80 * fld (v.word 5) 0 16 : Nat) : Rat) ≤ e → windowSide v i e (itemCurrent u i x raw) (isOver raw) ≠ 0 →
            (v.samples < v.required + i.outside + 1 →
              (∃ w, t.verdict = some w ∧ w.items = (v.withItem { i with
                left := i.left.erase offset.val
                result := some (if windowSide v i e (itemCurrent u i x raw) (isOver raw) = 2 then .failHigh else .failLow) }).items) ∧
              (bitOf (v.word 6) (if i.tap then 8 else 0) = true → v.failed = false → getBit t (Reg.INT_STATUS verdictPage) 0 = true) ∧
              (bitOf (v.word 6) (if i.tap then 11 else 2) = true → v.faulted = false → getBit t (Reg.FAULT_STATUS verdictPage) 0 = true) ∧
              (getBit s Reg.VRD_LOG_BASE 0 = true → getF t Reg.VRD_LOG_WR 0 8 = (getF s Reg.VRD_LOG_WR 0 8 + 1) % 256 ∧
                getF t Reg.VRD_LOG_WR 8 24 = (getF s Reg.VRD_LOG_WR 8 24 + 1) % 2 ^ 24)) ∧
            (v.required + i.outside + 1 ≤ v.samples → i.left.erase offset.val ≠ [] →
              t.verdict = some (v.withItem { i with left := i.left.erase offset.val, outside := i.outside + 1 }) ∧ t.regs = u.regs)))) ∧
  (∀ (v : VerdictEpoch) (s : State), s.verdict = some v →
    ∃ t, exec .verdictAbandon s = .next t ∧ t.time = (advanceTo (v.t + 25000) s).time ∧ t.verdict = none ∧ t.pinsPlaced = [] ∧
      (∀ w, w < 288 → wellPresent s w = true → pinOf t w = none) ∧
      reg64 t Reg.VRD_LAST_EPOCH_LO = v.num % 2 ^ 64 ∧ getBit t (Reg.INT_STATUS verdictPage) 1 = true ∧
      ((∀ i ∈ v.items, i.result ≠ some .abandoned) → getF t Reg.VRD_LAST_MISS 20 10 = min 1023 (v.items.filter fun i => i.result.isNone).length) ∧
      getF t Reg.VRD_LAST_COUNT 0 16 = min 65535 (v.items.filter fun i => (i.result.map Judgement.fails).getD false).length ∧
      (isLeader s = true → t.reports = (addSummary v.num (portMask (v.items.filter fun i => (i.result.map Judgement.decided).getD false))
        (portMask (v.items.filter fun i => (i.result.map Judgement.fails).getD false)) s).reports)) ∧
  (∀ (req : Requester) (s : State), WriteReaches req Reg.VRD_COUNT_CLR s →
    ∃ t, exec (.vrdCountClr req) s = .next t ∧ reg t Reg.VRD_ACT_COUNT = 0 ∧ OnlyRegs [Reg.VRD_ACT_COUNT] s t)

/-- The next bit boundary, 16 µs after the one before, begins the next of 32 bits: an ATTEN channel in HOLD stands at its level
for a 1 bit and between its EO_BAR and EO_CROSS codes at the dimmed fraction for a 0 bit, and every other channel is left alone.
With PILOT_EN 0, or VERDICT stopped, the frames end there and those channels stand at their level. With none running, PILOT_EN
starts a frame. At T + 4 µs of the epoch applied last a new frame begins and, with DECODE_EN, every monitor that is no output
monitor gets NOT_ASSIGNED, and the decoders of the others wait for results. At the frame's end a waiting monitor's result, from
the readings it has heard, stands in its PILOT words with the epoch's number and counts; the first MISMATCH of an epoch sets the
interrupt and the fault bit that the configuration selects; after the last result IDENT_DONE sets. At an exchange instant with
MIRROR_EN, word 0 and word 1 of all 1,024 entries stand in the mirror area, and with MIRROR_EN 0 on a stand-alone device only
time has passed. -/
def Obligations.PilotsRunAndAreDecoded : Prop :=
  (∀ (s : State) (x o due : Nat), s.pilotBit = some x → s.pilotStarts.head? = some o → o ≤ s.time.uptime →
      due = o + ((s.time.uptime - o) / 16000 + 1) * 16000 →
    ∃ t, exec .pilotBitBoundary s = .next t ∧ t.time = (advanceUptime due s).time ∧ t.regs = s.regs ∧ SameBytes s t ∧
      (pilotWanted s = true →
        t.pilotBit = some (((s.time.uptime - o) / 16000 + 1) % 32) ∧ t.pilotStarts = s.pilotStarts ∧
        (∀ n, n < s.variant.slots → role s n = roleAtten → (channel s n).state = .hold →
          channel t n = { channel s n with out := (
            if (pilotFrame (getF s Reg.VRD_PILOT_CFG 16 6) (actF s (Reg.SLOT_CFG n) 16 10)).testBit (31 - ((s.time.uptime - o) / 16000 + 1) % 32)
            then (channel s n).lvlTo
            else between (act s (Reg.EO_BAR n)) (act s (Reg.EO_CROSS n)) (pilotFraction (channel s n).atten (getF s Reg.VRD_PILOT_CFG 8 5) : Nat) (2 ^ 24)) })) ∧
      (pilotWanted s = false → t.pilotBit = none ∧ t.pilotStarts = [] ∧
        ∀ n, n < s.variant.slots → role s n = roleAtten → (channel s n).state = .hold →
          channel t n = { channel s n with out := (channel s n).lvlTo }) ∧
      (∀ n, role s n ≠ roleAtten ∨ (channel s n).state ≠ .hold → channel t n = channel s n)) ∧
  (∀ s : State, s.pilotBit = none →
    (pilotWanted s = false → exec .pilotBitBoundary s = .next s) ∧
    (pilotWanted s = true → ∃ t, exec .pilotBitBoundary s = .next t ∧ t.time = s.time ∧ t.regs = s.regs ∧
      t.pilotBit = some 0 ∧ t.pilotStarts.head? = some s.time.uptime)) ∧
  (∀ (num at_ : Nat) (s : State), s.lastApplied = some (num, at_) →
    ∃ t, exec .pilotFrameStart s = .next t ∧ t.time = (advanceTo (at_ + 4000) s).time ∧
      (pilotWanted s = true → t.pilotBit = some 0 ∧ t.pilotStarts.head? = some t.time.uptime) ∧ (pilotWanted s = false → t.eo = s.eo) ∧
      (verdictRuns s = true → getBit s Reg.VRD_PILOT_CFG 1 = true →
        reg64 t Reg.VRD_IDENT_EPOCH_LO = num % 2 ^ 64 ∧
        (∀ m, m < s.variant.monitors → outputMonitor s m = false →
          reg t (Reg.PILOT_A (m / 8) (m % 8)) = word (6 * 2 ^ 16) ∧ reg t (Reg.PILOT_B (m / 8) (m % 8)) = word num) ∧
        ((∃ m, m < s.variant.monitors ∧ outputMonitor s m = true) →
          t.pilotDecode = some { num := num, start := t.time.uptime, left := (List.range s.variant.monitors).filter (outputMonitor s), heard := [],
                                 acted := false } ∧
          reg t Reg.VRD_IDENT_STATUS = 0) ∧
        ((∀ m, m < s.variant.monitors → outputMonitor s m = false) →
          t.pilotDecode = none ∧ getBit t Reg.VRD_IDENT_STATUS 30 = true ∧ getBit t (Reg.INT_STATUS verdictPage) 2 = true)) ∧
      (verdictRuns s = false ∨ getBit s Reg.VRD_PILOT_CFG 1 = false → t.regs = s.regs ∧ t.pilotDecode = s.pilotDecode)) ∧
  (∀ (primary : Fin 64) (input : Fin 8) (m : Nat) (x : PilotTally) (d : PilotDecode) (s : State), s.pilotDecode = some d →
      m = 8 * primary.val + input.val → m ∈ d.left → x = d.tally m →
    ∃ t, exec (.pilotDecodeComplete primary input) s = .next t ∧ t.time = (advanceUptime (d.start + 512000) s).time ∧
      reg t (Reg.PILOT_A (m / 8) (m % 8)) = word (framePort (pilotWord (bitAverages x)) % 1024 + 2 ^ 10 * (frameSwitch (pilotWord (bitAverages x)) % 64) + 2 ^ 16 * pilotResult s m x) ∧
      reg t (Reg.PILOT_B (m / 8) (m % 8)) = word d.num ∧
      (pilotResult s m x ≠ 4 → getF t Reg.VRD_IDENT_STATUS (10 * (pilotResult s m x - 1)) 10 =
        satInc 10 (getF s Reg.VRD_IDENT_STATUS (10 * (pilotResult s m x - 1)) 10)) ∧
      (pilotResult s m x = 2 → d.acted = false →
        (getBit s Reg.VRD_PILOT_CFG 24 = true → getBit t (Reg.INT_STATUS verdictPage) 3 = true) ∧
        (getBit s Reg.VRD_PILOT_CFG 26 = true → getBit t (Reg.FAULT_STATUS verdictPage) 1 = true)) ∧
      (d.left.erase m ≠ [] → t.pilotDecode = some { d with left := d.left.erase m, acted := d.acted || pilotResult s m x == 2 }) ∧
      (d.left.erase m = [] → t.pilotDecode = none ∧ getBit t Reg.VRD_IDENT_STATUS 30 = true ∧ getBit t (Reg.INT_STATUS verdictPage) 2 = true)) ∧
  (∀ (s u : State), u = advanceTo ((ptpNow s + 9999) / 10000 * 10000) s →
    ∃ t, exec .inputPowerExchange s = .next t ∧ t.time = u.time ∧ t.regs = s.regs ∧ t.inputPower = s.inputPower ∧
      (standAlone s = true → getBit s Reg.VRD_IPT_BASE 0 = false → t = u) ∧
      (getBit s Reg.VRD_IPT_BASE 0 = true → getF s Reg.VRD_IPT_BASE 13 11 * 0x2000 < 0xC00000 → ∀ p, p < 1024 →
        readMem t (sramAt (getF s Reg.VRD_IPT_BASE 13 11 * 0x2000) + 8 * p) 4 = (mirrorEntry u p).1 % 2 ^ 32 ∧
        readMem t (sramAt (getF s Reg.VRD_IPT_BASE 13 11 * 0x2000) + 8 * p + 4) 4 = (mirrorEntry u p).2 % 2 ^ 32))

/-- A refused ARM leaves its reason alone; an accepted one starts the stream from nothing under the descriptor read, ARMED or
RUNNING, with its status clear and the task input subscribed as the descriptor says. A trigger from the host, the event or a
watched pin takes an ARMED stream to POST at its instant; in any other state, but for another of the same cycle in POST, it is
missed, and an event counts as lost at its task input. A complete unit is written at the ring's write place, unless FULL = 1 and
it would overwrite an unacknowledged record, which stops the stream; each loop record of a cell's update is an item of its own,
and a housekeeping item is its result word. Once the last item is written the header carries the next SEQ, RECORD sets, and the
stream re-arms, or is DONE when no records are left. STOP ends an active stream; STOP_AFTER waits for a record in POST; a write
error ends it in ERROR. TRIG_OUT starts one pulse at a time, and its end lowers the pin. -/
def Obligations.StreamsArmTriggerRecordAndStop : Prop :=
  (∀ (req : Requester) (n : Fin 256) (d : CaptDesc) (s : State), WriteReaches req Reg.CAPT_CMD s → d = readDesc s n →
    (armRefused s n d ≠ 0 →
      ∃ t, exec (.arm req n) s = .next t ∧ reg t Reg.CAPT_RESULT = word (n.val + 2 ^ 8 + 2 ^ 9 * armRefused s n d) ∧
        OnlyRegs [Reg.CAPT_RESULT] s t) ∧
    (armRefused s n d = 0 →
      ∃ t, exec (.arm req n) s = .next t ∧ reg t Reg.CAPT_RESULT = word n.val ∧ reg t (Reg.CAPT_ACK n) = 0 ∧
        stream t n = { CaptStream.empty with desc := d, phase := if d.continuous then .running else .armed } ∧
        reg t (Reg.CAPT_STAT n) = word (if d.continuous then 3 else 1) ∧ getBit t (Reg.CAPT_ACTIVE (n.val / 32)) (n.val % 32) = true ∧
        taskChannel t (128 + n.val) = (if d.trigKind = 1 then some d.trigNum else none) ∧
        (∀ k, k ≠ n.val → stream t k = stream s k) ∧ SameBytes s t)) ∧
  (∀ (n : Fin 256) (s : State),
    (∀ req, WriteReaches req Reg.CAPT_CMD s →
      ((stream s n).phase = .armed → ∃ t, exec (.trigger req n) s = .next t ∧
        stream t n = { stream s n with
          phase := .post
          missed := 0
          trigger := some { instant := ptpNow s, source := 3, num := 0, arrived := s.time.uptime, gen := 0, missed := (stream s n).missed } } ∧
        SameBytes s t) ∧
      ((stream s n).phase ≠ .armed → (stream s n).phase ≠ .post →
        ∃ t, exec (.trigger req n) s = .next t ∧ stream t n = { stream s n with missed := (stream s n).missed + 1 })) ∧
    (∀ g u, takeEvent (128 + n.val) s = some (g, u) →
      ((stream s n).phase = .armed → ∃ t, exec (.captTrig n) s = .next t ∧ (stream t n).phase = .post ∧
        (stream t n).trigger = some { instant := ptpNow u, source := 1, num := (stream s n).desc.trigNum, arrived := u.time.uptime
                                      gen := g, missed := (stream s n).missed }) ∧
      (∀ x, (stream s n).phase = .post → (stream s n).trigger = some x → x.arrived ≠ u.time.uptime →
        ∃ t, exec (.captTrig n) s = .next t ∧ stream t n = { stream s n with missed := (stream s n).missed + 1 } ∧
          getBit t (Reg.EVT_TASK_STAT (64 + n.val / 2)) (16 * (n.val % 2) + 15) = true))) ∧
  (∀ (p : Fin 8) (rising : Bool) (stamp : Nat) (s : State),
    (getBit s (Reg.TRIG_CFG p) 0 = false → getBit s (Reg.TRIG_CFG p) (if rising then 1 else 2) = true →
      ∃ t, exec (.trigIn p rising stamp) s = .next t ∧
        ∀ n, n < 256 → (stream s n).desc.trigKind = 2 → (stream s n).desc.trigNum = p.val → (stream s n).phase = .armed →
          (stream t n).phase = .post ∧ ∃ x, (stream t n).trigger = some x ∧ x.source = 2 ∧ x.num = p.val ∧
            x.instant = ((edgeStamp s stamp : Int) - signed 16 (getF s (Reg.TRIG_COMP p) 0 16)).toNat) ∧
    (getBit s (Reg.TRIG_CFG p) 0 = true ∨ getBit s (Reg.TRIG_CFG p) (if rising then 1 else 2) = false →
      exec (.trigIn p rising stamp) s = .next s)) ∧
  (∀ (p : Fin 8) (s : State),
    (∀ g u, takeEvent (16 + p.val) s = some (g, u) → getBit s (Reg.TRIG_CFG p) 0 = true →
      (SMap.get (fun _ => none) s.trigPulse p = none →
        ∃ t, exec (.trigOut p) s = .next t ∧ t.regs = s.regs ∧
          SMap.get (fun _ => none) t.trigPulse p = some (u.time.uptime + 20 + getF s (Reg.TRIG_CFG p) 16 10,
            u.time.uptime + 20 + getF s (Reg.TRIG_CFG p) 16 10 + getF s (Reg.TRIG_CFG p) 8 8)) ∧
      (SMap.get (fun _ => none) s.trigPulse p ≠ none →
        ∃ t, exec (.trigOut p) s = .next t ∧ t.trigPulse = s.trigPulse ∧ getBit t (Reg.EVT_TASK_STAT ((16 + p.val) / 2)) (16 * (p.val % 2) + 15) = true)) ∧
    (∀ a e, SMap.get (fun _ => none) s.trigPulse p = some (a, e) →
      ∃ t, exec (.trigPulseEnd p) s = .next t ∧ SMap.get (fun _ => none) t.trigPulse p = none ∧ t.out = .trigPin p false e :: s.out ∧
        t.time = (advanceUptime e s).time ∧ t.regs = s.regs)) ∧
  (∀ (n : Fin 256) (items : List CaptItem) (s : State), (stream s n).phase.active = true → (stream s n).desc.kind ≠ 7 →
      items.length = (stream s n).desc.unitItems →
    ((stream s n).desc.full = false ∨ overwritten s n ((stream s n).written + (unitCoded s (stream s n).desc items).length) = [] →
      ∃ t, exec (.captUnitWritten n items) s = .next t ∧ (stream t n).phase = (stream s n).phase ∧
        (stream t n).written = (stream s n).written + (unitCoded s (stream s n).desc items).length ∧
        (stream t n).count = (stream s n).count + items.length ∧
        (overwritten s n ((stream s n).written + (unitCoded s (stream s n).desc items).length) ≠ [] → getBit t (Reg.CAPT_STAT n) 3 = true) ∧
        ((stream s n).written % 2 ^ (stream s n).desc.size + (unitCoded s (stream s n).desc items).length ≤ 2 ^ (stream s n).desc.size →
          ∀ i b, (unitCoded s (stream s n).desc items)[i]? = some b →
            dramByte t ((stream s n).desc.data + (stream s n).written % 2 ^ (stream s n).desc.size + i) = b)) ∧
    ((stream s n).desc.full = true → overwritten s n ((stream s n).written + (unitCoded s (stream s n).desc items).length) ≠ [] →
      ∃ t, exec (.captUnitWritten n items) s = .next t ∧ (stream t n).phase = .fullStopped ∧ (stream t n).written = (stream s n).written ∧
        getBit t (Reg.INT_STATUS captPage) 4 = true)) ∧
  (∀ (n : Fin 256) (item : CaptItem) (s : State) (l : List (List Byte)), (stream s n).phase.active = true → (stream s n).desc.kind = 7 →
      (stream s n).desc.tagged = false → (stream s n).desc.full = false → l = (SMap.get (fun _ => LoopCell.empty) s.cells (stream s n).desc.index).record →
    ∃ t, exec (.captUnitWritten n [item]) s = .next t ∧ (stream t n).count = (stream s n).count + l.length ∧
      (stream t n).written = (stream s n).written + (l.map List.length).sum) ∧
  (∀ (n : Fin 256) (rest : List CaptItem) (s : State),
    (∀ x, (stream s n).phase = .post → (stream s n).trigger = some x → ((stream s n).span x).2.2 < (stream s n).count →
        (stream s n).desc.full = false → (stream s n).stopAfter = false →
      ∃ t, exec (.recordHeaderWrite n rest) s = .next t ∧ (stream t n).seq = (stream s n).seq + 1 ∧ (stream t n).trigger = none ∧
        (stream t n).phase = (if (stream s n).desc.records ≠ 0 ∧ (stream s n).desc.records ≤ (stream s n).seq + 1 then .done else .armed) ∧
        getBit t (Reg.INT_STATUS captPage) 0 = true ∧
        readDram t ((stream s n).desc.header + 64 * ((stream s n).seq % 2 ^ (stream s n).desc.hdrLog)) 8 = ((stream s n).seq + 1) % 2 ^ 64) ∧
    ((stream s n).phase = .running → (stream s n).eligible + (stream s n).desc.post ≤ (stream s n).count → (stream s n).desc.full = false →
      ∃ t, exec (.recordHeaderWrite n rest) s = .next t ∧ (stream t n).seq = (stream s n).seq + 1 ∧ (stream t n).phase = .running ∧
        (stream t n).eligible = (stream s n).eligible + (stream s n).desc.post - 1 + 1)) ∧
  (∀ (req : Requester) (n : Fin 256) (s : State), WriteReaches req Reg.CAPT_CMD s →
    ((stream s n).phase.active = true →
      ∃ t, exec (.captStop req n []) s = .next t ∧ (stream t n).phase = .done ∧ getBit t (Reg.INT_STATUS captPage) 4 = true ∧
        taskChannel t (128 + n.val) = none ∧ (∀ k, k ≠ n.val → stream t k = stream s k)) ∧
    ((stream s n).phase.active = false → ∀ rest, exec (.captStop req n rest) s = .next s) ∧
    ((stream s n).phase = .post → ∀ rest, ∃ t, exec (.stopAfter req n rest) s = .next t ∧ stream t n = { stream s n with stopAfter := true } ∧ SameBytes s t) ∧
    ((stream s n).phase = .armed ∨ (stream s n).phase = .running → ∃ t, exec (.stopAfter req n []) s = .next t ∧ (stream t n).phase = .done)) ∧
  (∀ (n : Fin 256) (s : State), (stream s n).phase.active = true →
    ∃ t, exec (.writeError n) s = .next t ∧ (stream t n).phase = .error ∧ getBit t (Reg.CAPT_STAT n) 7 = true ∧
      getBit t (Reg.FAULT_STATUS captPage) 0 = true ∧ getBit t (Reg.INT_STATUS captPage) 4 = true ∧ SameBytes s t)

/-- A link-control block drops what it acknowledges, returns credits and counts what the receiver met, and frames that wait go
out behind; a negative acknowledgement or 2 µs without one replays the rest, and a fourth replay, or 32 CRC errors within 1 ms,
fails the lane. A failed lane's frames stand on the other lane of the hop; it retrains after 1 ms, and returns to service 10 ms
after its lock, while a lane that never failed is up at block lock. A HELLO that R430 admits shows the neighbour joining or
joined with EXCLUDE 0, and one it excludes holds it in probe with the reason and PEER_EXCLUDED. JOIN and the retry begin
training on every idle lane; a joined or stand-alone member ignores JOIN. LEAVE sends LEAVE to the members not in probe, idles
every lane and shows OUT with no peers. HEALTH words stand in the sender's area of the leader. RING_COUNT_CLR clears RING_COUNT
alone. -/
def Obligations.LanesFailRetrainAndMembersJoin : Prop :=
  (∀ (l : Fin 4) (acked : BitVec 12) (credits : List LaneCredit) (crc gone : Nat) (s : State), laneState s l = 2 → crcFails (noteCrc l crc s) l = false →
    (∃ t more, exec (.linkControlBlock l ⟨acked, credits⟩ false crc gone) s = .next t ∧
      (ringLane t l).sent = (ringLane s l).sent.filter (fun f => !decide ((acked.toNat + 4096 - f.seq) % 4096 < 2048)) ++ more ∧
      (∀ f ∈ more, ∃ g ∈ (ringLane s l).waiting, f = { g with seq := f.seq }) ∧
      ((ringLane s l).waiting = [] → more = [] ∧ (ringLane t l).used = (credits.foldl RingLane.credit (ringLane s l)).used) ∧
      getF t (Reg.RING_LANE l) 16 16 = satAdd 16 (getF s (Reg.RING_LANE l) 16 16) crc ∧
      getF t Reg.RING_COUNT 24 8 = satAdd 8 (getF s Reg.RING_COUNT 24 8) gone ∧ SameRegsBut [Reg.RING_LANE l, Reg.RING_COUNT] s t) ∧
    (∃ t, exec (.linkControlBlock l ⟨acked, credits⟩ true crc gone) s = .next t ∧
      ((∀ f ∈ (ringLane s l).sent, 2048 ≤ (acked.toNat + 4096 - f.seq) % 4096 → f.replays < 3) →
        laneState t l = 2 ∧ ∃ more, (ringLane t l).sent =
          ((ringLane s l).sent.filter (fun f => !decide ((acked.toNat + 4096 - f.seq) % 4096 < 2048))).map LaneFrame.again ++ more ∧
          ((ringLane s l).waiting = [] → more = [])) ∧
      ((∃ f ∈ (ringLane s l).sent, 2048 ≤ (acked.toNat + 4096 - f.seq) % 4096 ∧ 3 ≤ f.replays) →
        laneState t l = 3 ∧ getBit t (Reg.FAULT_STATUS ringPage) 4 = true)) ∧
    ((ringLane s l).sent ≠ [] → (∀ f ∈ (ringLane s l).sent, f.replays < 3) →
      ∃ t, exec (.replayTimeout l) s = .next t ∧ (ringLane t l).sent = (ringLane s l).sent.map LaneFrame.again ∧
        getF t Reg.RING_COUNT 0 16 = satAdd 16 (getF s Reg.RING_COUNT 0 16) (ringLane s l).sent.length ∧
        t.time = (advanceUptime ((ringLane s l).ackAt + 2000) s).time ∧ SameRegsBut [Reg.RING_COUNT] s t)) ∧
  (∀ (l : Fin 4) (acked : BitVec 12) (nack : Bool) (credits : List LaneCredit) (crc gone : Nat) (s : State), laneState s l = 2 →
      crcFails (noteCrc l crc s) l = true →
    ∃ t, exec (.linkControlBlock l ⟨acked, credits⟩ nack crc gone) s = .next t ∧ laneState t l = 3 ∧ getBit t (Reg.FAULT_STATUS ringPage) 4 = true) ∧
  (∀ (l : Fin 4) (crc : Nat) (s : State),
    (laneState s l ≠ 0 → laneState s l ≠ 3 → ∃ t, exec (.laneFailed l crc) s = .next t ∧ LaneFails l s t) ∧
    (laneState s l = 3 → ∃ t, exec (.laneRetrain l) s = .next t ∧ laneState t l = 1 ∧ t.time = (advanceUptime ((ringLane s l).failedAt + 1000000) s).time ∧
      getF t (Reg.RING_LANE l) 8 8 = satInc 8 (getF s (Reg.RING_LANE l) 8 8) ∧ SameRegsBut [Reg.RING_LANE l] s t ∧ SameBytes s t) ∧
    (laneState s l = 1 → (ringLane s l).probation = false →
      ∃ t, exec (.laneBlockLock l) s = .next t ∧ laneState t l = 2 ∧ OnlyRegs [Reg.RING_LANE l] s t) ∧
    (laneState s l = 1 → (ringLane s l).probation = true →
      (∃ t, exec (.laneBlockLock l) s = .next t ∧ (ringLane t l).lockedAt = some s.time.uptime ∧ t.regs = s.regs ∧ SameBytes s t) ∧
      ∀ a, (ringLane s l).lockedAt = some a →
      ∃ t, exec (.laneReturnToService l) s = .next t ∧ laneState t l = 2 ∧ (ringLane t l).probation = false ∧
        t.time = (advanceUptime (a + 10000000) s).time ∧ SameRegsBut [Reg.RING_LANE l] s t)) ∧
  (∀ (l : Fin 4) (h : Hello) (s : State), ringRuns s = true → laneState s l = 2 →
    ∃ t, exec (.hello l h) s = .next t ∧ (peer t h.pos).hello = some h ∧ getF t (Reg.RING_PEER_A h.pos) 4 4 = excludeReason s l h ∧
      reg t (Reg.RING_PEER_B h.pos) = h.firmware ∧
      (excludeReason s l h = 0 → peerState t h.pos = 2 ∨ peerState t h.pos = 3) ∧
      (excludeReason s l h ≠ 0 → peerState t h.pos = 1 ∧ getBit t (Reg.FAULT_STATUS ringPage) 1 = true ∧ joinState t = joinState s)) ∧
  (∀ (s : State), ringRuns s = true → (∃ l, l < 4 ∧ laneState s l = 2) →
    ∃ t, exec .helloSend s = .next t ∧ RingSent 0x01 t ∧ t.regs = s.regs) ∧
  (∀ (s : State), standAlone s = false → enabled s ringPage = true → joinState s ≠ 2 →
    (getBit s Reg.GLB_PRIME_STATUS 8 = true → getBit s Reg.RING_CFG 8 = true →
      ∃ t, exec .joinRetry s = .next t ∧ joinState t ≠ 3 ∧ ∀ l, l < 4 → laneState s l = 0 → laneState t l = 1) ∧
    (∀ req, WriteReaches req Reg.RING_CMD s →
      ∃ t, exec (.join req) s = .next t ∧ joinState t ≠ 3 ∧ ∀ l, l < 4 → laneState s l = 0 → laneState t l = 1)) ∧
  (∀ (req : Requester) (s : State), WriteReaches req Reg.RING_CMD s →
    (joinState s = 2 → exec (.join req) s = .next s) ∧
    (standAlone s = false → joinState s ≠ 3 →
      ∃ t, exec (.ringLeave req) s = .next t ∧ ((∃ p ∈ otherPositions s, probed s p = false) → RingSent 0x03 t) ∧ joinState t = 3 ∧ getBit t Reg.RING_STATUS 4 = false ∧
        getBit t Reg.TIME_STATUS 2 = false ∧ t.ring.peers = [] ∧ (∀ l, l < 4 → laneState t l = 0 ∧ peerState t l = 0)) ∧
    (standAlone s = true ∨ joinState s = 3 → exec (.ringLeave req) s = .next s)) ∧
  (∀ (s : State), ringRuns s = true → joinState s = 2 →
    (ringLeader s = true → ∃ t, exec .healthSend s = .next t ∧ t.regs = s.regs ∧
      ∀ i w, getF s Reg.RING_HEALTH_BASE 12 12 * 0x1000 + 1024 * ringPos s < 0xC00000 → (healthWords s)[i]? = some w →
        readMem t (sramAt (getF s Reg.RING_HEALTH_BASE 12 12 * 0x1000 + 1024 * ringPos s) + 4 * i) 4 = w.toNat) ∧
    (ringLeader s = false → leaderPos s ∈ otherPositions s → probed s (leaderPos s) = false → ∃ t, exec .healthSend s = .next t ∧ RingSent 0x42 t ∧ t.regs = s.regs)) ∧
  (∀ (p : Fin 4) (words : List Word) (s : State), ringLeader s = true → ringHears s p = true →
    ∃ t, exec (.health p words) s = .next t ∧ t.regs = s.regs ∧
      ∀ i w, i < 139 → getF s Reg.RING_HEALTH_BASE 12 12 * 0x1000 + 1024 * p.val < 0xC00000 → words[i]? = some w →
        readMem t (sramAt (getF s Reg.RING_HEALTH_BASE 12 12 * 0x1000 + 1024 * p.val) + 4 * i) 4 = w.toNat) ∧
  (∀ (req : Requester) (s : State), WriteReaches req Reg.RING_COUNT_CLR s →
    ∃ t, exec (.ringCountClr req) s = .next t ∧ reg t Reg.RING_COUNT = 0 ∧ OnlyRegs [Reg.RING_COUNT] s t)

/-- A member that sends LEAVE, or is silent for 3 ms, is lost; where it led, this member takes the lead with the next term if
its claim is the highest heard. A LEAD of a higher term is followed, and of the same term one of a higher claim than the
leader's; a leader gives up to a LEAD of a higher claim; otherwise one of a lower term changes no register. A leader isolated
for 3 ms gives up, goes to PROBE, sets its claim aside and keeps no queued epoch. A HEARTBEAT shows the sender's trust,
adoption, offset and epoch number on the leader, a loss of trust raising TIME_UNTRUSTED, and gives a follower the leader's ε,
step count and increment. ADOPT begins an adoption; PRESET_DATA stores tables, VALID and, in an adoption, the leader's
PRESET_GEN, where a preparation counts the member's own on, and the last one raises ADOPTED; PRESET_INVALIDATE clears VALID.
HANDOVER names a joined member; after 10 ms the leader sends HANDOVER_STATE, drops its queue and follows the target; the
successor leads with the numbers it was given. -/
def Obligations.LeadershipAndStatePassOnTheRing : Prop :=
  (∀ (p : Fin 4) (s : State), ringHears s p = true → peerState s p ≠ 0 → peerState s p ≠ 4 →
    (∃ t, exec (.leave p) s = .next t ∧ MemberLost p s t) ∧
    (∀ x u, (peer s p).heard = some x → u = advanceUptime (x + 3000000) s → ∃ t, exec (.memberSilent p) s = .next t ∧ MemberLost p u t)) ∧
  (∀ (p : Fin 4) (term : BitVec 16) (claim : Nat) (s : State), ringHears s p = true →
    (claimHigher term.toNat (ringTerm s) = true → ∃ t, exec (.lead p term claim) s = .next t ∧ FollowsLeader p term.toNat s t) ∧
    (ringLeader s = true → ownClaim s < claim →
      ∃ t, exec (.lead p term claim) s = .next t ∧ FollowsLeader p term.toNat s t) ∧
    (ringLeader s = false → term.toNat = ringTerm s → leaderPos s ≠ p → (peer s (leaderPos s)).claim < claim →
      ∃ t, exec (.lead p term claim) s = .next t ∧ FollowsLeader p term.toNat s t) ∧
    (claimHigher term.toNat (ringTerm s) = false → term.toNat ≠ ringTerm s → ringLeader s = false ∨ claim ≤ ownClaim s →
      ∃ t, exec (.lead p term claim) s = .next t ∧ t.regs = s.regs ∧ t.epochs = s.epochs ∧ (peer t p).claim = claim)) ∧
  (∀ (s : State), ringLeader s = true →
    ∃ t, exec .leaderIsolated s = .next t ∧ t.time = (advanceUptime (s.ring.lastFrame + 3000000) s).time ∧ getBit t Reg.RING_STATUS 4 = false ∧ joinState t = 0 ∧ t.ring.aside = true ∧
      t.ring.handover = none ∧ t.schedule = none ∧ (∀ e ∈ t.epochs, e.phase ≠ .queued) ∧ SameBytes s t) ∧
  (∀ (s : State), ringRuns s = true → joinState s = 2 → (∃ p ∈ otherPositions s, probed s p = false) → ∃ t, exec .heartbeatSend s = .next t ∧ RingSent 0x02 t ∧ t.regs = s.regs) ∧
  (∀ (p : Fin 4) (b : Heartbeat) (s : State), ringHears s p = true →
    (ringLeader s = true → b.leads = false ∨ b.claim ≤ ownClaim s →
      ∃ t, exec (.heartbeat p b) s = .next t ∧ getBit t (Reg.RING_PEER_A p) 16 = b.trusted ∧ getBit t (Reg.RING_PEER_A p) 18 = b.adopting ∧
        reg t (Reg.RING_PEER_C p) = word (unsignedOf 32 b.offset) ∧ reg t (Reg.RING_PEER_D p) = lo32 b.epochNum ∧
        (peer t p).heard = some s.time.uptime ∧ (peer t p).claim = b.claim ∧ (joinState s = 2 → peerState t p = 3) ∧
        (getBit s (Reg.RING_PEER_A p) 16 = true → b.trusted = false →
          getBit t (Reg.INT_STATUS ringPage) 4 = true ∧ getBit t (Reg.FAULT_STATUS ringPage) 2 = true)) ∧
    (ringLeader s = false → joinState s = 2 → leaderPos s = p.val →
      ∃ t, exec (.heartbeat p b) s = .next t ∧ t.ring.epsilon = b.epsilon ∧ t.ring.leaderSteps = b.steps ∧
        (b.steps ≠ s.ring.leaderSteps → t.align.skip = true) ∧ reg t (Reg.RING_PEER_D p) = lo32 b.epochNum ∧
        (getBit s Reg.RING_CFG 10 = true → incrOk b.increment = true → reg64 t Reg.TIME_INCR_LO = b.increment) ∧ SameBytes s t)) ∧
  (∀ (s : State), ringRuns s = true → ringLeader s = false → joinState s = 2 →
    (∀ presets : List (Fin 64), presets ≠ [] → ∃ t, exec (.adopt presets) s = .next t ∧ getBit t Reg.RING_STATUS 11 = true ∧
      t.ring.adopting = presets.map Fin.val ∧ SameRegsBut [Reg.RING_STATUS] s t ∧ SameBytes s t) ∧
    (∀ d : PresetFrame, ∃ t, exec (.presetData d) s = .next t ∧ presetValid t d.preset = d.valid ∧ presetGen t d.preset = (if d.preset.val ∈ s.ring.adopting then d.gen else presetGen s d.preset + 1) % 65536 ∧
      (∀ o b, o < 0x1000 → d.tables[o]? = some b → memByte t (presetAt d.preset o) = b) ∧
      t.ring.adopting = s.ring.adopting.filter (fun x => x != d.preset.val) ∧
      (s.ring.adopting ≠ [] → (∀ x ∈ s.ring.adopting, x = d.preset.val) →
        getBit t Reg.RING_STATUS 11 = false ∧ getBit t (Reg.INT_STATUS ringPage) 6 = true)) ∧
    (∀ n : Fin 64, ∃ t, exec (.presetInvalidate n) s = .next t ∧ presetValid t n = false ∧ t.regs = s.regs)) ∧
  (∀ (p : Fin 4) (v : HandoverState) (s : State), ringHears s p = true → ringLeader s = false → joinState s = 2 →
    ∃ t, exec (.handoverState p v) s = .next t ∧ t.ring.incoming = some v ∧ t.regs = s.regs ∧ t.epochs = s.epochs) ∧
  (∀ (req : Requester) (p : Fin 4) (s : State), WriteReaches req Reg.RING_CMD s → ringLeader s = true →
    (p.val ≠ ringPos s → peerState s p = 3 → s.ring.handover = none →
      ∃ t, exec (.handover req p) s = .next t ∧ t.ring.handover = some { target := p, since := s.time.uptime, at_ := none } ∧
        t.ring.takebackPos = none ∧ t.regs = s.regs) ∧
    (p.val = ringPos s ∨ peerState s p ≠ 3 → exec (.handover req p) s = .next s)) ∧
  (∀ (h : Handover) (s : State), s.ring.handover = some h → ringLeader s = true → s.handedOff = false → h.target ∈ otherPositions s → h.target < 4 → probed s h.target = false →
    ∃ t, exec .takebackHandoverTimer s = .next t ∧ RingSent 0x25 t ∧ FollowsLeader h.target ((ringTerm s + 1) % 65536) s t ∧
      t.schedule = none ∧ ∀ e ∈ t.epochs, e.phase ≠ .queued) ∧
  (∀ (v : HandoverState) (ms : Nat) (s : State), s.ring.handover = none → s.ring.incoming = some v → v.millisecond = some ms →
      standAlone s = false → (∃ p ∈ otherPositions s, probed s p = false) →
    ∃ t, exec .takebackHandoverTimer s = .next t ∧ getBit t Reg.RING_STATUS 4 = true ∧ getF t Reg.RING_STATUS 2 2 = ringPos s % 4 ∧
      ringTerm t = (ringTerm s + 1) % 65536 ∧ t.epochNumber = v.nextNum - 1 ∧ t.ring.incoming = none ∧ RingSent 0x04 t)

/-- A ready epoch is prepared on every other member while nothing holds commits (none of them in probe), and the leader's own
ACK is noted when it has no reason against it. The ACK that completes the ring no later than T − 3 µs commits the epoch and
sends COMMIT; an earlier ACK is noted; the first NACK, and T − 3 µs without all votes, send ABORT and drop the epoch as
NOT_COMMITTED, codes 1 and 2 recording CONFIG_DISAGREE. A member stages a PREPARE it can serve and votes once; a payload
completes the staging of a routed epoch; at T − 3.5 µs it votes NACK without one. COMMIT no later than T − 2 µs commits the
epoch there, sends COMMITTED and sets EPOCH_LAST_NUM; a later one, or one while no epoch may commit, changes nothing; ABORT
drops it. COMMITTED, ROLE_REPORT, MARK, SUMMARY and INPUT_POWER are kept by the leader, or by every member, as their rules say.
-/
def Obligations.EpochsCommitOnEveryMemberOrNone : Prop :=
  (∀ (e : Epoch) (s : State), EpochsDistinct s → ringLeader s = true → getBit s Reg.RING_STATUS 10 = false →
      s.epochs.find? (fun e => e.fixed && !e.prepared && e.phase == .queued && !e.follower && e.staged.isSome) = some e →
      presetValid s e.preset = true → getBit s (Reg.STATUS epochPage) 0 = true → parkForced s = false →
      getBit s Reg.GLB_PRIME_STATUS 7 = false → s.warmRequested = false → getBit s Reg.RING_STATUS 11 = false →
      (∃ p, p < ringSize s ∧ p ≠ ringPos s) → stage s ≠ 0xF →
      (∀ p ∈ otherPositions s, probed s p = false) →
    ∃ t, exec .prepareSend s = .next t ∧ (∃ x ∈ t.epochs, x.id = e.id ∧ x.prepared = true ∧ x.acks = [ringPos s] ∧ x.phase = .queued ∧ x.num.isSome = true) ∧
      (∀ p ∈ otherPositions s, ∃ content, Emission.ring 0x10 (2 ^ p) content ∈ t.out) ∧ SameBytes s t) ∧
  (∀ (p : Fin 4) (num : Nat) (e : Epoch) (s : State), EpochsDistinct s → ringLeader s = true → ringHears s p = true →
      s.epochs.find? (fun e => e.num == some num && e.prepared && e.phase == .queued && !e.follower) = some e →
    ((∀ q, q < ringSize s → q = p.val ∨ q ∈ e.acks) → ptpNow s + 3000 ≤ e.t → epochsBarred s = false →
      ∃ t, exec (.vote p num none) s = .next t ∧ (∃ x ∈ t.epochs, x.id = e.id ∧ x.phase = .committed) ∧
        reg64 t Reg.EPOCH_LAST_NUM_LO = num % 2 ^ 64 ∧ RingSent 0x12 t) ∧
    ((∃ q, q < ringSize s ∧ q ≠ p.val ∧ q ∉ e.acks) →
      ∃ t, exec (.vote p num none) s = .next t ∧ (∃ x ∈ t.epochs, x.id = e.id ∧ x.phase = .queued ∧ x.acks = p.val :: e.acks) ∧ t.regs = s.regs) ∧
    (∀ c : BitVec 3, ∃ t, exec (.vote p num (some c)) s = .next t ∧ EpochAborted e s t ∧ RingSent 0x13 t ∧
      (c = 1 ∨ c = 2 → getF t Reg.RING_NACK 16 3 = c.toNat ∧ getF t Reg.RING_NACK 20 2 = p.val ∧
        getF t Reg.RING_NACK 0 16 = satInc 16 (getF s Reg.RING_NACK 0 16) ∧ getBit t (Reg.FAULT_STATUS ringPage) 0 = true))) ∧
  (∀ (e : Epoch) (s : State), EpochsDistinct s → ringLeader s = true → (∃ p ∈ otherPositions s, probed s p = false) →
      s.epochs.find? (fun e => e.prepared && e.phase == .queued && !e.follower) = some e →
    ∃ t, exec .commitDeadline s = .next t ∧ EpochAborted e s t ∧ RingSent 0x13 t) ∧
  (∀ (p : Fin 4) (f : PrepareFrame) (s : State), EpochsDistinct s → ringRuns s = true → ringLeader s = false → joinState s = 2 →
      leaderPos s = p.val → p.val ∈ otherPositions s → probed s p = false →
    ∃ t x, exec (.prepareReceived p f) s = .next t ∧ x ∈ t.epochs ∧ x.id = s.epochSerial ∧ x.num = some f.num ∧ x.t = f.instant ∧
      x.follower = true ∧ x.phase = .queued ∧
      (f.routed = false → x.voted = true ∧ RingSent 0x11 t ∧ (presetValid s f.preset = true → x.staged = some (presetCells s f.preset))) ∧
      (f.routed = true → s.ring.payloads.find? (fun y => y.serial == f.serial) = none → x.voted = false ∧ x.staged = none)) ∧
  (∀ (serial : Nat) (perm : List Nat) (cells : List CellData) (e : Epoch) (s : State), EpochsDistinct s → ringRuns s = true →
      ringLeader s = false → joinState s = 2 →
      s.epochs.find? (fun e => e.follower && e.leaderSerial == serial && e.phase == .queued && e.routed) = some e →
    ∃ t x, exec (.payload serial perm cells) s = .next t ∧ x ∈ t.epochs ∧ x.id = e.id ∧ x.staged = some (cells.map CellData.staged) ∧ x.voted = true) ∧
  (∀ (e : Epoch) (s : State), leaderPos s ∈ otherPositions s → leaderPos s < 4 → probed s (leaderPos s) = false →
      s.epochs.find? (fun e => e.follower && e.routed && e.staged.isNone && !e.voted && e.phase == .queued) = some e →
    ∃ t, exec .stagingDeadline s = .next t ∧ (∃ x ∈ t.epochs, x.id = e.id ∧ x.voted = true) ∧ RingSent 0x11 t ∧ t.regs = s.regs ∧
      t.time = (advanceTo (e.t - 3500) s).time) ∧
  (∀ (num : Nat) (e : Epoch) (s : State), s.epochs.find? (fun e => e.follower && e.num == some num && e.phase == .queued && e.staged.isSome) = some e →
    (ringRuns s = true → ptpNow s + 2000 ≤ e.t → leaderPos s ∈ otherPositions s → probed s (leaderPos s) = false → epochsBarred s = false →
      ∃ t, exec (.commitReceived num) s = .next t ∧ (∃ x ∈ t.epochs, x.id = e.id ∧ x.phase = .committed) ∧ t.epochNumber = num ∧
        reg64 t Reg.EPOCH_LAST_NUM_LO = num % 2 ^ 64 ∧ reg64 t Reg.EPOCH_LAST_T_LO = e.t % 2 ^ 64 ∧ RingSent 0x14 t) ∧
    (e.t < ptpNow s + 2000 ∨ epochsBarred s = true → exec (.commitReceived num) s = .next s)) ∧
  (∀ (num : Nat) (p : Fin 4) (code : BitVec 3) (e : Epoch) (s : State), EpochsDistinct s → ringRuns s = true → ringLeader s = false →
      s.epochs.find? (fun e => e.follower && e.num == some num && e.phase == .queued) = some e →
    ∃ t, exec (.abortReceived num p code) s = .next t ∧ EpochAborted e s t ∧
      (code = 1 ∨ code = 2 → getF t Reg.RING_NACK 16 3 = code.toNat ∧ getF t Reg.RING_NACK 20 2 = p.val ∧
        reg64 t Reg.RING_NACK_EPOCH_LO = num % 2 ^ 64 ∧ getBit t (Reg.INT_STATUS ringPage) 3 = true)) ∧
  (∀ (p : Fin 4) (s : State), ringHears s p = true →
    (ringLeader s = true → ∀ num, ∃ t, exec (.committed p num) s = .next t ∧ t.regs = s.regs ∧
      (∀ x ∈ t.epochs, x.num = some num → p.val ∈ x.committedBy) ∧ (∀ r ∈ t.reports, r.num = num → r.committed.testBit p.val = true)) ∧
    (∀ slots : List (BitVec 12 × Word), (slots.map Prod.fst).Nodup →
      ∃ t, exec (.roleReport p slots) s = .next t ∧ t.regs = s.regs ∧
        ∀ x ∈ slots, SMap.get (fun _ => 0) t.ringRoles (4096 * p.val + x.1.toNat) = x.2) ∧
    (∀ l : List PowerReading, (l.map PowerReading.port).Nodup →
      ∃ t, exec (.inputPower p l) s = .next t ∧ t.regs = s.regs ∧
        ∀ x ∈ l, ((monitorFor s x.port.toNat 0).isSome = true →
            SMap.get (fun _ => none) t.inputPower x.port.toNat = SMap.get (fun _ => none) s.inputPower x.port.toNat) ∧
          (monitorFor s x.port.toNat 0 = none → SMap.get (fun _ => none) s.inputPower x.port.toNat = none →
            ∃ v, SMap.get (fun _ => none) t.inputPower x.port.toNat = some v ∧ v.reading = x.reading ∧ v.remote = true ∧
              v.source = p.val ∧ v.time = s.time.uptime))) ∧
  (∀ (s : State), ringLeader s = true →
    (∀ port : BitVec 10, ∃ t, exec (.mark port) s = .next t ∧ portMarked t port.toNat = true ∧ SameRegsBut [Reg.ROUTE_PORT_FAILED (port.toNat / 32)] s t) ∧
    (∀ num judged failing, ∃ t, exec (.summary num judged failing) s = .next t ∧ t.reports = (addSummary num judged failing s).reports ∧ t.regs = s.regs))

/-- A STEP while the clock runs, nothing disciplines it, STEP_USED is 0 and the operand is good waits at least 10 ns with
STEP_USED set; any other is refused with STEP_REFUSED and counts. When it applies, MODE 0 sets seconds and nanoseconds with FRAC
zero, MODE 1 adds the signed offset to the PTP count, TIME_LAST_STEP holds the difference and STEPPED sets. SLEW with an
increment in range and a tick count runs; otherwise it is refused and counts; its end or SLEW_ABORT returns to the increment in
force, with SLEW_DONE. A TIME_INCR in range takes effect at once, or after a running slew; any other keeps the increment and
counts. SNAP stores the three fields. A PPS pulse rises at the next whole second under PPS_OFS, stays for WIDTH µs, and falls at
its end. -/
def Obligations.TimeIsSteppedOnceAndSlewed : Prop :=
  (∀ (req : Requester) (s : State), WriteReaches req Reg.TIME_CMD s →
    (s.time.running = true → ringDisciplined s = false → getBit s Reg.TIME_STATUS 0 = false →
        (getF s Reg.TIME_STEP_CFG 0 1 = 0 → getF s Reg.TIME_STEP_B 0 30 < 1000000000) →
      ∃ t, exec (.step req) s = .next t ∧
        t.time = { s.time with step := some (getF s Reg.TIME_STEP_CFG 0 1, reg64 s Reg.TIME_STEP_A_LO, getF s Reg.TIME_STEP_B 0 30, s.time.uptime + 10) } ∧
        getBit t Reg.TIME_STATUS 0 = true ∧ getBit t Reg.TIME_STATUS 3 = false ∧ SameRegsBut [Reg.TIME_STATUS] s t ∧ SameBytes s t) ∧
    (s.time.running = false ∨ ringDisciplined s = true ∨ getBit s Reg.TIME_STATUS 0 = true ∨
        (getF s Reg.TIME_STEP_CFG 0 1 = 0 ∧ 1000000000 ≤ getF s Reg.TIME_STEP_B 0 30) →
      ∃ t, exec (.step req) s = .next t ∧ getBit t Reg.TIME_STATUS 3 = true ∧
        getF t Reg.TIME_STATUS 16 16 = satInc 16 (getF s Reg.TIME_STATUS 16 16) ∧ OnlyRegs [Reg.TIME_STATUS] s t) ∧
    (∃ t, exec (.snap req) s = .next t ∧ reg64 t Reg.TIME_SNAP_SEC_LO = s.time.sec % 2 ^ 64 ∧ reg t Reg.TIME_SNAP_NS = word s.time.ns ∧
      reg t Reg.TIME_SNAP_FRAC = word s.time.frac ∧
      OnlyRegs [Reg.TIME_SNAP_SEC_LO, Reg.TIME_SNAP_SEC_LO + 4, Reg.TIME_SNAP_NS, Reg.TIME_SNAP_FRAC] s t) ∧
    (s.time.running = true → ringDisciplined s = false → incrOk (reg64 s Reg.TIME_SLEW_INCR_LO % 2 ^ 40) = true → reg s Reg.TIME_SLEW_TICKS ≠ 0 →
      ∃ t, exec (.slew req) s = .next t ∧
        t.time = { s.time with slew := some (reg64 s Reg.TIME_SLEW_INCR_LO % 2 ^ 40, (reg s Reg.TIME_SLEW_TICKS).toNat) } ∧
        getBit t Reg.TIME_STATUS 1 = true ∧ getBit t Reg.TIME_STATUS 5 = false ∧ SameRegsBut [Reg.TIME_STATUS] s t) ∧
    (s.time.running = false ∨ ringDisciplined s = true ∨ incrOk (reg64 s Reg.TIME_SLEW_INCR_LO % 2 ^ 40) = false ∨ reg s Reg.TIME_SLEW_TICKS = 0 →
      ∃ t, exec (.slew req) s = .next t ∧ getBit t Reg.TIME_STATUS 5 = true ∧
        getF t Reg.TIME_STATUS 16 16 = satInc 16 (getF s Reg.TIME_STATUS 16 16) ∧ OnlyRegs [Reg.TIME_STATUS] s t) ∧
    (s.time.slew = none → exec (.slewAbort req) s = .next s) ∧
    (s.time.slew ≠ none → ∃ t, exec (.slewAbort req) s = .next t ∧
      t.time = { s.time with slew := none, incr := s.time.restIncr, incrNext := none } ∧ getBit t Reg.TIME_STATUS 1 = false ∧
      getBit t (Reg.INT_STATUS timePage) 2 = true ∧ SameRegsBut [Reg.TIME_STATUS, Reg.INT_STATUS timePage] s t)) ∧
  (∀ (mode a b at_ : Nat) (s u : State), s.time.step = some (mode, a, b, at_) → u = advanceUptime at_ s →
    ∃ t, exec .stepApply s = .next t ∧ t.time.step = none ∧ t.time.steps = s.time.steps + 1 ∧ getBit t (Reg.INT_STATUS timePage) 0 = true ∧
      (mode = 0 → t.time.sec = a ∧ t.time.ns = b ∧ t.time.frac = 0) ∧
      (mode ≠ 0 → ptpNow t = (ptpNow u + a) % 2 ^ 64 ∧ t.time.frac = u.time.frac) ∧
      reg64 t Reg.TIME_LAST_STEP_LO = (ptpNow t + 2 ^ 64 - ptpNow u) % 2 ^ 64 ∧ t.time.uptime = u.time.uptime ∧ SameBytes s t) ∧
  (∀ (i n : Nat) (s : State), s.time.slew = some (i, n) →
    ∃ t, exec .slewEnd s = .next t ∧
      t.time = { (advanceTicks n s).time with slew := none, incr := s.time.restIncr, incrNext := none } ∧
      getBit t Reg.TIME_STATUS 1 = false ∧ getBit t (Reg.INT_STATUS timePage) 2 = true) ∧
  (∀ (req : Requester) (low : Option Word) (high w : Word) (s : State), WriteReaches req Reg.TIME_INCR_HI s →
      w = (low.orElse fun _ => SMap.get (fun _ => none) s.bus.held (req.toNat * 2 ^ 28 + Reg.TIME_INCR_LO)).getD (reg s Reg.TIME_INCR_LO) →
    (ringDisciplined s = false → incrOk (w.toNat + 2 ^ 32 * (high.toNat % 256)) = true →
      ∃ t, exec (.timeIncrWrite req low high) s = .next t ∧ reg64 t Reg.TIME_INCR_LO = w.toNat + 2 ^ 32 * (high.toNat % 256) ∧
        getBit t Reg.TIME_STATUS 4 = false ∧
        (s.time.running = true → s.time.slew = none → t.time = { s.time with incr := w.toNat + 2 ^ 32 * (high.toNat % 256) }) ∧
        (s.time.running = true → s.time.slew ≠ none → t.time = { s.time with incrNext := some (w.toNat + 2 ^ 32 * (high.toNat % 256)) }) ∧
        (s.time.running = false → t.time = s.time) ∧ SameRegsBut [Reg.TIME_INCR_LO, Reg.TIME_INCR_LO + 4, Reg.TIME_STATUS] s t) ∧
    (ringDisciplined s = true ∨ incrOk (w.toNat + 2 ^ 32 * (high.toNat % 256)) = false →
      ∃ t, exec (.timeIncrWrite req low high) s = .next t ∧ t.time = s.time ∧ getBit t Reg.TIME_STATUS 4 = true ∧
        getF t Reg.TIME_STATUS 16 16 = satInc 16 (getF s Reg.TIME_STATUS 16 16) ∧ SameRegsBut [Reg.TIME_STATUS] s t)) ∧
  (∀ (s u : State), s.time.running = true → getBit s Reg.PPS_CFG 0 = true → s.time.ppsUntil = none → u = advanceTo (ppsNext s) s →
    ∃ t, exec .ppsPulse s = .next t ∧ t.time = { u.time with ppsUntil := some (u.time.uptime + 1000 * getF s Reg.PPS_CFG 8 8) } ∧
      Emission.ppsOut true ∈ t.out ∧ SameRegsOff [evtPage] s t) ∧
  (∀ (s : State) (e : Nat), s.time.ppsUntil = some e →
    ∃ t, exec .ppsPulseEnd s = .next t ∧ t.time = { (advanceUptime e s).time with ppsUntil := none } ∧ t.out = .ppsOut false :: s.out ∧ t.regs = s.regs)

/-- A member sends its probes on the lanes that are up to neighbours not in probe. An exchange on a lane towards the leader
gives the offset, the hop's own plus the neighbour's: within RING_TIME_TOL for the second time running it makes the member
trusted; beyond it, a trusted member is untrusted with TIME_UNTRUSTED in interrupt and fault, and so it is when no offset came
for 3 ms. With TIME_FROM_RING a follower takes its unused step for 1,000 ns or more, and otherwise slews for 500,000 ticks. An
offset out of tolerance for 10 ms faults SLEW_SATURATED. The leader's measurement of a skew calibration begins it here, and one
from any other member changes no register; a word of a member on its result changes none either; the word that it ends ends it
with the trim kept. -/
def Obligations.OffsetsAreMeasuredAndCorrected : Prop :=
  (∀ (s : State), ringRuns s = true → (∃ l, l < 4 ∧ laneState s l = 2 ∧ probed s (laneNeighbour s l) = false) →
    ∃ t, exec .timeProbeSend s = .next t ∧ RingSent 0x30 t ∧ t.regs = s.regs) ∧
  (∀ (lane : Fin 4) (t1 t2 t3 t4 theta : Int) (s : State), ringRuns s = true → joinState s = 2 → ringLeader s = false →
      lane.val ∈ hopLanes (hopTo s (leaderPos s)) → laneState s lane = 2 → probed s (laneNeighbour s lane) = false →
      theta = -openDiv ((t2 - t1) - (t4 - t3)) 2 + (if laneNeighbour s lane = leaderPos s then 0 else (peer s (laneNeighbour s lane)).offset) →
    ∃ t, exec (.timeProbe lane t1 t2 t3 t4) s = .next t ∧ t.ring.offset = theta ∧ t.ring.lastOffset = some s.time.uptime ∧
      (absI theta ≤ 16 * getF s Reg.RING_TIME_TOL 0 10 → t.ring.goodRun = s.ring.goodRun + 1 ∧ t.ring.overSince = none ∧
        (1 ≤ s.ring.goodRun → getBit t Reg.RING_STATUS 9 = true)) ∧
      (16 * getF s Reg.RING_TIME_TOL 0 10 < absI theta → t.ring.goodRun = 0 ∧ getBit t Reg.RING_STATUS 9 = false ∧
        (getBit s Reg.RING_STATUS 9 = true → getBit t (Reg.INT_STATUS ringPage) 4 = true ∧ getBit t (Reg.FAULT_STATUS ringPage) 2 = true)) ∧
      (getBit s Reg.RING_CFG 10 = true → s.time.running = true → 16000 ≤ absI theta → getBit s Reg.TIME_STATUS 0 = false →
        getBit t Reg.TIME_STATUS 0 = true ∧ t.time.step = some (1, unsignedOf 64 (openDiv (-theta) 16), 0, s.time.uptime + 10)) ∧
      (getBit s Reg.RING_CFG 10 = true → s.time.running = true → absI theta < 16000 ∨ getBit s Reg.TIME_STATUS 0 = true →
        t.time.slew = some (slewFor s.time.restIncr theta, 500000) ∧ incrOk (slewFor s.time.restIncr theta) = true) ∧
      (getBit s Reg.RING_CFG 10 = false → t.time = s.time)) ∧
  (∀ (s : State), ringRuns s = true → ringLeader s = false →
    (∀ x, s.ring.lastOffset = some x → joinState s = 2 →
      ∃ t, exec .offsetMeasurementTimeout s = .next t ∧ getBit t Reg.RING_STATUS 9 = false ∧ t.ring.lastOffset = none ∧ t.ring.goodRun = 0 ∧
        (getBit s Reg.RING_STATUS 9 = true → getBit t (Reg.INT_STATUS ringPage) 4 = true ∧ getBit t (Reg.FAULT_STATUS ringPage) 2 = true)) ∧
    (∀ x, s.ring.overSince = some x → getBit s Reg.RING_CFG 10 = true →
      ∃ t, exec .slewSaturated s = .next t ∧ getBit t (Reg.FAULT_STATUS timePage) 0 = true ∧ SameRegsBut [Reg.FAULT_STATUS timePage] s t)) ∧
  (∀ (p : Fin 4) (m : SkewMeasure) (s : State), ringHears s p = true →
    (ringLeader s = false → leaderPos s = p.val →
      ∃ t, exec (.skewCalMessage p (.measure m)) s = .next t ∧ getBit t Reg.SHAPE_ALIGN_STATUS 0 = true ∧ getBit t Reg.SHAPE_ALIGN_STATUS 1 = false ∧
        t.align = { s.align with first := some (m.loopDelay.toNat, m.rpts.map BitVec.toNat) } ∧ SameRegsBut [Reg.SHAPE_ALIGN_STATUS] s t) ∧
    (ringLeader s = true ∨ leaderPos s ≠ p.val → ∃ t, exec (.skewCalMessage p (.measure m)) s = .next t ∧ t.regs = s.regs ∧ t.align = s.align) ∧
    (∀ b, ∃ t, exec (.skewCalMessage p (.result b)) s = .next t ∧ t.regs = s.regs ∧ t.align = s.align) ∧
    (∃ t, exec (.skewCalMessage p .ended) s = .next t ∧ getBit t Reg.SHAPE_ALIGN_STATUS 0 = false ∧ t.align = { s.align with first := none } ∧
      SameRegsBut [Reg.SHAPE_ALIGN_STATUS] s t))

/-- A change of MODE takes the link down; a reserved MODE or MAX_LEN leaves its field. LINK_UP is block lock, FEC alignment in
mode 1 and no fault. With the link up, a received frame of a bad length, a bad FCS, MAC control, or no accepted address is
counted and goes no further; an accepted one meets its lowest policer, whose colour is counted and may drop it, and otherwise is
queued whole for its class, or is refused, counted, and sets RX_DROP. RX_DELIVERY takes the head frame, writes it where it fits,
and returns the descriptor with its outcome. TX_DESCRIPTOR_FETCH returns a bad LEN with OUTCOME 5, waits for room, and else
queues the frame with its FCS. A frame that has left is counted and emitted, its descriptor returns with OUTCOME 0, and the port
chooses again. The count clears zero their counters. -/
def Obligations.FramesArriveAndLeave : Prop :=
  (∀ (req : Requester) (n : Fin 4) (v : Word) (s : State), WriteReaches req (Reg.MAC_CFG n) s →
    ∃ t, exec (.macModeWrite req n v) s = .next t ∧
      macMode t n = (if fld v 0 2 = 3 then macMode s n else fld v 0 2) ∧ getF t (Reg.MAC_CFG n) 2 2 = fld v 2 2 ∧
      maxLen t n = (if 1518 ≤ fld v 16 14 ∧ fld v 16 14 ≤ 9216 then fld v 16 14 else maxLen s n) ∧
      (fld v 0 2 = 3 ∨ fld v 0 2 = macMode s n → OnlyRegs [Reg.MAC_CFG n] s t) ∧
      (fld v 0 2 ≠ 3 → fld v 0 2 ≠ macMode s n → linkUp t n = false ∧ getF t (Reg.MAC_STATUS n) 1 4 = 0 ∧
        (linkUp s n = true → getBit t (Reg.INT_STATUS (macPage n)) 2 = true) ∧ SameRegsOff [macPage n, gatePage n] s t)) ∧
  (∀ (n : Fin 4) (lock align localF remoteF : Bool) (s : State),
    (enabled s (macPage n) = true → macMode s n ≠ 0 →
      ∃ t, exec (.linkStateChange n lock align localF remoteF) s = .next t ∧
        linkUp t n = (lock && (macMode s n != 1 || align) && !localF && !remoteF) ∧
        (linkUp t n ≠ linkUp s n → getBit t (Reg.INT_STATUS (macPage n)) 2 = true) ∧
        getBit t (Reg.MAC_STATUS n) 1 = localF ∧ getBit t (Reg.MAC_STATUS n) 2 = remoteF ∧ getBit t (Reg.MAC_STATUS n) 3 = lock ∧
        SameRegsOff [macPage n, gatePage n] s t) ∧
    (enabled s (macPage n) = false ∨ macMode s n = 0 → exec (.linkStateChange n lock align localF remoteF) s = .next s)) ∧
  (∀ (n : Fin 4) (f : ReceivedFrame) (s : State),
    (linkUp s n = false → exec (.frameReceived n f) s = .next s) ∧
    (∀ lo, linkUp s n = true →
      (lo = 8 ∧ (f.bytes.length < 64 ∨ maxLen s n < f.bytes.length)) ∨
      (64 ≤ f.bytes.length ∧ f.bytes.length ≤ maxLen s n ∧
        ((lo = 0 ∧ fcsGood f.bytes = false) ∨
         (fcsGood f.bytes = true ∧ ((lo = 16 ∧ frameType f.bytes = 0x8808) ∨
           (lo = 24 ∧ frameType f.bytes ≠ 0x8808 ∧ acceptsAddress s n (frameDest f.bytes) = false))))) →
      ∃ t, exec (.frameReceived n f) s = .next t ∧
        getF t (Reg.MAC_RX_DISCARDS n) lo 8 = satInc 8 (getF s (Reg.MAC_RX_DISCARDS n) lo 8) ∧
        OnlyRegs [Reg.MAC_FEC n, Reg.MAC_RX_DISCARDS n] s t) ∧
    (∀ tag pcp q, linkUp s n = true → 64 ≤ f.bytes.length → f.bytes.length ≤ maxLen s n → fcsGood f.bytes = true →
        frameType f.bytes ≠ 0x8808 → acceptsAddress s n (frameDest f.bytes) = true → tag = frameTagged f.bytes →
        pcp = (if tag then frameTci f.bytes / 2 ^ 13 else getF s (Reg.MAC_DEFAULT_TAG n) 12 3) →
        q = ingressQueue n (getF s (Reg.MAC_PCP_TC n) (3 * pcp) 3) →
      ∀ found, found = policerOf s n (if tag && frameTci f.bytes % 2 ^ 12 != 0 then frameTci f.bytes % 2 ^ 12 else getF s (Reg.MAC_DEFAULT_TAG n) 0 12)
          pcp (frameType f.bytes) →
      ∃ t, exec (.frameReceived n f) s = .next t ∧
        getF t (Reg.MAC_RX_FRAMES n) 0 32 = satAdd 32 (getF s (Reg.MAC_RX_FRAMES n) 0 32) 1 ∧
        (found = none → admits s q (cellsOf f.bytes.length) = true →
          ∃ g, queueOf t q = queueOf s q ++ [g] ∧ g.bytes = f.bytes ∧ g.cells.length = cellsOf f.bytes.length) ∧
        (found = none → admits s q (cellsOf f.bytes.length) = false →
          t.ports.queues = s.ports.queues ∧ getBit t (Reg.INT_STATUS (macPage n)) 3 = true ∧
          getF t (Reg.CIS_Q_DROPS q) 0 32 = satAdd 32 (getF s (Reg.CIS_Q_DROPS q) 0 32) 1) ∧
        (∀ i c, found = some i →
            c = colourOf (meter s n i) (if bitOf (act s (Reg.POL_USE n i)) 4 then incomingColour s n pcp (tag && decide (frameTci f.bytes / 2 ^ 12 % 2 = 1)) else 0)
              f.bytes.length →
          getF t (Reg.POL_COUNT n (4 * i + c.1)) 0 32 = satAdd 32 (getF s (Reg.POL_COUNT n (4 * i + c.1)) 0 32) 1 ∧
          SMap.get (fun _ => none) t.ports.meters (64 * n.val + i) = some c.2 ∧
          (fld (act s (Reg.POL_USE n i)) (8 + 2 * c.1) 2 = 2 → t.ports.queues = s.ports.queues ∧ getBit t (Reg.INT_STATUS (macPage n)) 3 = true)) ∧
        SameRegsOff [macPage n, policePage n, cisternPage] s t)) ∧
  (∀ (n : Fin 4) (c : Fin 8) (addr : DWord) (size : BitVec 16) (ecc : EccScan) (s : State) (f : QFrame) (rest : List QFrame),
      queueOf s (ingressQueue n c) = f :: rest → getBit s (Reg.DMA_RING_CFG n (8 + c.val)) 0 = true → enabled s (macPage n) = true →
      flushPending s (ingressQueue n c) = false → getF s (Reg.DMA_RING_CFG n (8 + c.val)) 8 4 ≤ 12 →
      getF s (Reg.DMA_RING_HEAD n (8 + c.val)) 0 12 ≠ getF s (Reg.DMA_RING_TAIL n (8 + c.val)) 0 12 →
    ∃ t, exec (.rxDelivery n c addr size ecc) s = .next t ∧ queueOf t (ingressQueue n c) = rest ∧
      getF t (Reg.DMA_RING_HEAD n (8 + c.val)) 0 12 = (getF s (Reg.DMA_RING_HEAD n (8 + c.val)) 0 12 + 1) % dmaRingSize s n (8 + c.val) ∧
      getBit t (Reg.INT_STATUS (macPage n)) 1 = true ∧
      (ecc.bad = [] → f.bytes.length ≤ size.toNat → Emission.hostMemory addr.toNat f.bytes ∈ t.out) ∧
      (∀ a st k m p, f.origin = .received a st k m p →
        Emission.hostMemory (descriptorAt s n (8 + c.val) (getF s (Reg.DMA_RING_HEAD n (8 + c.val)) 0 12) + 16)
          (toBytes 12 (if st then timestamp a else 0) ++ toBytes 2 (1 +
            2 * (if ecc.bad ≠ [] then 2 else if size.toNat < f.bytes.length then 1 else 0) + 16 * b2n st + 32 * k + 128 * b2n m +
            2 ^ 8 * (p + 64 * b2n (decide (p = 63))))) ∈ t.out) ∧
      SameRegsOff [macPage n, cisternPage] s t) ∧
  (∀ (n : Fin 4) (c : Fin 8) (d : TxDescriptor) (s : State) (i len : Nat), i = fetchIndex s n c → len = d.ctl.toNat % 2 ^ 14 →
      getBit s (Reg.DMA_RING_CFG n c) 0 = true → enabled s (macPage n) = true →
      (fetchedOf s n c).length + 1 < dmaRingSize s n c → i ≠ getF s (Reg.DMA_RING_TAIL n c) 0 12 →
    (len < 60 ∨ maxLen s n < len + 4 →
      ∃ t, exec (.txDescriptorFetch n c d) s = .next t ∧ Emission.hostMemory (descriptorAt s n c i + 16) (toBytes 12 0 ++ toBytes 4 11) ∈ t.out ∧
        t.ports.queues = s.ports.queues ∧ getBit t (Reg.INT_STATUS (macPage n)) 0 = true ∧ SameRegsOff [macPage n] s t) ∧
    (60 ≤ len → len + 4 ≤ maxLen s n → admits s (egressQueue n c) (cellsOf (len + 4)) = false → exec (.txDescriptorFetch n c d) s = .next s) ∧
    (60 ≤ len → len + 4 ≤ maxLen s n → admits s (egressQueue n c) (cellsOf (len + 4)) = true →
      ∃ u g, exec (.txDescriptorFetch n c d) s = .next (chooseFrame n u) ∧ queueOf u (egressQueue n c) = queueOf s (egressQueue n c) ++ [g] ∧
        g.bytes = withFcs (if d.ctl.getLsbD 15 then (List.range len).map (fun k => dramByte s (d.addr.toNat + k))
          else (List.range len).map (fun k => (d.data[k]?).getD 0)) ∧
        fetchedOf u n c = fetchedOf s n c ++ [(i, false)] ∧ u.regs = s.regs ∧ u.ports.leaving = s.ports.leaving)) ∧
  (∀ (n : Fin 4) (dep : BitVec 96) (ecc : EccScan) (s : State) (c : Fin 8) (done : Nat) (f : QFrame) (rest : List QFrame),
      leavingOf s n = some (c.val, done) → queueOf s (egressQueue n c) = f :: rest → flushPending s (egressQueue n c) = false → ecc.bad = [] →
    ∃ u w, exec (.frameTransmitComplete n dep ecc) s = .next (chooseFrame n u) ∧ leavingOf u n = none ∧ queueOf u (egressQueue n c) = rest ∧
      u.time = (advanceUptime done s).time ∧ getF u (Reg.MAC_TX_FRAMES n) 0 32 = satAdd 32 (getF s (Reg.MAC_TX_FRAMES n) 0 32) 1 ∧
      Emission.frame n w ∈ u.out ∧ (ptpHeader (reg s (Reg.TIME_PTP_CFG n)) f.bytes = none → w = f.bytes) ∧
      (∀ k i, f.origin = .ring k i false → returnsTime (reg s (Reg.TIME_PTP_CFG n)) f.bytes = false →
        Emission.hostMemory (descriptorAt s n k i + 16) (toBytes 12 0 ++ toBytes 4 1) ∈ u.out) ∧
      SameRegsOff [macPage n, cisternPage] s u) ∧
  (∀ (req : Requester) (n : Fin 4) (s : State),
    (WriteReaches req (Reg.MAC_COUNT_CLR n) s → ∃ t, exec (.macCountClr req n) s = .next t ∧
      (∀ a ∈ [Reg.MAC_RX_FRAMES n, Reg.MAC_RX_DISCARDS n, Reg.MAC_TX_FRAMES n, Reg.MAC_TX_DROPS n, Reg.MAC_FEC n], reg t a = 0) ∧
      OnlyRegs [Reg.MAC_RX_FRAMES n, Reg.MAC_RX_DISCARDS n, Reg.MAC_TX_FRAMES n, Reg.MAC_TX_DROPS n, Reg.MAC_FEC n] s t) ∧
    (WriteReaches req (Reg.POLICE_COUNT_CLR n) s → ∃ t, exec (.policeCountClr req n) s = .next t ∧
      (∀ k, k < 256 → reg t (Reg.POL_COUNT n k) = 0) ∧ (∃ r, t = { s with regs := r }) ∧
      ∀ a, (∀ k, k < 256 → a ≠ Reg.POL_COUNT n k) → a % 4 = 0 → reg t a = reg s a))

/-- A CONFIG_CHANGE that R503 or R504 refuses sets REFUSED and nothing else; any other makes the idle bank pending at BASE, or
at the first cycle at least two cycles after the write, with LATE_START and GATE_SKIPPED. CANCEL withdraws it. At its instant
the list is in force, shown with its base and cycle. An entry boundary shows the entry in force. A free transmitter whose heads
all stand starts the frame of the highest eligible class with a positive committed bucket, for its transmit time. The peak
bucket fills to the head frame after the time its rate takes. A flush is pending from its write until the packet boundary, where
every frame goes, transmit descriptors return with OUTCOME 3, and FLUSH_DONE sets. CIS_COUNT_CLR zeroes the counters. Choosing a
frame touches only the port's own MAC and GATE pages and its own egress queues. -/
def Obligations.GatesShapersAndFlushesDecide : Prop :=
  (∀ (req : Requester) (n : Fin 4) (s : State) (base cycle : Nat), WriteReaches req (Reg.GATE_CMD n) s →
      base = (if getBit s (Reg.GATE_CFG n) 0 then reg64 s Reg.SCHED_BASE_LO / 4 * 4 else reg64 s (Reg.GATE_BASE_LO n)) →
      cycle = (if getBit s (Reg.GATE_CFG n) 0 then bankCycle s (activeBankOf s) else getF s (Reg.GATE_CYCLE n) 0 30) →
    (getF s (Reg.GATE_LEN n) 0 9 = 0 ∨ (getBit s (Reg.GATE_CFG n) 0 = false ∧ (cycle < 1000 ∨ 1000000000 < cycle)) ∨
        (getBit s (Reg.GATE_CFG n) 0 = true ∧ schedRunning s = false) ∨ (gateOf s n).pending ≠ none ∨
        (∃ e, e < getF s (Reg.GATE_LEN n) 0 9 ∧ fld (gateEntry s n (idleBank s n) e) 8 24 < 8) →
      ∃ u, exec (.configChange req n) s = .next (chooseFrame n u) ∧ getBit u (Reg.GATE_STATUS n) 3 = true ∧ OnlyRegs [Reg.GATE_STATUS n] s u) ∧
    (∀ l : GateList, getF s (Reg.GATE_LEN n) 0 9 ≠ 0 → (getBit s (Reg.GATE_CFG n) 0 = false → 1000 ≤ cycle ∧ cycle ≤ 1000000000) →
        (getBit s (Reg.GATE_CFG n) 0 = true → schedRunning s = true) → (gateOf s n).pending = none →
        (∀ e, e < getF s (Reg.GATE_LEN n) 0 9 → 8 ≤ fld (gateEntry s n (idleBank s n) e) 8 24) →
        l = { bank := idleBank s n, base := base, cycle := cycle, len := getF s (Reg.GATE_LEN n) 0 9, aligned := getBit s (Reg.GATE_CFG n) 0 } →
      ∃ u, exec (.configChange req n) s = .next (chooseFrame n u) ∧ (gateOf u n).inForce = (gateOf s n).inForce ∧
        getBit u (Reg.GATE_STATUS n) 1 = true ∧ getBit u (Reg.GATE_STATUS n) 3 = false ∧
        (ptpFine s + 1000 * 2 ^ 32 ≤ base * 2 ^ 32 → (gateOf u n).pending = some (l, base) ∧ getBit u (Reg.GATE_STATUS n) 2 = false ∧
          SameRegsBut [Reg.GATE_STATUS n] s u) ∧
        (base * 2 ^ 32 < ptpFine s + 1000 * 2 ^ 32 → 0 < cycle → getBit u (Reg.GATE_STATUS n) 2 = true ∧
          getBit u (Reg.INT_STATUS (gatePage n)) 1 = true ∧
          ∃ k, (gateOf u n).pending = some (l, base + k * cycle) ∧ (k < 2 ^ 32 → reg u (Reg.GATE_SKIPPED n) = word k) ∧
            ptpFine s + 2 * cycle * 2 ^ 32 ≤ (base + k * cycle) * 2 ^ 32 ∧
            ∀ j, j < k → (base + j * cycle) * 2 ^ 32 < ptpFine s + 2 * cycle * 2 ^ 32)) ∧
    (∃ u, exec (.cancel req n) s = .next (chooseFrame n u) ∧ (gateOf u n).pending = none ∧ (gateOf u n).inForce = (gateOf s n).inForce ∧
      getBit u (Reg.GATE_STATUS n) 1 = false ∧ SameRegsBut [Reg.GATE_STATUS n] s u)) ∧
  (∀ (n : Fin 4) (s : State),
    (∀ l i, (gateOf s n).pending = some (l, i) →
      ∃ u, exec (.gateListTakesEffect n) s = .next (chooseFrame n u) ∧ gateOf u n = { inForce := some l, pending := none } ∧
        u.time = (advanceTo i s).time ∧ getBit u (Reg.GATE_STATUS n) 0 = (l.bank != 0) ∧ getBit u (Reg.GATE_STATUS n) 1 = false ∧
        getBit u (Reg.GATE_STATUS n) 4 = true ∧ getBit u (Reg.INT_STATUS (gatePage n)) 0 = true ∧
        reg64 u (Reg.GATE_ACTIVE_BASE_LO n) = l.base % 2 ^ 64 ∧ reg u (Reg.GATE_ACTIVE_CYCLE n) = word l.cycle ∧
        getF u (Reg.GATE_STATUS n) 8 8 = entryNow u n l % 256) ∧
    ((gateOf s n).inForce = none → exec (.gateEntryBoundary n) s = .next s) ∧
    (∀ l, (gateOf s n).inForce = some l →
      ∃ u x, exec (.gateEntryBoundary n) s = .next (chooseFrame n u) ∧ ptpNow s ≤ x ∧ u.time = (advanceTo x s).time ∧
        getF u (Reg.GATE_STATUS n) 8 8 = entryNow u n l % 256 ∧ SameRegsBut [Reg.GATE_STATUS n] s u ∧ u.ports = s.ports)) ∧
  (∀ (n c : Nat) (f : QFrame) (rest : List QFrame) (s : State), leavingOf s n = none → c < 8 →
      (∀ d g r, d < 8 → queueOf s (egressQueue n d) = g :: r → headDrop s n d g = none) →
      queueOf s (egressQueue n c) = f :: rest → eligible s n c = true → committedPositive s n c = true →
      (∀ d, c < d → d < 8 → eligible s n d = true → committedPositive s n d = false) →
    leavingOf (chooseFrame n s) n = some (c, s.time.uptime + ceilDiv (txTime s n f.bytes.length) 25)) ∧
  (∀ (n : Nat) (s : State), n < 4 →
    SameRegsOff [macPage n, gatePage n] s (chooseFrame n s) ∧ SameBytes s (chooseFrame n s) ∧ (chooseFrame n s).time = s.time ∧
    (∀ q, (∀ c, c < 8 → q ≠ egressQueue n c) → queueOf (chooseFrame n s) q = queueOf s q)) ∧
  (∀ (n : Fin 4) (c : Fin 8) (f : QFrame) (rest : List QFrame) (s : State) (need : Int), queueOf s (egressQueue n c) = f :: rest →
      need = ((f.bytes.length + txOverhead s n) * bucketUnit : Nat) → leavingOf s n = none →
    (peakCovers s n c f.bytes.length = true → exec (.peakBucketFilled n c) s = .next s) ∧
    (shaped s n c = true → getF s (Reg.SHP_PIR n c) 0 25 ≠ 0 → (shaper s n c).peak < need →
        need ≤ ((64 * getF s (Reg.SHP_BURST n c) 16 16 * bucketUnit : Nat) : Int) →
      ∃ u, exec (.peakBucketFilled n c) s = .next (chooseFrame n u) ∧
        u = advanceUptime (s.time.uptime + ceilDiv (need - (shaper s n c).peak).toNat (getF s (Reg.SHP_PIR n c) 0 25)) s)) ∧
  (∀ (q : Fin 64) (s : State),
    (∀ req, WriteReaches req Reg.CIS_FLUSH s → ∃ t, exec (.cisFlush req q) s = .next t ∧ flushPending t q = true ∧
      (∀ k, k < 64 → k ≠ q.val → flushPending t k = flushPending s k) ∧ OnlyRegs [Reg.CIS_FLUSH_PEND_LO, Reg.CIS_FLUSH_PEND_HI] s t) ∧
    (flushPending s q = false → exec (.cisFlushComplete q) s = .next s) ∧
    (flushPending s q = true → (q.val < 32 → ∀ e, leavingOf s (q.val / 8) = some e → e.1 ≠ q.val % 8) →
      ∃ t, exec (.cisFlushComplete q) s = .next t ∧ queueOf t q = [] ∧ flushPending t q = false ∧ getBit t (Reg.INT_STATUS cisternPage) 0 = true ∧
        (∀ k, k ≠ q.val → queueOf t k = queueOf s k) ∧
        (q.val < 32 → ∀ f k i st, f ∈ queueOf s q → f.origin = .ring k i st →
          Emission.hostMemory (descriptorAt s (q.val / 8) k i + 16) (toBytes 12 0 ++ toBytes 4 7) ∈ t.out))) ∧
  (∀ (req : Requester) (s : State), WriteReaches req Reg.CIS_COUNT_CLR s → ∃ t, exec (.cisCountClr req) s = .next t ∧
    reg t Reg.CIS_HOST_WRITES = 0 ∧ reg t Reg.CIS_ECC_UNCORR = 0 ∧ reg t Reg.CIS_ECC_CORR = 0 ∧ (∀ k, k < 64 → reg t (Reg.CIS_Q_DROPS k) = 0) ∧
    (∃ r, t = { s with regs := r }) ∧
    ∀ a, a % 4 = 0 → a ∉ [Reg.CIS_HOST_WRITES, Reg.CIS_ECC_UNCORR, Reg.CIS_ECC_CORR] → (∀ k, k < 64 → a ≠ Reg.CIS_Q_DROPS k) → reg t a = reg s a)

/-- While the router routes, EVT_FIRE on a channel that carries nothing this cycle sends one event to every task input
subscribed to it; a task input that another channel has reached in this cycle keeps one event and counts a loss. On a channel
that carries an event already, nothing more is delivered and EVT_COLLIDE names the channel, counting the cycle once. While it
does not route, EVT_FIRE does nothing. A producer whose event is beyond GEN_LIMIT publishes to no task input: LOOP and EVT_LOOP
set and EVT_LOOP_INFO names it and counts. EVT_COUNT_CLR clears EVT_LOOP_INFO and EVT_COLLIDE, EVT_TASK_CLR every LOST and
OVERRUN, and neither anything else. -/
def Obligations.EventsAreRoutedCollideAndEnd : Prop :=
  (∀ (req : Requester) (c : BitVec 8) (s : State), WriteReaches req Reg.EVT_FIRE s →
    (routing s = false → exec (.evtFire req c) s = .next s) ∧
    (routing s = true → (∀ q ∈ s.evt.published, q.cycle = s.time.uptime → q.channel ≠ c.toNat) →
      ∃ t, exec (.evtFire req c) s = .next t ∧ (∃ q ∈ t.evt.published, q.channel = c.toNat ∧ q.cycle = s.time.uptime ∧ q.gen = 0) ∧
        (∀ n, n < 384 → taskChannel s n = some c.toNat →
          (∃ e ∈ t.evt.inFlight, e.task = n ∧ e.cycle = s.time.uptime) ∧
          ((∀ e ∈ s.evt.inFlight, ¬ (e.task = n ∧ e.cycle = s.time.uptime)) →
            ∃ e ∈ t.evt.inFlight, e.task = n ∧ e.cycle = s.time.uptime ∧ e.gen = 0 ∧ e.channel = c.toNat) ∧
          ((∃ e ∈ s.evt.inFlight, e.task = n ∧ e.cycle = s.time.uptime) →
            getF t (Reg.EVT_TASK_STAT (n / 2)) (16 * (n % 2)) 15 = satInc 15 (getF s (Reg.EVT_TASK_STAT (n / 2)) (16 * (n % 2)) 15) ∧
            getBit t (Reg.EVT_TASK_STAT (n / 2)) (16 * (n % 2) + 15) = true ∧ getBit t (Reg.INT_STATUS evtPage) 1 = true)) ∧
        (∀ n, (384 ≤ n ∨ taskChannel s n ≠ some c.toNat) →
          t.evt.inFlight.filter (fun e => e.task == n) = s.evt.inFlight.filter (fun e => e.task == n)) ∧
        SameRegsOff [evtPage] s t ∧ SameBytes s t) ∧
    (∀ q, routing s = true → (s.evt.published.filter fun x => x.cycle == s.time.uptime).find? (fun x => x.channel == c.toNat) = some q →
      ∃ t, exec (.evtFire req c) s = .next t ∧ t.evt.inFlight = s.evt.inFlight ∧ getF t Reg.EVT_COLLIDE 16 8 = c.toNat ∧
        getF t Reg.EVT_COLLIDE 0 16 = (if q.collided then getF s Reg.EVT_COLLIDE 0 16 else satInc 16 (getF s Reg.EVT_COLLIDE 0 16)) ∧
        SameRegsBut [Reg.EVT_COLLIDE] s t)) ∧
  (∀ (producer gen c : Nat) (s : State), routing s = true → producerChannel s producer = some c → producer < 1024 →
      getF s Reg.EVT_CFG 0 3 < min gen 8 →
    (publish producer gen s).evt = s.evt ∧ getBit (publish producer gen s) (Reg.INT_STATUS evtPage) 0 = true ∧
    getBit (publish producer gen s) (Reg.FAULT_STATUS evtPage) 0 = true ∧
    getF (publish producer gen s) Reg.EVT_LOOP_INFO 0 10 = producer ∧ getF (publish producer gen s) Reg.EVT_LOOP_INFO 12 4 = min gen 8 ∧
    getF (publish producer gen s) Reg.EVT_LOOP_INFO 16 16 = satInc 16 (getF s Reg.EVT_LOOP_INFO 16 16)) ∧
  (∀ (req : Requester) (s : State),
    (WriteReaches req Reg.EVT_COUNT_CLR s → ∃ t, exec (.evtCountClr req) s = .next t ∧ reg t Reg.EVT_LOOP_INFO = 0 ∧ reg t Reg.EVT_COLLIDE = 0 ∧
      OnlyRegs [Reg.EVT_LOOP_INFO, Reg.EVT_COLLIDE] s t) ∧
    (WriteReaches req Reg.EVT_TASK_CLR s → ∃ t, exec (.evtTaskClr req) s = .next t ∧ (∀ n, n < 192 → reg t (Reg.EVT_TASK_STAT n) = 0) ∧
      (∃ r, t = { s with regs := r }) ∧ ∀ a, a % 4 = 0 → (∀ n, n < 192 → a ≠ Reg.EVT_TASK_STAT n) → reg t a = reg s a))

/-- One raise waiting, of source n: outside every window its record is RAISED at the level R541 gives (its severity from CLEAR,
one more and ESCALATED from RAISED, its level from ACKED), RAISES counts, and FLT_FIRST names it if it was clear; where its
level selects INT alone the FLT interrupt bit of the level sets and nothing else reacts, and where it brings a hard stop in
stages P1 to P7 the device is HALTED with a window over everything. Covered by a window it is consequent: it counts, a CLEAR
record becomes RAISED with CONSEQUENT and CAUSE, and nothing reacts. Two raises of a source in a cycle are one, MULTI, of the
lowest instance. A reaction whose parts are done completes; GUARD later its window ends. With nothing waiting, ACK moves RAISED
to ACKED, CLEAR returns ACKED records to reset unless the bit still stands, refusing the others and naming the lowest, and
FLT_FIRST_CLR clears FLT_FIRST, its time and the mask. -/
def Obligations.RaisesAreRecordedAcknowledgedAndCleared : Prop :=
  (∀ (r : Raise) (s : State) (n : Nat) (x : CycleRaise), s.flt.due = [r] → n = r.source → n < 96 →
      x = { source := n, pages := r.page.toList, multi := false, uptime := r.uptime } →
    ∃ t, exec (.faultRaise .standing) s = .next t ∧
      (∀ c, causeOf s x = some c →
        t.flt = { s.flt with due := [] } ∧ getF t (recWord n 0) 16 16 = satInc 16 (getF s (recWord n 0) 16 16) ∧
        reg t Reg.FLT_FIRST = reg s Reg.FLT_FIRST ∧ reg t (Reg.INT_STATUS fltPage) = reg s (Reg.INT_STATUS fltPage) ∧
        (recState s n = 0 → recState t n = 1 ∧ recLevel t n = getF s (Reg.FLT_SEV n) 0 2 ∧ getBit t (recWord n 0) 5 = true ∧
          getF t (recWord n 0) 8 7 = c % 128 ∧ reg64 t (recWord n 2) = r.uptime % 2 ^ 64) ∧
        (recState s n ≠ 0 → recState t n = recState s n ∧ recLevel t n = recLevel s n) ∧ SameRegsOff [fltPage] s t) ∧
      (causeOf s x = none → getF s (Reg.FLT_REACT (takenLevel s n)) 1 4 = 0 → ¬ (recState s n = 1 ∧ recLevel s n = 3) →
        t.flt = { s.flt with due := [] } ∧ recState t n = 1 ∧ recLevel t n = takenLevel s n ∧
        getF t (recWord n 0) 16 16 = satInc 16 (getF s (recWord n 0) 16 16) ∧
        getBit t (Reg.FLT_RAISED (n / 32)) (n % 32) = true ∧ getBit t (Reg.FLT_ACKED (n / 32)) (n % 32) = false ∧
        (recState s n = 1 → getBit t (recWord n 0) 4 = true ∧ getBit t (Reg.INT_STATUS fltPage) 4 = true) ∧
        (recState s n = 0 → reg64 t (recWord n 2) = r.uptime % 2 ^ 64 ∧
          ∀ p, r.page = some p → reg t (recWord n 1) = word (p.inst + 65536 * p.kind.code)) ∧
        (getBit s (Reg.FLT_REACT (takenLevel s n)) 0 = true → getBit t (Reg.INT_STATUS fltPage) (takenLevel s n) = true) ∧
        (getBit s Reg.FLT_FIRST 9 = true → reg t Reg.FLT_FIRST = reg s Reg.FLT_FIRST) ∧
        (getBit s Reg.FLT_FIRST 9 = false → getF t Reg.FLT_FIRST 0 7 = n ∧ getF t Reg.FLT_FIRST 7 2 = takenLevel s n ∧
          getBit t Reg.FLT_FIRST 9 = true ∧ reg64 t Reg.FLT_FIRST_T_LO = r.uptime % 2 ^ 64) ∧ SameRegsOff [fltPage] s t) ∧
      (causeOf s x = none → getBit s (Reg.FLT_REACT (takenLevel s n)) 4 = true ∨ (recState s n = 1 ∧ recLevel s n = 3) → neverStops n = false →
          s.time.counting = true → stage s ≠ 0xE → stage s ≠ 0xF →
        stage t = 0xE ∧ ∃ w ∈ t.flt.windows, w.reaction = .hardStop ∧ w.source = n ∧ w.everything = true ∧ w.completed = false)) ∧
  (∀ (r q : Raise) (p1 p2 : Page) (s : State), s.flt.due = [r, q] → r.source < 96 → q.source = r.source → q.uptime = r.uptime →
      r.page = some p1 → q.page = some p2 → s.flt.windows = [] → recState s r.source = 0 →
      getF s (Reg.FLT_REACT (getF s (Reg.FLT_SEV r.source) 0 2)) 1 4 = 0 →
    ∃ t, exec (.faultRaise .standing) s = .next t ∧ recState t r.source = 1 ∧ getBit t (recWord r.source 0) 6 = true ∧
      getF t (recWord r.source 0) 16 16 = satInc 16 (getF s (recWord r.source 0) 16 16) ∧
      getF t (recWord r.source 1) 0 16 = min p1.inst p2.inst % 2 ^ 16 ∧ t.flt.due = []) ∧
  (∀ (l : List Guard) (w : Guard) (s : State), s.flt.windows = l ++ [w] → w ∉ l → w.completed = false → reactionDone s w = true →
    ∃ t, exec .reactionComplete s = .next t ∧
      t = { s with flt := { s.flt with windows := l ++ [{ w with completed := true, at_ := s.time.uptime }] } }) ∧
  (∀ (w : Guard) (s : State), w ∈ s.flt.windows → w.completed = true → (∀ v ∈ s.flt.windows, v.completed = true → v ≠ w → w.at_ < v.at_) →
    ∃ t, exec .guardWindowEnd s = .next t ∧ t.flt = { s.flt with windows := s.flt.windows.erase w } ∧ t.regs = s.regs ∧
      t.time = (advanceUptime (w.at_ + guardTime s) s).time) ∧
  (∀ (req : Requester) (source : BitVec 7) (all : Bool) (s : State), WriteReaches req Reg.FLT_ACK s → s.flt.due = [] →
    (∃ t, exec (.ack req source all) s = .next t ∧ getBit t Reg.FLT_ACK_RESULT 0 = false ∧
      (∀ n, n < 96 → n ∈ ackTargets source.toNat all → recState s n = 1 →
        recState t n = 2 ∧ recLevel t n = recLevel s n ∧ getBit t (Reg.FLT_RAISED (n / 32)) (n % 32) = false ∧
        getBit t (Reg.FLT_ACKED (n / 32)) (n % 32) = true) ∧
      (∀ n, n < 96 → n ∉ ackTargets source.toNat all ∨ recState s n ≠ 1 → reg t (recWord n 0) = reg s (recWord n 0)) ∧
      SameRegsOff [fltPage] s t ∧ SameBytes s t) ∧
    (∀ (ack : Bool) (after : Nat → Nat), Registers.wf s.regs = true →
        (∀ n, after n = if ack ∧ n ∈ ackTargets source.toNat all ∧ recState s n = 1 then 2 else recState s n) →
      ∃ t, exec (.clear req source all ack) s = .next t ∧
        (∀ n, n < 96 → n ∈ ackTargets source.toNat all → after n = 2 → bitStands s n = false →
          ∀ k, k < 4 → reg t (recWord n k) = 0) ∧
        (∀ n, n < 96 → n ∉ ackTargets source.toNat all ∨ after n ≠ 2 ∨ bitStands s n = true →
          recState t n = after n ∧ recLevel t n = recLevel s n ∧ getF t (recWord n 0) 16 16 = getF s (recWord n 0) 16 16) ∧
        ((∀ n ∈ ackTargets source.toNat all, after n ≠ 1 ∧ bitStands s n = false) → getBit t Reg.FLT_ACK_RESULT 0 = false) ∧
        (∀ n ∈ ackTargets source.toNat all, (after n = 1 ∨ bitStands s n = true) →
            (∀ m ∈ ackTargets source.toNat all, m < n → after m ≠ 1 ∧ bitStands s m = false) →
          getBit t Reg.FLT_ACK_RESULT 0 = true ∧ getF t Reg.FLT_ACK_RESULT 8 7 = n ∧ getBit t (Reg.INT_STATUS fltPage) 5 = true) ∧
        SameRegsOff [fltPage] s t ∧ SameBytes s t)) ∧
  (∀ (req : Requester) (s : State), WriteReaches req Reg.FLT_FIRST_CLR s → s.flt.due = [] →
    ∃ t, exec (.fltFirstClr req) s = .next t ∧ reg t Reg.FLT_FIRST = 0 ∧ reg64 t Reg.FLT_FIRST_T_LO = 0 ∧
      (∀ i, i < 3 → reg t (Reg.FLT_SAMECYCLE i) = 0) ∧
      OnlyRegs [Reg.FLT_FIRST, Reg.FLT_FIRST_T_LO, Reg.FLT_FIRST_T_HI, Reg.FLT_SAMECYCLE 0, Reg.FLT_SAMECYCLE 1, Reg.FLT_SAMECYCLE 2] s t)

/-- An evaluation of a thermistor that is ABSENT or not configured only shows that, and one without a conversion yet changes
nothing (MODEL CHOICE, assumption 79). A valid sensor shows its value, a thermistor the beta model's for HW_14's resistance; at
or above WARN or THROTTLE its group stands in that condition, with fault and interrupt at its start. A die sensor found out of
range twice running is FAULTY with SENSOR_FAULT. The second reading running of a valid sensor at or above SHUTDOWN takes the
device to THERMAL_DOWN: STAGE 0xF, THERM_N low, the shutdown words, fault bit and time, no epoch, schedule or capture stream
left, the PCIe link down. Once 5 s cool have passed, a device not held down restarts from P1 with THERM_N released, the restart
recorded and THERMAL set in the reset cause. A matrix timeout answers the master with an error, records master and target and
raises XBAR_TIMEOUT; a PCIe completion timeout raises PCIE_CPL_TIMEOUT. A SECDED error of shared SRAM, and an error of DRAM,
PCIe or I2C, is counted where its block counts it and sets its bits before the collector takes the oldest raises; an
uncorrectable SRAM word is answered with an error. XBAR_COUNT_CLR zeroes the counts alone. -/
def Obligations.HeatIsSupervisedAndTargetsTimeOut : Prop :=
  (∀ (i : Fin 96) (temp : Int) (s : State) (n : Nat), n = i.val →
    (s.time.counting = false → exec (.heatEvaluation i temp) s = .next s) ∧
    (s.time.counting = true → 64 ≤ n → thermistorAbsent s (n - 64) = true ∨ configured s (n - 64) = false →
      ∃ t, exec (.heatEvaluation i temp) s = .next t ∧ heatSensor t n = HeatSensor.empty ∧
        reg t (sensorWord n) = word (2 ^ 21 * b2n (thermistorAbsent s (n - 64)) + 2 ^ 22 * b2n (!configured s (n - 64))) ∧
        SameRegsBut [sensorWord n, Reg.HEAT_STATUS, Reg.HEAT_HOT_DIE, Reg.HEAT_HOT_PIC] s t ∧ SameBytes s t) ∧
    (s.time.counting = true → 64 ≤ n → thermistorAbsent s (n - 64) = false → configured s (n - 64) = true → thermistorOhms s (n - 64) = none →
      exec (.heatEvaluation i temp) s = .next s) ∧
    (∀ g v, s.time.counting = true → (64 ≤ n → thermistorAbsent s (n - 64) = false ∧ configured s (n - 64) = true) → g = groupOf n →
        sensorTemp s n temp = some v →
      (sensorFaulty s n = false → findsFaulty s n v = false →
        ∃ t, exec (.heatEvaluation i temp) s = .next t ∧ getF t (sensorWord n) 0 16 = unsignedOf 16 v ∧ getBit t (sensorWord n) 31 = true ∧
          getBit t (sensorWord n) 17 = false ∧ getBit t (sensorWord n) 18 = decide (heatLimit s g 0 ≤ v) ∧
          getBit t (sensorWord n) 19 = decide (heatLimit s g 1 ≤ v) ∧ (heatSensor t n).value = some v ∧
          (heatLimit s g 0 ≤ v → getBit t Reg.HEAT_STATUS (if n < 64 then 0 else 2) = true ∧
            (getBit s Reg.HEAT_STATUS (if n < 64 then 0 else 2) = false →
              getBit t (Reg.FAULT_STATUS heatPage) (if n < 64 then 0 else 4) = true ∧ getBit t (Reg.INT_STATUS heatPage) 0 = true)) ∧
          (heatLimit s g 1 ≤ v → groupThrottled t g = true ∧
            (groupThrottled s g = false → getBit t (Reg.FAULT_STATUS heatPage) (if n < 64 then 1 else 5) = true ∧
              getBit t (Reg.INT_STATUS heatPage) 1 = true)) ∧
          (heatLimit s g 2 ≤ v → 1 ≤ (heatSensor s n).shutRun → stage s ≠ 0xF →
            stage t = 0xF ∧ t.pins.thermLow = true ∧ t.pins.pcieUp = false ∧ t.epochs = [] ∧ t.schedule = none ∧ t.streams = [] ∧
            getBit t (Reg.FAULT_STATUS heatPage) (if n < 64 then 2 else 6) = true ∧ getF t Reg.HEAT_SHUT_INFO 0 7 = n ∧
            getF t Reg.HEAT_SHUT_TEMP 0 16 = unsignedOf 16 v ∧ reg64 t Reg.HEAT_SHUT_T_LO = (advanceUptime (evaluationDue s n) s).time.uptime % 2 ^ 64 ∧
            (3 ≤ (recentRestarts (advanceUptime (evaluationDue s n) s)).length → getBit t Reg.HEAT_RESTART 2 = true ∧ getBit t (Reg.FAULT_STATUS heatPage) 9 = true))) ∧
      (sensorFaulty s n = false → findsFaulty s n v = true → (heatSensor s n).faultRun ≠ 0 →
        ∃ t, exec (.heatEvaluation i temp) s = .next t ∧ getBit t (sensorWord n) 17 = true ∧ getBit t (sensorWord n) 31 = false ∧
          getBit t (Reg.FAULT_STATUS heatPage) 8 = true ∧ getBit t (Reg.INT_STATUS heatPage) 3 = true))) ∧
  (∀ (c : Nat) (s u : State), s.heat.cool = some c →
    (Registers.wf s.regs = true → stage s = 0xF → getBit s Reg.HEAT_RESTART 2 = false → dieUnwatched s = false → u = advanceUptime (c + 5000000000) s →
      ∃ t, exec .thermalRestart s = .next t ∧ stage t = 1 ∧ t.pins.thermLow = false ∧ t.heat.restarts = u.time.uptime :: s.heat.restarts ∧
        t.time.uptime = u.time.uptime ∧ getBit t Reg.GLB_RESET_CAUSE 5 = true ∧
        getF t Reg.HEAT_RESTART 16 16 = satInc 16 (getF s Reg.HEAT_RESTART 16 16) ∧ t.prime.path = .thermal ∧ t.pins.lockout = true) ∧
    (stage s ≠ 0xF ∨ getBit s Reg.HEAT_RESTART 2 = true ∨ dieUnwatched s = true → exec .thermalRestart s = .next s)) ∧
  (∀ (m : Fin 14) (k : Fin 12) (addr : BitVec 32) (s : State), s.time.counting = true → masterPresent s.variant m = true →
    (k.val < 10 → hasPath s m k = true →
      ∃ t, exec (.xbarTimeout m k addr) s = .next t ∧ getF t Reg.XBAR_TIMEOUT_INFO 0 4 = m.val ∧ getF t Reg.XBAR_TIMEOUT_INFO 4 4 = k.val ∧
        getF t Reg.XBAR_TIMEOUT_INFO 16 16 = satInc 16 (getF s Reg.XBAR_TIMEOUT_INFO 16 16) ∧ getBit t (Reg.FAULT_STATUS xbarPage) 2 = true ∧
        getBit t (Reg.INT_STATUS xbarPage) 0 = true ∧ Emission.errorAnswer (masterRequester m) addr.toNat ∈ t.out ∧
        SameRegsBut [Reg.XBAR_TIMEOUT_INFO, Reg.FAULT_STATUS xbarPage, Reg.INT_STATUS xbarPage] s t ∧ SameBytes s t) ∧
    (10 ≤ k.val ∨ hasPath s m k = false → exec (.xbarTimeout m k addr) s = .next s)) ∧
  (∀ (m : Fin 14) (addr : BitVec 64) (s : State),
    (s.time.counting = true → masterPresent s.variant m = true → hasPath s m 10 = true →
      ∃ t, exec (.pcieCplTimeout m addr) s = .next t ∧ getBit t (Reg.FAULT_STATUS pciePage) 1 = true ∧
        Emission.errorAnswer (masterRequester m) addr.toNat ∈ t.out ∧ SameRegsBut [Reg.FAULT_STATUS pciePage] s t ∧ SameBytes s t) ∧
    (s.time.counting = false ∨ masterPresent s.variant m = false ∨ hasPath s m 10 = false → exec (.pcieCplTimeout m addr) s = .next s)) ∧
  (∀ (req : Requester) (o : BitVec 24) (s : State), s.time.counting = true → o.toNat < 0xC00000 →
    (∃ u, exec (.faultRaise (.sramEcc req o true)) s = .next (collect u) ∧ reg u Reg.XBAR_ECC_ADDR = word (o.toNat / 8 * 8) ∧
      getF u Reg.XBAR_ECC_UNCORR 0 16 = satInc 16 (getF s Reg.XBAR_ECC_UNCORR 0 16) ∧ getBit u (Reg.FAULT_STATUS xbarPage) 0 = true ∧
      getBit u (Reg.INT_STATUS xbarPage) 2 = true ∧ Emission.errorAnswer req (0x4000000 + o.toNat) ∈ u.out ∧
      SameRegsBut [Reg.XBAR_ECC_ADDR, Reg.XBAR_ECC_UNCORR, Reg.FAULT_STATUS xbarPage, Reg.INT_STATUS xbarPage] s u ∧ SameBytes s u) ∧
    (∃ u, exec (.faultRaise (.sramEcc req o false)) s = .next (collect u) ∧
      getF u Reg.XBAR_ECC_CORR 0 32 = satInc 32 (getF s Reg.XBAR_ECC_CORR 0 32) ∧ getBit u (Reg.FAULT_STATUS xbarPage) 1 = true ∧
      getBit u (Reg.INT_STATUS xbarPage) 2 = true ∧
      SameRegsBut [Reg.XBAR_ECC_CORR, Reg.FAULT_STATUS xbarPage, Reg.INT_STATUS xbarPage] s u ∧ SameBytes s u)) ∧
  (∀ (c : Fin 4) (unc : Bool) (s : State), s.time.counting = true →
    (enabled s (ddrPage c.val) = true → ∃ u, exec (.faultRaise (.ddrEcc c unc)) s = .next (collect u) ∧
      getBit u (Reg.FAULT_STATUS (ddrPage c.val)) (if unc then 0 else 1) = true ∧ SameRegsBut [Reg.FAULT_STATUS (ddrPage c.val)] s u) ∧
    (∃ u, exec (.faultRaise (.pcieError unc)) s = .next (collect u) ∧
      getBit u (Reg.FAULT_STATUS pciePage) (if unc then 2 else 3) = true ∧ SameRegsBut [Reg.FAULT_STATUS pciePage] s u) ∧
    (∃ u, exec (.faultRaise .i2cError) s = .next (collect u) ∧
      getBit u (Reg.FAULT_STATUS i2cPage) 0 = true ∧ SameRegsBut [Reg.FAULT_STATUS i2cPage] s u)) ∧
  (∀ (req : Requester) (s : State), WriteReaches req Reg.XBAR_COUNT_CLR s → ∃ t, exec (.xbarCountClr req) s = .next t ∧
    reg t Reg.XBAR_ECC_CORR = 0 ∧ reg t Reg.XBAR_ECC_UNCORR = 0 ∧ getF t Reg.XBAR_SPARSE_ERR 16 16 = 0 ∧ getF t Reg.XBAR_TIMEOUT_INFO 16 16 = 0 ∧
    getF t Reg.XBAR_SPARSE_ERR 0 16 = getF s Reg.XBAR_SPARSE_ERR 0 16 ∧ getF t Reg.XBAR_TIMEOUT_INFO 0 16 = getF s Reg.XBAR_TIMEOUT_INFO 0 16 ∧
    OnlyRegs [Reg.XBAR_ECC_CORR, Reg.XBAR_ECC_UNCORR, Reg.XBAR_SPARSE_ERR, Reg.XBAR_TIMEOUT_INFO] s t)

/-- Each of the eleven commands, written by requester 0 or 1 while nothing runs, makes the Wellhead busy with that code and the
two arguments as they stand, and changes no register but WH_STATUS and, for STAGE, WH_STAGE, whose STAGED clears. While a
command runs, the write is counted in WH_CMD_IGNORED and does nothing else. From any other requester it does nothing. -/
def Obligations.WellheadTakesOneCommandAtATime : Prop :=
  ∀ (req : Requester) (s : State), WriteReaches req Reg.WH_CMD s →
    ∀ x ∈ [(1, exec (.flashErase req) s), (2, exec (.flashProgram req) s), (3, exec (.flashRead req) s), (4, exec (.stage req) s),
        (5, exec (.svnCommit req) s), (6, exec (.enroll req) s), (7, exec (.attest req) s), (8, exec (.nonce req) s),
        (9, exec (.debugUnlock req) s), (10, exec (.debugLock req) s), (11, exec (.calSave req) s)],
    (req ≠ 0 → req ≠ 1 → x.2 = .next s) ∧
    ((req = 0 ∨ req = 1) → s.wellhead.running = none →
      ∃ t, x.2 = .next t ∧ t.wellhead = { s.wellhead with running := some (x.1, (reg s Reg.WH_ARG0).toNat, (reg s Reg.WH_ARG1).toNat) } ∧
        getBit t Reg.WH_STATUS 0 = true ∧ (∃ r w, t = { s with regs := r, wellhead := w }) ∧
        (x.1 = 4 → reg t Reg.WH_STAGE = 0 ∧ SameRegsBut [Reg.WH_STATUS, Reg.WH_STAGE] s t) ∧ (x.1 ≠ 4 → SameRegsBut [Reg.WH_STATUS] s t)) ∧
    ((req = 0 ∨ req = 1) → s.wellhead.running ≠ none →
      ∃ t, x.2 = .next t ∧ getF t Reg.WH_COUNTS 0 8 = satInc 8 (getF s Reg.WH_COUNTS 0 8) ∧ OnlyRegs [Reg.WH_COUNTS] s t)

/-- With no burn under way the running command ends, not busy, with its result. Erased sectors read 0xFF and programmed bytes
are the data window's, every other flash byte as before; a bad range answers 1, the booted slot outside HALTED 2, a failing
operation 7 with FLASH_ERROR. FLASH_READ fills the window. STAGE of a slot that passes makes its kernel the staged one; a
failing one answers 3 and leaves the staging that stood. SVN_COMMIT and ENROLL that pass start their burn; others fail by
reason. NONCE issues a new nonce, shown in its words; ENROLL and DEBUG_UNLOCK use it up. DEBUG_UNLOCK opens the scopes of a good
token and raises DEBUG_UNLOCKED, else TOKEN_REJECTED; DEBUG_LOCK closes all. ATTEST stores its report and takes an index.
CAL_SAVE writes its copy. A burn that is verified programs what it names; one that is not raises OTP_ERROR and answers 6. -/
def Obligations.WellheadCommandsEndAsTheirRulesSay : Prop :=
  (∀ (x : WhOutcome) (s : State), s.wellhead.running = none ∨ s.wellhead.burn ≠ none → exec (.whCommandComplete x) s = .next s) ∧
  (∀ (x : WhOutcome) (s : State) (code a n : Nat), s.wellhead.running = some (code, a, n) → s.wellhead.burn = none →
    ∃ t, exec (.whCommandComplete x) s = .next t ∧
      (t.wellhead.burn = none ∨ code = 7 → t.wellhead.running = none ∧ getBit t Reg.WH_STATUS 0 = false ∧
        (getF t Reg.WH_STATUS 8 4 = 0 → getBit t (Reg.INT_STATUS whPage) 0 = true) ∧
        (getF t Reg.WH_STATUS 8 4 ≠ 0 → getBit t (Reg.INT_STATUS whPage) 1 = true)) ∧
      (code = 1 →
        (flashRange a 0x10000 = false ∨ a % 0x10000 ≠ 0 → getF t Reg.WH_STATUS 8 4 = 1 ∧ t.wellhead.flash = s.wellhead.flash) ∧
        (flashRange a 0x10000 = true → a % 0x10000 = 0 → protectedFlash s a 0x10000 = true →
          getF t Reg.WH_STATUS 8 4 = 2 ∧ t.wellhead.flash = s.wellhead.flash) ∧
        (flashRange a 0x10000 = true → a % 0x10000 = 0 → protectedFlash s a 0x10000 = false →
          (x.flashOk = true → getF t Reg.WH_STATUS 8 4 = 0 ∧ (∀ k, a ≤ k → k < a + 0x10000 → flashByte t k = 0xFF)) ∧
          (x.flashOk = false → getF t Reg.WH_STATUS 8 4 = 7 ∧ getBit t (Reg.FAULT_STATUS xspiPage) 0 = true) ∧
          (∀ k, k < a ∨ a + 0x10000 ≤ k → flashByte t k = flashByte s k))) ∧
      (code = 2 →
        (lengthOk n = false ∨ flashRange a n = false → getF t Reg.WH_STATUS 8 4 = 1 ∧ t.wellhead.flash = s.wellhead.flash) ∧
        (lengthOk n = true → flashRange a n = true → protectedFlash s a n = true → getF t Reg.WH_STATUS 8 4 = 2 ∧ t.wellhead.flash = s.wellhead.flash) ∧
        (lengthOk n = true → flashRange a n = true → protectedFlash s a n = false →
          (x.flashOk = true → getF t Reg.WH_STATUS 8 4 = 0 ∧ ∀ k, k < n → flashByte t (a + k) = windowByte s k) ∧
          (x.flashOk = false → getF t Reg.WH_STATUS 8 4 = 7 ∧ getBit t (Reg.FAULT_STATUS xspiPage) 0 = true) ∧
          (∀ k, k < a ∨ a + n ≤ k → flashByte t k = flashByte s k))) ∧
      (code = 3 → t.wellhead.flash = s.wellhead.flash ∧
        (lengthOk n = true → flashRange a n = true → x.flashOk = true → getF t Reg.WH_STATUS 8 4 = 0 ∧ ∀ k, k < n → windowByte t k = flashByte s (a + k))) ∧
      (code = 4 →
        (a ≤ 1 → slotCheck s a (keyInService s.wellhead) x.image = 0 → getF t Reg.WH_STATUS 8 4 = 0 ∧ getBit t Reg.WH_STAGE 0 = true ∧
          t.kernelStaged = some (imageKernel s a) ∧ reg t Reg.WH_STAGED_KERNEL_VER = imageKernel s a) ∧
        (a ≤ 1 → slotCheck s a (keyInService s.wellhead) x.image ≠ 0 → getF t Reg.WH_STATUS 8 4 = 3 ∧ t.kernelStaged = s.kernelStaged ∧
          getBit t Reg.WH_STAGE 0 = s.kernelStaged.isSome)) ∧
      (code = 5 →
        (s.wellhead.booted ≠ none → s.wellhead.svn < getF s Reg.WH_BOOT_STATUS 8 7 →
          t.wellhead = { s.wellhead with burn := some (.svn (getF s Reg.WH_BOOT_STATUS 8 7)) } ∧ t.regs = s.regs) ∧
        (s.wellhead.booted = none ∨ getF s Reg.WH_BOOT_STATUS 8 7 ≤ s.wellhead.svn → getF t Reg.WH_STATUS 8 4 = 1)) ∧
      (code = 6 → t.wellhead.nonce = none ∧
        (∀ k, freeSlot s.wellhead = some k → nonceOk s = true → (windowByte s 24).toNat = k → messageOk s false x = true →
          t.wellhead.burn = some (.enroll k (shake256 (windowBytes s 100 68) 32) (keyInService s.wellhead))) ∧
        (∀ k, freeSlot s.wellhead = some k → nonceOk s = false → getF t Reg.WH_STATUS 8 4 = 4) ∧
        (freeSlot s.wellhead = none → getF t Reg.WH_STATUS 8 4 = 5)) ∧
      (code = 7 →
        (fullMatrix s = false → getF t Reg.WH_STATUS 8 4 = 1 ∧ t.wellhead.nextIndex = s.wellhead.nextIndex) ∧
        (∀ b, fullMatrix s = true → s.wellhead.block = some b →
          getF t Reg.WH_STATUS 8 4 = 0 ∧ t.wellhead.nextIndex = s.wellhead.nextIndex + 1 ∧
          (0xC00000 ≤ getF s Reg.WH_ATTEST_BASE 12 12 * 4096 → t.mem = s.mem) ∧
          ∀ k v, getF s Reg.WH_ATTEST_BASE 12 12 * 4096 < 0xC00000 → (attestReport (modWh (fun w => { w with nextIndex := s.wellhead.nextIndex + 1 }) s) s.wellhead.nextIndex)[k]? = some v →
            memByte t (0x4000000 + getF s Reg.WH_ATTEST_BASE 12 12 * 4096 + k) = v)) ∧
      (code = 8 → getF t Reg.WH_STATUS 8 4 = 0 ∧
        ∃ l, t.wellhead.nonce = some l ∧ l.length = 16 ∧ ∀ i, i < 4 → reg t (Reg.WH_NONCE i) = word (ofBytes ((l.drop (4 * i)).take 4))) ∧
      (code = 9 → t.wellhead.nonce = none ∧
        (nonceOk s = true → messageOk s true x = true → ((windowByte s 24).toNat.testBit 2 = true → windowByte s 25 = 0) →
          getF t Reg.WH_STATUS 8 4 = 0 ∧ reg t Reg.WH_DEBUG = reg s Reg.WH_DEBUG ||| word ((windowByte s 24).toNat % 8) ∧
          getBit t (Reg.FAULT_STATUS whPage) 5 = true) ∧
        (nonceOk s = false ∨ messageOk s true x = false →
          getF t Reg.WH_STATUS 8 4 = (if nonceOk s then 3 else 4) ∧ reg t Reg.WH_DEBUG = reg s Reg.WH_DEBUG ∧
          getBit t (Reg.FAULT_STATUS whPage) 6 = true)) ∧
      (code = 10 → getF t Reg.WH_STATUS 8 4 = 0 ∧ getF t Reg.WH_DEBUG 0 3 = 0 ∧ (∀ k, k < 2 → reg t (Reg.TMUX_ATEST k) = 0) ∧
        ∀ k, k < 8 → reg t (Reg.TMUX_DTEST k) = 0) ∧
      (code = 11 →
        (fullMatrix s = false → getF t Reg.WH_STATUS 8 4 = 1 ∧ t.wellhead.flash = s.wellhead.flash) ∧
        (fullMatrix s = true → calValid s (1 - calTarget s) = true → calGen s (1 - calTarget s) ≠ 2 ^ 32 - 1 → x.flashOk = true →
          getF t Reg.WH_STATUS 8 4 = 0 ∧
          ∀ k v, (calRecord s (calGen s (1 - calTarget s) + 1))[k]? = some v → flashByte t (calAt (calTarget s) + k) = v))) ∧
  (∀ (verified : Bool) (s : State),
    (s.wellhead.burn = none → exec (.otpBurnComplete verified) s = .next s) ∧
    (∀ b, s.wellhead.burn = some b →
      ∃ t, exec (.otpBurnComplete verified) s = .next t ∧ t.wellhead.burn = none ∧
        (verified = false → getBit t (Reg.FAULT_STATUS whPage) 1 = true ∧ (b ≠ .block → getF t Reg.WH_STATUS 8 4 = 6 ∧ t.wellhead.running = none)) ∧
        (verified = true →
          (b = .block → t.wellhead.block = some s.wellhead.blocks ∧ t.wellhead.nextIndex = 64 * s.wellhead.blocks ∧
            t.wellhead.blocks = s.wellhead.blocks + 1) ∧
          (∀ v, b = .svn v → t.wellhead.svn = v ∧ getF t Reg.WH_STATUS 8 4 = 0 ∧ (v = 64 → getBit t (Reg.FAULT_STATUS whPage) 4 = true)) ∧
          (∀ k h r, b = .enroll k h r → t.wellhead.enrolled.testBit k = true ∧ t.wellhead.programmed.testBit k = true ∧
            SMap.get (fun _ => []) t.wellhead.hashes k = h ∧ (∀ o, r = some o → t.wellhead.revoked.testBit o = true) ∧
            getF t Reg.WH_STATUS 8 4 = 0 ∧ (k = 7 → getBit t (Reg.FAULT_STATUS whPage) 3 = true)))))

/-- SNAP and SNAP_AT_EPOCH that R625 refuses set REFUSED with the reason and the interrupt, and capture nothing. Otherwise the
result bits clear; SNAP is BUSY with the image as this cycle shows it and with its uptime in CEN_T, and SNAP_AT_EPOCH is ARMED.
For every section selected and reachable, each word of it that is not zero stands in the image at its place. When the copy
completes, every word of the area holds the image's value, and zero where the image names none; DONE sets, CEN_SEQ increments
and the interrupt sets. ABORT ends a copy with ABORTED, and does nothing where none runs. -/
def Obligations.CensusFreezesAnImage : Prop :=
  (∀ (req : Requester) (s : State), WriteReaches req Reg.CEN_CMD s →
    (censusRefusal s ≠ 0 → ∀ c : Instr, c = .censusSnap req ∨ c = .snapAtEpoch req →
      ∃ t, exec c s = .next t ∧ t.census = s.census ∧ getBit t Reg.CEN_STATUS 2 = true ∧ getF t Reg.CEN_STATUS 5 3 = censusRefusal s ∧
        getBit t (Reg.INT_STATUS censusPage) 1 = true ∧ SameRegsBut [Reg.CEN_STATUS, Reg.INT_STATUS censusPage] s t ∧ SameBytes s t) ∧
    (censusRefusal s = 0 →
      (∃ t, exec (.censusSnap req) s = .next t ∧ t.census = some (censusImage { t with census := none }) ∧ getBit t Reg.CEN_STATUS 0 = true ∧
        getF t Reg.CEN_STATUS 1 3 = 0 ∧ reg64 t Reg.CEN_T_LO = s.time.uptime % 2 ^ 64 ∧
        SameRegsBut [Reg.CEN_STATUS, Reg.CEN_T_LO, Reg.CEN_T_HI] s t ∧ SameBytes s t) ∧
      (∃ t, exec (.snapAtEpoch req) s = .next t ∧ getBit t Reg.CEN_STATUS 4 = true ∧ getF t Reg.CEN_STATUS 1 3 = 0 ∧ OnlyRegs [Reg.CEN_STATUS] s t)) ∧
    (s.census = none → exec (.censusAbort req) s = .next s) ∧
    (s.census ≠ none → ∃ t, exec (.censusAbort req) s = .next t ∧ t.census = none ∧ getBit t Reg.CEN_STATUS 3 = true ∧
      getBit t Reg.CEN_STATUS 0 = false ∧ SameRegsBut [Reg.CEN_STATUS] s t)) ∧
  (∀ (s : State) (i o k a : Nat), (i, o) ∈ (layout s.variant ((selectedSections (getF s Reg.CEN_SEL 0 9)).filter fun j => decide (j < 7) || hasPath s 6 3)).1 →
      k < sectionBytes s.variant i / 4 → (sectionPlaces s.variant i)[k]? = some a → liveWord s a ≠ 0 →
    (o / 4 + k, liveWord s a) ∈ (censusImage s).words) ∧
  (∀ s : State, s.census = none → exec .censusCopyComplete s = .next s) ∧
  (∀ (c : CensusCopy) (s : State), s.census = some c →
    ∃ t, exec .censusCopyComplete s = .next t ∧ t.census = none ∧ getBit t Reg.CEN_STATUS 0 = false ∧ getBit t Reg.CEN_STATUS 1 = true ∧
      getF t Reg.CEN_STATUS 16 16 = (getF s Reg.CEN_STATUS 16 16 + 1) % 2 ^ 16 ∧ getBit t (Reg.INT_STATUS censusPage) 0 = true ∧
      (∀ k w, k < c.size / 4 → (k, w) ∈ c.words → (∀ v, (k, v) ∈ c.words → v = w) → readMem t (0x4000000 + c.base + 4 * k) 4 = w.toNat) ∧
      (∀ k, k < c.size / 4 → (∀ v, (k, v) ∉ c.words) → readMem t (0x4000000 + c.base + 4 * k) 4 = 0) ∧
      (∀ a, a < 0x4000000 + c.base ∨ 0x4000000 + c.base + 4 * (c.size / 4) ≤ a → memByte t a = memByte s a) ∧
      SameRegsBut [Reg.CEN_STATUS, Reg.INT_STATUS censusPage] s t)

/-- The model tells epochs apart by a serial of its own. After reset no two epoch records carry one serial and the next serial
is new, and every step that answers a next state keeps that. The statements about one epoch that name it by its serial take this
as their premise. -/
def Obligations.EpochSerialsStayDistinct : Prop :=
  EpochsDistinct State.reset ∧ ∀ s t : State, EpochsDistinct s → step s = .next t → EpochsDistinct t
end

