-- ==== Sys2Proof/Laws/SMap.lean ====
section
/-! SUPPORT. The laws of sparse maps: a read after a write, and the canonical form that every operation keeps. -/

namespace Sys2Proof

variable {α : Type}

/-! ### Reads -/

@[simp] theorem SMap.get_nil (d : Nat → α) (k : Nat) : SMap.get d [] k = d k := rfl

theorem SMap.get_put (d : Nat → α) (m : SMap α) (k : Nat) (v : α) (j : Nat) :
    SMap.get d (SMap.put m k v) j = if k = j then v else SMap.get d m j := by
  induction m with
  | nil => by_cases h : k = j <;> simp [SMap.put, SMap.get, h]
  | cons e r ih =>
    obtain ⟨a, b⟩ := e
    unfold SMap.put
    split
    · by_cases h : k = j <;> simp [SMap.get, h]
    · split
      · subst_vars
        by_cases h : a = j <;> simp [SMap.get, h]
      · rename_i h1 h2
        by_cases h : a = j
        · subst h
          simp [SMap.get, h2]
        · simp [SMap.get, h, ih]

theorem SMap.get_keep (d : Nat → α) (p : Nat → Bool) (m : SMap α) (j : Nat) :
    SMap.get d (SMap.keep p m) j = if p j then SMap.get d m j else d j := by
  induction m with
  | nil => simp [SMap.keep, SMap.get]
  | cons e r ih =>
    obtain ⟨a, b⟩ := e
    unfold SMap.keep at ih ⊢
    by_cases hp : p a = true
    · by_cases ha : a = j
      · subst ha
        simp [SMap.get, hp]
      · simp [SMap.get, hp, ha, ih]
    · by_cases ha : a = j
      · subst ha
        simp [hp, ih]
      · simp [SMap.get, hp, ha, ih]

theorem SMap.get_erase (d : Nat → α) (m : SMap α) (k j : Nat) :
    SMap.get d (SMap.erase m k) j = if k = j then d j else SMap.get d m j := by
  have h := SMap.get_keep d (fun a => !(a == k)) m j
  unfold SMap.keep at h
  unfold SMap.erase
  rw [h]
  by_cases hk : j = k
  · simp [hk]
  · simp [hk, Ne.symm hk]

/-- A write is read back, and no other key changes. -/
theorem SMap.get_set [DecidableEq α] (d : Nat → α) (m : SMap α) (k : Nat) (v : α) (j : Nat) :
    SMap.get d (SMap.set d m k v) j = if k = j then v else SMap.get d m j := by
  unfold SMap.set
  split
  · rename_i h
    rw [SMap.get_erase]
    split
    · rename_i hk
      rw [← hk, h]
    · rfl
  · exact SMap.get_put d m k v j

@[simp] theorem SMap.get_set_same [DecidableEq α] (d : Nat → α) (m : SMap α) (k : Nat) (v : α) :
    SMap.get d (SMap.set d m k v) k = v := by simp [SMap.get_set]

theorem SMap.get_set_other [DecidableEq α] (d : Nat → α) (m : SMap α) {k j : Nat} (v : α) (h : k ≠ j) :
    SMap.get d (SMap.set d m k v) j = SMap.get d m j := by simp [SMap.get_set, h]

theorem SMap.get_dropRange (d : Nat → α) (m : SMap α) (lo n j : Nat) :
    SMap.get d (SMap.dropRange m lo n) j = if lo ≤ j ∧ j < lo + n then d j else SMap.get d m j := by
  unfold SMap.dropRange
  rw [SMap.get_keep]
  by_cases h : lo ≤ j ∧ j < lo + n
  · simp [h.1, h.2]
  · rw [if_neg h]
    simp only [not_and, Nat.not_lt] at h
    by_cases h1 : lo ≤ j
    · simp [Nat.not_lt.mpr (h h1)]
    · simp [h1]

/-! ### The canonical form -/

theorem SMap.rising_mono {m : SMap α} {a b : Nat} (hab : a ≤ b) (h : SMap.rising b m = true) : SMap.rising a m = true := by
  cases m with
  | nil => rfl
  | cons e r =>
    simp only [SMap.rising, Bool.and_eq_true, decide_eq_true_eq] at h ⊢
    exact ⟨by omega, h.2⟩

theorem SMap.rising_filter (p : Nat × α → Bool) {m : SMap α} {b : Nat} (h : SMap.rising b m = true) :
    SMap.rising b (m.filter p) = true := by
  induction m generalizing b with
  | nil => rfl
  | cons e r ih =>
    simp only [SMap.rising, Bool.and_eq_true, decide_eq_true_eq] at h
    rw [List.filter_cons]
    split
    · simp only [SMap.rising, Bool.and_eq_true, decide_eq_true_eq]
      exact ⟨h.1, ih h.2⟩
    · exact SMap.rising_mono (by omega) (ih h.2)

theorem SMap.rising_map (f : Nat × α → Nat × α) (hf : ∀ e, (f e).1 = e.1) {m : SMap α} {b : Nat}
    (h : SMap.rising b m = true) : SMap.rising b (m.map f) = true := by
  induction m generalizing b with
  | nil => rfl
  | cons e r ih =>
    simp only [SMap.rising, Bool.and_eq_true, decide_eq_true_eq] at h
    simp only [List.map_cons, SMap.rising, Bool.and_eq_true, decide_eq_true_eq, hf]
    exact ⟨h.1, ih h.2⟩

theorem SMap.rising_put {m : SMap α} {b k : Nat} (v : α) (hb : b ≤ k) (h : SMap.rising b m = true) :
    SMap.rising b (SMap.put m k v) = true := by
  induction m generalizing b with
  | nil => simp [SMap.put, SMap.rising, hb]
  | cons e r ih =>
    obtain ⟨a, x⟩ := e
    simp only [SMap.rising, Bool.and_eq_true, decide_eq_true_eq] at h
    unfold SMap.put
    split
    · simp only [SMap.rising, Bool.and_eq_true, decide_eq_true_eq]
      exact ⟨hb, by omega, h.2⟩
    · split
      · subst_vars
        simp only [SMap.rising, Bool.and_eq_true, decide_eq_true_eq]
        exact ⟨hb, h.2⟩
      · simp only [SMap.rising, Bool.and_eq_true, decide_eq_true_eq]
        exact ⟨h.1, ih (by omega) h.2⟩

theorem SMap.mem_put {m : SMap α} {k : Nat} {v : α} {e : Nat × α} (h : e ∈ SMap.put m k v) : e = (k, v) ∨ e ∈ m := by
  induction m with
  | nil => simpa [SMap.put] using h
  | cons x r ih =>
    obtain ⟨a, y⟩ := x
    unfold SMap.put at h
    split at h
    · simpa using h
    · split at h
      · rcases List.mem_cons.mp h with h | h
        · exact .inl h
        · exact .inr (List.mem_cons_of_mem _ h)
      · rcases List.mem_cons.mp h with h | h
        · exact .inr (h ▸ List.mem_cons_self)
        · exact (ih h).imp id (List.mem_cons_of_mem _)

variable [DecidableEq α]

theorem SMap.wf_iff {d : Nat → α} {m : SMap α} : SMap.wf d m = true ↔ SMap.rising 0 m = true ∧ ∀ e ∈ m, e.2 ≠ d e.1 := by
  simp [SMap.wf, List.all_eq_true]

@[simp] theorem SMap.wf_nil (d : Nat → α) : SMap.wf d [] = true := rfl

theorem SMap.wf_filter {d : Nat → α} {m : SMap α} (p : Nat × α → Bool) (h : SMap.wf d m = true) :
    SMap.wf d (m.filter p) = true := by
  rw [SMap.wf_iff] at h ⊢
  exact ⟨SMap.rising_filter p h.1, fun e he => h.2 e (List.mem_of_mem_filter he)⟩

theorem SMap.wf_erase {d : Nat → α} {m : SMap α} (k : Nat) (h : SMap.wf d m = true) : SMap.wf d (SMap.erase m k) = true :=
  SMap.wf_filter _ h

theorem SMap.wf_keep {d : Nat → α} {m : SMap α} (p : Nat → Bool) (h : SMap.wf d m = true) : SMap.wf d (SMap.keep p m) = true :=
  SMap.wf_filter _ h

theorem SMap.wf_dropRange {d : Nat → α} {m : SMap α} (lo n : Nat) (h : SMap.wf d m = true) :
    SMap.wf d (SMap.dropRange m lo n) = true := SMap.wf_keep _ h

theorem SMap.wf_slice {d : Nat → α} {m : SMap α} (lo n : Nat) (h : SMap.wf d m = true) :
    SMap.wf d (SMap.slice m lo n) = true := SMap.wf_keep _ h

/-- A write keeps the canonical form. -/
theorem SMap.wf_set {d : Nat → α} {m : SMap α} (k : Nat) (v : α) (h : SMap.wf d m = true) : SMap.wf d (SMap.set d m k v) = true := by
  unfold SMap.set
  split
  · exact SMap.wf_erase k h
  · rename_i hv
    rw [SMap.wf_iff] at h ⊢
    refine ⟨SMap.rising_put v (Nat.zero_le k) h.1, fun e he => ?_⟩
    rcases SMap.mem_put he with rfl | he
    · exact hv
    · exact h.2 e he

theorem SMap.wf_foldl_set {d : Nat → α} (l : List (Nat × α)) {m : SMap α} (h : SMap.wf d m = true) :
    SMap.wf d (l.foldl (fun t e => SMap.set d t e.1 e.2) m) = true := by
  induction l generalizing m with
  | nil => exact h
  | cons e r ih => exact ih (SMap.wf_set e.1 e.2 h)

/-- Equal contents in canonical form are equal lists. -/
theorem SMap.ext_of_wf {d : Nat → α} {m n : SMap α} (hm : SMap.wf d m = true) (hn : SMap.wf d n = true)
    (h : ∀ k, SMap.get d m k = SMap.get d n k) : m = n := by
  have absent : ∀ (l : SMap α) (b k : Nat), SMap.rising b l = true → k < b → SMap.get d l k = d k := by
    intro l
    induction l with
    | nil => intros; rfl
    | cons e r ih =>
      intro b k hr hk
      obtain ⟨a, x⟩ := e
      simp only [SMap.rising, Bool.and_eq_true, decide_eq_true_eq] at hr
      have : a ≠ k := by omega
      simp only [SMap.get, this, if_false]
      exact ih (a + 1) k hr.2 (by omega)
  rw [SMap.wf_iff] at hm hn
  obtain ⟨hm1, hm2⟩ := hm
  obtain ⟨hn1, hn2⟩ := hn
  generalize 0 = b at hm1 hn1
  induction m generalizing n b with
  | nil =>
    cases n with
    | nil => rfl
    | cons e r =>
      have := h e.1
      simp only [SMap.get, if_true] at this
      exact absurd this.symm (hn2 e List.mem_cons_self)
  | cons e r ih =>
    cases n with
    | nil =>
      have := h e.1
      simp only [SMap.get, if_true] at this
      exact absurd this (hm2 e List.mem_cons_self)
    | cons e' r' =>
      obtain ⟨a, x⟩ := e
      obtain ⟨a', x'⟩ := e'
      simp only [SMap.rising, Bool.and_eq_true, decide_eq_true_eq] at hm1 hn1
      have haa : a = a' := by
        rcases Nat.lt_trichotomy a a' with hlt | heq | hgt
        · have hk := h a
          have hne : a' ≠ a := by omega
          simp only [SMap.get, if_true, hne, if_false] at hk
          rw [absent r' (a' + 1) a hn1.2 (by omega)] at hk
          exact absurd hk (hm2 (a, x) List.mem_cons_self)
        · exact heq
        · have hk := h a'
          have hne : a ≠ a' := by omega
          simp only [SMap.get, if_true, hne, if_false] at hk
          rw [absent r (a + 1) a' hm1.2 (by omega)] at hk
          exact absurd hk.symm (hn2 (a', x') List.mem_cons_self)
      subst haa
      have hx : x = x' := by
        have hk := h a
        simpa [SMap.get] using hk
      subst hx
      congr 1
      refine ih (fun k => ?_) (fun e he => hm2 e (List.mem_cons_of_mem _ he)) (fun e he => hn2 e (List.mem_cons_of_mem _ he))
        (a + 1) hm1.2 hn1.2
      by_cases hk : k < a + 1
      · rw [absent r (a + 1) k hm1.2 hk, absent r' (a + 1) k hn1.2 hk]
      · have hk' := h k
        have : a ≠ k := by omega
        simpa [SMap.get, this] using hk'

end Sys2Proof

namespace Sys2Proof.Machine

open Sys2Proof

theorem wf_mapRange {m : SMap Word} (lo n : Nat) (f : Nat → Word → Word) (h : Registers.wf m = true) :
    Registers.wf (mapRange lo n f m) = true := by
  unfold Registers.wf at h ⊢
  rw [SMap.wf_iff] at h ⊢
  unfold mapRange
  refine ⟨SMap.rising_filter _ (SMap.rising_map _ (fun e => ?_) h.1), fun e he => ?_⟩
  · split <;> rfl
  · simpa using (List.mem_filter.mp he).2

theorem wf_foldl_set {m : SMap Word} (l : List (Nat × Word)) (h : Registers.wf m = true) :
    Registers.wf (l.foldl (fun t e => SMap.set resetWord t e.1 e.2) m) = true := SMap.wf_foldl_set l h

end Sys2Proof.Machine
end

