-- ==== Sys2Proof/Laws/State.lean ====
section
/-! SUPPORT. The fields of a state after each elementary update: every field but the one it names is as it was. -/

namespace Sys2Proof.Machine

open Sys2Proof

/-! ### setReg -/

section

variable (a : Nat) (v : Word) (s : State)

@[simp] theorem setReg_variant : (setReg a v s).variant = s.variant := rfl
@[simp] theorem setReg_active : (setReg a v s).active = s.active := rfl
@[simp] theorem setReg_mem : (setReg a v s).mem = s.mem := rfl
@[simp] theorem setReg_dram : (setReg a v s).dram = s.dram := rfl
@[simp] theorem setReg_dramGen : (setReg a v s).dramGen = s.dramGen := rfl
@[simp] theorem setReg_pumpMem : (setReg a v s).pumpMem = s.pumpMem := rfl
@[simp] theorem setReg_pumpGen : (setReg a v s).pumpGen = s.pumpGen := rfl
@[simp] theorem setReg_bus : (setReg a v s).bus = s.bus := rfl
@[simp] theorem setReg_colCommit : (setReg a v s).colCommit = s.colCommit := rfl
@[simp] theorem setReg_fresh : (setReg a v s).fresh = s.fresh := rfl
@[simp] theorem setReg_out : (setReg a v s).out = s.out := rfl
@[simp] theorem setReg_pending : (setReg a v s).pending = s.pending := rfl
@[simp] theorem setReg_pins : (setReg a v s).pins = s.pins := rfl
@[simp] theorem setReg_endpoint : (setReg a v s).endpoint = s.endpoint := rfl
@[simp] theorem setReg_epochReset : (setReg a v s).epochReset = s.epochReset := rfl
@[simp] theorem setReg_epochs : (setReg a v s).epochs = s.epochs := rfl
@[simp] theorem setReg_epochSerial : (setReg a v s).epochSerial = s.epochSerial := rfl
@[simp] theorem setReg_epochNumber : (setReg a v s).epochNumber = s.epochNumber := rfl
@[simp] theorem setReg_epochPrev : (setReg a v s).epochPrev = s.epochPrev := rfl
@[simp] theorem setReg_submission : (setReg a v s).submission = s.submission := rfl
@[simp] theorem setReg_resultOf : (setReg a v s).resultOf = s.resultOf := rfl
@[simp] theorem setReg_reports : (setReg a v s).reports = s.reports := rfl
@[simp] theorem setReg_schedule : (setReg a v s).schedule = s.schedule := rfl
@[simp] theorem setReg_preparation : (setReg a v s).preparation = s.preparation := rfl
@[simp] theorem setReg_jobStart : (setReg a v s).jobStart = s.jobStart := rfl
@[simp] theorem setReg_connected : (setReg a v s).connected = s.connected := rfl
@[simp] theorem setReg_ringRoles : (setReg a v s).ringRoles = s.ringRoles := rfl
@[simp] theorem setReg_warmRequested : (setReg a v s).warmRequested = s.warmRequested := rfl
@[simp] theorem setReg_handedOff : (setReg a v s).handedOff = s.handedOff := rfl
@[simp] theorem setReg_eo : (setReg a v s).eo = s.eo := rfl
@[simp] theorem setReg_eoCal : (setReg a v s).eoCal = s.eoCal := rfl
@[simp] theorem setReg_siphonGen : (setReg a v s).siphonGen = s.siphonGen := rfl
@[simp] theorem setReg_align : (setReg a v s).align = s.align := rfl
@[simp] theorem setReg_ncoOrigin : (setReg a v s).ncoOrigin = s.ncoOrigin := rfl
@[simp] theorem setReg_nco : (setReg a v s).nco = s.nco := rfl
@[simp] theorem setReg_heaters : (setReg a v s).heaters = s.heaters := rfl
@[simp] theorem setReg_onTime : (setReg a v s).onTime = s.onTime := rfl
@[simp] theorem setReg_rbFail : (setReg a v s).rbFail = s.rbFail := rfl
@[simp] theorem setReg_htrCal : (setReg a v s).htrCal = s.htrCal := rfl
@[simp] theorem setReg_cells : (setReg a v s).cells = s.cells := rfl
@[simp] theorem setReg_pumps : (setReg a v s).pumps = s.pumps := rfl
@[simp] theorem setReg_loopOrigin : (setReg a v s).loopOrigin = s.loopOrigin := rfl
@[simp] theorem setReg_cellPower : (setReg a v s).cellPower = s.cellPower := rfl
@[simp] theorem setReg_cellPowerWas : (setReg a v s).cellPowerWas = s.cellPowerWas := rfl
@[simp] theorem setReg_cellPowerAt : (setReg a v s).cellPowerAt = s.cellPowerAt := rfl
@[simp] theorem setReg_frames : (setReg a v s).frames = s.frames := rfl
@[simp] theorem setReg_rbScan : (setReg a v s).rbScan = s.rbScan := rfl
@[simp] theorem setReg_inputPower : (setReg a v s).inputPower = s.inputPower := rfl
@[simp] theorem setReg_inputWas : (setReg a v s).inputWas = s.inputWas := rfl
@[simp] theorem setReg_portAtten : (setReg a v s).portAtten = s.portAtten := rfl
@[simp] theorem setReg_kernelStaged : (setReg a v s).kernelStaged = s.kernelStaged := rfl
@[simp] theorem setReg_wellOrigin : (setReg a v s).wellOrigin = s.wellOrigin := rfl
@[simp] theorem setReg_wellSpans : (setReg a v s).wellSpans = s.wellSpans := rfl
@[simp] theorem setReg_rangeChanges : (setReg a v s).rangeChanges = s.rangeChanges := rfl
@[simp] theorem setReg_published : (setReg a v s).published = s.published := rfl
@[simp] theorem setReg_settledAt : (setReg a v s).settledAt = s.settledAt := rfl
@[simp] theorem setReg_settleFrom : (setReg a v s).settleFrom = s.settleFrom := rfl
@[simp] theorem setReg_ditherAt : (setReg a v s).ditherAt = s.ditherAt := rfl
@[simp] theorem setReg_pinsPlaced : (setReg a v s).pinsPlaced = s.pinsPlaced := rfl
@[simp] theorem setReg_pin : (setReg a v s).pin = s.pin := rfl
@[simp] theorem setReg_calRun : (setReg a v s).calRun = s.calRun := rfl
@[simp] theorem setReg_binding : (setReg a v s).binding = s.binding := rfl
@[simp] theorem setReg_refOut : (setReg a v s).refOut = s.refOut := rfl
@[simp] theorem setReg_biasOn : (setReg a v s).biasOn = s.biasOn := rfl
@[simp] theorem setReg_verdict : (setReg a v s).verdict = s.verdict := rfl
@[simp] theorem setReg_pilotDecode : (setReg a v s).pilotDecode = s.pilotDecode := rfl
@[simp] theorem setReg_pilotBit : (setReg a v s).pilotBit = s.pilotBit := rfl
@[simp] theorem setReg_pilotStarts : (setReg a v s).pilotStarts = s.pilotStarts := rfl
@[simp] theorem setReg_lastApplied : (setReg a v s).lastApplied = s.lastApplied := rfl
@[simp] theorem setReg_streams : (setReg a v s).streams = s.streams := rfl
@[simp] theorem setReg_trigPulse : (setReg a v s).trigPulse = s.trigPulse := rfl
@[simp] theorem setReg_dramSize : (setReg a v s).dramSize = s.dramSize := rfl
@[simp] theorem setReg_ring : (setReg a v s).ring = s.ring := rfl
@[simp] theorem setReg_time : (setReg a v s).time = s.time := rfl
@[simp] theorem setReg_ports : (setReg a v s).ports = s.ports := rfl
@[simp] theorem setReg_evt : (setReg a v s).evt = s.evt := rfl
@[simp] theorem setReg_flt : (setReg a v s).flt = s.flt := rfl
@[simp] theorem setReg_dieThrottled : (setReg a v s).dieThrottled = s.dieThrottled := rfl
@[simp] theorem setReg_picThrottled : (setReg a v s).picThrottled = s.picThrottled := rfl
@[simp] theorem setReg_heat : (setReg a v s).heat = s.heat := rfl
@[simp] theorem setReg_prime : (setReg a v s).prime = s.prime := rfl
@[simp] theorem setReg_wellhead : (setReg a v s).wellhead = s.wellhead := rfl
@[simp] theorem setReg_census : (setReg a v s).census = s.census := rfl

end

/-! ### modReg -/

section

variable (a : Nat) (f : Word → Word) (s : State)

@[simp] theorem modReg_variant : (modReg a f s).variant = s.variant := rfl
@[simp] theorem modReg_active : (modReg a f s).active = s.active := rfl
@[simp] theorem modReg_mem : (modReg a f s).mem = s.mem := rfl
@[simp] theorem modReg_dram : (modReg a f s).dram = s.dram := rfl
@[simp] theorem modReg_dramGen : (modReg a f s).dramGen = s.dramGen := rfl
@[simp] theorem modReg_pumpMem : (modReg a f s).pumpMem = s.pumpMem := rfl
@[simp] theorem modReg_pumpGen : (modReg a f s).pumpGen = s.pumpGen := rfl
@[simp] theorem modReg_bus : (modReg a f s).bus = s.bus := rfl
@[simp] theorem modReg_colCommit : (modReg a f s).colCommit = s.colCommit := rfl
@[simp] theorem modReg_fresh : (modReg a f s).fresh = s.fresh := rfl
@[simp] theorem modReg_out : (modReg a f s).out = s.out := rfl
@[simp] theorem modReg_pending : (modReg a f s).pending = s.pending := rfl
@[simp] theorem modReg_pins : (modReg a f s).pins = s.pins := rfl
@[simp] theorem modReg_endpoint : (modReg a f s).endpoint = s.endpoint := rfl
@[simp] theorem modReg_epochReset : (modReg a f s).epochReset = s.epochReset := rfl
@[simp] theorem modReg_epochs : (modReg a f s).epochs = s.epochs := rfl
@[simp] theorem modReg_epochSerial : (modReg a f s).epochSerial = s.epochSerial := rfl
@[simp] theorem modReg_epochNumber : (modReg a f s).epochNumber = s.epochNumber := rfl
@[simp] theorem modReg_epochPrev : (modReg a f s).epochPrev = s.epochPrev := rfl
@[simp] theorem modReg_submission : (modReg a f s).submission = s.submission := rfl
@[simp] theorem modReg_resultOf : (modReg a f s).resultOf = s.resultOf := rfl
@[simp] theorem modReg_reports : (modReg a f s).reports = s.reports := rfl
@[simp] theorem modReg_schedule : (modReg a f s).schedule = s.schedule := rfl
@[simp] theorem modReg_preparation : (modReg a f s).preparation = s.preparation := rfl
@[simp] theorem modReg_jobStart : (modReg a f s).jobStart = s.jobStart := rfl
@[simp] theorem modReg_connected : (modReg a f s).connected = s.connected := rfl
@[simp] theorem modReg_ringRoles : (modReg a f s).ringRoles = s.ringRoles := rfl
@[simp] theorem modReg_warmRequested : (modReg a f s).warmRequested = s.warmRequested := rfl
@[simp] theorem modReg_handedOff : (modReg a f s).handedOff = s.handedOff := rfl
@[simp] theorem modReg_eo : (modReg a f s).eo = s.eo := rfl
@[simp] theorem modReg_eoCal : (modReg a f s).eoCal = s.eoCal := rfl
@[simp] theorem modReg_siphonGen : (modReg a f s).siphonGen = s.siphonGen := rfl
@[simp] theorem modReg_align : (modReg a f s).align = s.align := rfl
@[simp] theorem modReg_ncoOrigin : (modReg a f s).ncoOrigin = s.ncoOrigin := rfl
@[simp] theorem modReg_nco : (modReg a f s).nco = s.nco := rfl
@[simp] theorem modReg_heaters : (modReg a f s).heaters = s.heaters := rfl
@[simp] theorem modReg_onTime : (modReg a f s).onTime = s.onTime := rfl
@[simp] theorem modReg_rbFail : (modReg a f s).rbFail = s.rbFail := rfl
@[simp] theorem modReg_htrCal : (modReg a f s).htrCal = s.htrCal := rfl
@[simp] theorem modReg_cells : (modReg a f s).cells = s.cells := rfl
@[simp] theorem modReg_pumps : (modReg a f s).pumps = s.pumps := rfl
@[simp] theorem modReg_loopOrigin : (modReg a f s).loopOrigin = s.loopOrigin := rfl
@[simp] theorem modReg_cellPower : (modReg a f s).cellPower = s.cellPower := rfl
@[simp] theorem modReg_cellPowerWas : (modReg a f s).cellPowerWas = s.cellPowerWas := rfl
@[simp] theorem modReg_cellPowerAt : (modReg a f s).cellPowerAt = s.cellPowerAt := rfl
@[simp] theorem modReg_frames : (modReg a f s).frames = s.frames := rfl
@[simp] theorem modReg_rbScan : (modReg a f s).rbScan = s.rbScan := rfl
@[simp] theorem modReg_inputPower : (modReg a f s).inputPower = s.inputPower := rfl
@[simp] theorem modReg_inputWas : (modReg a f s).inputWas = s.inputWas := rfl
@[simp] theorem modReg_portAtten : (modReg a f s).portAtten = s.portAtten := rfl
@[simp] theorem modReg_kernelStaged : (modReg a f s).kernelStaged = s.kernelStaged := rfl
@[simp] theorem modReg_wellOrigin : (modReg a f s).wellOrigin = s.wellOrigin := rfl
@[simp] theorem modReg_wellSpans : (modReg a f s).wellSpans = s.wellSpans := rfl
@[simp] theorem modReg_rangeChanges : (modReg a f s).rangeChanges = s.rangeChanges := rfl
@[simp] theorem modReg_published : (modReg a f s).published = s.published := rfl
@[simp] theorem modReg_settledAt : (modReg a f s).settledAt = s.settledAt := rfl
@[simp] theorem modReg_settleFrom : (modReg a f s).settleFrom = s.settleFrom := rfl
@[simp] theorem modReg_ditherAt : (modReg a f s).ditherAt = s.ditherAt := rfl
@[simp] theorem modReg_pinsPlaced : (modReg a f s).pinsPlaced = s.pinsPlaced := rfl
@[simp] theorem modReg_pin : (modReg a f s).pin = s.pin := rfl
@[simp] theorem modReg_calRun : (modReg a f s).calRun = s.calRun := rfl
@[simp] theorem modReg_binding : (modReg a f s).binding = s.binding := rfl
@[simp] theorem modReg_refOut : (modReg a f s).refOut = s.refOut := rfl
@[simp] theorem modReg_biasOn : (modReg a f s).biasOn = s.biasOn := rfl
@[simp] theorem modReg_verdict : (modReg a f s).verdict = s.verdict := rfl
@[simp] theorem modReg_pilotDecode : (modReg a f s).pilotDecode = s.pilotDecode := rfl
@[simp] theorem modReg_pilotBit : (modReg a f s).pilotBit = s.pilotBit := rfl
@[simp] theorem modReg_pilotStarts : (modReg a f s).pilotStarts = s.pilotStarts := rfl
@[simp] theorem modReg_lastApplied : (modReg a f s).lastApplied = s.lastApplied := rfl
@[simp] theorem modReg_streams : (modReg a f s).streams = s.streams := rfl
@[simp] theorem modReg_trigPulse : (modReg a f s).trigPulse = s.trigPulse := rfl
@[simp] theorem modReg_dramSize : (modReg a f s).dramSize = s.dramSize := rfl
@[simp] theorem modReg_ring : (modReg a f s).ring = s.ring := rfl
@[simp] theorem modReg_time : (modReg a f s).time = s.time := rfl
@[simp] theorem modReg_ports : (modReg a f s).ports = s.ports := rfl
@[simp] theorem modReg_evt : (modReg a f s).evt = s.evt := rfl
@[simp] theorem modReg_flt : (modReg a f s).flt = s.flt := rfl
@[simp] theorem modReg_dieThrottled : (modReg a f s).dieThrottled = s.dieThrottled := rfl
@[simp] theorem modReg_picThrottled : (modReg a f s).picThrottled = s.picThrottled := rfl
@[simp] theorem modReg_heat : (modReg a f s).heat = s.heat := rfl
@[simp] theorem modReg_prime : (modReg a f s).prime = s.prime := rfl
@[simp] theorem modReg_wellhead : (modReg a f s).wellhead = s.wellhead := rfl
@[simp] theorem modReg_census : (modReg a f s).census = s.census := rfl

end

/-! ### setF -/

section

variable (a lo w v : Nat) (s : State)

@[simp] theorem setF_variant : (setF a lo w v s).variant = s.variant := rfl
@[simp] theorem setF_active : (setF a lo w v s).active = s.active := rfl
@[simp] theorem setF_mem : (setF a lo w v s).mem = s.mem := rfl
@[simp] theorem setF_dram : (setF a lo w v s).dram = s.dram := rfl
@[simp] theorem setF_dramGen : (setF a lo w v s).dramGen = s.dramGen := rfl
@[simp] theorem setF_pumpMem : (setF a lo w v s).pumpMem = s.pumpMem := rfl
@[simp] theorem setF_pumpGen : (setF a lo w v s).pumpGen = s.pumpGen := rfl
@[simp] theorem setF_bus : (setF a lo w v s).bus = s.bus := rfl
@[simp] theorem setF_colCommit : (setF a lo w v s).colCommit = s.colCommit := rfl
@[simp] theorem setF_fresh : (setF a lo w v s).fresh = s.fresh := rfl
@[simp] theorem setF_out : (setF a lo w v s).out = s.out := rfl
@[simp] theorem setF_pending : (setF a lo w v s).pending = s.pending := rfl
@[simp] theorem setF_pins : (setF a lo w v s).pins = s.pins := rfl
@[simp] theorem setF_endpoint : (setF a lo w v s).endpoint = s.endpoint := rfl
@[simp] theorem setF_epochReset : (setF a lo w v s).epochReset = s.epochReset := rfl
@[simp] theorem setF_epochs : (setF a lo w v s).epochs = s.epochs := rfl
@[simp] theorem setF_epochSerial : (setF a lo w v s).epochSerial = s.epochSerial := rfl
@[simp] theorem setF_epochNumber : (setF a lo w v s).epochNumber = s.epochNumber := rfl
@[simp] theorem setF_epochPrev : (setF a lo w v s).epochPrev = s.epochPrev := rfl
@[simp] theorem setF_submission : (setF a lo w v s).submission = s.submission := rfl
@[simp] theorem setF_resultOf : (setF a lo w v s).resultOf = s.resultOf := rfl
@[simp] theorem setF_reports : (setF a lo w v s).reports = s.reports := rfl
@[simp] theorem setF_schedule : (setF a lo w v s).schedule = s.schedule := rfl
@[simp] theorem setF_preparation : (setF a lo w v s).preparation = s.preparation := rfl
@[simp] theorem setF_jobStart : (setF a lo w v s).jobStart = s.jobStart := rfl
@[simp] theorem setF_connected : (setF a lo w v s).connected = s.connected := rfl
@[simp] theorem setF_ringRoles : (setF a lo w v s).ringRoles = s.ringRoles := rfl
@[simp] theorem setF_warmRequested : (setF a lo w v s).warmRequested = s.warmRequested := rfl
@[simp] theorem setF_handedOff : (setF a lo w v s).handedOff = s.handedOff := rfl
@[simp] theorem setF_eo : (setF a lo w v s).eo = s.eo := rfl
@[simp] theorem setF_eoCal : (setF a lo w v s).eoCal = s.eoCal := rfl
@[simp] theorem setF_siphonGen : (setF a lo w v s).siphonGen = s.siphonGen := rfl
@[simp] theorem setF_align : (setF a lo w v s).align = s.align := rfl
@[simp] theorem setF_ncoOrigin : (setF a lo w v s).ncoOrigin = s.ncoOrigin := rfl
@[simp] theorem setF_nco : (setF a lo w v s).nco = s.nco := rfl
@[simp] theorem setF_heaters : (setF a lo w v s).heaters = s.heaters := rfl
@[simp] theorem setF_onTime : (setF a lo w v s).onTime = s.onTime := rfl
@[simp] theorem setF_rbFail : (setF a lo w v s).rbFail = s.rbFail := rfl
@[simp] theorem setF_htrCal : (setF a lo w v s).htrCal = s.htrCal := rfl
@[simp] theorem setF_cells : (setF a lo w v s).cells = s.cells := rfl
@[simp] theorem setF_pumps : (setF a lo w v s).pumps = s.pumps := rfl
@[simp] theorem setF_loopOrigin : (setF a lo w v s).loopOrigin = s.loopOrigin := rfl
@[simp] theorem setF_cellPower : (setF a lo w v s).cellPower = s.cellPower := rfl
@[simp] theorem setF_cellPowerWas : (setF a lo w v s).cellPowerWas = s.cellPowerWas := rfl
@[simp] theorem setF_cellPowerAt : (setF a lo w v s).cellPowerAt = s.cellPowerAt := rfl
@[simp] theorem setF_frames : (setF a lo w v s).frames = s.frames := rfl
@[simp] theorem setF_rbScan : (setF a lo w v s).rbScan = s.rbScan := rfl
@[simp] theorem setF_inputPower : (setF a lo w v s).inputPower = s.inputPower := rfl
@[simp] theorem setF_inputWas : (setF a lo w v s).inputWas = s.inputWas := rfl
@[simp] theorem setF_portAtten : (setF a lo w v s).portAtten = s.portAtten := rfl
@[simp] theorem setF_kernelStaged : (setF a lo w v s).kernelStaged = s.kernelStaged := rfl
@[simp] theorem setF_wellOrigin : (setF a lo w v s).wellOrigin = s.wellOrigin := rfl
@[simp] theorem setF_wellSpans : (setF a lo w v s).wellSpans = s.wellSpans := rfl
@[simp] theorem setF_rangeChanges : (setF a lo w v s).rangeChanges = s.rangeChanges := rfl
@[simp] theorem setF_published : (setF a lo w v s).published = s.published := rfl
@[simp] theorem setF_settledAt : (setF a lo w v s).settledAt = s.settledAt := rfl
@[simp] theorem setF_settleFrom : (setF a lo w v s).settleFrom = s.settleFrom := rfl
@[simp] theorem setF_ditherAt : (setF a lo w v s).ditherAt = s.ditherAt := rfl
@[simp] theorem setF_pinsPlaced : (setF a lo w v s).pinsPlaced = s.pinsPlaced := rfl
@[simp] theorem setF_pin : (setF a lo w v s).pin = s.pin := rfl
@[simp] theorem setF_calRun : (setF a lo w v s).calRun = s.calRun := rfl
@[simp] theorem setF_binding : (setF a lo w v s).binding = s.binding := rfl
@[simp] theorem setF_refOut : (setF a lo w v s).refOut = s.refOut := rfl
@[simp] theorem setF_biasOn : (setF a lo w v s).biasOn = s.biasOn := rfl
@[simp] theorem setF_verdict : (setF a lo w v s).verdict = s.verdict := rfl
@[simp] theorem setF_pilotDecode : (setF a lo w v s).pilotDecode = s.pilotDecode := rfl
@[simp] theorem setF_pilotBit : (setF a lo w v s).pilotBit = s.pilotBit := rfl
@[simp] theorem setF_pilotStarts : (setF a lo w v s).pilotStarts = s.pilotStarts := rfl
@[simp] theorem setF_lastApplied : (setF a lo w v s).lastApplied = s.lastApplied := rfl
@[simp] theorem setF_streams : (setF a lo w v s).streams = s.streams := rfl
@[simp] theorem setF_trigPulse : (setF a lo w v s).trigPulse = s.trigPulse := rfl
@[simp] theorem setF_dramSize : (setF a lo w v s).dramSize = s.dramSize := rfl
@[simp] theorem setF_ring : (setF a lo w v s).ring = s.ring := rfl
@[simp] theorem setF_time : (setF a lo w v s).time = s.time := rfl
@[simp] theorem setF_ports : (setF a lo w v s).ports = s.ports := rfl
@[simp] theorem setF_evt : (setF a lo w v s).evt = s.evt := rfl
@[simp] theorem setF_flt : (setF a lo w v s).flt = s.flt := rfl
@[simp] theorem setF_dieThrottled : (setF a lo w v s).dieThrottled = s.dieThrottled := rfl
@[simp] theorem setF_picThrottled : (setF a lo w v s).picThrottled = s.picThrottled := rfl
@[simp] theorem setF_heat : (setF a lo w v s).heat = s.heat := rfl
@[simp] theorem setF_prime : (setF a lo w v s).prime = s.prime := rfl
@[simp] theorem setF_wellhead : (setF a lo w v s).wellhead = s.wellhead := rfl
@[simp] theorem setF_census : (setF a lo w v s).census = s.census := rfl

end

/-! ### setB -/

section

variable (a i : Nat) (b : Bool) (s : State)

@[simp] theorem setB_variant : (setB a i b s).variant = s.variant := rfl
@[simp] theorem setB_active : (setB a i b s).active = s.active := rfl
@[simp] theorem setB_mem : (setB a i b s).mem = s.mem := rfl
@[simp] theorem setB_dram : (setB a i b s).dram = s.dram := rfl
@[simp] theorem setB_dramGen : (setB a i b s).dramGen = s.dramGen := rfl
@[simp] theorem setB_pumpMem : (setB a i b s).pumpMem = s.pumpMem := rfl
@[simp] theorem setB_pumpGen : (setB a i b s).pumpGen = s.pumpGen := rfl
@[simp] theorem setB_bus : (setB a i b s).bus = s.bus := rfl
@[simp] theorem setB_colCommit : (setB a i b s).colCommit = s.colCommit := rfl
@[simp] theorem setB_fresh : (setB a i b s).fresh = s.fresh := rfl
@[simp] theorem setB_out : (setB a i b s).out = s.out := rfl
@[simp] theorem setB_pending : (setB a i b s).pending = s.pending := rfl
@[simp] theorem setB_pins : (setB a i b s).pins = s.pins := rfl
@[simp] theorem setB_endpoint : (setB a i b s).endpoint = s.endpoint := rfl
@[simp] theorem setB_epochReset : (setB a i b s).epochReset = s.epochReset := rfl
@[simp] theorem setB_epochs : (setB a i b s).epochs = s.epochs := rfl
@[simp] theorem setB_epochSerial : (setB a i b s).epochSerial = s.epochSerial := rfl
@[simp] theorem setB_epochNumber : (setB a i b s).epochNumber = s.epochNumber := rfl
@[simp] theorem setB_epochPrev : (setB a i b s).epochPrev = s.epochPrev := rfl
@[simp] theorem setB_submission : (setB a i b s).submission = s.submission := rfl
@[simp] theorem setB_resultOf : (setB a i b s).resultOf = s.resultOf := rfl
@[simp] theorem setB_reports : (setB a i b s).reports = s.reports := rfl
@[simp] theorem setB_schedule : (setB a i b s).schedule = s.schedule := rfl
@[simp] theorem setB_preparation : (setB a i b s).preparation = s.preparation := rfl
@[simp] theorem setB_jobStart : (setB a i b s).jobStart = s.jobStart := rfl
@[simp] theorem setB_connected : (setB a i b s).connected = s.connected := rfl
@[simp] theorem setB_ringRoles : (setB a i b s).ringRoles = s.ringRoles := rfl
@[simp] theorem setB_warmRequested : (setB a i b s).warmRequested = s.warmRequested := rfl
@[simp] theorem setB_handedOff : (setB a i b s).handedOff = s.handedOff := rfl
@[simp] theorem setB_eo : (setB a i b s).eo = s.eo := rfl
@[simp] theorem setB_eoCal : (setB a i b s).eoCal = s.eoCal := rfl
@[simp] theorem setB_siphonGen : (setB a i b s).siphonGen = s.siphonGen := rfl
@[simp] theorem setB_align : (setB a i b s).align = s.align := rfl
@[simp] theorem setB_ncoOrigin : (setB a i b s).ncoOrigin = s.ncoOrigin := rfl
@[simp] theorem setB_nco : (setB a i b s).nco = s.nco := rfl
@[simp] theorem setB_heaters : (setB a i b s).heaters = s.heaters := rfl
@[simp] theorem setB_onTime : (setB a i b s).onTime = s.onTime := rfl
@[simp] theorem setB_rbFail : (setB a i b s).rbFail = s.rbFail := rfl
@[simp] theorem setB_htrCal : (setB a i b s).htrCal = s.htrCal := rfl
@[simp] theorem setB_cells : (setB a i b s).cells = s.cells := rfl
@[simp] theorem setB_pumps : (setB a i b s).pumps = s.pumps := rfl
@[simp] theorem setB_loopOrigin : (setB a i b s).loopOrigin = s.loopOrigin := rfl
@[simp] theorem setB_cellPower : (setB a i b s).cellPower = s.cellPower := rfl
@[simp] theorem setB_cellPowerWas : (setB a i b s).cellPowerWas = s.cellPowerWas := rfl
@[simp] theorem setB_cellPowerAt : (setB a i b s).cellPowerAt = s.cellPowerAt := rfl
@[simp] theorem setB_frames : (setB a i b s).frames = s.frames := rfl
@[simp] theorem setB_rbScan : (setB a i b s).rbScan = s.rbScan := rfl
@[simp] theorem setB_inputPower : (setB a i b s).inputPower = s.inputPower := rfl
@[simp] theorem setB_inputWas : (setB a i b s).inputWas = s.inputWas := rfl
@[simp] theorem setB_portAtten : (setB a i b s).portAtten = s.portAtten := rfl
@[simp] theorem setB_kernelStaged : (setB a i b s).kernelStaged = s.kernelStaged := rfl
@[simp] theorem setB_wellOrigin : (setB a i b s).wellOrigin = s.wellOrigin := rfl
@[simp] theorem setB_wellSpans : (setB a i b s).wellSpans = s.wellSpans := rfl
@[simp] theorem setB_rangeChanges : (setB a i b s).rangeChanges = s.rangeChanges := rfl
@[simp] theorem setB_published : (setB a i b s).published = s.published := rfl
@[simp] theorem setB_settledAt : (setB a i b s).settledAt = s.settledAt := rfl
@[simp] theorem setB_settleFrom : (setB a i b s).settleFrom = s.settleFrom := rfl
@[simp] theorem setB_ditherAt : (setB a i b s).ditherAt = s.ditherAt := rfl
@[simp] theorem setB_pinsPlaced : (setB a i b s).pinsPlaced = s.pinsPlaced := rfl
@[simp] theorem setB_pin : (setB a i b s).pin = s.pin := rfl
@[simp] theorem setB_calRun : (setB a i b s).calRun = s.calRun := rfl
@[simp] theorem setB_binding : (setB a i b s).binding = s.binding := rfl
@[simp] theorem setB_refOut : (setB a i b s).refOut = s.refOut := rfl
@[simp] theorem setB_biasOn : (setB a i b s).biasOn = s.biasOn := rfl
@[simp] theorem setB_verdict : (setB a i b s).verdict = s.verdict := rfl
@[simp] theorem setB_pilotDecode : (setB a i b s).pilotDecode = s.pilotDecode := rfl
@[simp] theorem setB_pilotBit : (setB a i b s).pilotBit = s.pilotBit := rfl
@[simp] theorem setB_pilotStarts : (setB a i b s).pilotStarts = s.pilotStarts := rfl
@[simp] theorem setB_lastApplied : (setB a i b s).lastApplied = s.lastApplied := rfl
@[simp] theorem setB_streams : (setB a i b s).streams = s.streams := rfl
@[simp] theorem setB_trigPulse : (setB a i b s).trigPulse = s.trigPulse := rfl
@[simp] theorem setB_dramSize : (setB a i b s).dramSize = s.dramSize := rfl
@[simp] theorem setB_ring : (setB a i b s).ring = s.ring := rfl
@[simp] theorem setB_time : (setB a i b s).time = s.time := rfl
@[simp] theorem setB_ports : (setB a i b s).ports = s.ports := rfl
@[simp] theorem setB_evt : (setB a i b s).evt = s.evt := rfl
@[simp] theorem setB_flt : (setB a i b s).flt = s.flt := rfl
@[simp] theorem setB_dieThrottled : (setB a i b s).dieThrottled = s.dieThrottled := rfl
@[simp] theorem setB_picThrottled : (setB a i b s).picThrottled = s.picThrottled := rfl
@[simp] theorem setB_heat : (setB a i b s).heat = s.heat := rfl
@[simp] theorem setB_prime : (setB a i b s).prime = s.prime := rfl
@[simp] theorem setB_wellhead : (setB a i b s).wellhead = s.wellhead := rfl
@[simp] theorem setB_census : (setB a i b s).census = s.census := rfl

end

/-! ### bumpF -/

section

variable (a lo w : Nat) (s : State)

@[simp] theorem bumpF_variant : (bumpF a lo w s).variant = s.variant := rfl
@[simp] theorem bumpF_active : (bumpF a lo w s).active = s.active := rfl
@[simp] theorem bumpF_mem : (bumpF a lo w s).mem = s.mem := rfl
@[simp] theorem bumpF_dram : (bumpF a lo w s).dram = s.dram := rfl
@[simp] theorem bumpF_dramGen : (bumpF a lo w s).dramGen = s.dramGen := rfl
@[simp] theorem bumpF_pumpMem : (bumpF a lo w s).pumpMem = s.pumpMem := rfl
@[simp] theorem bumpF_pumpGen : (bumpF a lo w s).pumpGen = s.pumpGen := rfl
@[simp] theorem bumpF_bus : (bumpF a lo w s).bus = s.bus := rfl
@[simp] theorem bumpF_colCommit : (bumpF a lo w s).colCommit = s.colCommit := rfl
@[simp] theorem bumpF_fresh : (bumpF a lo w s).fresh = s.fresh := rfl
@[simp] theorem bumpF_out : (bumpF a lo w s).out = s.out := rfl
@[simp] theorem bumpF_pending : (bumpF a lo w s).pending = s.pending := rfl
@[simp] theorem bumpF_pins : (bumpF a lo w s).pins = s.pins := rfl
@[simp] theorem bumpF_endpoint : (bumpF a lo w s).endpoint = s.endpoint := rfl
@[simp] theorem bumpF_epochReset : (bumpF a lo w s).epochReset = s.epochReset := rfl
@[simp] theorem bumpF_epochs : (bumpF a lo w s).epochs = s.epochs := rfl
@[simp] theorem bumpF_epochSerial : (bumpF a lo w s).epochSerial = s.epochSerial := rfl
@[simp] theorem bumpF_epochNumber : (bumpF a lo w s).epochNumber = s.epochNumber := rfl
@[simp] theorem bumpF_epochPrev : (bumpF a lo w s).epochPrev = s.epochPrev := rfl
@[simp] theorem bumpF_submission : (bumpF a lo w s).submission = s.submission := rfl
@[simp] theorem bumpF_resultOf : (bumpF a lo w s).resultOf = s.resultOf := rfl
@[simp] theorem bumpF_reports : (bumpF a lo w s).reports = s.reports := rfl
@[simp] theorem bumpF_schedule : (bumpF a lo w s).schedule = s.schedule := rfl
@[simp] theorem bumpF_preparation : (bumpF a lo w s).preparation = s.preparation := rfl
@[simp] theorem bumpF_jobStart : (bumpF a lo w s).jobStart = s.jobStart := rfl
@[simp] theorem bumpF_connected : (bumpF a lo w s).connected = s.connected := rfl
@[simp] theorem bumpF_ringRoles : (bumpF a lo w s).ringRoles = s.ringRoles := rfl
@[simp] theorem bumpF_warmRequested : (bumpF a lo w s).warmRequested = s.warmRequested := rfl
@[simp] theorem bumpF_handedOff : (bumpF a lo w s).handedOff = s.handedOff := rfl
@[simp] theorem bumpF_eo : (bumpF a lo w s).eo = s.eo := rfl
@[simp] theorem bumpF_eoCal : (bumpF a lo w s).eoCal = s.eoCal := rfl
@[simp] theorem bumpF_siphonGen : (bumpF a lo w s).siphonGen = s.siphonGen := rfl
@[simp] theorem bumpF_align : (bumpF a lo w s).align = s.align := rfl
@[simp] theorem bumpF_ncoOrigin : (bumpF a lo w s).ncoOrigin = s.ncoOrigin := rfl
@[simp] theorem bumpF_nco : (bumpF a lo w s).nco = s.nco := rfl
@[simp] theorem bumpF_heaters : (bumpF a lo w s).heaters = s.heaters := rfl
@[simp] theorem bumpF_onTime : (bumpF a lo w s).onTime = s.onTime := rfl
@[simp] theorem bumpF_rbFail : (bumpF a lo w s).rbFail = s.rbFail := rfl
@[simp] theorem bumpF_htrCal : (bumpF a lo w s).htrCal = s.htrCal := rfl
@[simp] theorem bumpF_cells : (bumpF a lo w s).cells = s.cells := rfl
@[simp] theorem bumpF_pumps : (bumpF a lo w s).pumps = s.pumps := rfl
@[simp] theorem bumpF_loopOrigin : (bumpF a lo w s).loopOrigin = s.loopOrigin := rfl
@[simp] theorem bumpF_cellPower : (bumpF a lo w s).cellPower = s.cellPower := rfl
@[simp] theorem bumpF_cellPowerWas : (bumpF a lo w s).cellPowerWas = s.cellPowerWas := rfl
@[simp] theorem bumpF_cellPowerAt : (bumpF a lo w s).cellPowerAt = s.cellPowerAt := rfl
@[simp] theorem bumpF_frames : (bumpF a lo w s).frames = s.frames := rfl
@[simp] theorem bumpF_rbScan : (bumpF a lo w s).rbScan = s.rbScan := rfl
@[simp] theorem bumpF_inputPower : (bumpF a lo w s).inputPower = s.inputPower := rfl
@[simp] theorem bumpF_inputWas : (bumpF a lo w s).inputWas = s.inputWas := rfl
@[simp] theorem bumpF_portAtten : (bumpF a lo w s).portAtten = s.portAtten := rfl
@[simp] theorem bumpF_kernelStaged : (bumpF a lo w s).kernelStaged = s.kernelStaged := rfl
@[simp] theorem bumpF_wellOrigin : (bumpF a lo w s).wellOrigin = s.wellOrigin := rfl
@[simp] theorem bumpF_wellSpans : (bumpF a lo w s).wellSpans = s.wellSpans := rfl
@[simp] theorem bumpF_rangeChanges : (bumpF a lo w s).rangeChanges = s.rangeChanges := rfl
@[simp] theorem bumpF_published : (bumpF a lo w s).published = s.published := rfl
@[simp] theorem bumpF_settledAt : (bumpF a lo w s).settledAt = s.settledAt := rfl
@[simp] theorem bumpF_settleFrom : (bumpF a lo w s).settleFrom = s.settleFrom := rfl
@[simp] theorem bumpF_ditherAt : (bumpF a lo w s).ditherAt = s.ditherAt := rfl
@[simp] theorem bumpF_pinsPlaced : (bumpF a lo w s).pinsPlaced = s.pinsPlaced := rfl
@[simp] theorem bumpF_pin : (bumpF a lo w s).pin = s.pin := rfl
@[simp] theorem bumpF_calRun : (bumpF a lo w s).calRun = s.calRun := rfl
@[simp] theorem bumpF_binding : (bumpF a lo w s).binding = s.binding := rfl
@[simp] theorem bumpF_refOut : (bumpF a lo w s).refOut = s.refOut := rfl
@[simp] theorem bumpF_biasOn : (bumpF a lo w s).biasOn = s.biasOn := rfl
@[simp] theorem bumpF_verdict : (bumpF a lo w s).verdict = s.verdict := rfl
@[simp] theorem bumpF_pilotDecode : (bumpF a lo w s).pilotDecode = s.pilotDecode := rfl
@[simp] theorem bumpF_pilotBit : (bumpF a lo w s).pilotBit = s.pilotBit := rfl
@[simp] theorem bumpF_pilotStarts : (bumpF a lo w s).pilotStarts = s.pilotStarts := rfl
@[simp] theorem bumpF_lastApplied : (bumpF a lo w s).lastApplied = s.lastApplied := rfl
@[simp] theorem bumpF_streams : (bumpF a lo w s).streams = s.streams := rfl
@[simp] theorem bumpF_trigPulse : (bumpF a lo w s).trigPulse = s.trigPulse := rfl
@[simp] theorem bumpF_dramSize : (bumpF a lo w s).dramSize = s.dramSize := rfl
@[simp] theorem bumpF_ring : (bumpF a lo w s).ring = s.ring := rfl
@[simp] theorem bumpF_time : (bumpF a lo w s).time = s.time := rfl
@[simp] theorem bumpF_ports : (bumpF a lo w s).ports = s.ports := rfl
@[simp] theorem bumpF_evt : (bumpF a lo w s).evt = s.evt := rfl
@[simp] theorem bumpF_flt : (bumpF a lo w s).flt = s.flt := rfl
@[simp] theorem bumpF_dieThrottled : (bumpF a lo w s).dieThrottled = s.dieThrottled := rfl
@[simp] theorem bumpF_picThrottled : (bumpF a lo w s).picThrottled = s.picThrottled := rfl
@[simp] theorem bumpF_heat : (bumpF a lo w s).heat = s.heat := rfl
@[simp] theorem bumpF_prime : (bumpF a lo w s).prime = s.prime := rfl
@[simp] theorem bumpF_wellhead : (bumpF a lo w s).wellhead = s.wellhead := rfl
@[simp] theorem bumpF_census : (bumpF a lo w s).census = s.census := rfl

end

/-! ### addF -/

section

variable (a lo w k : Nat) (s : State)

@[simp] theorem addF_variant : (addF a lo w k s).variant = s.variant := rfl
@[simp] theorem addF_active : (addF a lo w k s).active = s.active := rfl
@[simp] theorem addF_mem : (addF a lo w k s).mem = s.mem := rfl
@[simp] theorem addF_dram : (addF a lo w k s).dram = s.dram := rfl
@[simp] theorem addF_dramGen : (addF a lo w k s).dramGen = s.dramGen := rfl
@[simp] theorem addF_pumpMem : (addF a lo w k s).pumpMem = s.pumpMem := rfl
@[simp] theorem addF_pumpGen : (addF a lo w k s).pumpGen = s.pumpGen := rfl
@[simp] theorem addF_bus : (addF a lo w k s).bus = s.bus := rfl
@[simp] theorem addF_colCommit : (addF a lo w k s).colCommit = s.colCommit := rfl
@[simp] theorem addF_fresh : (addF a lo w k s).fresh = s.fresh := rfl
@[simp] theorem addF_out : (addF a lo w k s).out = s.out := rfl
@[simp] theorem addF_pending : (addF a lo w k s).pending = s.pending := rfl
@[simp] theorem addF_pins : (addF a lo w k s).pins = s.pins := rfl
@[simp] theorem addF_endpoint : (addF a lo w k s).endpoint = s.endpoint := rfl
@[simp] theorem addF_epochReset : (addF a lo w k s).epochReset = s.epochReset := rfl
@[simp] theorem addF_epochs : (addF a lo w k s).epochs = s.epochs := rfl
@[simp] theorem addF_epochSerial : (addF a lo w k s).epochSerial = s.epochSerial := rfl
@[simp] theorem addF_epochNumber : (addF a lo w k s).epochNumber = s.epochNumber := rfl
@[simp] theorem addF_epochPrev : (addF a lo w k s).epochPrev = s.epochPrev := rfl
@[simp] theorem addF_submission : (addF a lo w k s).submission = s.submission := rfl
@[simp] theorem addF_resultOf : (addF a lo w k s).resultOf = s.resultOf := rfl
@[simp] theorem addF_reports : (addF a lo w k s).reports = s.reports := rfl
@[simp] theorem addF_schedule : (addF a lo w k s).schedule = s.schedule := rfl
@[simp] theorem addF_preparation : (addF a lo w k s).preparation = s.preparation := rfl
@[simp] theorem addF_jobStart : (addF a lo w k s).jobStart = s.jobStart := rfl
@[simp] theorem addF_connected : (addF a lo w k s).connected = s.connected := rfl
@[simp] theorem addF_ringRoles : (addF a lo w k s).ringRoles = s.ringRoles := rfl
@[simp] theorem addF_warmRequested : (addF a lo w k s).warmRequested = s.warmRequested := rfl
@[simp] theorem addF_handedOff : (addF a lo w k s).handedOff = s.handedOff := rfl
@[simp] theorem addF_eo : (addF a lo w k s).eo = s.eo := rfl
@[simp] theorem addF_eoCal : (addF a lo w k s).eoCal = s.eoCal := rfl
@[simp] theorem addF_siphonGen : (addF a lo w k s).siphonGen = s.siphonGen := rfl
@[simp] theorem addF_align : (addF a lo w k s).align = s.align := rfl
@[simp] theorem addF_ncoOrigin : (addF a lo w k s).ncoOrigin = s.ncoOrigin := rfl
@[simp] theorem addF_nco : (addF a lo w k s).nco = s.nco := rfl
@[simp] theorem addF_heaters : (addF a lo w k s).heaters = s.heaters := rfl
@[simp] theorem addF_onTime : (addF a lo w k s).onTime = s.onTime := rfl
@[simp] theorem addF_rbFail : (addF a lo w k s).rbFail = s.rbFail := rfl
@[simp] theorem addF_htrCal : (addF a lo w k s).htrCal = s.htrCal := rfl
@[simp] theorem addF_cells : (addF a lo w k s).cells = s.cells := rfl
@[simp] theorem addF_pumps : (addF a lo w k s).pumps = s.pumps := rfl
@[simp] theorem addF_loopOrigin : (addF a lo w k s).loopOrigin = s.loopOrigin := rfl
@[simp] theorem addF_cellPower : (addF a lo w k s).cellPower = s.cellPower := rfl
@[simp] theorem addF_cellPowerWas : (addF a lo w k s).cellPowerWas = s.cellPowerWas := rfl
@[simp] theorem addF_cellPowerAt : (addF a lo w k s).cellPowerAt = s.cellPowerAt := rfl
@[simp] theorem addF_frames : (addF a lo w k s).frames = s.frames := rfl
@[simp] theorem addF_rbScan : (addF a lo w k s).rbScan = s.rbScan := rfl
@[simp] theorem addF_inputPower : (addF a lo w k s).inputPower = s.inputPower := rfl
@[simp] theorem addF_inputWas : (addF a lo w k s).inputWas = s.inputWas := rfl
@[simp] theorem addF_portAtten : (addF a lo w k s).portAtten = s.portAtten := rfl
@[simp] theorem addF_kernelStaged : (addF a lo w k s).kernelStaged = s.kernelStaged := rfl
@[simp] theorem addF_wellOrigin : (addF a lo w k s).wellOrigin = s.wellOrigin := rfl
@[simp] theorem addF_wellSpans : (addF a lo w k s).wellSpans = s.wellSpans := rfl
@[simp] theorem addF_rangeChanges : (addF a lo w k s).rangeChanges = s.rangeChanges := rfl
@[simp] theorem addF_published : (addF a lo w k s).published = s.published := rfl
@[simp] theorem addF_settledAt : (addF a lo w k s).settledAt = s.settledAt := rfl
@[simp] theorem addF_settleFrom : (addF a lo w k s).settleFrom = s.settleFrom := rfl
@[simp] theorem addF_ditherAt : (addF a lo w k s).ditherAt = s.ditherAt := rfl
@[simp] theorem addF_pinsPlaced : (addF a lo w k s).pinsPlaced = s.pinsPlaced := rfl
@[simp] theorem addF_pin : (addF a lo w k s).pin = s.pin := rfl
@[simp] theorem addF_calRun : (addF a lo w k s).calRun = s.calRun := rfl
@[simp] theorem addF_binding : (addF a lo w k s).binding = s.binding := rfl
@[simp] theorem addF_refOut : (addF a lo w k s).refOut = s.refOut := rfl
@[simp] theorem addF_biasOn : (addF a lo w k s).biasOn = s.biasOn := rfl
@[simp] theorem addF_verdict : (addF a lo w k s).verdict = s.verdict := rfl
@[simp] theorem addF_pilotDecode : (addF a lo w k s).pilotDecode = s.pilotDecode := rfl
@[simp] theorem addF_pilotBit : (addF a lo w k s).pilotBit = s.pilotBit := rfl
@[simp] theorem addF_pilotStarts : (addF a lo w k s).pilotStarts = s.pilotStarts := rfl
@[simp] theorem addF_lastApplied : (addF a lo w k s).lastApplied = s.lastApplied := rfl
@[simp] theorem addF_streams : (addF a lo w k s).streams = s.streams := rfl
@[simp] theorem addF_trigPulse : (addF a lo w k s).trigPulse = s.trigPulse := rfl
@[simp] theorem addF_dramSize : (addF a lo w k s).dramSize = s.dramSize := rfl
@[simp] theorem addF_ring : (addF a lo w k s).ring = s.ring := rfl
@[simp] theorem addF_time : (addF a lo w k s).time = s.time := rfl
@[simp] theorem addF_ports : (addF a lo w k s).ports = s.ports := rfl
@[simp] theorem addF_evt : (addF a lo w k s).evt = s.evt := rfl
@[simp] theorem addF_flt : (addF a lo w k s).flt = s.flt := rfl
@[simp] theorem addF_dieThrottled : (addF a lo w k s).dieThrottled = s.dieThrottled := rfl
@[simp] theorem addF_picThrottled : (addF a lo w k s).picThrottled = s.picThrottled := rfl
@[simp] theorem addF_heat : (addF a lo w k s).heat = s.heat := rfl
@[simp] theorem addF_prime : (addF a lo w k s).prime = s.prime := rfl
@[simp] theorem addF_wellhead : (addF a lo w k s).wellhead = s.wellhead := rfl
@[simp] theorem addF_census : (addF a lo w k s).census = s.census := rfl

end

/-! ### wrapF -/

section

variable (a lo w : Nat) (s : State)

@[simp] theorem wrapF_variant : (wrapF a lo w s).variant = s.variant := rfl
@[simp] theorem wrapF_active : (wrapF a lo w s).active = s.active := rfl
@[simp] theorem wrapF_mem : (wrapF a lo w s).mem = s.mem := rfl
@[simp] theorem wrapF_dram : (wrapF a lo w s).dram = s.dram := rfl
@[simp] theorem wrapF_dramGen : (wrapF a lo w s).dramGen = s.dramGen := rfl
@[simp] theorem wrapF_pumpMem : (wrapF a lo w s).pumpMem = s.pumpMem := rfl
@[simp] theorem wrapF_pumpGen : (wrapF a lo w s).pumpGen = s.pumpGen := rfl
@[simp] theorem wrapF_bus : (wrapF a lo w s).bus = s.bus := rfl
@[simp] theorem wrapF_colCommit : (wrapF a lo w s).colCommit = s.colCommit := rfl
@[simp] theorem wrapF_fresh : (wrapF a lo w s).fresh = s.fresh := rfl
@[simp] theorem wrapF_out : (wrapF a lo w s).out = s.out := rfl
@[simp] theorem wrapF_pending : (wrapF a lo w s).pending = s.pending := rfl
@[simp] theorem wrapF_pins : (wrapF a lo w s).pins = s.pins := rfl
@[simp] theorem wrapF_endpoint : (wrapF a lo w s).endpoint = s.endpoint := rfl
@[simp] theorem wrapF_epochReset : (wrapF a lo w s).epochReset = s.epochReset := rfl
@[simp] theorem wrapF_epochs : (wrapF a lo w s).epochs = s.epochs := rfl
@[simp] theorem wrapF_epochSerial : (wrapF a lo w s).epochSerial = s.epochSerial := rfl
@[simp] theorem wrapF_epochNumber : (wrapF a lo w s).epochNumber = s.epochNumber := rfl
@[simp] theorem wrapF_epochPrev : (wrapF a lo w s).epochPrev = s.epochPrev := rfl
@[simp] theorem wrapF_submission : (wrapF a lo w s).submission = s.submission := rfl
@[simp] theorem wrapF_resultOf : (wrapF a lo w s).resultOf = s.resultOf := rfl
@[simp] theorem wrapF_reports : (wrapF a lo w s).reports = s.reports := rfl
@[simp] theorem wrapF_schedule : (wrapF a lo w s).schedule = s.schedule := rfl
@[simp] theorem wrapF_preparation : (wrapF a lo w s).preparation = s.preparation := rfl
@[simp] theorem wrapF_jobStart : (wrapF a lo w s).jobStart = s.jobStart := rfl
@[simp] theorem wrapF_connected : (wrapF a lo w s).connected = s.connected := rfl
@[simp] theorem wrapF_ringRoles : (wrapF a lo w s).ringRoles = s.ringRoles := rfl
@[simp] theorem wrapF_warmRequested : (wrapF a lo w s).warmRequested = s.warmRequested := rfl
@[simp] theorem wrapF_handedOff : (wrapF a lo w s).handedOff = s.handedOff := rfl
@[simp] theorem wrapF_eo : (wrapF a lo w s).eo = s.eo := rfl
@[simp] theorem wrapF_eoCal : (wrapF a lo w s).eoCal = s.eoCal := rfl
@[simp] theorem wrapF_siphonGen : (wrapF a lo w s).siphonGen = s.siphonGen := rfl
@[simp] theorem wrapF_align : (wrapF a lo w s).align = s.align := rfl
@[simp] theorem wrapF_ncoOrigin : (wrapF a lo w s).ncoOrigin = s.ncoOrigin := rfl
@[simp] theorem wrapF_nco : (wrapF a lo w s).nco = s.nco := rfl
@[simp] theorem wrapF_heaters : (wrapF a lo w s).heaters = s.heaters := rfl
@[simp] theorem wrapF_onTime : (wrapF a lo w s).onTime = s.onTime := rfl
@[simp] theorem wrapF_rbFail : (wrapF a lo w s).rbFail = s.rbFail := rfl
@[simp] theorem wrapF_htrCal : (wrapF a lo w s).htrCal = s.htrCal := rfl
@[simp] theorem wrapF_cells : (wrapF a lo w s).cells = s.cells := rfl
@[simp] theorem wrapF_pumps : (wrapF a lo w s).pumps = s.pumps := rfl
@[simp] theorem wrapF_loopOrigin : (wrapF a lo w s).loopOrigin = s.loopOrigin := rfl
@[simp] theorem wrapF_cellPower : (wrapF a lo w s).cellPower = s.cellPower := rfl
@[simp] theorem wrapF_cellPowerWas : (wrapF a lo w s).cellPowerWas = s.cellPowerWas := rfl
@[simp] theorem wrapF_cellPowerAt : (wrapF a lo w s).cellPowerAt = s.cellPowerAt := rfl
@[simp] theorem wrapF_frames : (wrapF a lo w s).frames = s.frames := rfl
@[simp] theorem wrapF_rbScan : (wrapF a lo w s).rbScan = s.rbScan := rfl
@[simp] theorem wrapF_inputPower : (wrapF a lo w s).inputPower = s.inputPower := rfl
@[simp] theorem wrapF_inputWas : (wrapF a lo w s).inputWas = s.inputWas := rfl
@[simp] theorem wrapF_portAtten : (wrapF a lo w s).portAtten = s.portAtten := rfl
@[simp] theorem wrapF_kernelStaged : (wrapF a lo w s).kernelStaged = s.kernelStaged := rfl
@[simp] theorem wrapF_wellOrigin : (wrapF a lo w s).wellOrigin = s.wellOrigin := rfl
@[simp] theorem wrapF_wellSpans : (wrapF a lo w s).wellSpans = s.wellSpans := rfl
@[simp] theorem wrapF_rangeChanges : (wrapF a lo w s).rangeChanges = s.rangeChanges := rfl
@[simp] theorem wrapF_published : (wrapF a lo w s).published = s.published := rfl
@[simp] theorem wrapF_settledAt : (wrapF a lo w s).settledAt = s.settledAt := rfl
@[simp] theorem wrapF_settleFrom : (wrapF a lo w s).settleFrom = s.settleFrom := rfl
@[simp] theorem wrapF_ditherAt : (wrapF a lo w s).ditherAt = s.ditherAt := rfl
@[simp] theorem wrapF_pinsPlaced : (wrapF a lo w s).pinsPlaced = s.pinsPlaced := rfl
@[simp] theorem wrapF_pin : (wrapF a lo w s).pin = s.pin := rfl
@[simp] theorem wrapF_calRun : (wrapF a lo w s).calRun = s.calRun := rfl
@[simp] theorem wrapF_binding : (wrapF a lo w s).binding = s.binding := rfl
@[simp] theorem wrapF_refOut : (wrapF a lo w s).refOut = s.refOut := rfl
@[simp] theorem wrapF_biasOn : (wrapF a lo w s).biasOn = s.biasOn := rfl
@[simp] theorem wrapF_verdict : (wrapF a lo w s).verdict = s.verdict := rfl
@[simp] theorem wrapF_pilotDecode : (wrapF a lo w s).pilotDecode = s.pilotDecode := rfl
@[simp] theorem wrapF_pilotBit : (wrapF a lo w s).pilotBit = s.pilotBit := rfl
@[simp] theorem wrapF_pilotStarts : (wrapF a lo w s).pilotStarts = s.pilotStarts := rfl
@[simp] theorem wrapF_lastApplied : (wrapF a lo w s).lastApplied = s.lastApplied := rfl
@[simp] theorem wrapF_streams : (wrapF a lo w s).streams = s.streams := rfl
@[simp] theorem wrapF_trigPulse : (wrapF a lo w s).trigPulse = s.trigPulse := rfl
@[simp] theorem wrapF_dramSize : (wrapF a lo w s).dramSize = s.dramSize := rfl
@[simp] theorem wrapF_ring : (wrapF a lo w s).ring = s.ring := rfl
@[simp] theorem wrapF_time : (wrapF a lo w s).time = s.time := rfl
@[simp] theorem wrapF_ports : (wrapF a lo w s).ports = s.ports := rfl
@[simp] theorem wrapF_evt : (wrapF a lo w s).evt = s.evt := rfl
@[simp] theorem wrapF_flt : (wrapF a lo w s).flt = s.flt := rfl
@[simp] theorem wrapF_dieThrottled : (wrapF a lo w s).dieThrottled = s.dieThrottled := rfl
@[simp] theorem wrapF_picThrottled : (wrapF a lo w s).picThrottled = s.picThrottled := rfl
@[simp] theorem wrapF_heat : (wrapF a lo w s).heat = s.heat := rfl
@[simp] theorem wrapF_prime : (wrapF a lo w s).prime = s.prime := rfl
@[simp] theorem wrapF_wellhead : (wrapF a lo w s).wellhead = s.wellhead := rfl
@[simp] theorem wrapF_census : (wrapF a lo w s).census = s.census := rfl

end

/-! ### setReg64 -/

section

variable (a n : Nat) (s : State)

@[simp] theorem setReg64_variant : (setReg64 a n s).variant = s.variant := rfl
@[simp] theorem setReg64_active : (setReg64 a n s).active = s.active := rfl
@[simp] theorem setReg64_mem : (setReg64 a n s).mem = s.mem := rfl
@[simp] theorem setReg64_dram : (setReg64 a n s).dram = s.dram := rfl
@[simp] theorem setReg64_dramGen : (setReg64 a n s).dramGen = s.dramGen := rfl
@[simp] theorem setReg64_pumpMem : (setReg64 a n s).pumpMem = s.pumpMem := rfl
@[simp] theorem setReg64_pumpGen : (setReg64 a n s).pumpGen = s.pumpGen := rfl
@[simp] theorem setReg64_bus : (setReg64 a n s).bus = s.bus := rfl
@[simp] theorem setReg64_colCommit : (setReg64 a n s).colCommit = s.colCommit := rfl
@[simp] theorem setReg64_fresh : (setReg64 a n s).fresh = s.fresh := rfl
@[simp] theorem setReg64_out : (setReg64 a n s).out = s.out := rfl
@[simp] theorem setReg64_pending : (setReg64 a n s).pending = s.pending := rfl
@[simp] theorem setReg64_pins : (setReg64 a n s).pins = s.pins := rfl
@[simp] theorem setReg64_endpoint : (setReg64 a n s).endpoint = s.endpoint := rfl
@[simp] theorem setReg64_epochReset : (setReg64 a n s).epochReset = s.epochReset := rfl
@[simp] theorem setReg64_epochs : (setReg64 a n s).epochs = s.epochs := rfl
@[simp] theorem setReg64_epochSerial : (setReg64 a n s).epochSerial = s.epochSerial := rfl
@[simp] theorem setReg64_epochNumber : (setReg64 a n s).epochNumber = s.epochNumber := rfl
@[simp] theorem setReg64_epochPrev : (setReg64 a n s).epochPrev = s.epochPrev := rfl
@[simp] theorem setReg64_submission : (setReg64 a n s).submission = s.submission := rfl
@[simp] theorem setReg64_resultOf : (setReg64 a n s).resultOf = s.resultOf := rfl
@[simp] theorem setReg64_reports : (setReg64 a n s).reports = s.reports := rfl
@[simp] theorem setReg64_schedule : (setReg64 a n s).schedule = s.schedule := rfl
@[simp] theorem setReg64_preparation : (setReg64 a n s).preparation = s.preparation := rfl
@[simp] theorem setReg64_jobStart : (setReg64 a n s).jobStart = s.jobStart := rfl
@[simp] theorem setReg64_connected : (setReg64 a n s).connected = s.connected := rfl
@[simp] theorem setReg64_ringRoles : (setReg64 a n s).ringRoles = s.ringRoles := rfl
@[simp] theorem setReg64_warmRequested : (setReg64 a n s).warmRequested = s.warmRequested := rfl
@[simp] theorem setReg64_handedOff : (setReg64 a n s).handedOff = s.handedOff := rfl
@[simp] theorem setReg64_eo : (setReg64 a n s).eo = s.eo := rfl
@[simp] theorem setReg64_eoCal : (setReg64 a n s).eoCal = s.eoCal := rfl
@[simp] theorem setReg64_siphonGen : (setReg64 a n s).siphonGen = s.siphonGen := rfl
@[simp] theorem setReg64_align : (setReg64 a n s).align = s.align := rfl
@[simp] theorem setReg64_ncoOrigin : (setReg64 a n s).ncoOrigin = s.ncoOrigin := rfl
@[simp] theorem setReg64_nco : (setReg64 a n s).nco = s.nco := rfl
@[simp] theorem setReg64_heaters : (setReg64 a n s).heaters = s.heaters := rfl
@[simp] theorem setReg64_onTime : (setReg64 a n s).onTime = s.onTime := rfl
@[simp] theorem setReg64_rbFail : (setReg64 a n s).rbFail = s.rbFail := rfl
@[simp] theorem setReg64_htrCal : (setReg64 a n s).htrCal = s.htrCal := rfl
@[simp] theorem setReg64_cells : (setReg64 a n s).cells = s.cells := rfl
@[simp] theorem setReg64_pumps : (setReg64 a n s).pumps = s.pumps := rfl
@[simp] theorem setReg64_loopOrigin : (setReg64 a n s).loopOrigin = s.loopOrigin := rfl
@[simp] theorem setReg64_cellPower : (setReg64 a n s).cellPower = s.cellPower := rfl
@[simp] theorem setReg64_cellPowerWas : (setReg64 a n s).cellPowerWas = s.cellPowerWas := rfl
@[simp] theorem setReg64_cellPowerAt : (setReg64 a n s).cellPowerAt = s.cellPowerAt := rfl
@[simp] theorem setReg64_frames : (setReg64 a n s).frames = s.frames := rfl
@[simp] theorem setReg64_rbScan : (setReg64 a n s).rbScan = s.rbScan := rfl
@[simp] theorem setReg64_inputPower : (setReg64 a n s).inputPower = s.inputPower := rfl
@[simp] theorem setReg64_inputWas : (setReg64 a n s).inputWas = s.inputWas := rfl
@[simp] theorem setReg64_portAtten : (setReg64 a n s).portAtten = s.portAtten := rfl
@[simp] theorem setReg64_kernelStaged : (setReg64 a n s).kernelStaged = s.kernelStaged := rfl
@[simp] theorem setReg64_wellOrigin : (setReg64 a n s).wellOrigin = s.wellOrigin := rfl
@[simp] theorem setReg64_wellSpans : (setReg64 a n s).wellSpans = s.wellSpans := rfl
@[simp] theorem setReg64_rangeChanges : (setReg64 a n s).rangeChanges = s.rangeChanges := rfl
@[simp] theorem setReg64_published : (setReg64 a n s).published = s.published := rfl
@[simp] theorem setReg64_settledAt : (setReg64 a n s).settledAt = s.settledAt := rfl
@[simp] theorem setReg64_settleFrom : (setReg64 a n s).settleFrom = s.settleFrom := rfl
@[simp] theorem setReg64_ditherAt : (setReg64 a n s).ditherAt = s.ditherAt := rfl
@[simp] theorem setReg64_pinsPlaced : (setReg64 a n s).pinsPlaced = s.pinsPlaced := rfl
@[simp] theorem setReg64_pin : (setReg64 a n s).pin = s.pin := rfl
@[simp] theorem setReg64_calRun : (setReg64 a n s).calRun = s.calRun := rfl
@[simp] theorem setReg64_binding : (setReg64 a n s).binding = s.binding := rfl
@[simp] theorem setReg64_refOut : (setReg64 a n s).refOut = s.refOut := rfl
@[simp] theorem setReg64_biasOn : (setReg64 a n s).biasOn = s.biasOn := rfl
@[simp] theorem setReg64_verdict : (setReg64 a n s).verdict = s.verdict := rfl
@[simp] theorem setReg64_pilotDecode : (setReg64 a n s).pilotDecode = s.pilotDecode := rfl
@[simp] theorem setReg64_pilotBit : (setReg64 a n s).pilotBit = s.pilotBit := rfl
@[simp] theorem setReg64_pilotStarts : (setReg64 a n s).pilotStarts = s.pilotStarts := rfl
@[simp] theorem setReg64_lastApplied : (setReg64 a n s).lastApplied = s.lastApplied := rfl
@[simp] theorem setReg64_streams : (setReg64 a n s).streams = s.streams := rfl
@[simp] theorem setReg64_trigPulse : (setReg64 a n s).trigPulse = s.trigPulse := rfl
@[simp] theorem setReg64_dramSize : (setReg64 a n s).dramSize = s.dramSize := rfl
@[simp] theorem setReg64_ring : (setReg64 a n s).ring = s.ring := rfl
@[simp] theorem setReg64_time : (setReg64 a n s).time = s.time := rfl
@[simp] theorem setReg64_ports : (setReg64 a n s).ports = s.ports := rfl
@[simp] theorem setReg64_evt : (setReg64 a n s).evt = s.evt := rfl
@[simp] theorem setReg64_flt : (setReg64 a n s).flt = s.flt := rfl
@[simp] theorem setReg64_dieThrottled : (setReg64 a n s).dieThrottled = s.dieThrottled := rfl
@[simp] theorem setReg64_picThrottled : (setReg64 a n s).picThrottled = s.picThrottled := rfl
@[simp] theorem setReg64_heat : (setReg64 a n s).heat = s.heat := rfl
@[simp] theorem setReg64_prime : (setReg64 a n s).prime = s.prime := rfl
@[simp] theorem setReg64_wellhead : (setReg64 a n s).wellhead = s.wellhead := rfl
@[simp] theorem setReg64_census : (setReg64 a n s).census = s.census := rfl

end

/-! ### setAct -/

section

variable (a : Nat) (v : Word) (s : State)

@[simp] theorem setAct_variant : (setAct a v s).variant = s.variant := rfl
@[simp] theorem setAct_regs : (setAct a v s).regs = s.regs := rfl
@[simp] theorem setAct_mem : (setAct a v s).mem = s.mem := rfl
@[simp] theorem setAct_dram : (setAct a v s).dram = s.dram := rfl
@[simp] theorem setAct_dramGen : (setAct a v s).dramGen = s.dramGen := rfl
@[simp] theorem setAct_pumpMem : (setAct a v s).pumpMem = s.pumpMem := rfl
@[simp] theorem setAct_pumpGen : (setAct a v s).pumpGen = s.pumpGen := rfl
@[simp] theorem setAct_bus : (setAct a v s).bus = s.bus := rfl
@[simp] theorem setAct_colCommit : (setAct a v s).colCommit = s.colCommit := rfl
@[simp] theorem setAct_fresh : (setAct a v s).fresh = s.fresh := rfl
@[simp] theorem setAct_out : (setAct a v s).out = s.out := rfl
@[simp] theorem setAct_pending : (setAct a v s).pending = s.pending := rfl
@[simp] theorem setAct_pins : (setAct a v s).pins = s.pins := rfl
@[simp] theorem setAct_endpoint : (setAct a v s).endpoint = s.endpoint := rfl
@[simp] theorem setAct_epochReset : (setAct a v s).epochReset = s.epochReset := rfl
@[simp] theorem setAct_epochs : (setAct a v s).epochs = s.epochs := rfl
@[simp] theorem setAct_epochSerial : (setAct a v s).epochSerial = s.epochSerial := rfl
@[simp] theorem setAct_epochNumber : (setAct a v s).epochNumber = s.epochNumber := rfl
@[simp] theorem setAct_epochPrev : (setAct a v s).epochPrev = s.epochPrev := rfl
@[simp] theorem setAct_submission : (setAct a v s).submission = s.submission := rfl
@[simp] theorem setAct_resultOf : (setAct a v s).resultOf = s.resultOf := rfl
@[simp] theorem setAct_reports : (setAct a v s).reports = s.reports := rfl
@[simp] theorem setAct_schedule : (setAct a v s).schedule = s.schedule := rfl
@[simp] theorem setAct_preparation : (setAct a v s).preparation = s.preparation := rfl
@[simp] theorem setAct_jobStart : (setAct a v s).jobStart = s.jobStart := rfl
@[simp] theorem setAct_connected : (setAct a v s).connected = s.connected := rfl
@[simp] theorem setAct_ringRoles : (setAct a v s).ringRoles = s.ringRoles := rfl
@[simp] theorem setAct_warmRequested : (setAct a v s).warmRequested = s.warmRequested := rfl
@[simp] theorem setAct_handedOff : (setAct a v s).handedOff = s.handedOff := rfl
@[simp] theorem setAct_eo : (setAct a v s).eo = s.eo := rfl
@[simp] theorem setAct_eoCal : (setAct a v s).eoCal = s.eoCal := rfl
@[simp] theorem setAct_siphonGen : (setAct a v s).siphonGen = s.siphonGen := rfl
@[simp] theorem setAct_align : (setAct a v s).align = s.align := rfl
@[simp] theorem setAct_ncoOrigin : (setAct a v s).ncoOrigin = s.ncoOrigin := rfl
@[simp] theorem setAct_nco : (setAct a v s).nco = s.nco := rfl
@[simp] theorem setAct_heaters : (setAct a v s).heaters = s.heaters := rfl
@[simp] theorem setAct_onTime : (setAct a v s).onTime = s.onTime := rfl
@[simp] theorem setAct_rbFail : (setAct a v s).rbFail = s.rbFail := rfl
@[simp] theorem setAct_htrCal : (setAct a v s).htrCal = s.htrCal := rfl
@[simp] theorem setAct_cells : (setAct a v s).cells = s.cells := rfl
@[simp] theorem setAct_pumps : (setAct a v s).pumps = s.pumps := rfl
@[simp] theorem setAct_loopOrigin : (setAct a v s).loopOrigin = s.loopOrigin := rfl
@[simp] theorem setAct_cellPower : (setAct a v s).cellPower = s.cellPower := rfl
@[simp] theorem setAct_cellPowerWas : (setAct a v s).cellPowerWas = s.cellPowerWas := rfl
@[simp] theorem setAct_cellPowerAt : (setAct a v s).cellPowerAt = s.cellPowerAt := rfl
@[simp] theorem setAct_frames : (setAct a v s).frames = s.frames := rfl
@[simp] theorem setAct_rbScan : (setAct a v s).rbScan = s.rbScan := rfl
@[simp] theorem setAct_inputPower : (setAct a v s).inputPower = s.inputPower := rfl
@[simp] theorem setAct_inputWas : (setAct a v s).inputWas = s.inputWas := rfl
@[simp] theorem setAct_portAtten : (setAct a v s).portAtten = s.portAtten := rfl
@[simp] theorem setAct_kernelStaged : (setAct a v s).kernelStaged = s.kernelStaged := rfl
@[simp] theorem setAct_wellOrigin : (setAct a v s).wellOrigin = s.wellOrigin := rfl
@[simp] theorem setAct_wellSpans : (setAct a v s).wellSpans = s.wellSpans := rfl
@[simp] theorem setAct_rangeChanges : (setAct a v s).rangeChanges = s.rangeChanges := rfl
@[simp] theorem setAct_published : (setAct a v s).published = s.published := rfl
@[simp] theorem setAct_settledAt : (setAct a v s).settledAt = s.settledAt := rfl
@[simp] theorem setAct_settleFrom : (setAct a v s).settleFrom = s.settleFrom := rfl
@[simp] theorem setAct_ditherAt : (setAct a v s).ditherAt = s.ditherAt := rfl
@[simp] theorem setAct_pinsPlaced : (setAct a v s).pinsPlaced = s.pinsPlaced := rfl
@[simp] theorem setAct_pin : (setAct a v s).pin = s.pin := rfl
@[simp] theorem setAct_calRun : (setAct a v s).calRun = s.calRun := rfl
@[simp] theorem setAct_binding : (setAct a v s).binding = s.binding := rfl
@[simp] theorem setAct_refOut : (setAct a v s).refOut = s.refOut := rfl
@[simp] theorem setAct_biasOn : (setAct a v s).biasOn = s.biasOn := rfl
@[simp] theorem setAct_verdict : (setAct a v s).verdict = s.verdict := rfl
@[simp] theorem setAct_pilotDecode : (setAct a v s).pilotDecode = s.pilotDecode := rfl
@[simp] theorem setAct_pilotBit : (setAct a v s).pilotBit = s.pilotBit := rfl
@[simp] theorem setAct_pilotStarts : (setAct a v s).pilotStarts = s.pilotStarts := rfl
@[simp] theorem setAct_lastApplied : (setAct a v s).lastApplied = s.lastApplied := rfl
@[simp] theorem setAct_streams : (setAct a v s).streams = s.streams := rfl
@[simp] theorem setAct_trigPulse : (setAct a v s).trigPulse = s.trigPulse := rfl
@[simp] theorem setAct_dramSize : (setAct a v s).dramSize = s.dramSize := rfl
@[simp] theorem setAct_ring : (setAct a v s).ring = s.ring := rfl
@[simp] theorem setAct_time : (setAct a v s).time = s.time := rfl
@[simp] theorem setAct_ports : (setAct a v s).ports = s.ports := rfl
@[simp] theorem setAct_evt : (setAct a v s).evt = s.evt := rfl
@[simp] theorem setAct_flt : (setAct a v s).flt = s.flt := rfl
@[simp] theorem setAct_dieThrottled : (setAct a v s).dieThrottled = s.dieThrottled := rfl
@[simp] theorem setAct_picThrottled : (setAct a v s).picThrottled = s.picThrottled := rfl
@[simp] theorem setAct_heat : (setAct a v s).heat = s.heat := rfl
@[simp] theorem setAct_prime : (setAct a v s).prime = s.prime := rfl
@[simp] theorem setAct_wellhead : (setAct a v s).wellhead = s.wellhead := rfl
@[simp] theorem setAct_census : (setAct a v s).census = s.census := rfl

end

/-! ### setMemByte -/

section

variable (a : Nat) (b : Byte) (s : State)

@[simp] theorem setMemByte_variant : (setMemByte a b s).variant = s.variant := rfl
@[simp] theorem setMemByte_regs : (setMemByte a b s).regs = s.regs := rfl
@[simp] theorem setMemByte_active : (setMemByte a b s).active = s.active := rfl
@[simp] theorem setMemByte_dram : (setMemByte a b s).dram = s.dram := rfl
@[simp] theorem setMemByte_dramGen : (setMemByte a b s).dramGen = s.dramGen := rfl
@[simp] theorem setMemByte_pumpMem : (setMemByte a b s).pumpMem = s.pumpMem := rfl
@[simp] theorem setMemByte_pumpGen : (setMemByte a b s).pumpGen = s.pumpGen := rfl
@[simp] theorem setMemByte_bus : (setMemByte a b s).bus = s.bus := rfl
@[simp] theorem setMemByte_colCommit : (setMemByte a b s).colCommit = s.colCommit := rfl
@[simp] theorem setMemByte_fresh : (setMemByte a b s).fresh = s.fresh := rfl
@[simp] theorem setMemByte_out : (setMemByte a b s).out = s.out := rfl
@[simp] theorem setMemByte_pending : (setMemByte a b s).pending = s.pending := rfl
@[simp] theorem setMemByte_pins : (setMemByte a b s).pins = s.pins := rfl
@[simp] theorem setMemByte_endpoint : (setMemByte a b s).endpoint = s.endpoint := rfl
@[simp] theorem setMemByte_epochReset : (setMemByte a b s).epochReset = s.epochReset := rfl
@[simp] theorem setMemByte_epochs : (setMemByte a b s).epochs = s.epochs := rfl
@[simp] theorem setMemByte_epochSerial : (setMemByte a b s).epochSerial = s.epochSerial := rfl
@[simp] theorem setMemByte_epochNumber : (setMemByte a b s).epochNumber = s.epochNumber := rfl
@[simp] theorem setMemByte_epochPrev : (setMemByte a b s).epochPrev = s.epochPrev := rfl
@[simp] theorem setMemByte_submission : (setMemByte a b s).submission = s.submission := rfl
@[simp] theorem setMemByte_resultOf : (setMemByte a b s).resultOf = s.resultOf := rfl
@[simp] theorem setMemByte_reports : (setMemByte a b s).reports = s.reports := rfl
@[simp] theorem setMemByte_schedule : (setMemByte a b s).schedule = s.schedule := rfl
@[simp] theorem setMemByte_preparation : (setMemByte a b s).preparation = s.preparation := rfl
@[simp] theorem setMemByte_jobStart : (setMemByte a b s).jobStart = s.jobStart := rfl
@[simp] theorem setMemByte_connected : (setMemByte a b s).connected = s.connected := rfl
@[simp] theorem setMemByte_ringRoles : (setMemByte a b s).ringRoles = s.ringRoles := rfl
@[simp] theorem setMemByte_warmRequested : (setMemByte a b s).warmRequested = s.warmRequested := rfl
@[simp] theorem setMemByte_handedOff : (setMemByte a b s).handedOff = s.handedOff := rfl
@[simp] theorem setMemByte_eo : (setMemByte a b s).eo = s.eo := rfl
@[simp] theorem setMemByte_eoCal : (setMemByte a b s).eoCal = s.eoCal := rfl
@[simp] theorem setMemByte_siphonGen : (setMemByte a b s).siphonGen = s.siphonGen := rfl
@[simp] theorem setMemByte_align : (setMemByte a b s).align = s.align := rfl
@[simp] theorem setMemByte_ncoOrigin : (setMemByte a b s).ncoOrigin = s.ncoOrigin := rfl
@[simp] theorem setMemByte_nco : (setMemByte a b s).nco = s.nco := rfl
@[simp] theorem setMemByte_heaters : (setMemByte a b s).heaters = s.heaters := rfl
@[simp] theorem setMemByte_onTime : (setMemByte a b s).onTime = s.onTime := rfl
@[simp] theorem setMemByte_rbFail : (setMemByte a b s).rbFail = s.rbFail := rfl
@[simp] theorem setMemByte_htrCal : (setMemByte a b s).htrCal = s.htrCal := rfl
@[simp] theorem setMemByte_cells : (setMemByte a b s).cells = s.cells := rfl
@[simp] theorem setMemByte_pumps : (setMemByte a b s).pumps = s.pumps := rfl
@[simp] theorem setMemByte_loopOrigin : (setMemByte a b s).loopOrigin = s.loopOrigin := rfl
@[simp] theorem setMemByte_cellPower : (setMemByte a b s).cellPower = s.cellPower := rfl
@[simp] theorem setMemByte_cellPowerWas : (setMemByte a b s).cellPowerWas = s.cellPowerWas := rfl
@[simp] theorem setMemByte_cellPowerAt : (setMemByte a b s).cellPowerAt = s.cellPowerAt := rfl
@[simp] theorem setMemByte_frames : (setMemByte a b s).frames = s.frames := rfl
@[simp] theorem setMemByte_rbScan : (setMemByte a b s).rbScan = s.rbScan := rfl
@[simp] theorem setMemByte_inputPower : (setMemByte a b s).inputPower = s.inputPower := rfl
@[simp] theorem setMemByte_inputWas : (setMemByte a b s).inputWas = s.inputWas := rfl
@[simp] theorem setMemByte_portAtten : (setMemByte a b s).portAtten = s.portAtten := rfl
@[simp] theorem setMemByte_kernelStaged : (setMemByte a b s).kernelStaged = s.kernelStaged := rfl
@[simp] theorem setMemByte_wellOrigin : (setMemByte a b s).wellOrigin = s.wellOrigin := rfl
@[simp] theorem setMemByte_wellSpans : (setMemByte a b s).wellSpans = s.wellSpans := rfl
@[simp] theorem setMemByte_rangeChanges : (setMemByte a b s).rangeChanges = s.rangeChanges := rfl
@[simp] theorem setMemByte_published : (setMemByte a b s).published = s.published := rfl
@[simp] theorem setMemByte_settledAt : (setMemByte a b s).settledAt = s.settledAt := rfl
@[simp] theorem setMemByte_settleFrom : (setMemByte a b s).settleFrom = s.settleFrom := rfl
@[simp] theorem setMemByte_ditherAt : (setMemByte a b s).ditherAt = s.ditherAt := rfl
@[simp] theorem setMemByte_pinsPlaced : (setMemByte a b s).pinsPlaced = s.pinsPlaced := rfl
@[simp] theorem setMemByte_pin : (setMemByte a b s).pin = s.pin := rfl
@[simp] theorem setMemByte_calRun : (setMemByte a b s).calRun = s.calRun := rfl
@[simp] theorem setMemByte_binding : (setMemByte a b s).binding = s.binding := rfl
@[simp] theorem setMemByte_refOut : (setMemByte a b s).refOut = s.refOut := rfl
@[simp] theorem setMemByte_biasOn : (setMemByte a b s).biasOn = s.biasOn := rfl
@[simp] theorem setMemByte_verdict : (setMemByte a b s).verdict = s.verdict := rfl
@[simp] theorem setMemByte_pilotDecode : (setMemByte a b s).pilotDecode = s.pilotDecode := rfl
@[simp] theorem setMemByte_pilotBit : (setMemByte a b s).pilotBit = s.pilotBit := rfl
@[simp] theorem setMemByte_pilotStarts : (setMemByte a b s).pilotStarts = s.pilotStarts := rfl
@[simp] theorem setMemByte_lastApplied : (setMemByte a b s).lastApplied = s.lastApplied := rfl
@[simp] theorem setMemByte_streams : (setMemByte a b s).streams = s.streams := rfl
@[simp] theorem setMemByte_trigPulse : (setMemByte a b s).trigPulse = s.trigPulse := rfl
@[simp] theorem setMemByte_dramSize : (setMemByte a b s).dramSize = s.dramSize := rfl
@[simp] theorem setMemByte_ring : (setMemByte a b s).ring = s.ring := rfl
@[simp] theorem setMemByte_time : (setMemByte a b s).time = s.time := rfl
@[simp] theorem setMemByte_ports : (setMemByte a b s).ports = s.ports := rfl
@[simp] theorem setMemByte_evt : (setMemByte a b s).evt = s.evt := rfl
@[simp] theorem setMemByte_flt : (setMemByte a b s).flt = s.flt := rfl
@[simp] theorem setMemByte_dieThrottled : (setMemByte a b s).dieThrottled = s.dieThrottled := rfl
@[simp] theorem setMemByte_picThrottled : (setMemByte a b s).picThrottled = s.picThrottled := rfl
@[simp] theorem setMemByte_heat : (setMemByte a b s).heat = s.heat := rfl
@[simp] theorem setMemByte_prime : (setMemByte a b s).prime = s.prime := rfl
@[simp] theorem setMemByte_wellhead : (setMemByte a b s).wellhead = s.wellhead := rfl
@[simp] theorem setMemByte_census : (setMemByte a b s).census = s.census := rfl

end

/-! ### emit -/

section

variable (e : Emission) (s : State)

@[simp] theorem emit_variant : (emit e s).variant = s.variant := rfl
@[simp] theorem emit_regs : (emit e s).regs = s.regs := rfl
@[simp] theorem emit_active : (emit e s).active = s.active := rfl
@[simp] theorem emit_mem : (emit e s).mem = s.mem := rfl
@[simp] theorem emit_dram : (emit e s).dram = s.dram := rfl
@[simp] theorem emit_dramGen : (emit e s).dramGen = s.dramGen := rfl
@[simp] theorem emit_pumpMem : (emit e s).pumpMem = s.pumpMem := rfl
@[simp] theorem emit_pumpGen : (emit e s).pumpGen = s.pumpGen := rfl
@[simp] theorem emit_bus : (emit e s).bus = s.bus := rfl
@[simp] theorem emit_colCommit : (emit e s).colCommit = s.colCommit := rfl
@[simp] theorem emit_fresh : (emit e s).fresh = s.fresh := rfl
@[simp] theorem emit_pending : (emit e s).pending = s.pending := rfl
@[simp] theorem emit_pins : (emit e s).pins = s.pins := rfl
@[simp] theorem emit_endpoint : (emit e s).endpoint = s.endpoint := rfl
@[simp] theorem emit_epochReset : (emit e s).epochReset = s.epochReset := rfl
@[simp] theorem emit_epochs : (emit e s).epochs = s.epochs := rfl
@[simp] theorem emit_epochSerial : (emit e s).epochSerial = s.epochSerial := rfl
@[simp] theorem emit_epochNumber : (emit e s).epochNumber = s.epochNumber := rfl
@[simp] theorem emit_epochPrev : (emit e s).epochPrev = s.epochPrev := rfl
@[simp] theorem emit_submission : (emit e s).submission = s.submission := rfl
@[simp] theorem emit_resultOf : (emit e s).resultOf = s.resultOf := rfl
@[simp] theorem emit_reports : (emit e s).reports = s.reports := rfl
@[simp] theorem emit_schedule : (emit e s).schedule = s.schedule := rfl
@[simp] theorem emit_preparation : (emit e s).preparation = s.preparation := rfl
@[simp] theorem emit_jobStart : (emit e s).jobStart = s.jobStart := rfl
@[simp] theorem emit_connected : (emit e s).connected = s.connected := rfl
@[simp] theorem emit_ringRoles : (emit e s).ringRoles = s.ringRoles := rfl
@[simp] theorem emit_warmRequested : (emit e s).warmRequested = s.warmRequested := rfl
@[simp] theorem emit_handedOff : (emit e s).handedOff = s.handedOff := rfl
@[simp] theorem emit_eo : (emit e s).eo = s.eo := rfl
@[simp] theorem emit_eoCal : (emit e s).eoCal = s.eoCal := rfl
@[simp] theorem emit_siphonGen : (emit e s).siphonGen = s.siphonGen := rfl
@[simp] theorem emit_align : (emit e s).align = s.align := rfl
@[simp] theorem emit_ncoOrigin : (emit e s).ncoOrigin = s.ncoOrigin := rfl
@[simp] theorem emit_nco : (emit e s).nco = s.nco := rfl
@[simp] theorem emit_heaters : (emit e s).heaters = s.heaters := rfl
@[simp] theorem emit_onTime : (emit e s).onTime = s.onTime := rfl
@[simp] theorem emit_rbFail : (emit e s).rbFail = s.rbFail := rfl
@[simp] theorem emit_htrCal : (emit e s).htrCal = s.htrCal := rfl
@[simp] theorem emit_cells : (emit e s).cells = s.cells := rfl
@[simp] theorem emit_pumps : (emit e s).pumps = s.pumps := rfl
@[simp] theorem emit_loopOrigin : (emit e s).loopOrigin = s.loopOrigin := rfl
@[simp] theorem emit_cellPower : (emit e s).cellPower = s.cellPower := rfl
@[simp] theorem emit_cellPowerWas : (emit e s).cellPowerWas = s.cellPowerWas := rfl
@[simp] theorem emit_cellPowerAt : (emit e s).cellPowerAt = s.cellPowerAt := rfl
@[simp] theorem emit_frames : (emit e s).frames = s.frames := rfl
@[simp] theorem emit_rbScan : (emit e s).rbScan = s.rbScan := rfl
@[simp] theorem emit_inputPower : (emit e s).inputPower = s.inputPower := rfl
@[simp] theorem emit_inputWas : (emit e s).inputWas = s.inputWas := rfl
@[simp] theorem emit_portAtten : (emit e s).portAtten = s.portAtten := rfl
@[simp] theorem emit_kernelStaged : (emit e s).kernelStaged = s.kernelStaged := rfl
@[simp] theorem emit_wellOrigin : (emit e s).wellOrigin = s.wellOrigin := rfl
@[simp] theorem emit_wellSpans : (emit e s).wellSpans = s.wellSpans := rfl
@[simp] theorem emit_rangeChanges : (emit e s).rangeChanges = s.rangeChanges := rfl
@[simp] theorem emit_published : (emit e s).published = s.published := rfl
@[simp] theorem emit_settledAt : (emit e s).settledAt = s.settledAt := rfl
@[simp] theorem emit_settleFrom : (emit e s).settleFrom = s.settleFrom := rfl
@[simp] theorem emit_ditherAt : (emit e s).ditherAt = s.ditherAt := rfl
@[simp] theorem emit_pinsPlaced : (emit e s).pinsPlaced = s.pinsPlaced := rfl
@[simp] theorem emit_pin : (emit e s).pin = s.pin := rfl
@[simp] theorem emit_calRun : (emit e s).calRun = s.calRun := rfl
@[simp] theorem emit_binding : (emit e s).binding = s.binding := rfl
@[simp] theorem emit_refOut : (emit e s).refOut = s.refOut := rfl
@[simp] theorem emit_biasOn : (emit e s).biasOn = s.biasOn := rfl
@[simp] theorem emit_verdict : (emit e s).verdict = s.verdict := rfl
@[simp] theorem emit_pilotDecode : (emit e s).pilotDecode = s.pilotDecode := rfl
@[simp] theorem emit_pilotBit : (emit e s).pilotBit = s.pilotBit := rfl
@[simp] theorem emit_pilotStarts : (emit e s).pilotStarts = s.pilotStarts := rfl
@[simp] theorem emit_lastApplied : (emit e s).lastApplied = s.lastApplied := rfl
@[simp] theorem emit_streams : (emit e s).streams = s.streams := rfl
@[simp] theorem emit_trigPulse : (emit e s).trigPulse = s.trigPulse := rfl
@[simp] theorem emit_dramSize : (emit e s).dramSize = s.dramSize := rfl
@[simp] theorem emit_ring : (emit e s).ring = s.ring := rfl
@[simp] theorem emit_time : (emit e s).time = s.time := rfl
@[simp] theorem emit_ports : (emit e s).ports = s.ports := rfl
@[simp] theorem emit_evt : (emit e s).evt = s.evt := rfl
@[simp] theorem emit_flt : (emit e s).flt = s.flt := rfl
@[simp] theorem emit_dieThrottled : (emit e s).dieThrottled = s.dieThrottled := rfl
@[simp] theorem emit_picThrottled : (emit e s).picThrottled = s.picThrottled := rfl
@[simp] theorem emit_heat : (emit e s).heat = s.heat := rfl
@[simp] theorem emit_prime : (emit e s).prime = s.prime := rfl
@[simp] theorem emit_wellhead : (emit e s).wellhead = s.wellhead := rfl
@[simp] theorem emit_census : (emit e s).census = s.census := rfl

end

/-! ### draw -/

section

variable (s : State)

@[simp] theorem draw_variant : (draw s).variant = s.variant := rfl
@[simp] theorem draw_regs : (draw s).regs = s.regs := rfl
@[simp] theorem draw_active : (draw s).active = s.active := rfl
@[simp] theorem draw_mem : (draw s).mem = s.mem := rfl
@[simp] theorem draw_dram : (draw s).dram = s.dram := rfl
@[simp] theorem draw_dramGen : (draw s).dramGen = s.dramGen := rfl
@[simp] theorem draw_pumpMem : (draw s).pumpMem = s.pumpMem := rfl
@[simp] theorem draw_pumpGen : (draw s).pumpGen = s.pumpGen := rfl
@[simp] theorem draw_bus : (draw s).bus = s.bus := rfl
@[simp] theorem draw_colCommit : (draw s).colCommit = s.colCommit := rfl
@[simp] theorem draw_out : (draw s).out = s.out := rfl
@[simp] theorem draw_pending : (draw s).pending = s.pending := rfl
@[simp] theorem draw_pins : (draw s).pins = s.pins := rfl
@[simp] theorem draw_endpoint : (draw s).endpoint = s.endpoint := rfl
@[simp] theorem draw_epochReset : (draw s).epochReset = s.epochReset := rfl
@[simp] theorem draw_epochs : (draw s).epochs = s.epochs := rfl
@[simp] theorem draw_epochSerial : (draw s).epochSerial = s.epochSerial := rfl
@[simp] theorem draw_epochNumber : (draw s).epochNumber = s.epochNumber := rfl
@[simp] theorem draw_epochPrev : (draw s).epochPrev = s.epochPrev := rfl
@[simp] theorem draw_submission : (draw s).submission = s.submission := rfl
@[simp] theorem draw_resultOf : (draw s).resultOf = s.resultOf := rfl
@[simp] theorem draw_reports : (draw s).reports = s.reports := rfl
@[simp] theorem draw_schedule : (draw s).schedule = s.schedule := rfl
@[simp] theorem draw_preparation : (draw s).preparation = s.preparation := rfl
@[simp] theorem draw_jobStart : (draw s).jobStart = s.jobStart := rfl
@[simp] theorem draw_connected : (draw s).connected = s.connected := rfl
@[simp] theorem draw_ringRoles : (draw s).ringRoles = s.ringRoles := rfl
@[simp] theorem draw_warmRequested : (draw s).warmRequested = s.warmRequested := rfl
@[simp] theorem draw_handedOff : (draw s).handedOff = s.handedOff := rfl
@[simp] theorem draw_eo : (draw s).eo = s.eo := rfl
@[simp] theorem draw_eoCal : (draw s).eoCal = s.eoCal := rfl
@[simp] theorem draw_siphonGen : (draw s).siphonGen = s.siphonGen := rfl
@[simp] theorem draw_align : (draw s).align = s.align := rfl
@[simp] theorem draw_ncoOrigin : (draw s).ncoOrigin = s.ncoOrigin := rfl
@[simp] theorem draw_nco : (draw s).nco = s.nco := rfl
@[simp] theorem draw_heaters : (draw s).heaters = s.heaters := rfl
@[simp] theorem draw_onTime : (draw s).onTime = s.onTime := rfl
@[simp] theorem draw_rbFail : (draw s).rbFail = s.rbFail := rfl
@[simp] theorem draw_htrCal : (draw s).htrCal = s.htrCal := rfl
@[simp] theorem draw_cells : (draw s).cells = s.cells := rfl
@[simp] theorem draw_pumps : (draw s).pumps = s.pumps := rfl
@[simp] theorem draw_loopOrigin : (draw s).loopOrigin = s.loopOrigin := rfl
@[simp] theorem draw_cellPower : (draw s).cellPower = s.cellPower := rfl
@[simp] theorem draw_cellPowerWas : (draw s).cellPowerWas = s.cellPowerWas := rfl
@[simp] theorem draw_cellPowerAt : (draw s).cellPowerAt = s.cellPowerAt := rfl
@[simp] theorem draw_frames : (draw s).frames = s.frames := rfl
@[simp] theorem draw_rbScan : (draw s).rbScan = s.rbScan := rfl
@[simp] theorem draw_inputPower : (draw s).inputPower = s.inputPower := rfl
@[simp] theorem draw_inputWas : (draw s).inputWas = s.inputWas := rfl
@[simp] theorem draw_portAtten : (draw s).portAtten = s.portAtten := rfl
@[simp] theorem draw_kernelStaged : (draw s).kernelStaged = s.kernelStaged := rfl
@[simp] theorem draw_wellOrigin : (draw s).wellOrigin = s.wellOrigin := rfl
@[simp] theorem draw_wellSpans : (draw s).wellSpans = s.wellSpans := rfl
@[simp] theorem draw_rangeChanges : (draw s).rangeChanges = s.rangeChanges := rfl
@[simp] theorem draw_published : (draw s).published = s.published := rfl
@[simp] theorem draw_settledAt : (draw s).settledAt = s.settledAt := rfl
@[simp] theorem draw_settleFrom : (draw s).settleFrom = s.settleFrom := rfl
@[simp] theorem draw_ditherAt : (draw s).ditherAt = s.ditherAt := rfl
@[simp] theorem draw_pinsPlaced : (draw s).pinsPlaced = s.pinsPlaced := rfl
@[simp] theorem draw_pin : (draw s).pin = s.pin := rfl
@[simp] theorem draw_calRun : (draw s).calRun = s.calRun := rfl
@[simp] theorem draw_binding : (draw s).binding = s.binding := rfl
@[simp] theorem draw_refOut : (draw s).refOut = s.refOut := rfl
@[simp] theorem draw_biasOn : (draw s).biasOn = s.biasOn := rfl
@[simp] theorem draw_verdict : (draw s).verdict = s.verdict := rfl
@[simp] theorem draw_pilotDecode : (draw s).pilotDecode = s.pilotDecode := rfl
@[simp] theorem draw_pilotBit : (draw s).pilotBit = s.pilotBit := rfl
@[simp] theorem draw_pilotStarts : (draw s).pilotStarts = s.pilotStarts := rfl
@[simp] theorem draw_lastApplied : (draw s).lastApplied = s.lastApplied := rfl
@[simp] theorem draw_streams : (draw s).streams = s.streams := rfl
@[simp] theorem draw_trigPulse : (draw s).trigPulse = s.trigPulse := rfl
@[simp] theorem draw_dramSize : (draw s).dramSize = s.dramSize := rfl
@[simp] theorem draw_ring : (draw s).ring = s.ring := rfl
@[simp] theorem draw_time : (draw s).time = s.time := rfl
@[simp] theorem draw_ports : (draw s).ports = s.ports := rfl
@[simp] theorem draw_evt : (draw s).evt = s.evt := rfl
@[simp] theorem draw_flt : (draw s).flt = s.flt := rfl
@[simp] theorem draw_dieThrottled : (draw s).dieThrottled = s.dieThrottled := rfl
@[simp] theorem draw_picThrottled : (draw s).picThrottled = s.picThrottled := rfl
@[simp] theorem draw_heat : (draw s).heat = s.heat := rfl
@[simp] theorem draw_prime : (draw s).prime = s.prime := rfl
@[simp] theorem draw_wellhead : (draw s).wellhead = s.wellhead := rfl
@[simp] theorem draw_census : (draw s).census = s.census := rfl

end

/-! ### sendRaise -/

section

variable (n k : Nat) (p : Option Page) (s : State)

@[simp] theorem sendRaise_variant : (sendRaise n k p s).variant = s.variant := rfl
@[simp] theorem sendRaise_regs : (sendRaise n k p s).regs = s.regs := rfl
@[simp] theorem sendRaise_active : (sendRaise n k p s).active = s.active := rfl
@[simp] theorem sendRaise_mem : (sendRaise n k p s).mem = s.mem := rfl
@[simp] theorem sendRaise_dram : (sendRaise n k p s).dram = s.dram := rfl
@[simp] theorem sendRaise_dramGen : (sendRaise n k p s).dramGen = s.dramGen := rfl
@[simp] theorem sendRaise_pumpMem : (sendRaise n k p s).pumpMem = s.pumpMem := rfl
@[simp] theorem sendRaise_pumpGen : (sendRaise n k p s).pumpGen = s.pumpGen := rfl
@[simp] theorem sendRaise_bus : (sendRaise n k p s).bus = s.bus := rfl
@[simp] theorem sendRaise_colCommit : (sendRaise n k p s).colCommit = s.colCommit := rfl
@[simp] theorem sendRaise_fresh : (sendRaise n k p s).fresh = s.fresh := rfl
@[simp] theorem sendRaise_out : (sendRaise n k p s).out = s.out := rfl
@[simp] theorem sendRaise_pending : (sendRaise n k p s).pending = s.pending := rfl
@[simp] theorem sendRaise_pins : (sendRaise n k p s).pins = s.pins := rfl
@[simp] theorem sendRaise_endpoint : (sendRaise n k p s).endpoint = s.endpoint := rfl
@[simp] theorem sendRaise_epochReset : (sendRaise n k p s).epochReset = s.epochReset := rfl
@[simp] theorem sendRaise_epochs : (sendRaise n k p s).epochs = s.epochs := rfl
@[simp] theorem sendRaise_epochSerial : (sendRaise n k p s).epochSerial = s.epochSerial := rfl
@[simp] theorem sendRaise_epochNumber : (sendRaise n k p s).epochNumber = s.epochNumber := rfl
@[simp] theorem sendRaise_epochPrev : (sendRaise n k p s).epochPrev = s.epochPrev := rfl
@[simp] theorem sendRaise_submission : (sendRaise n k p s).submission = s.submission := rfl
@[simp] theorem sendRaise_resultOf : (sendRaise n k p s).resultOf = s.resultOf := rfl
@[simp] theorem sendRaise_reports : (sendRaise n k p s).reports = s.reports := rfl
@[simp] theorem sendRaise_schedule : (sendRaise n k p s).schedule = s.schedule := rfl
@[simp] theorem sendRaise_preparation : (sendRaise n k p s).preparation = s.preparation := rfl
@[simp] theorem sendRaise_jobStart : (sendRaise n k p s).jobStart = s.jobStart := rfl
@[simp] theorem sendRaise_connected : (sendRaise n k p s).connected = s.connected := rfl
@[simp] theorem sendRaise_ringRoles : (sendRaise n k p s).ringRoles = s.ringRoles := rfl
@[simp] theorem sendRaise_warmRequested : (sendRaise n k p s).warmRequested = s.warmRequested := rfl
@[simp] theorem sendRaise_handedOff : (sendRaise n k p s).handedOff = s.handedOff := rfl
@[simp] theorem sendRaise_eo : (sendRaise n k p s).eo = s.eo := rfl
@[simp] theorem sendRaise_eoCal : (sendRaise n k p s).eoCal = s.eoCal := rfl
@[simp] theorem sendRaise_siphonGen : (sendRaise n k p s).siphonGen = s.siphonGen := rfl
@[simp] theorem sendRaise_align : (sendRaise n k p s).align = s.align := rfl
@[simp] theorem sendRaise_ncoOrigin : (sendRaise n k p s).ncoOrigin = s.ncoOrigin := rfl
@[simp] theorem sendRaise_nco : (sendRaise n k p s).nco = s.nco := rfl
@[simp] theorem sendRaise_heaters : (sendRaise n k p s).heaters = s.heaters := rfl
@[simp] theorem sendRaise_onTime : (sendRaise n k p s).onTime = s.onTime := rfl
@[simp] theorem sendRaise_rbFail : (sendRaise n k p s).rbFail = s.rbFail := rfl
@[simp] theorem sendRaise_htrCal : (sendRaise n k p s).htrCal = s.htrCal := rfl
@[simp] theorem sendRaise_cells : (sendRaise n k p s).cells = s.cells := rfl
@[simp] theorem sendRaise_pumps : (sendRaise n k p s).pumps = s.pumps := rfl
@[simp] theorem sendRaise_loopOrigin : (sendRaise n k p s).loopOrigin = s.loopOrigin := rfl
@[simp] theorem sendRaise_cellPower : (sendRaise n k p s).cellPower = s.cellPower := rfl
@[simp] theorem sendRaise_cellPowerWas : (sendRaise n k p s).cellPowerWas = s.cellPowerWas := rfl
@[simp] theorem sendRaise_cellPowerAt : (sendRaise n k p s).cellPowerAt = s.cellPowerAt := rfl
@[simp] theorem sendRaise_frames : (sendRaise n k p s).frames = s.frames := rfl
@[simp] theorem sendRaise_rbScan : (sendRaise n k p s).rbScan = s.rbScan := rfl
@[simp] theorem sendRaise_inputPower : (sendRaise n k p s).inputPower = s.inputPower := rfl
@[simp] theorem sendRaise_inputWas : (sendRaise n k p s).inputWas = s.inputWas := rfl
@[simp] theorem sendRaise_portAtten : (sendRaise n k p s).portAtten = s.portAtten := rfl
@[simp] theorem sendRaise_kernelStaged : (sendRaise n k p s).kernelStaged = s.kernelStaged := rfl
@[simp] theorem sendRaise_wellOrigin : (sendRaise n k p s).wellOrigin = s.wellOrigin := rfl
@[simp] theorem sendRaise_wellSpans : (sendRaise n k p s).wellSpans = s.wellSpans := rfl
@[simp] theorem sendRaise_rangeChanges : (sendRaise n k p s).rangeChanges = s.rangeChanges := rfl
@[simp] theorem sendRaise_published : (sendRaise n k p s).published = s.published := rfl
@[simp] theorem sendRaise_settledAt : (sendRaise n k p s).settledAt = s.settledAt := rfl
@[simp] theorem sendRaise_settleFrom : (sendRaise n k p s).settleFrom = s.settleFrom := rfl
@[simp] theorem sendRaise_ditherAt : (sendRaise n k p s).ditherAt = s.ditherAt := rfl
@[simp] theorem sendRaise_pinsPlaced : (sendRaise n k p s).pinsPlaced = s.pinsPlaced := rfl
@[simp] theorem sendRaise_pin : (sendRaise n k p s).pin = s.pin := rfl
@[simp] theorem sendRaise_calRun : (sendRaise n k p s).calRun = s.calRun := rfl
@[simp] theorem sendRaise_binding : (sendRaise n k p s).binding = s.binding := rfl
@[simp] theorem sendRaise_refOut : (sendRaise n k p s).refOut = s.refOut := rfl
@[simp] theorem sendRaise_biasOn : (sendRaise n k p s).biasOn = s.biasOn := rfl
@[simp] theorem sendRaise_verdict : (sendRaise n k p s).verdict = s.verdict := rfl
@[simp] theorem sendRaise_pilotDecode : (sendRaise n k p s).pilotDecode = s.pilotDecode := rfl
@[simp] theorem sendRaise_pilotBit : (sendRaise n k p s).pilotBit = s.pilotBit := rfl
@[simp] theorem sendRaise_pilotStarts : (sendRaise n k p s).pilotStarts = s.pilotStarts := rfl
@[simp] theorem sendRaise_lastApplied : (sendRaise n k p s).lastApplied = s.lastApplied := rfl
@[simp] theorem sendRaise_streams : (sendRaise n k p s).streams = s.streams := rfl
@[simp] theorem sendRaise_trigPulse : (sendRaise n k p s).trigPulse = s.trigPulse := rfl
@[simp] theorem sendRaise_dramSize : (sendRaise n k p s).dramSize = s.dramSize := rfl
@[simp] theorem sendRaise_ring : (sendRaise n k p s).ring = s.ring := rfl
@[simp] theorem sendRaise_time : (sendRaise n k p s).time = s.time := rfl
@[simp] theorem sendRaise_ports : (sendRaise n k p s).ports = s.ports := rfl
@[simp] theorem sendRaise_evt : (sendRaise n k p s).evt = s.evt := rfl
@[simp] theorem sendRaise_dieThrottled : (sendRaise n k p s).dieThrottled = s.dieThrottled := rfl
@[simp] theorem sendRaise_picThrottled : (sendRaise n k p s).picThrottled = s.picThrottled := rfl
@[simp] theorem sendRaise_heat : (sendRaise n k p s).heat = s.heat := rfl
@[simp] theorem sendRaise_prime : (sendRaise n k p s).prime = s.prime := rfl
@[simp] theorem sendRaise_wellhead : (sendRaise n k p s).wellhead = s.wellhead := rfl
@[simp] theorem sendRaise_census : (sendRaise n k p s).census = s.census := rfl

end

@[simp] theorem emit_out (e : Emission) (s : State) : (emit e s).out = e :: s.out := rfl
@[simp] theorem draw_fresh (s : State) : (draw s).fresh = s.fresh + 1 := rfl
@[simp] theorem sendRaise_due (n k : Nat) (p : Option Page) (s : State) :
    (sendRaise n k p s).flt.due = s.flt.due ++ [{ source := n, inst := k, page := p, uptime := s.time.uptime }] := rfl

end Sys2Proof.Machine
end

