-- ==== Sys2Proof/Laws/Regs.lean ====
section
/-! SUPPORT. What registers, windows and emissions read as after each elementary update, and that each keeps the canonical form. -/

namespace Sys2Proof.Machine

open Sys2Proof

/-! ### Registers -/

theorem reg_setReg (s : State) (a : Nat) (v : Word) (b : Nat) : reg (setReg a v s) b = if a = b then v else reg s b :=
  SMap.get_set _ _ _ _ _

@[simp] theorem reg_setReg_same (s : State) (a : Nat) (v : Word) : reg (setReg a v s) a = v := by simp [reg_setReg]

theorem reg_setReg_other (s : State) {a b : Nat} (v : Word) (h : a ≠ b) : reg (setReg a v s) b = reg s b := by
  simp [reg_setReg, h]

theorem reg_modReg (s : State) (a : Nat) (f : Word → Word) (b : Nat) :
    reg (modReg a f s) b = if a = b then f (reg s a) else reg s b := reg_setReg _ _ _ _

theorem reg_setF (s : State) (a lo w v b : Nat) : reg (setF a lo w v s) b = if a = b then setFld (reg s a) lo w v else reg s b :=
  reg_setReg _ _ _ _

@[simp] theorem reg_setF_same (s : State) (a lo w v : Nat) : reg (setF a lo w v s) a = setFld (reg s a) lo w v := by simp [reg_setF]

theorem reg_setF_other (s : State) {a b : Nat} (lo w v : Nat) (h : a ≠ b) : reg (setF a lo w v s) b = reg s b := by
  simp [reg_setF, h]

theorem reg_setB_other (s : State) {a b : Nat} (i : Nat) (v : Bool) (h : a ≠ b) : reg (setB a i v s) b = reg s b :=
  reg_setF_other s _ _ _ h

@[simp] theorem reg_setB_same (s : State) (a i : Nat) (v : Bool) : reg (setB a i v s) a = setFld (reg s a) i 1 (b2n v) :=
  reg_setF_same s _ _ _ _

theorem reg_bumpF_other (s : State) {a b : Nat} (lo w : Nat) (h : a ≠ b) : reg (bumpF a lo w s) b = reg s b :=
  reg_setF_other s _ _ _ h

@[simp] theorem reg_emit (e : Emission) (s : State) (a : Nat) : reg (emit e s) a = reg s a := rfl
@[simp] theorem reg_draw (s : State) (a : Nat) : reg (draw s) a = reg s a := rfl
@[simp] theorem reg_setAct (b : Nat) (v : Word) (s : State) (a : Nat) : reg (setAct b v s) a = reg s a := rfl
@[simp] theorem reg_setMemByte (b : Nat) (v : Byte) (s : State) (a : Nat) : reg (setMemByte b v s) a = reg s a := rfl
@[simp] theorem reg_sendRaise (n k : Nat) (p : Option Page) (s : State) (a : Nat) : reg (sendRaise n k p s) a = reg s a := rfl

theorem act_setAct (s : State) (a : Nat) (v : Word) (b : Nat) : act (setAct a v s) b = if a = b then v else act s b :=
  SMap.get_set _ _ _ _ _

theorem memByte_setMemByte (s : State) (a : Nat) (v : Byte) (b : Nat) :
    memByte (setMemByte a v s) b = if a = b then v else memByte s b := SMap.get_set _ _ _ _ _

/-- Writing bytes changes the bytes written, and no other. -/
theorem memByte_writeMem (bs : List Byte) (s : State) (a b : Nat) (h : b < a ∨ a + bs.length ≤ b) :
    memByte (writeMem a bs s) b = memByte s b := by
  induction bs generalizing a s with
  | nil => rfl
  | cons x r ih =>
    simp only [List.length_cons] at h
    unfold writeMem
    rw [ih _ (a + 1) (by omega), memByte_setMemByte, if_neg (by omega)]

theorem memByte_writeMem_at (bs : List Byte) (s : State) (a i : Nat) (h : i < bs.length) :
    memByte (writeMem a bs s) (a + i) = bs[i] := by
  induction bs generalizing a s i with
  | nil => simp at h
  | cons x r ih =>
    unfold writeMem
    cases i with
    | zero => simp [memByte_writeMem r _ (a + 1) a (by omega), memByte_setMemByte]
    | succ j =>
      have := ih (setMemByte a x s) (a + 1) j (by simpa using h)
      simpa [Nat.add_assoc, Nat.add_comm 1 j] using this

/-! ### Fields -/

/-- A word split at the field: below it, in it, above it. -/
theorem setFld_split (n lo w v : Nat) :
    n - n / 2 ^ lo % 2 ^ w * 2 ^ lo + v % 2 ^ w * 2 ^ lo
      = 2 ^ lo * (2 ^ w * (n / 2 ^ lo / 2 ^ w) + v % 2 ^ w) + n % 2 ^ lo := by
  have a := Nat.div_add_mod n (2 ^ lo)
  have b := Nat.div_add_mod (n / 2 ^ lo) (2 ^ w)
  generalize 2 ^ lo = P at *
  generalize 2 ^ w = Q at *
  have h1 : n = P * (Q * (n / P / Q)) + P * (n / P % Q) + n % P := by
    rw [← Nat.mul_add, b, a]
  have h2 : n / P % Q * P = P * (n / P % Q) := Nat.mul_comm _ _
  have h3 : v % Q * P = P * (v % Q) := Nat.mul_comm _ _
  rw [Nat.mul_add, h2, h3]
  omega

/-- Each bit of a word after a field write. -/
theorem bitOf_setFld (x : Word) (lo w v i : Nat) :
    bitOf (setFld x lo w v) i = (decide (i < 32) && if lo ≤ i ∧ i < lo + w then v.testBit (i - lo) else bitOf x i) := by
  unfold bitOf setFld
  rw [setFld_split, BitVec.getLsbD_ofNat, Nat.testBit_two_pow_mul_add _ (Nat.mod_lt _ (Nat.two_pow_pos lo)),
    Nat.testBit_two_pow_mul_add _ (Nat.mod_lt _ (Nat.two_pow_pos w))]
  by_cases h1 : i < lo
  · have : ¬ (lo ≤ i ∧ i < lo + w) := by omega
    simp [h1, this, BitVec.getLsbD]
  · by_cases h2 : i - lo < w
    · have : lo ≤ i ∧ i < lo + w := by omega
      simp [h1, h2, this]
    · have h3 : ¬ (lo ≤ i ∧ i < lo + w) := by omega
      have h4 : i - lo - w + w + lo = i := by omega
      rw [if_neg h3]
      simp [h1, h2, BitVec.getLsbD, Nat.testBit_div_two_pow, h4]

theorem fld_eq_of_bits {x y : Word} {lo w : Nat} (h : ∀ i, lo ≤ i → i < lo + w → bitOf x i = bitOf y i) :
    fld x lo w = fld y lo w := by
  apply Nat.eq_of_testBit_eq
  intro i
  unfold fld
  simp only [Nat.testBit_mod_two_pow, Nat.testBit_div_two_pow]
  by_cases hi : i < w
  · have := h (i + lo) (by omega) (by omega)
    simpa [hi, bitOf, BitVec.getLsbD] using this
  · simp [hi]

/-- A field write is read back. -/
theorem fld_setFld (x : Word) (lo w v : Nat) (h : lo + w ≤ 32) : fld (setFld x lo w v) lo w = v % 2 ^ w := by
  apply Nat.eq_of_testBit_eq
  intro i
  unfold fld
  simp only [Nat.testBit_mod_two_pow, Nat.testBit_div_two_pow]
  by_cases hi : i < w
  · have := bitOf_setFld x lo w v (i + lo)
    simp only [bitOf, BitVec.getLsbD] at this
    have h1 : i + lo < 32 := by omega
    have h2 : lo ≤ i + lo ∧ i + lo < lo + w := by omega
    simp [this, hi, h1, h2]
  · simp [hi]

/-- A field write leaves every field beside it. -/
theorem fld_setFld_other (x : Word) (lo w v lo' w' : Nat) (h : lo' + w' ≤ lo ∨ lo + w ≤ lo') (h32 : lo' + w' ≤ 32) :
    fld (setFld x lo w v) lo' w' = fld x lo' w' := by
  refine fld_eq_of_bits fun i h1 h2 => ?_
  rw [bitOf_setFld, if_neg (by omega)]
  simp [show i < 32 by omega]

theorem bitOf_setFld_one (x : Word) (i : Nat) (b : Bool) (h : i < 32) : bitOf (setFld x i 1 (b2n b)) i = b := by
  rw [bitOf_setFld]
  cases b <;> simp [h, b2n]

theorem bitOf_setFld_other (x : Word) (lo w v i : Nat) (h : i < lo ∨ lo + w ≤ i) (h32 : i < 32) :
    bitOf (setFld x lo w v) i = bitOf x i := by
  rw [bitOf_setFld, if_neg (by omega)]
  simp [h32]

theorem getF_setF_same (s : State) (a lo w v : Nat) (h : lo + w ≤ 32) : getF (setF a lo w v s) a lo w = v % 2 ^ w := by
  simp [getF, fld_setFld _ _ _ _ h]

theorem getF_setF_beside (s : State) (a lo w v lo' w' : Nat) (h : lo' + w' ≤ lo ∨ lo + w ≤ lo') (h32 : lo' + w' ≤ 32) :
    getF (setF a lo w v s) a lo' w' = getF s a lo' w' := by
  simp [getF, fld_setFld_other _ _ _ _ _ _ h h32]

theorem getF_setF_other (s : State) {a b : Nat} (lo w v lo' w' : Nat) (h : a ≠ b) :
    getF (setF a lo w v s) b lo' w' = getF s b lo' w' := by simp [getF, reg_setF, h]

theorem getBit_setB_same (s : State) (a i : Nat) (b : Bool) (h : i < 32) : getBit (setB a i b s) a i = b := by
  simp [getBit, bitOf_setFld_one _ _ _ h]

theorem getBit_setB_beside (s : State) (a i j : Nat) (b : Bool) (h : i ≠ j) (h32 : j < 32) :
    getBit (setB a i b s) a j = getBit s a j := by
  simp only [getBit, reg_setB_same]
  exact bitOf_setFld_other _ _ _ _ _ (by omega) h32

theorem getBit_setB_other (s : State) {a b : Nat} (i j : Nat) (v : Bool) (h : a ≠ b) :
    getBit (setB a i v s) b j = getBit s b j := by simp [getBit, reg_setB_other s i v h]

end Sys2Proof.Machine
end

