-- ==== Sys2Proof/Laws/Access.lean ====
section
/-! SUPPORT. What an access to BAR0 comes to: the effect where the requester reaches the place, and otherwise a decode error, an
error answer, a record of a locked write, or nothing. -/

namespace Sys2Proof.Machine

open Sys2Proof

/-! ### The five outcomes of an access -/

theorem access_reaches {req : Requester} {a : Nat} {w : Bool} {s : State} (eff : State → State) (h : Reaches req a w s) :
    access req a w eff s = eff s := by
  obtain ⟨h1, h2, h3, h4⟩ := h
  unfold access
  rw [h1, h2]
  split
  · contradiction
  · split
    · contradiction
    · split
      · contradiction
      · rw [if_pos h4]

theorem access_early {req : Requester} {a : Nat} {w : Bool} {s : State} (eff : State → State) (h : arrives s req = false) :
    access req a w eff s = s := by
  simp [access, h]

theorem access_barred {req : Requester} {a : Nat} {w : Bool} {s : State} (eff : State → State) (h1 : arrives s req = true)
    (h2 : barred s req (decodeAddr s.variant a) w = true) : access req a w eff s = emit (.errorAnswer req a) s := by
  simp [access, h1, h2]

theorem access_hole {req : Requester} {a : Nat} {w : Bool} {s : State} (eff : State → State) (h1 : arrives s req = true)
    (h2 : barred s req (decodeAddr s.variant a) w = false) (h3 : decodeAddr s.variant a = .hole) :
    access req a w eff s = decodeError req a w s := by
  rw [h3] at h2
  simp [access, h1, h2, h3]

theorem access_noPath {req : Requester} {a : Nat} {w : Bool} {s : State} (eff : State → State) (h1 : arrives s req = true)
    (h2 : barred s req (decodeAddr s.variant a) w = false) (h3 : decodeAddr s.variant a ≠ .hole)
    (h4 : hasPath s req.toNat (matrixTarget (decodeAddr s.variant a)) = false) :
    access req a w eff s = sparseError req req.toNat (matrixTarget (decodeAddr s.variant a)) a s := by
  unfold access
  rw [h1, h2]
  split
  · contradiction
  · split
    · contradiction
    · split
      · contradiction
      · rw [if_neg (by simp [h4])]

/-! ### Writes -/

theorem hostWrite_reaches {req : Requester} {a : Nat} {s : State} (eff : State → State) (h : WriteReaches req a s) :
    hostWrite req a eff s = eff s := by
  unfold hostWrite
  rw [access_reaches _ h.1, if_neg (by simp [h.2])]

theorem hostWrite_locked {req : Requester} {a : Nat} {s : State} (eff : State → State) (h : Reaches req a true s)
    (hl : lockStops s req (decodeAddr s.variant a) = true) : hostWrite req a eff s = recordLocked req a s := by
  unfold hostWrite
  rw [access_reaches _ h, if_pos hl]

theorem sizedAccess_reaches {req : Requester} {a n : Nat} {w : Bool} {s : State} (eff : State → State) (h : Reaches req a w s)
    (hd : decodeFails s a n w = false) : sizedAccess req a n w eff s = eff s := by
  unfold sizedAccess
  rw [hd, Bool.false_and, Bool.false_and, if_neg Bool.false_ne_true, access_reaches _ h]

theorem sizedAccess_fails {req : Requester} {a n : Nat} {w : Bool} {s : State} (eff : State → State) (hd : decodeFails s a n w = true)
    (h1 : arrives s req = true) (h2 : barred s req (decodeAddr s.variant a) w = false) :
    sizedAccess req a n w eff s = decodeError req a w s := by
  simp [sizedAccess, hd, h1, h2]

theorem sizedWrite_reaches {req : Requester} {a n : Nat} {s : State} (eff : State → State) (h : WriteReaches req a s)
    (hd : decodeFails s a n true = false) : sizedWrite req a n eff s = eff s := by
  unfold sizedWrite
  rw [sizedAccess_reaches _ h.1 hd]
  simp [h.2]

theorem sizedWrite_locked {req : Requester} {a n : Nat} {s : State} (eff : State → State) (h : Reaches req a true s)
    (hd : decodeFails s a n true = false) (hl : lockStops s req (decodeAddr s.variant a) = true)
    (hp : isPageLock s.variant a = false) : sizedWrite req a n eff s = recordLocked req a s := by
  unfold sizedWrite
  rw [sizedAccess_reaches _ h hd]
  simp [hl, hp]

/-! ### Where registers stand -/

/-- Every page begins at a multiple of 4 KiB (R84). -/
theorem pageBase_mod (p : Page) : pageBase p % 0x1000 = 0 := by
  unfold pageBase wellBase
  split <;> (try split) <;> omega

/-- The pages below 0x0001_0000. -/
theorem decodeFull_low {b o : Nat} {k : PageKind} (hk : lowPages[b / 0x1000]? = some k) (hb : b % 0x1000 = 0) (h16 : b < 0x10000)
    (ho : o < 0x1000) : decodeFull (b + o) = .page ⟨k, 0⟩ o := by
  have h1 : (b + o) / 0x1000 = b / 0x1000 := by omega
  have h2 : (b + o) % 0x1000 = o := by omega
  unfold decodeFull
  rw [if_pos (by omega), h1, h2, hk]
  rfl

theorem decodeFull_well {w o : Nat} (hw : w < 304) (ho : o < 0x1000) : decodeFull (wellBase w + o) = .page (wellPage w) o := by
  unfold wellBase
  split
  · have h1 : (0x100000 + 0x1000 * w + o - 0x100000) / 0x1000 = w := by omega
    have h2 : (0x100000 + 0x1000 * w + o) % 0x1000 = o := by omega
    unfold decodeFull
    iterate 12 rw [if_neg (by omega)]
    rw [if_pos (by omega), h1, h2]
  · have h1 : (0x280000 + 0x1000 * (w - 256) + o - 0x280000) / 0x1000 + 256 = w := by omega
    have h2 : (0x280000 + 0x1000 * (w - 256) + o) % 0x1000 = o := by omega
    unfold decodeFull
    iterate 14 rw [if_neg (by omega)]
    rw [if_pos (by omega), h1, h2]

/-- The address of an offset of a page that the part has decodes to it (R84, R85). -/
theorem decodeAddr_page {v : Variant} {p : Page} {o : Nat} (h : p.present v = true) (ho : o < pageSize p) :
    decodeAddr v (pageBase p + o) = .page p o := by
  have hd : decodeFull (pageBase p + o) = .page p o := by
    obtain ⟨k, n⟩ := p
    cases k <;> simp only [Page.present, pageSize, beq_iff_eq, decide_eq_true_eq] at h ho <;> (try subst h)
    case tw =>
      have hn : n < 160 := by cases v <;> simp [Variant.tapWells, Variant.columns] at h <;> omega
      simp only [pageBase]
      rw [decodeFull_well (by omega) ho, wellPage, if_pos hn]
    case pw =>
      have hn : n < 128 := by cases v <;> simp [Variant.hasPortWell] at h <;> omega
      simp only [pageBase]
      rw [decodeFull_well (by omega) ho, wellPage, if_neg (by omega), if_pos (by omega), Nat.add_sub_cancel_left]
    case hw =>
      simp only [pageBase]
      rw [decodeFull_well (by omega) ho, wellPage, if_neg (by omega), if_neg (by omega), Nat.add_sub_cancel_left]
    case pe =>
      have hn : n < 128 := by cases v <;> simp [Variant.pumps] at h <;> omega
      simp only [pageBase]
      have h1 : (0x200000 + 0x1000 * n + o - 0x200000) / 0x1000 = n := by omega
      have h2 : (0x200000 + 0x1000 * n + o) % 0x1000 = o := by omega
      unfold decodeFull
      iterate 13 rw [if_neg (by omega)]
      rw [if_pos (by omega), h1, h2]
    case col =>
      have hn : n < 10 := by cases v <;> simp [Variant.columns] at h <;> omega
      simp only [pageBase]
      have h1 : (0x300000 + 0x10000 * n + o - 0x300000) / 0x10000 = n := by omega
      have h2 : (0x300000 + 0x10000 * n + o) % 0x10000 = o := by omega
      unfold decodeFull
      iterate 16 rw [if_neg (by omega)]
      rw [if_pos (by omega), h1, h2]
    case mac | gate | police | ddr =>
      simp only [pageBase]
      unfold decodeFull
      repeat rw [if_neg (by omega)]
      rw [if_pos (by omega)]
      congr 2 <;> omega
    case cistern | pcie | xspi | i2c | census =>
      simp only [pageBase]
      unfold decodeFull
      repeat rw [if_neg (by omega)]
      rw [if_pos (by omega)]
      congr 1
      omega
    all_goals exact decodeFull_low rfl (by decide) (by decide) ho
  unfold decodeAddr
  rw [hd]
  simp [Target.present, h]

end Sys2Proof.Machine
end

