-- ==== Sys2Proof/Laws/Memory.lean ====
section
/-! SUPPORT. Every memory operation keeps its store in the canonical form, and what it leaves of the other stores. -/

namespace Sys2Proof.Machine

open Sys2Proof

theorem reset_memory_wf : Memory.wf State.reset.mem = true ∧ Dram.wf State.reset.dram = true ∧ Registers.wf State.reset.regs = true := by decide

theorem setMemByte_wf (a : Nat) (b : Byte) (s : State) (h : Memory.wf s.mem = true) : Memory.wf (setMemByte a b s).mem = true :=
  SMap.wf_set a b h

/-- Writing bytes to the windows of BAR0 keeps their canonical form. -/
theorem writeMem_wf (bs : List Byte) (a : Nat) (s : State) (h : Memory.wf s.mem = true) : Memory.wf (writeMem a bs s).mem = true := by
  induction bs generalizing a s with
  | nil => exact h
  | cons b r ih => exact ih (a + 1) _ (setMemByte_wf a b s h)

/-- Taking a range of bytes back to what unlisted bytes read as keeps the canonical form. -/
theorem dropRange_mem_wf (lo n : Nat) (m : List Host.Cell) (h : Memory.wf m = true) : Memory.wf (SMap.dropRange m lo n) = true :=
  SMap.wf_dropRange lo n h

/-- Writing bytes to DRAM keeps its canonical form. -/
theorem writeDram_wf (bs : List Byte) (a : Nat) (s : State) (h : Dram.wf s.dram = true) : Dram.wf (writeDram a bs s).dram = true := by
  induction bs generalizing a s with
  | nil => exact h
  | cons b r ih => exact ih (a + 1) _ (SMap.rising_put b (Nat.zero_le a) h)

theorem setReg_wf (a : Nat) (v : Word) (s : State) (h : Registers.wf s.regs = true) : Registers.wf (setReg a v s).regs = true :=
  SMap.wf_set a v h

/-- Writing flash touches no other store. -/
theorem writeFlash_frame (bs : List Byte) (a : Nat) (s : State) : ∃ w, writeFlash a bs s = { s with wellhead := w } := by
  induction bs generalizing a s with
  | nil => exact ⟨s.wellhead, rfl⟩
  | cons b r ih =>
    obtain ⟨w, hw⟩ := ih (a + 1) (modWh (fun w => { w with flash := SMap.set flashDefault w.flash a b }) s)
    exact ⟨w, hw⟩

/-- Writing bytes to the windows of BAR0 changes nothing else. -/
theorem writeMem_frame (bs : List Byte) (a : Nat) (s : State) : ∃ m, writeMem a bs s = { s with mem := m } := by
  induction bs generalizing a s with
  | nil => exact ⟨s.mem, rfl⟩
  | cons b r ih =>
    obtain ⟨m, hm⟩ := ih (a + 1) (setMemByte a b s)
    exact ⟨m, hm⟩

/-- Writing bytes to DRAM changes nothing else. -/
theorem writeDram_frame (bs : List Byte) (a : Nat) (s : State) : ∃ m, writeDram a bs s = { s with dram := m } := by
  induction bs generalizing a s with
  | nil => exact ⟨s.dram, rfl⟩
  | cons b r ih =>
    obtain ⟨m, hm⟩ := ih (a + 1) { s with dram := SMap.put s.dram a b }
    exact ⟨m, hm⟩

/-- What a byte of DRAM reads as after bytes are written elsewhere. -/
theorem dramByte_writeDram (bs : List Byte) (s : State) (a b : Nat) (h : b < a ∨ a + bs.length ≤ b) :
    dramByte (writeDram a bs s) b = dramByte s b := by
  induction bs generalizing a s with
  | nil => rfl
  | cons x r ih =>
    simp only [List.length_cons] at h
    unfold writeDram
    rw [ih _ (a + 1) (by omega)]
    exact (SMap.get_put _ _ _ _ _).trans (if_neg (by omega))

end Sys2Proof.Machine
end

