-- ==== Sys2Proof/Laws/Ops.lean ====
section
/-! SUPPORT. What each shared operation over a page does: interrupts, faults, phases, and the records of stopped writes and decode
errors. -/

namespace Sys2Proof.Machine

open Sys2Proof

/-! ### Repeating an operation -/

/-- What an operation keeps, its repetition keeps. -/
theorem forEach_keeps {α : Type} (P : State → Prop) (f : α → State → State) (l : List α)
    (hf : ∀ x ∈ l, ∀ t, P t → P (f x t)) {s : State} (h : P s) : P (forEach l f s) := by
  unfold forEach
  induction l generalizing s with
  | nil => exact h
  | cons x r ih =>
    exact ih (fun y hy => hf y (List.mem_cons_of_mem _ hy)) (hf x List.mem_cons_self _ h)

theorem whenB_keeps (P : State → Prop) (b : Bool) (f : State → State) (hf : ∀ t, P t → P (f t)) {s : State} (h : P s) :
    P (whenB b f s) := by
  unfold whenB
  split
  · exact hf _ h
  · exact h

@[simp] theorem whenB_true (f : State → State) (s : State) : whenB true f s = f s := rfl
@[simp] theorem whenB_false (f : State → State) (s : State) : whenB false f s = s := rfl
@[simp] theorem forEach_nil {α : Type} (f : α → State → State) (s : State) : forEach [] f s = s := rfl
@[simp] theorem forEach_cons {α : Type} (x : α) (l : List α) (f : α → State → State) (s : State) :
    forEach (x :: l) f s = forEach l f (f x s) := rfl

/-! ### Frames -/

variable {l : List Nat} {s t : State}

theorem SameRegsBut.refl (l : List Nat) (s : State) : SameRegsBut l s s := fun _ _ => rfl

theorem SameRegsBut.setReg (h : SameRegsBut l s t) {a : Nat} (v : Word) (ha : a ∈ l) : SameRegsBut l s (setReg a v t) := by
  intro b hb
  have hab : a ≠ b := fun e => hb (e ▸ ha)
  rw [reg_setReg_other _ _ hab, h b hb]

theorem OnlyRegs.refl (l : List Nat) (s : State) : OnlyRegs l s s := ⟨⟨s.regs, rfl⟩, .refl l s⟩

theorem OnlyRegs.setReg (h : OnlyRegs l s t) {a : Nat} (v : Word) (ha : a ∈ l) : OnlyRegs l s (setReg a v t) := by
  obtain ⟨⟨r, rfl⟩, h2⟩ := h
  exact ⟨⟨_, rfl⟩, h2.setReg v ha⟩

theorem OnlyRegs.setF (h : OnlyRegs l s t) {a : Nat} (lo w v : Nat) (ha : a ∈ l) : OnlyRegs l s (setF a lo w v t) := h.setReg _ ha

theorem OnlyRegs.setB (h : OnlyRegs l s t) {a : Nat} (i : Nat) (b : Bool) (ha : a ∈ l) : OnlyRegs l s (setB a i b t) := h.setReg _ ha

theorem OnlyRegs.bumpF (h : OnlyRegs l s t) {a : Nat} (lo w : Nat) (ha : a ∈ l) : OnlyRegs l s (bumpF a lo w t) := h.setReg _ ha

theorem OnlyRegs.wrapF (h : OnlyRegs l s t) {a : Nat} (lo w : Nat) (ha : a ∈ l) : OnlyRegs l s (wrapF a lo w t) := h.setReg _ ha

theorem OnlyRegs.toOut (h : OnlyRegs l s t) : OnlyRegsOut l s t := by
  obtain ⟨⟨r, rfl⟩, h2⟩ := h
  exact ⟨⟨r, s.out, rfl⟩, h2⟩

theorem OnlyRegsOut.refl (l : List Nat) (s : State) : OnlyRegsOut l s s := (OnlyRegs.refl l s).toOut

theorem OnlyRegsOut.setReg (h : OnlyRegsOut l s t) {a : Nat} (v : Word) (ha : a ∈ l) : OnlyRegsOut l s (setReg a v t) := by
  obtain ⟨⟨r, o, rfl⟩, h2⟩ := h
  exact ⟨⟨_, _, rfl⟩, h2.setReg v ha⟩

theorem OnlyRegsOut.setF (h : OnlyRegsOut l s t) {a : Nat} (lo w v : Nat) (ha : a ∈ l) : OnlyRegsOut l s (setF a lo w v t) :=
  h.setReg _ ha

theorem OnlyRegsOut.setB (h : OnlyRegsOut l s t) {a : Nat} (i : Nat) (b : Bool) (ha : a ∈ l) : OnlyRegsOut l s (setB a i b t) :=
  h.setReg _ ha

theorem OnlyRegsOut.bumpF (h : OnlyRegsOut l s t) {a : Nat} (lo w : Nat) (ha : a ∈ l) : OnlyRegsOut l s (bumpF a lo w t) :=
  h.setReg _ ha

theorem OnlyRegsOut.emit (h : OnlyRegsOut l s t) (e : Emission) : OnlyRegsOut l s (emit e t) := by
  obtain ⟨⟨r, o, rfl⟩, h2⟩ := h
  exact ⟨⟨_, _, rfl⟩, h2⟩

theorem OnlyRegsOut.intEdge (h : OnlyRegsOut l s t) (p : Page) (b : State) : OnlyRegsOut l s (intEdge p b t) := by
  unfold Machine.intEdge
  split
  · exact h.emit _
  · exact h

theorem OnlyRegsOut.setInt (h : OnlyRegsOut l s t) (p : Page) (i : Nat) (ha : Reg.INT_STATUS p ∈ l) : OnlyRegsOut l s (setInt p i t) :=
  (h.setB i true ha).intEdge p t

/-- Registers and what leaves are beside the bytes of memory. -/
theorem OnlyRegsOut.sameBytes (h : OnlyRegsOut l s t) : SameBytes s t := by
  obtain ⟨⟨r, o, rfl⟩, -⟩ := h
  exact ⟨fun _ => rfl, fun _ => rfl⟩

/-! ### Interrupts (R92) -/

theorem reg_intEdge (p : Page) (b s : State) (a : Nat) : reg (intEdge p b s) a = reg s a := by
  unfold intEdge
  split <;> rfl

theorem reg_setInt (p : Page) (i : Nat) (s : State) (a : Nat) : reg (setInt p i s) a = reg (setB (Reg.INT_STATUS p) i true s) a :=
  reg_intEdge _ _ _ _

theorem reg_setInt_other (p : Page) (i : Nat) (s : State) {a : Nat} (h : Reg.INT_STATUS p ≠ a) : reg (setInt p i s) a = reg s a := by
  rw [reg_setInt, reg_setB_other _ _ _ h]

theorem getBit_setInt (p : Page) (i : Nat) (s : State) (h : i < 32) : getBit (setInt p i s) (Reg.INT_STATUS p) i = true := by
  unfold getBit
  rw [reg_setInt, reg_setB_same, bitOf_setFld_one _ _ _ h]

/-- The one message leaves where the request was not active and now is (R92). -/
theorem setInt_out (p : Page) (i : Nat) (s : State) :
    (setInt p i s).out =
      if !intActive s p && intActive (setB (Reg.INT_STATUS p) i true s) p then .msix (getF s (Reg.INT_ENABLE p) 26 6) :: s.out else s.out := by
  have h : getF (setB (Reg.INT_STATUS p) i true s) (Reg.INT_ENABLE p) 26 6 = getF s (Reg.INT_ENABLE p) 26 6 := by
    unfold getF
    rw [reg_setB_other]
    simp [Reg.INT_STATUS, Reg.INT_ENABLE]
  unfold setInt intEdge
  split
  · simp [sendInt, h]
  · rfl

/-! ### Faults (R535) -/

theorem setFault_frame (p : Page) (i : Nat) (s : State) : ∃ r f, setFault p i s = { s with regs := r, flt := f } := by
  unfold setFault
  split
  · exact ⟨s.regs, s.flt, rfl⟩
  · dsimp only
    split
    · exact ⟨_, _, rfl⟩
    · exact ⟨_, s.flt, rfl⟩

theorem reg_setFault_other (p : Page) (i : Nat) (s : State) {a : Nat} (h : Reg.FAULT_STATUS p ≠ a) :
    reg (setFault p i s) a = reg s a := by
  unfold setFault
  split
  · rfl
  · dsimp only
    split
    · rw [reg_sendRaise, reg_setB_other _ _ _ h]
    · rw [reg_setB_other _ _ _ h]

theorem getBit_setFault (p : Page) (i : Nat) (s : State) (h : i < 32) : getBit (setFault p i s) (Reg.FAULT_STATUS p) i = true := by
  unfold setFault
  split
  · assumption
  · dsimp only
    split
    · rw [getBit, reg_sendRaise]
      exact getBit_setB_same _ _ _ _ h
    · exact getBit_setB_same _ _ _ _ h

/-! ### Phases (R89, R90) -/

theorem refreshStatus_frame (p : Page) (s : State) : OnlyRegs [Reg.STATUS p] s (refreshStatus p s) :=
  (((OnlyRegs.refl _ s).setB 0 _ (by simp)).setB 1 _ (by simp)).setB 2 _ (by simp)

theorem reg_refreshStatus_other (p : Page) (s : State) {a : Nat} (h : Reg.STATUS p ≠ a) : reg (refreshStatus p s) a = reg s a := by
  unfold refreshStatus
  dsimp only
  rw [reg_setB_other _ _ _ h, reg_setB_other _ _ _ h, reg_setB_other _ _ _ h]

theorem setPhase_frame (p : Page) (ph : Phase) (s : State) :
    (∃ r f, setPhase p ph s = { s with regs := r, bus := { s.bus with phase := f } }) ∧ SameRegsBut [Reg.STATUS p] s (setPhase p ph s) := by
  obtain ⟨⟨r, h1⟩, h2⟩ := refreshStatus_frame p { s with bus := { s.bus with phase := SMap.set (fun _ => Phase.off) s.bus.phase (pageBase p) ph } }
  exact ⟨⟨r, _, h1⟩, h2⟩

theorem reg_setPhase_other (p : Page) (ph : Phase) (s : State) {a : Nat} (h : Reg.STATUS p ≠ a) :
    reg (setPhase p ph s) a = reg s a := by
  unfold setPhase
  rw [reg_refreshStatus_other p _ h]
  rfl

@[simp] theorem phase_setReg (s : State) (a : Nat) (v : Word) (p : Page) : phase (setReg a v s) p = phase s p := rfl
@[simp] theorem phase_setB (s : State) (a i : Nat) (b : Bool) (p : Page) : phase (setB a i b s) p = phase s p := rfl

theorem phase_setPhase (p : Page) (ph : Phase) (s : State) : phase (setPhase p ph s) p = ph :=
  SMap.get_set_same _ _ _ _

theorem phase_setPhase_other (p q : Page) (ph : Phase) (s : State) (h : pageBase p ≠ pageBase q) :
    phase (setPhase p ph s) q = phase s q := SMap.get_set_other _ _ _ h

/-- READY, BUSY and PENDING_ON as the phase gives them. -/
theorem status_setPhase (p : Page) (ph : Phase) (s : State) :
    getBit (setPhase p ph s) (Reg.STATUS p) 0 = (ph == .running) ∧
      getBit (setPhase p ph s) (Reg.STATUS p) 1 =
        (committing s p || (match ph with | .starting | .stopping | .pendingOn | .resetting => true | _ => false)) := by
  have hp : phase { s with bus := { s.bus with phase := SMap.set (fun _ => Phase.off) s.bus.phase (pageBase p) ph } } p = ph :=
    SMap.get_set_same _ _ _ _
  have ha : committing { s with bus := { s.bus with phase := SMap.set (fun _ => Phase.off) s.bus.phase (pageBase p) ph } } p
      = committing s p := rfl
  unfold setPhase refreshStatus
  dsimp only
  rw [hp, ha]
  constructor
  · rw [getBit_setB_beside _ _ _ _ _ (by decide) (by decide), getBit_setB_beside _ _ _ _ _ (by decide) (by decide),
      getBit_setB_same _ _ _ _ (by decide)]
  · rw [getBit_setB_beside _ _ _ _ _ (by decide) (by decide), getBit_setB_same _ _ _ _ (by decide)]
    all_goals (cases ph <;> rfl)

/-! ### Records of stopped writes and decode errors (R111, R114) -/

theorem recordLocked_frame (req : Requester) (a : Nat) (s : State) :
    OnlyRegsOut [Reg.INT_STATUS glbPage, Reg.GLB_LOCK_ADDR, Reg.GLB_LOCK_INFO] s (recordLocked req a s) := by
  unfold recordLocked
  dsimp only
  split
  · exact ((((OnlyRegsOut.refl _ s).setReg _ (by simp)).setReg _ (by simp)).bumpF _ _ (by simp)).setInt _ _ (by simp)
  · exact ((OnlyRegsOut.refl _ s).bumpF _ _ (by simp)).setInt _ _ (by simp)

theorem recordDecode_frame (req : Requester) (a : Nat) (w : Bool) (s : State) :
    OnlyRegsOut [Reg.INT_STATUS glbPage, Reg.GLB_DECODE_ADDR, Reg.GLB_DECODE_INFO] s (recordDecode req a w s) := by
  unfold recordDecode
  dsimp only
  split
  · exact ((((OnlyRegsOut.refl _ s).setReg _ (by simp)).setReg _ (by simp)).bumpF _ _ (by simp)).setInt _ _ (by simp)
  · exact ((OnlyRegsOut.refl _ s).bumpF _ _ (by simp)).setInt _ _ (by simp)

end Sys2Proof.Machine
end

