-- ==== Sys2Proof/Laws/Wellhead.lean ====
section
/-! SUPPORT. Laws of the boot flash, of bytes and numbers, and of the length of a SHAKE256 output. -/

namespace Sys2Proof.Machine

open Sys2Proof

/-! ### Bytes -/

@[simp] theorem toBytes_length (k n : Nat) : (toBytes k n).length = k := by
  induction k generalizing n with
  | zero => rfl
  | succ k ih => simp [toBytes, ih]

/-- A number that fits its bytes is what they say. -/
theorem ofBytes_toBytes (k n : Nat) (h : n < 256 ^ k) : ofBytes (toBytes k n) = n := by
  induction k generalizing n with
  | zero => simp only [Nat.pow_zero] at h; simp [toBytes, ofBytes]; omega
  | succ k ih =>
    have : n / 256 < 256 ^ k := by rw [Nat.pow_succ] at h; omega
    simp only [toBytes, ofBytes, ih _ this, BitVec.toNat_ofNat]
    omega

/-- Byte `i` of a number, among its bytes. -/
theorem toBytes_getElem (k n i : Nat) (h : i < (toBytes k n).length) : (toBytes k n)[i] = byteOf n i := by
  induction k generalizing n i with
  | zero => simp [toBytes] at h
  | succ k ih =>
    cases i with
    | zero => simp [toBytes, byteOf]
    | succ j =>
      have h' : j < (toBytes k (n / 256)).length := by simpa [toBytes] using h
      simp only [toBytes, List.getElem_cons_succ, ih _ _ h', byteOf]
      congr 1
      rw [Nat.div_div_eq_div_mul, show 8 * (j + 1) = 8 * j + 8 by omega, Nat.pow_add, Nat.mul_comm]

/-! ### The flash -/

/-- Writing flash changes the bytes written, and no other. -/
theorem flashByte_writeFlash (bs : List Byte) (s : State) (a b : Nat) (h : b < a ∨ a + bs.length ≤ b) :
    flashByte (writeFlash a bs s) b = flashByte s b := by
  induction bs generalizing a s with
  | nil => rfl
  | cons x r ih =>
    simp only [List.length_cons] at h
    unfold writeFlash
    rw [ih _ (a + 1) (by omega)]
    exact SMap.get_set_other _ _ _ (by omega)

theorem flashByte_writeFlash_at (bs : List Byte) (s : State) (a i : Nat) (h : i < bs.length) :
    flashByte (writeFlash a bs s) (a + i) = bs[i] := by
  induction bs generalizing a s i with
  | nil => simp at h
  | cons x r ih =>
    unfold writeFlash
    cases i with
    | zero =>
      rw [flashByte_writeFlash r _ (a + 1) _ (by omega)]
      exact SMap.get_set_same _ _ _ _
    | succ j =>
      rw [show a + (j + 1) = a + 1 + j by omega, ih _ (a + 1) j (by simpa using h)]
      rfl

/-- Bytes of flash apart from those written stand. -/
theorem flashBytes_writeFlash (bs : List Byte) (s : State) (a b n : Nat) (h : b + n ≤ a ∨ a + bs.length ≤ b) :
    flashBytes (writeFlash a bs s) b n = flashBytes s b n :=
  List.map_congr_left fun i hi => flashByte_writeFlash bs s a (b + i) (by have := List.mem_range.1 hi; omega)

/-- The bytes written are read back, a part of them as that part. -/
theorem flashBytes_writeFlash_at (bs : List Byte) (s : State) (a o n : Nat) (h : o + n ≤ bs.length) :
    flashBytes (writeFlash a bs s) (a + o) n = (bs.drop o).take n := by
  refine List.ext_getElem (by simp [flashBytes]; omega) fun i h1 h2 => ?_
  have hi : i < n := by simpa [flashBytes] using h1
  simp only [flashBytes, List.getElem_map, List.getElem_range, List.getElem_take, List.getElem_drop]
  rw [show a + o + i = a + (o + i) by omega]
  exact flashByte_writeFlash_at bs s a (o + i) (by omega)

/-! ### SHAKE256 -/

theorem keccakRound_length (a : List Nat) (rc : Nat) : (keccakRound a rc).length = 25 := by
  unfold keccakRound
  simp only
  split
  · next h => simpa using congrArg List.length h
  · next h => simpa using (congrArg List.length h).symm

theorem keccakF_length (a : List Nat) (h : a.length = 25) : (keccakF a).length = 25 := by
  unfold keccakF
  generalize keccakRc = l
  induction l generalizing a with
  | nil => exact h
  | cons x r ih => exact ih _ (keccakRound_length a x)

theorem absorb_length (n : Nat) (a : List Nat) (m : List Byte) (h : a.length = 25) : (absorb n a m).length = 25 := by
  induction n generalizing a m with
  | zero => exact h
  | succ n ih =>
    unfold absorb
    split
    · exact h
    · exact ih _ _ (keccakF_length _ (by simp))

/-- SHAKE256 gives as many bytes as are asked for, up to one block. -/
theorem shake256_length (m : List Byte) (n : Nat) (h : n ≤ 136) : (shake256 m n).length = n := by
  unfold shake256
  simp only [List.length_take, List.length_flatMap, toBytes_length, List.map_const', List.sum_replicate, List.length_take,
    absorb_length _ _ _ (List.length_replicate ..), smul_eq_mul]
  omega

end Sys2Proof.Machine
end

