-- ==== Sys2Proof/Tests/Base.lean ====
section
/-! SUPPORT. The small states that the tests and the witnesses start from. -/

namespace Sys2Proof.Tests

open Sys2Proof Sys2Proof.Machine

/-- A state with register words put at addresses. -/
def put (l : List (Nat × Nat)) (s : State) : State := l.foldl (fun t e => setReg e.1 (word e.2) t) s

/-- A stand-alone PE2560 in P7 with every clock running, the PCIe link up and no block but the always-on ones enabled. -/
def live : State := { State.reset with
  regs := [(Reg.GLB_PRIME_STATUS, 7), (Reg.CLK_SRC_STATUS, 0xCF)]
  pins := { State.reset.pins with lockout := false, pcieUp := true }
  time := { State.reset.time with counting := true, running := true, uptime := 1000000000, sec := 5, incr := 2 * 2 ^ 32 } }

/-- The same device in another stage. -/
def inStage (n : Nat) : State := put [(Reg.GLB_PRIME_STATUS, n)] live

/-- The PE1280 in P7. -/
def live1280 : State := { live with variant := .pe1280 }

/-- A slot with this role in force. -/
def withRole (slot r : Nat) (s : State) : State := setAct (Reg.SLOT_CFG slot) (word r) s

/-- The state that a command leaves; the state itself where it answers none. -/
def after (c : Instr) (s : State) : State :=
  match exec c s with
  | .next t => t
  | _ => s

end Sys2Proof.Tests
end

