-- ==== Sys2Proof/Tests/Slice0.lean ====
section
/-! SUPPORT. The tests: ill-formed commands that the check refuses, and the spec's own worked examples held against the model, one
operation or one step each. Every expected value stands in the spec's text or follows from its figures by hand. -/

namespace Sys2Proof.Tests

set_option Elab.async false

open Sys2Proof Sys2Proof.Machine

/-! ### Ill-formed commands -/

theorem test_wellFormed_pages :
    (Instr.enableOn 0 ⟨.tw, 80⟩).wellFormed .pe1280 = false ∧ (Instr.enableOff 0 ⟨.tw, 160⟩).wellFormed .pe2560 = false ∧
    (Instr.blockStartComplete ⟨.col, 5⟩).wellFormed .pe1280 = false ∧ (Instr.blockShutdownComplete ⟨.pe, 128⟩).wellFormed .pe2560 = false ∧
    (Instr.softReset 0 ⟨.pw, 128⟩).wellFormed .pe2560 = false ∧ (Instr.blockResetComplete ⟨.hw, 16⟩).wellFormed .pe2560 = false ∧
    (Instr.freeze 0 ⟨.mac, 4⟩ true).wellFormed .pe2560 = false ∧ (Instr.commit 0 ⟨.col, 10⟩).wellFormed .pe2560 = false ∧
    (Instr.commitAtEpoch 0 ⟨.glb, 1⟩).wellFormed .pe2560 = false ∧ (Instr.discard 0 ⟨.ddr, 4⟩).wellFormed .pe2560 = false ∧
    (Instr.pageLockWrite 0 ⟨.pe, 64⟩ 0).wellFormed .pe1280 = false ∧ (Instr.commit 0 ⟨.col, 9⟩).wellFormed .pe2560 = true := by
  decide

theorem test_wellFormed_columnsAndSlots :
    (Instr.eoJump 5).wellFormed .pe1280 = false ∧ (Instr.transitionStart 7).wellFormed .pe1280 = false ∧
    (Instr.eoCalStart 0 9 0 true true).wellFormed .pe1280 = false ∧ (Instr.eoCalComplete 6 ⟨[], [], []⟩ ⟨[], [], []⟩).wellFormed .pe1280 = false ∧
    (Instr.pwmFrameStart 5 0).wellFormed .pe1280 = false ∧ (Instr.bankOt 8 0).wellFormed .pe1280 = false ∧
    (Instr.htrCalStart 0 5).wellFormed .pe1280 = false ∧ (Instr.wakeComplete 1280).wellFormed .pe1280 = false ∧
    (Instr.eoChJump 0 2559 0 false).wellFormed .pe1280 = false ∧ (Instr.htrHostWrite 0 1280 0).wellFormed .pe1280 = false ∧
    (Instr.cellClr 0 320 0).wellFormed .pe1280 = false ∧ (Instr.injGo 0 639).wellFormed .pe1280 = false ∧
    (Instr.wakeComplete 2559).wellFormed .pe2560 = true := by
  decide

theorem test_wellFormed_wells :
    (Instr.stuck 80).wellFormed .pe1280 = false ∧ (Instr.pinStart 192).wellFormed .pe1280 = false ∧
    (Instr.refSelWrite 0 255 0).wellFormed .pe1280 = false ∧ (Instr.calStartInternal 0 159 1 1).wellFormed .pe1280 = false ∧
    (Instr.monitorImplausible ⟨511, []⟩).wellFormed .pe1280 = false ∧ (Instr.bind 0 40 0 0).wellFormed .pe1280 = false ∧
    (Instr.ilvStart 79).wellFormed .pe1280 = false ∧ (Instr.pwPlausClr 0 63).wellFormed .pe1280 = false ∧
    (Instr.pmReadPublish 0 []).wellFormed .pe2560 = false ∧ (Instr.stuck 303).wellFormed .pe2560 = true ∧ (Instr.stuck 192).wellFormed .pe1280 = false ∧
    (Instr.wellCalComplete 0 [⟨false, 16, 0, 0, 0, 0, 0⟩]).wellFormed .pe2560 = false ∧
    (Instr.wellCalComplete 0 [⟨false, 0, 0, 1048321, 0, 0, 0⟩]).wellFormed .pe2560 = false ∧
    (Instr.p4Complete [159]).wellFormed .pe1280 = false := by
  decide

theorem test_wellFormed_pumps :
    (Instr.loopCommit 0 64).wellFormed .pe1280 = false ∧ (Instr.fwUpdate 0 127).wellFormed .pe1280 = false ∧
    (Instr.pumpEccError 64).wellFormed .pe1280 = false ∧ (Instr.quickSelfTestComplete 32 true true).wellFormed .pe1280 = false ∧
    (Instr.tableBankLoaded 45 233).wellFormed .pe2560 = false ∧ (Instr.claimUpdate 48 233 0).wellFormed .pe2560 = false ∧
    (Instr.missingUpdate 47 233).wellFormed .pe2560 = true ∧ (Instr.loopUpdate 46 233 []).wellFormed .pe2560 = false ∧
    (Instr.p5Complete [64]).wellFormed .pe1280 = false := by
  decide

theorem test_wellFormed_data :
    (Instr.htrCalDone 0 [⟨512, 0, 0⟩]).wellFormed .pe2560 = false ∧ (Instr.siphonStreamStart 0 65).wellFormed .pe2560 = false ∧
    (Instr.siphonStart [⟨32, 0⟩]).wellFormed .pe2560 = false ∧ (Instr.captUnitWritten 0 []).wellFormed .pe2560 = false ∧
    (Instr.captStop 0 0 [⟨0, 0, 4, false, false, false, false, 0⟩]).wellFormed .pe2560 = false ∧
    (Instr.payload 0 [1024] []).wellFormed .pe2560 = false ∧ (Instr.health 0 (List.replicate 140 0)).wellFormed .pe2560 = false ∧
    (Instr.cellPowerEstimateRefresh [] 0).wellFormed .pe2560 = false ∧ (Instr.dramTrainingComplete 0 false 1).wellFormed .pe2560 = false ∧
    (Instr.pilotDecodeComplete 63 7).wellFormed .pe1280 = false ∧
    (Instr.skewCal ⟨0, 0, [1, 2, 3, 4, 5]⟩).wellFormed .pe2560 = false ∧
    (Instr.eoCalComplete 5 ⟨[], [], []⟩ ⟨[], [], []⟩).wellFormed .pe2560 = false ∧
    (Instr.xbarTimeout 13 0 0).wellFormed .pe1280 = false ∧ (Instr.presetData ⟨0, true, 0, [], []⟩).wellFormed .pe2560 = false ∧
    (Instr.prepareReceived 0 ⟨0, 0, 0, 0, 0, 0, 0, false, false, false, [], []⟩).wellFormed .pe2560 = false := by
  decide +kernel

/-! ### Numbers of resources and addresses -/

/-- The example of chapter 0: slot c3.t167 is slot 935, its cell, pump, twin, tap well and element. -/
theorem test_slot935_resources :
    primaryPump (935 / 4) = 46 ∧ twin 46 = 47 ∧ 935 / 16 = 58 ∧ Reg.SLOT_CFG 935 = 0x100E9C0 ∧ 935 / 4 = 233 ∧
    pageBase ⟨.col, 3⟩ = 0x330000 ∧ pageBase ⟨.pe, 46⟩ = 0x22E000 := by
  decide

/-- The example after R84. -/
theorem test_well_pages :
    pageBase ⟨.tw, 58⟩ = 0x13A000 ∧ pageBase ⟨.pw, 38⟩ = 0x1C6000 ∧ pageBase ⟨.pw, 70⟩ = 0x1E6000 ∧ pageBase ⟨.pw, 100⟩ = 0x284000 := by
  decide

/-- The example of R108: the shadow of SLOT_CFG, its active view and COL_3's SHADOW_CTRL. -/
theorem test_shadow_addresses :
    isShadowed 0x100E9C0 = true ∧ decodeFull 0x108E9C0 = .slotActive 935 0 ∧ decodeFull 0x33001C = .page ⟨.col, 3⟩ 0x1C ∧ Reg.SHADOW_CTRL ⟨.col, 3⟩ = 0x33001C := by
  decide

/-! ### Registers -/

/-- The example of R100: shadow 0 holds 2 although the count has gone on to 3. -/
theorem test_uptime_halves :
    let s := { live with time := { live.time with uptime := 0x2FFFFFFF0 } }
    let t := after (.lowHalfRead 0 ⟨0x60, .four⟩) s
    let u := { t with time := { t.time with uptime := 0x30000000E } }
    readWord s 0x60 = 0xFFFFFFF0 ∧ highValue u 0 0x60 = 2 ∧ highValue u 1 0x60 = 3 := by
  decide

/-- PAGE_LOCK takes its key only (R109). -/
theorem test_pageLock_key :
    getBit (after (.pageLockWrite 0 ⟨.time, 0⟩ 0x5AFE0001) live) (Reg.PAGE_LOCK ⟨.time, 0⟩) 0 = true ∧
    getBit (after (.pageLockWrite 0 ⟨.time, 0⟩ 0x5AFF0001) live) (Reg.PAGE_LOCK ⟨.time, 0⟩) 0 = false := by
  decide

/-- The example of R116: PCIE_BAR2_BASE 0x040 places the window at 4 GiB. -/
theorem test_bar2_base :
    let s := put [(Reg.PCIE_BAR2_BASE, 0x40)] { live with dramSize := 2 ^ 33 }
    dramByte (after (.bar2Access 0 5 .one (some 0x77)) s) 0x100000005 = 0x77 := by
  decide

/-! ### Edge shaping -/

/-- The example of chapter 6: v = 1.25 and v = −0.5 between the swept extremes. -/
theorem test_mapped_samples :
    mapSample (level 1479 2617) (level 2617 1479) 0x5000 = level 2902 1194 ∧
    mapSample (level 1479 2617) (level 2617 1479) (-8192) = level 910 3186 := by
  decide

/-- The same example: a code below 0 is limited and counted as a clip. -/
theorem test_sample_clips :
    ep (mapSample (level 300 2000) (level 1500 800) (-8192)) = 0 ∧ sampleClips (level 300 2000) (level 1500 800) (-8192) = true ∧
    sampleClips (level 1479 2617) (level 2617 1479) 0x5000 = false := by
  decide

/-- DITHER_AMP 30 at a Vπ of 2,276 LSB is limited to 22 (R194). -/
theorem test_dither_limit :
    (ditherAmp (setAct (Reg.EO_BAR 0) (level 1479 2617) (setAct (Reg.EO_CROSS 0) (level 2617 1479)
      (setAct (Reg.EO_DITHER 0) (30 * 65536) live))) 0).1 = 22 := by
  decide

/-- The directory entry of segment 40 (chapter 6). -/
theorem test_segment40 :
    let s := put [(0x308280, 0x80004000), (0x308284, 0x20000018), (0x308288, 0x429), (0x30828C, 0x803C)] live
    segValid s 40 = true ∧ segStart s 40 = 0x4000 ∧ segLen s 40 = 25 ∧ segStep s 40 = 0x2000 ∧ ceilDiv (segLen s 40 * 16384) (segStep s 40) = 50 := by
  decide

/-! ### Heater drive -/

/-- A bipolar code of −12,000 gives HB 24,000 (chapter 7). -/
theorem test_bipolar_code : magnitudes true (65536 - 12000) = (0, 24000) ∧ 24000 = 64 * 375 := by decide

/-- The budget example: 53,718 scales 40,000 to 32,786 (R249). -/
theorem test_scaled_magnitude :
    65536 * 20000 / 24400 = 53718 ∧ scaledMag (put [(Reg.HTR_BUDGET_STATUS, 53718 * 65536 + 1)] live) 40000 = 32786 := by
  decide

/-! ### Hold loops -/

/-- An OBSERVER of ten states costs 197 cycles (chapter 8), and pair 16 counts in pump 33's cells. -/
theorem test_observer_cost :
    updateCost (withRole 660 1 (withRole 661 1 (withRole 662 1 (withRole 663 1 (put [(Reg.CELL_BANK 165 384, 0xA1A)] live))))) 165 1 = 197 ∧
    primaryPump 165 = 33 := by
  decide

/-- KZ row 2 of bank 1 of cell 165 holds 0x6666 at EXP −6 (chapter 8). -/
theorem test_kz_row :
    let s := put [(0x18A5E38, 0xFA), (0x18A5E40, 0x6666)] live
    (rowKZ s 165 1 2)[2]? = some ⟨0x6666, -6 - 15⟩ ∧ (rowKZ s 165 1 2)[1]? = some ⟨0, -6 - 15⟩ := by
  decide

/-- The applied value of code 6,050 on a bipolar slot is 6,050 / 32,768, and the update writes it back (chapter 8). -/
theorem test_code_value :
    let s := setAct (Reg.HTR_CFG 662) 1 live
    codeOf s 662 (codeValue s 662 6050) = 6050 ∧ codeOf s 662 ⟨6350, -15⟩ = 6350 := by
  decide

/-- Rounding to the nearest even (R281). -/
theorem test_rounding : rneDiv 5 2 = 2 ∧ rneDiv 7 2 = 4 ∧ rneDiv (-5) 2 = -2 ∧ rneDiv (-7) 4 = -2 := by decide

/-- CRC-32 of the check string of IEEE 802.3 (R287). -/
theorem test_crc32 : crc32 [0x31, 0x32, 0x33, 0x34, 0x35, 0x36, 0x37, 0x38, 0x39] = 0xCBF43926 := by decide +kernel

/-! ### Light sensing -/

/-- The calibration example of chapter 10: both measurements and the stored values. -/
theorem test_cal_values :
    calValues 256 15680 830336 16000000 2000000 = (980, 32951) ∧ calValues 256 15712 830400 16000000 2000000 = (982, 32949) ∧
    calValues 512 31392 1660736 16000000 2000000 = (981, 32950) := by
  decide

/-- The same example: raw code 1,650 becomes 12,780. -/
theorem test_calibrated_sample :
    calSample (put [(Reg.CH_CAL 41 25, 981 * 65536 + 32950), (Reg.CH_STATUS 41 6, 1)] live) 41 6 1650 = 12780 := by
  decide

/-! ### Verdicts -/

/-- The pilot frame of input 300 with SWITCH_ID 5 (chapter 11). -/
theorem test_pilot_frame : pilotFrame 5 300 = 0xB4152CD2 := by decide +kernel

/-- The monitor entries of chapter 11's example serve port 300 on the input side and port 77 on the output side. -/
theorem test_monitor_entries :
    monitorFor (setAct (Reg.VRD_MON 300) 0x0078812C live) 300 0 = some 300 ∧
    monitorFor (setAct (Reg.VRD_MON 77) 0x0050844D live) 77 1 = some 77 := by
  decide +kernel

/-! ### Capture -/

/-- A block unit whose peak is 5,000 takes e = 13, byte 13 − 7, and 4,321 becomes 68 (chapter 12). -/
theorem test_block_unit : blockExponent [5000, 4321] = 13 - 7 ∧ roundHalfEven 4321 64 = 68 := by decide

/-! ### Time -/

/-- The step of chapter 14 makes T-format time 1,760,000,042.4 s and sets STEP_USED. -/
theorem test_time_step :
    let s := put [(Reg.TIME_STEP_A_LO, 0x68E7782A), (Reg.TIME_STEP_B, 400000000)] live
    let t := (after (.step 0) s)
    t.time.step.isSome = true ∧ ptpNow (applyStep 0 0x68E7782A 400000000 s) = 1760000042400000000 := by
  decide

/-- The increment and the slew of chapter 14 are within ±500 ppm; an increment of 2.5 ns is not. -/
theorem test_time_increment :
    incrOk 0x20001A36E = true ∧ incrOk 0x1FFD512EC = true ∧ incrOk 0x280000000 = false ∧
    2920578 * 500000 / 2 ^ 32 = 340 ∧ 0x20001A36E - 0x1FFD512EC = 2920578 := by
  decide

/-! ### Control ports -/

/-- The list of chapter 15's example in bank A of GATE_0, in force. -/
def gatedPort : State :=
  let s := put [(Reg.GCL_A 0 0, 0xFAC0), (Reg.GCL_A 0 1, 0x6D63F), (Reg.GCL_A 0 2, 0x1F4E0), (Reg.CTRL (gatePage 0), 1), (Reg.MAC_CFG 0, 2)] live
  setGate 0 ⟨some ⟨0, 0, 20000, 3, true⟩, none⟩ s

theorem test_gate_entries :
    listEntries gatedPort 0 ⟨0, 0, 20000, 3, true⟩ = [(0xC0, 2000), (0x3F, 14000), (0xE0, 4000)] ∧
    trimEntries 20000 [0xFAC0, 0x6D63F] = [(0xC0, 2000), (0x3F, 18000)] := by
  decide

theorem test_longest_windows :
    longestWindow gatedPort 0 7 = some 6000 ∧ longestWindow gatedPort 0 6 = some 6000 ∧ longestWindow gatedPort 0 5 = some 18000 ∧
    longestWindow gatedPort 0 3 = some 14000 := by
  decide

/-- 816 ns for 1,000 bytes and 7,388.8 ns for 9,216 bytes at 10 Gbit/s, in 1/25 of a nanosecond. -/
theorem test_transmit_time :
    txTime (put [(Reg.MAC_CFG 0, 1), (Reg.MAC_TX_OVH 0, 20)] live) 0 1000 = 1020 * 8 ∧
    txTime (put [(Reg.MAC_CFG 0, 1), (Reg.MAC_TX_OVH 0, 20)] live) 0 9216 = 9236 * 8 := by
  decide

/-! ### Events, faults and heat -/

/-- EPOCH_START on channel 4 triggers CAPT_TRIG_12 subscribed to it (chapter 16). -/
theorem test_event_reaches_its_task :
    let s := setTaskChannel (128 + 12) (some 4) (put [(Reg.CTRL evtPage, 1)] live)
    subscribers s 4 = [128 + 12] := by
  decide +kernel

/-- The first raise of chapter 17's example: two bits of COL_2 in one cycle. -/
theorem test_first_fault :
    let s := setFault ⟨.col, 2⟩ 4 (setFault ⟨.col, 2⟩ 1 (put [(Reg.CTRL fltPage, 1)] live))
    s.flt.due.map (fun r => (r.source, r.inst)) = [(25, 2), (28, 2)] := by
  decide

/-- Limits in force at reset: WARN 105, THROTTLE 115 and SHUTDOWN 125 °C, in 1/16 °C (chapter 18). -/
theorem test_heat_limits : heatLimit live .die 0 = 105 * 16 ∧ heatLimit live .die 1 = 115 * 16 ∧ heatLimit live .die 2 = 125 * 16 := by decide

/-! ### Security and service -/

/-- The example of chapter 21: CEN_SIZE of every section and the sections' offsets. -/
theorem test_census_layout :
    censusUnits .pe2560 0x1FF = 745 ∧
    (layout .pe2560 (selectedSections 0x1FF)).1 = [(0, 0x1000), (1, 0xA000), (2, 0xF000), (3, 0x1E000), (4, 0xBE000), (5, 0x13E000), (6, 0x26E000),
      (7, 0x296000), (8, 0x2E6000)] := by
  decide +kernel

/-- SHAKE256 of the empty message begins 46B9DD2B0BA88D13 (FIPS 202). -/
theorem test_shake256_empty : shake256 [] 8 = [0x46, 0xB9, 0xDD, 0x2B, 0x0B, 0xA8, 0x8D, 0x13] := by decide +kernel

end Sys2Proof.Tests
end

