-- ==== Sys2Proof/Tests/WitnessA.lean ====
section
/-! SUPPORT. Witnesses: concrete states and operands that meet the hypotheses of the statements about steps, register pages, resets and
priming, clause by clause. -/

namespace Sys2Proof.Tests

set_option Elab.async false

open Sys2Proof Sys2Proof.Machine

theorem test_witness_FrontCommandIsExecuted : { live with pending := [.snap 0] }.pending = .snap 0 :: [] := by decide

theorem test_witness_EmptyQueueLetsOneTickPass :
    live.pending = [] ∧ live.time.counting = true ∧ live.time.running = true ∧ live.time.slew = none ∧
    live.time.total + live.time.incr < 2 ^ 64 * 1000000000 * 2 ^ 32 ∧ State.reset.pending = [] ∧ State.reset.time.running = false := by
  decide

theorem test_witness_ResetStateIsCanonicalAndIdle : (⟨.tw, 159⟩ : Page).present .pe2560 = true := by decide

theorem test_witness_StepKeepsCanonicalStores : Canonical live ∧ ∃ t, step live = .next t := ⟨by decide, _, rfl⟩

theorem test_witness_StepTakesExactlyTheFrontCommand :
    QueueFits { live with pending := [.snap 0] } ∧ ∃ t, step { live with pending := [.snap 0] } = .next t := ⟨by decide, _, rfl⟩

theorem test_witness_LowHalfReadLatchesTheHighHalf :
    lowHalf Reg.CEN_T_LO = true ∧ Reaches 0 Reg.CEN_T_LO false live ∧ Reaches 0 (Reg.CEN_T_LO + 4) false live ∧
    Reg.CEN_T_LO + 4 < 2 ^ 28 ∧
    SMap.get (fun _ => none) (after (.lowHalfRead 0 ⟨BitVec.ofNat 28 Reg.CEN_T_LO, .four⟩) live).bus.latch 0 = some (Reg.CEN_T_LO, 0) ∧
    (lowHalf Reg.CEN_STATUS = false ∧ highHalf Reg.CEN_STATUS = false ∧ Reaches 0 (Reg.CEN_STATUS + 1) false live ∧
      byteWindow (decodeAddr live.variant (Reg.CEN_T_LO + 1)) = false ∧ Reaches 0 (Reg.CEN_T_LO + 1) false live) ∧
    SMap.get (fun _ => none) live.bus.latch 0 = (none : Option (Nat × Word)) := by
  decide

theorem test_witness_PairTakesEffectWithItsHighHalf :
    rwLow Reg.SCHED_BASE_LO = true ∧ Reg.SCHED_BASE_LO % 4 = 0 ∧ WriteReaches 0 Reg.SCHED_BASE_LO live ∧
    WriteReaches 0 (Reg.SCHED_BASE_LO + 4) live ∧ Reg.SCHED_BASE_LO ≠ Reg.TIME_INCR_LO ∧ pairIgnored live Reg.SCHED_BASE_LO = false ∧
    rwLow (Reg.RING_BASE_LO 0 0) = true ∧ pairIgnored (put [(Reg.DMA_RING_CFG 0 0, 0x401)] live) (Reg.RING_BASE_LO 0 0) = true ∧
    WriteReaches 0 (Reg.RING_BASE_LO 0 0 + 4) (put [(Reg.DMA_RING_CFG 0 0, 0x401)] live) := by
  decide

/-- The TIME page locked. -/
def locked : State := put [(Reg.PAGE_LOCK timePage, 1)] live

theorem test_witness_LockedWritesAreIgnoredAndRecorded :
    getBit live (Reg.INT_STATUS glbPage) 1 = false ∧ getBit (put [(Reg.INT_STATUS glbPage, 2)] live) (Reg.INT_STATUS glbPage) 1 = true ∧
    commandRegister (.step 0) = some (0, Reg.TIME_CMD) ∧ Reaches 0 Reg.TIME_CMD true locked ∧
    lockStops locked 0 (decodeAddr locked.variant Reg.TIME_CMD) = true ∧
    (∀ a ∈ [Reg.TIME_STEP_A_LO, Reg.TIME_STEP_A_LO + 4, Reg.INT_STATUS timePage], Reaches 0 a true locked ∧ decodeFails locked a 4 true = false ∧
      isPageLock locked.variant a = false ∧ lockStops locked 0 (decodeAddr locked.variant a) = true) ∧
    rwLow Reg.TIME_STEP_A_LO = true ∧ isW1c (Reg.INT_STATUS timePage) = true ∧ getBit locked (Reg.PAGE_LOCK timePage) 0 = true := by
  decide

theorem test_witness_DecodeErrorsAreRecordedAndAnsweredByVariant :
    (∀ s ∈ [live, live1280, put [(Reg.INT_STATUS glbPage, 1)] live], ∀ w ∈ [true, false], ∀ r ∈ [(0 : Requester), 1],
      arrives s r = true ∧ barred s r (decodeAddr s.variant 0xFFFFFF8) w = false ∧ decodeFails s 0xFFFFFF8 4 w = true) ∧
    commandRegister (.htrCalStart 0 ⟨7, by decide⟩) = some (0, Reg.HTR_CAL_CMD 7) ∧ arrives live1280 0 = true ∧
    barred live1280 0 (decodeAddr live1280.variant (Reg.HTR_CAL_CMD 7)) true = false ∧
    decodeAddr live1280.variant (Reg.HTR_CAL_CMD 7) = .hole ∧
    sparse (inStage 0xE) = true ∧ sparsePath (inStage 0xE) 13 3 = false ∧ (inStage 0xE).variant = .pe2560 ∧ sparsePath (inStage 0xE) 0 5 = false := by
  decide

/-- A register of a page for the plain-write witness: its page, offset and access type. -/
def regIs (p : Page) (o : Nat) (a : Access) : Bool := (pageReg p o).any fun d => d.acc == a

theorem test_witness_PlainRegisterWritesFollowTheAccessType :
    ((pageReg timePage 0xF00).map RegDef.acc = none ∧ WriteReaches 0 (pageBase timePage + 0xF00) live) ∧
    (regIs ⟨.census, 0⟩ 0x4C .ro = true ∧ WriteReaches 0 Reg.CEN_STATUS live) ∧
    (regIs ⟨.census, 0⟩ 0x50 .rol = true ∧ WriteReaches 0 Reg.CEN_T_LO live) ∧
    (regIs ⟨.wellhead, 0⟩ 0x48 .rw = true ∧ fieldRules .wellhead 0x48 = [] ∧ WriteReaches 0 Reg.WH_ARG0 live ∧
      rangeIgnored ⟨.wellhead, 0⟩ 0x48 5 = false) ∧
    (regIs ⟨.verdict, 0⟩ 0x44 .rw = true ∧ (fieldRules .verdict 0x44).length = 1 ∧ WriteReaches 0 Reg.VRD_PILOT_CFG live) ∧
    (decodeAddr .pe2560 0x4BFFFF8 = .sram 0xBFFFF8 ∧ decodeAddr .pe2560 0x4C00000 = .sram 0xC00000 ∧ WriteReaches 0 0x4BFFFF8 live ∧
      WriteReaches 0 0x4C00000 live) ∧
    (decodeAddr .pe2560 0x2000000 = .pumpMem 0 0 ∧ WriteReaches 0 0x2000000 live) := by
  decide

/-- One DRAM channel of 4 GiB in service. -/
def withDram : State := { live with dramSize := 2 ^ 32 }

theorem test_witness_Bar2ReachesDramAtTheWindowBase :
    arrives withDram 0 = true ∧ hasPath withDram 0 6 = true ∧
    getF withDram Reg.PCIE_BAR2_BASE 0 11 * 2 ^ 26 + (0xFFFFFFF8 : BitVec 32).toNat + 8 ≤ withDram.dramSize ∧
    withDram.dramSize < getF withDram Reg.PCIE_BAR2_BASE 0 11 * 2 ^ 26 + (0xFFFFFFFC : BitVec 32).toNat + 8 := by
  decide

/-- A page whose block may stop, and a state with its block in a phase. -/
def gate0 : Page := ⟨.gate, 0⟩

theorem test_witness_EnableDuringShutdownIsPending :
    (WriteReaches 0 (Reg.CTRL glbPage) live ∧ glbPage.kind.alwaysOn = true) ∧
    (∀ f ∈ [Phase.off, .stopping, .running, .pendingOn, .starting], WriteReaches 0 (Reg.CTRL gate0) (setPhase gate0 f live) ∧
      gate0.kind.alwaysOn = false ∧ phase (setPhase gate0 f live) gate0 = f ∧ timeRefuses gate0 (setPhase gate0 f live) = false) ∧
    getBit (setPhase gate0 .pendingOn live) (Reg.STATUS gate0) 2 = true ∧
    phase (setPhase ringPage .starting live) ringPage = .starting ∧ epochCommitted live = false ∧ epochPage.present live.variant = true ∧
    (WriteReaches 0 (Reg.CTRL timePage) (put [(Reg.CTRL epochPage, 1)] live) ∧ timeHeld (put [(Reg.CTRL epochPage, 1)] live) = true) := by
  decide

theorem test_witness_SoftResetBlockResetAndItsEnd :
    WriteReaches 0 (Reg.CTRL ⟨.flt, 0⟩) live ∧ WriteReaches 0 (Reg.CTRL clkPage) live ∧
    timeHeld (put [(Reg.CTRL epochPage, 1)] live) = true ∧ WriteReaches 0 (Reg.CTRL timePage) (put [(Reg.CTRL epochPage, 1)] live) ∧
    (∀ f ∈ [Phase.resetting, .running], WriteReaches 0 (Reg.CTRL gate0) (setPhase gate0 f live) ∧
      timeRefuses gate0 (setPhase gate0 f live) = false ∧ warmRuns (setPhase gate0 f live) = false ∧ governed (setPhase gate0 f live) = false ∧
      phase (setPhase gate0 f live) gate0 = f) ∧
    (governed (inStage 0xE) = true ∧ WriteReaches 0 (Reg.CTRL gate0) (inStage 0xE)) := by
  decide

theorem test_witness_FrozenPagesReturnTheValuesOfTheFreeze :
    timePage.present live.variant = true ∧ WriteReaches 0 (Reg.CTRL timePage) live ∧ getBit live (Reg.CTRL timePage) 2 = false ∧
    freezes (pageReg timePage 0x18) = true := by
  decide

theorem test_witness_W1cClearsOnlyBitsWhoseCauseHasEnded :
    glbPage.present live.variant = true ∧ WriteReaches 0 (Reg.INT_STATUS glbPage) (put [(Reg.INT_STATUS glbPage, 3)] live) ∧
    getBit (put [(Reg.INT_STATUS glbPage, 3)] live) (Reg.INT_STATUS glbPage) 0 = true ∧ bitOf (3 : Word) 0 = true ∧ bitOf (3 : Word) 1 = true ∧
    getBit (put [(Reg.INT_STATUS glbPage, 3)] live) (Reg.INT_STATUS glbPage) 1 = true ∧
    timePage.present live.variant = true ∧ WriteReaches 0 (Reg.FAULT_STATUS timePage) live := by
  decide

/-- A page's shadow in a state: DIRTY, ARMED and APPLYING as bits of SHADOW_STATUS. -/
def shadowed (p : Page) (v : Nat) : State := put [(Reg.SHADOW_STATUS p, v)] live

/-- A commit of column 2 under way for its last cell, and for its last two. -/
def colUnderWay (cells : List Nat) : State :=
  { shadowed (colPage 2) 4 with colCommit := SMap.set (fun _ => none) [] 2 (some { words := [], cells := cells }) }

theorem test_witness_ShadowCommandsFollowTheCommitTable :
    (∀ p ∈ [evtPage, colPage 2], ∀ v ∈ [0, 1, 4], WriteReaches 0 (Reg.SHADOW_CTRL p) (shadowed p v) ∧ hasShadow (shadowed p v) p = true) ∧
    dirty (shadowed evtPage 1) evtPage = true ∧ applying (shadowed evtPage 1) evtPage = false ∧ dirty (shadowed evtPage 0) evtPage = false ∧
    applying (shadowed evtPage 4) evtPage = true ∧ dirty (shadowed (colPage 2) 1) (colPage 2) = true ∧
    (WriteReaches 0 (Reg.SHADOW_CTRL timePage) live ∧ hasShadow live timePage = false) ∧
    (∀ l ∈ [[128], [128, 129]], ((SMap.get (fun _ => none) (colUnderWay l).colCommit (128 / 64)).any fun v => v.cells.contains 128) = true) := by
  decide

theorem test_witness_PageLockNeedsItsKeyAndSticks :
    Reaches 0 (Reg.PAGE_LOCK timePage) true live ∧ fld (0x5AFE0003 : Word) 16 16 = 0x5AFE ∧ fld (0x5AFF0003 : Word) 16 16 ≠ 0x5AFE ∧
    getBit (put [(Reg.PAGE_LOCK timePage, 3)] live) (Reg.PAGE_LOCK timePage) 1 = true ∧ getBit live (Reg.PAGE_LOCK timePage) 1 = false ∧
    timePage.present .pe2560 = true ∧ live.pins.resetN = true ∧ live.pins.pwrgood = true ∧
    { live.pins with pwrgood := false }.pwrgood = false := by
  decide

/-- The device without power, and held in RESET_N. -/
def unpowered : State := { State.reset with pins := { State.reset.pins with pwrgood := false } }
/-- Held in RESET_N. -/
def heldReset : State := { State.reset with pins := { State.reset.pins with resetN := false } }

theorem test_witness_ColdPathsLoseEverythingButTheResetCause :
    live.pins.pwrgood = true ∧ live.pins.resetN = true ∧ unpowered.pins.pwrgood = false ∧ heldReset.pins.resetN = false ∧
    heldReset.pins.pwrgood = true := by
  decide

/-- A boot flash with a bootable image in slot 0: one segment, for both variants, without an owner part. -/
def withImage (s : State) : State :=
  writeFlash (slotAt 0) (toBytes 4 0x504C4D31 ++ toBytes 4 1 ++ toBytes 4 1 ++ toBytes 4 7 ++ toBytes 4 0x1000 ++ toBytes 4 1 ++ toBytes 4 3 ++
    toBytes 4 0x10203 ++ toBytes 4 0x99) (writeFlash (slotAt 0 + 0x40) (toBytes 4 1 ++ toBytes 4 0x200 ++ toBytes 4 0x100 ++ toBytes 4 1) s)

/-- Checks that all pass. -/
def goodSlot : SlotChecks := { readable := true, vendorKey := true, vendorSig := true, ownerKey := true, ownerSig := true }

theorem test_witness_PrimingPassesItsStagesInOrder :
    (State.reset.time.counting = false ∧ State.reset.pins.pwrgood = true ∧ State.reset.pins.resetN = true) ∧
    (stage (inStage 1) = 1 ∧ (inStage 1).time.counting = true) ∧
    (stage (withImage (inStage 2)) = 2 ∧ (bootFlash goodSlot goodSlot (withImage (inStage 2))).2 = true) ∧ stage (inStage 3) = 3 ∧
    (stage (inStage 4) = 4 ∧ (inStage 4).prime.waiting = false ∧ (inStage 4).prime.calStaged = [] ∧ dieUnwatched (inStage 4) = false ∧ coldKind (inStage 4) = true ∧ WriteReaches 0 Reg.GLB_CAL_DONE (inStage 4)) ∧
    { (inStage 4).prime with waiting := true }.waiting = true ∧ stage (inStage 5) = 5 ∧ stage (inStage 6) = 6 ∧
    standAlone (inStage 6) = true ∧ (standAlone (put [(Reg.RING_CFG, 2)] (inStage 6)) = false ∧ joinState (put [(Reg.RING_CFG, 2)] (inStage 6)) ≠ 2) ∧
    (3 ≤ stage live ∧ stage live ≤ 7 ∧ enabled live ⟨.ddr, 3⟩ = false) := by
  decide

theorem test_witness_StartupFailuresRecordTheFirstCode :
    getF live Reg.GLB_PRIME_STATUS 16 8 = 0 ∧ getF (inStage 0x30007) Reg.GLB_PRIME_STATUS 16 8 ≠ 0 ∧
    (stage (inStage 1) = 1 ∧ (inStage 1).time.counting = true) ∧ (stage (inStage 5) = 5 ∧ (inStage 5).time.counting = true) ∧
    (stage (inStage 2) = 2 ∧ (bootFlash goodSlot goodSlot (inStage 2)).2 = false) ∧
    (stage (put [(Reg.CLK_SRC_STATUS, 3)] (inStage 3)) = 3 ∧ getBit (put [(Reg.CLK_SRC_STATUS, 3)] (inStage 3)) Reg.CLK_SRC_STATUS 2 = false) ∧
    stage (inStage 4) = 4 ∧ enabled (inStage 3) ⟨.ddr, 0⟩ = false ∧
    (stage (inStage 0x87) = 7 ∧ getBit (inStage 0x87) Reg.GLB_PRIME_STATUS 7 = true ∧ WriteReaches 1 Reg.GLB_CAL_DONE (inStage 0x87)) := by
  decide

end Sys2Proof.Tests
end

