-- ==== Sys2Proof/Tests/WitnessB.lean ====
section
/-! SUPPORT. States that meet the hypotheses of the statements on warm resets, references, epochs, schedules and presets. -/

namespace Sys2Proof.Tests

set_option Elab.async false

open Sys2Proof Sys2Proof.Machine

/-- An epoch record of serial 1 at an instant, with preset 3. -/
def anEpoch (t : Nat) : Epoch := { newEpoch live [word t, 0, 3, word (0x51 * 2 ^ 16 + 200)] false 5000000000 with t := t, fixed := true }

/-- A state that holds these epochs. -/
def withEpochs (l : List Epoch) (s : State) : State := { s with epochs := l, epochSerial := 9 }

/-- 6 s of PTP time: one second from now. -/
def later : Nat := 6000000000

/-- Preset `n` valid with generation `g`. -/
def presetUp (n g : Nat) (s : State) : State := setPresetStatus n (word (1 + 256 * g)) s

theorem test_witness_WarmResetWaitsForTheCommittedEpoch :
    (WriteReaches 0 Reg.GLB_RESET_CTRL live ∧ WriteReaches 1 Reg.GLB_RESET_CTRL live ∧ stage live ≠ 0xF ∧ stage live ≠ 0xE ∧
      live.warmRequested = false ∧ warmRuns live = false ∧ committedEpoch live = none) ∧
    (WriteReaches 0 Reg.GLB_RESET_CTRL (withEpochs [{ anEpoch later with phase := .committed }] live) ∧
      committedEpoch (withEpochs [{ anEpoch later with phase := .committed }] live) ≠ none ∧
      committedEpoch (withEpochs [{ anEpoch 4999999101 with phase := .fast }] live) ≠ none) ∧
    { live with warmRequested := true }.warmRequested = true ∧
    (WriteReaches 0 (Reg.CTRL clkPage) live ∧ governed live = false ∧ live.prime.path ≠ .clock ∧ stage live = 7) ∧
    (testSession (put [(Reg.WH_DEBUG, 8)] live) = true ∧ governed (setB Reg.WH_DEBUG 3 false (put [(Reg.WH_DEBUG, 8)] live)) = false) := by
  decide

theorem test_witness_ClearNAndTestSessionsParkTheOutputs :
    (live.pins.clearN = true ∧ governed live = false ∧ governed (inStage 0xE) = true ∧ (inStage 0xE).pins.clearN = true) ∧
    { live.pins with clearN := false }.clearN = false ∧
    (live.time.counting = true ∧ testSession live = false ∧ governed (setB Reg.WH_DEBUG 3 true live) = false ∧ live.pins.lockout = false) ∧
    getBit (put [(Reg.WH_DEBUG, 4)] live) Reg.WH_DEBUG 2 = true ∧
    (governed (setB Reg.WH_DEBUG 3 true (inStage 0xF)) = true ∧ testSession (inStage 0xF) = false) ∧
    (governed (setB Reg.WH_DEBUG 3 true { live with pins := { live.pins with lockout := true } }) = false) := by
  decide

theorem test_witness_ReferencesRailsAndThePcieLinkAreShown :
    (getBit live Reg.CLK_SRC_STATUS 1 = true ∧ getBit live Reg.CLK_SRC_STATUS 3 = true ∧ getBit live Reg.CLK_SRC_STATUS 4 = false ∧
      live.time.counting = true ∧ getBit live Reg.CLK_SRC_STATUS 0 = true ∧ getBit live Reg.CLK_SRC_STATUS 2 = true) ∧
    (getBit (put [(Reg.CLK_SRC_STATUS, 0xC7)] live) Reg.CLK_SRC_STATUS 1 = true ∧
      getBit (put [(Reg.CLK_SRC_STATUS, 0xC7)] live) Reg.CLK_SRC_STATUS 3 = false) ∧
    ({ live with prime := { live.prime with holdover := some 5 } }.prime.holdover = some 5) ∧
    (inWindow live 0 750000 = true ∧ inWindow live 0 100000 = false ∧ inWindow live 5 1455000 = true ∧ inWindow live 5 1454999 = false ∧
      inWindow live 5 3708000 = true ∧ inWindow live 5 3708001 = false ∧
      inWindow (put [(Reg.PWR_VHTR_NOMINAL, 1800)] live) 5 1746000 = true ∧ inWindow (put [(Reg.PWR_VHTR_NOMINAL, 1800)] live) 5 1745999 = false ∧
      inWindow (put [(Reg.PWR_VHTR_NOMINAL, 1800)] live) 5 1854001 = false) ∧
    (live.pins.perstN = true ∧ live.pins.pcieUp = true ∧ stage live ≠ 0xF ∧ getF live Reg.GLB_PRIME_STATUS 16 8 ≠ 1) := by
  decide

/-- A stand-alone device with a network of 2^6 ports whose epoch unit is READY. -/
def network : State := put [(Reg.ROUTE_NET, 6), (Reg.STATUS epochPage, 1)] live

/-- A follower of a ring of two. -/
def ringFollower : State := put [(Reg.RING_CFG, 2), (Reg.RING_STATUS, 0x42)] network

/-- A submission with this T, word 2 and lead. -/
def submitted (t w2 lead : Nat) : Submission := { desc := [word t, word (t / 2 ^ 32), word w2, word (0x51 * 2 ^ 16 + lead)], accepted := 5000000000 }

theorem test_witness_SubmissionsAreTakenDecidedAndFlushed :
    (WriteReaches 0 Reg.EPOCH_SUBMIT live ∧ live.submission = none ∧ { live with submission := some (submitted later 3 50) }.submission ≠ none) ∧
    (checkSubmission (presetUp 3 1 network) (submitted later 3 50) = 0 ∧ checkSubmission network (submitted later 3 50) ≠ 0) ∧
    (getBit network (Reg.STATUS epochPage) 0 = true ∧ parkForced network = false ∧ network.warmRequested = false ∧
      getBit network Reg.GLB_PRIME_STATUS 7 = false ∧ getBit network Reg.GLB_PRIME_STATUS 8 = false ∧ netK network ≠ 0 ∧
      isLeader network = true ∧ network.handedOff = false ∧ isLeader ringFollower = false) ∧
    (fld (descWord (submitted later 3 49).desc 3) 0 13 < 50 ∧ 5000 < fld (descWord (submitted later 3 5001).desc 3) 0 13 ∧
      fld (descWord (submitted later 3 5000).desc 3) 0 13 = 5000 ∧ descInline (submitted later 3 50).desc = false ∧
      descT (submitted (later + 1) 3 50).desc % 4 ≠ 0 ∧ descT (submitted later 3 50).desc % 4 = 0 ∧ presetValid network 3 = false ∧
      presetValid (presetUp 3 1 network) 3 = true) ∧
    (16 ≤ (epochQueue (withEpochs (List.replicate 16 (anEpoch later)) network)).length ∧ (epochQueue network).length < 16 ∧
      descLate network (submitted 5000000000 3 50) = true ∧ bitOf (descWord (submitted 5000000000 3 50).desc 2) 9 = false ∧
      epochQueue network = [] ∧ descLate network (submitted later 3 50) = false ∧ schedRunning network = false ∧ network.epochPrev = none) ∧
    (WriteReaches 0 Reg.EPOCH_QUEUE_FLUSH (withEpochs [anEpoch later] live) ∧ EpochsDistinct (withEpochs [anEpoch later] live) ∧
      epochQueue (withEpochs [anEpoch later] live) ≠ []) := by
  decide

/-- A bank A of two slots with dwells of 10 us and 20 us, a bank B of one slot, and a lead of 5 us. -/
def banked : State := put [(Reg.SCHED_LEN, 0x0102), (Reg.SCHED_A 0, 3 + 2 ^ 13 * 100), (Reg.SCHED_A 1, 4 + 2 ^ 13 * 200), (Reg.SCHED_B 0, 5 + 2 ^ 13 * 300),
  (Reg.SCHED_LEAD, 50)] network

/-- A schedule at one second from now. -/
def aSchedule (next : Nat) : Schedule := { base := later, next := next, at_ := later, first := later, stopAt := none, switchAt := none, ends := [] }

/-- The schedule runs. -/
def scheduled (c : Schedule) : State := setB Reg.SCHED_CTRL 8 true { banked with schedule := some c }

theorem test_witness_ScheduleCommandsActOrAreRefused :
    (WriteReaches 0 Reg.SCHED_CTRL banked ∧ schedRunning banked = false ∧ epochQueue banked = [] ∧ bankLen banked (activeBankOf banked) ≠ 0 ∧
      (∀ d ∈ bankDwells banked (activeBankOf banked), 10000 ≤ d) ∧ 50 ≤ getF banked Reg.SCHED_LEAD 0 13 ∧
      getF banked Reg.SCHED_LEAD 0 13 ≤ 5000 ∧ throttle banked 2 = false) ∧
    (WriteReaches 0 Reg.SCHED_CTRL network ∧ bankLen network (activeBankOf network) = 0 ∧ schedRunning (scheduled (aSchedule 0)) = true ∧
      epochQueue (withEpochs [anEpoch later] banked) ≠ [] ∧
      (∃ d ∈ bankDwells (put [(Reg.SCHED_A 0, 2 ^ 13 * 99)] banked) (activeBankOf banked), d < 10000) ∧
      getF (put [(Reg.SCHED_LEAD, 49)] banked) Reg.SCHED_LEAD 0 13 < 50 ∧ 5000 < getF (put [(Reg.SCHED_LEAD, 5001)] banked) Reg.SCHED_LEAD 0 13 ∧
      throttle (put [(Reg.HEAT_THR_ACT, 4)] { banked with dieThrottled := true }) 2 = true) ∧
    (WriteReaches 0 Reg.SCHED_CTRL (withEpochs [{ anEpoch later with scheduled := true }] (scheduled (aSchedule 0))) ∧
      schedRunning (withEpochs [{ anEpoch later with scheduled := true }] (scheduled (aSchedule 0))) = true ∧
      EpochsDistinct (withEpochs [{ anEpoch later with scheduled := true }] (scheduled (aSchedule 0)))) ∧
    (WriteReaches 0 Reg.SCHED_CTRL (scheduled (aSchedule 1)) ∧ (scheduled (aSchedule 1)).schedule = some (aSchedule 1) ∧
      EpochsDistinct (scheduled (aSchedule 1)) ∧ bankPending (scheduled (aSchedule 1)) = false ∧ bankRefused (scheduled (aSchedule 1)) 1 = false ∧
      bankRefused (scheduled (aSchedule 0)) 1 = false) ∧
    (bankPending (setB Reg.SCHED_CTRL 9 true (scheduled (aSchedule 0))) = true ∧ banked.schedule = none ∧
      bankLen (put [(Reg.SCHED_LEN, 2)] (scheduled (aSchedule 0))) 1 = 0) := by
  decide

theorem test_witness_ScheduleSlotsTakeTheirNumbersAndBanks :
    ((scheduled (aSchedule 1)).schedule = some (aSchedule 1) ∧ EpochsDistinct (scheduled (aSchedule 1)) ∧ (scheduled (aSchedule 1)).epochs = [] ∧
      epochsBarred (scheduled (aSchedule 1)) = false ∧ epochsBarred { scheduled (aSchedule 1) with warmRequested := true } = true ∧
      EpochsDistinct { scheduled (aSchedule 1) with warmRequested := true }) ∧
    ((scheduled { aSchedule 1 with stopAt := some (later + 1) }).schedule = some { aSchedule 1 with stopAt := some (later + 1) } ∧
      later < later + 1) ∧
    (EpochsDistinct (withEpochs [{ anEpoch later with scheduled := true, override := true }] (scheduled (aSchedule 1))) ∧
      { anEpoch later with scheduled := true, override := true }.num = none ∧ (anEpoch later).t = later) ∧
    ((scheduled { aSchedule 0 with switchAt := some later }).schedule = some { aSchedule 0 with switchAt := some later }) := by
  decide

/-- A preparation of preset 63 whose work is done. -/
def prepared (reason : Nat) (bad : Option (Nat × Nat)) : State :=
  { network with preparation := some { preset := 63, job := .done, result := some { cells := [], reason := reason, input := 0x7FF, slot := 0, pos := 0 }, badPerm := bad, started := none } }

theorem test_witness_PresetsArePreparedAndInvalidated :
    (WriteReaches 0 Reg.ROUTE_PRESET_CMD (prepared 0 none) ∧ (prepared 0 none).preparation ≠ none) ∧
    (WriteReaches 0 Reg.ROUTE_PRESET_CMD network ∧ network.preparation = none ∧ isLeader network = true ∧ netK network ≠ 0 ∧ netK live = 0 ∧
      isLeader live = true ∧ WriteReaches 0 Reg.ROUTE_PRESET_CMD ringFollower ∧ isLeader ringFollower = false) ∧
    (queueRef (withEpochs [anEpoch later] network) 3 = true ∧ schedRef (scheduled (aSchedule 0)) 4 = true ∧ queueRef network 63 = false ∧
      schedRef network 63 = false) ∧
    (((prepared 0 none).preparation.all fun p => p.job == .done && p.badPerm.isNone && decide (p.preset < 64)) = true ∧
      ((prepared 2 none).preparation.any fun p => (p.result.any fun r => r.reason != 0)) = true ∧
      ((prepared 0 (some (2047, 1))).preparation.any fun p => p.badPerm == some (2047, 1)) = true ∧ 2047 < 2 ^ 11) ∧
    (WriteReaches 0 (Reg.ROUTE_STAGE_MAP 0) live ∧ WriteReaches 0 (Reg.ROUTE_STAGE_MAP 18) live ∧ enabled live epochPage = false ∧
      getBit live (Reg.STATUS epochPage) 1 = false ∧ (0x01F301F3 : Word) &&& 0x01F301F3 = 0x01F301F3 ∧
      (0x01F301F3 : Word) ≠ reg live (Reg.ROUTE_STAGE_MAP 18) ∧ enabled (put [(Reg.CTRL epochPage, 1)] live) epochPage = true ∧
      WriteReaches 0 (Reg.ROUTE_STAGE_MAP 0) (put [(Reg.CTRL epochPage, 1)] live)) ∧
    WriteReaches 0 Reg.ROUTE_PORT_MARK live := by
  decide

theorem test_witness_PresetsArePreparedAndInvalidated_net :
    WriteReaches 0 Reg.ROUTE_NET live ∧ word 6 ≠ reg live Reg.ROUTE_NET ∧ WriteReaches 0 Reg.ROUTE_NET (prepared 0 none) ∧
    (prepared 0 none).preparation ≠ none ∧ live.preparation = none := by
  decide

/-- A routed epoch whose work runs, with this outcome. -/
def routingEpoch (reason : Nat) : Epoch :=
  { anEpoch later with routed := true, job := .running, result := some { cells := [], reason := reason, input := 5, slot := 7, pos := 0 } }

theorem test_witness_EpochTimelineFromStagingToReport :
    (EpochsDistinct (withEpochs [routingEpoch 0] network) ∧ (withEpochs [routingEpoch 0] network).epochs.find? (fun x => x.job == .running) = some (routingEpoch 0) ∧
      (routingEpoch 0).result ≠ none ∧ (routingEpoch 0).scheduled = false ∧ (routingEpoch 0).fixed = true ∧ (routingEpoch 7).phase = .queued ∧
      EpochsDistinct (withEpochs [routingEpoch 7] network)) ∧
    ((withEpochs [anEpoch later] network).epochs.find? (fun x => !x.routed && x.staged.isNone && x.fixed && x.phase == .queued) = some (anEpoch later) ∧
      presetValid (presetUp 3 1 (withEpochs [anEpoch later] network)) (anEpoch later).preset = true ∧
      presetValid (withEpochs [anEpoch later] network) (anEpoch later).preset = false ∧ (anEpoch later).follower = false ∧
      { routingEpoch 0 with scheduled := true }.override = false ∧ presetValid (withEpochs [{ routingEpoch 0 with scheduled := true }] network) 3 = false ∧
      (withEpochs [{ routingEpoch 0 with scheduled := true }] network).epochs.find? (fun x => x.job == .running) =
        some { routingEpoch 0 with scheduled := true }) ∧
    (EpochsDistinct (withEpochs [anEpoch later] network) ∧
      (withEpochs [anEpoch later] network).epochs.find? (fun x => (x.fixed || x.job == .lost) && x.phase != .fast) = some (anEpoch later) ∧
      (anEpoch later).phase = .queued ∧ standAlone (withEpochs [anEpoch later] network) = true ∧ (anEpoch later).staged = none ∧
      { anEpoch later with staged := some [] }.staged ≠ none ∧ (anEpoch later).num = none ∧ later < 2 ^ 64 ∧
      epochsBarred (withEpochs [anEpoch later] network) = false ∧
      epochsBarred { withEpochs [{ anEpoch later with staged := some [] }] network with warmRequested := true } = true ∧
      (withEpochs [anEpoch later] network).epochNumber + 1 < 2 ^ 64) ∧
    ((withEpochs [{ anEpoch later with phase := .fast }] network).epochs.find? (fun x => x.phase == .fast && !x.applied) =
      some { anEpoch later with phase := .fast } ∧ network.ring.handover = none) ∧
    ((withEpochs [{ anEpoch later with phase := .fast, applied := true, started := [0] }] network).epochs.find?
      (fun x => x.applied && !x.started.contains 9) ≠ none) ∧
    (isLeader network = true ∧ noticeDue network { anEpoch later with num := some 4 } = true ∧ noticeDue network (anEpoch later) = false) ∧
    (∃ r : Report, { network with reports := [r] }.reports = [r] ∧ r.status < 2 ^ 16 ∧ r.tag < 2 ^ 16) := by
  refine ⟨?_, ?_, ?_, ?_, ?_, ?_, ⟨⟨1, 0, 0, 0, 0, 0, 0, 0, 0, 0, 0, 0, 0, true⟩, ?_⟩⟩ <;> decide

end Sys2Proof.Tests
end

