-- ==== Sys2Proof/Tests/WitnessC.lean ====
section
/-! SUPPORT. States that meet the hypotheses of the statements on sequencers, segments, streams, heaters, loops and pumps. -/

namespace Sys2Proof.Tests

set_option Elab.async false

open Sys2Proof Sys2Proof.Machine

/-- Slot 0 is a SWITCH whose channel is in this sequencer state and plays segment 1. -/
def chan (st : SeqState) (j : Option Jump) (s : State) : State :=
  setChannel 0 { EoChannel.unused with state := st, seg := 1, jump := j } (withRole 0 1 s)

/-- Segment 1 is valid with this LOOP and NEXT, segment 2 is valid, segment 3 is not. -/
def library (w2 : Nat) : State :=
  put [(Reg.SHAPE_DIR 4, 2 ^ 31), (Reg.SHAPE_DIR 5, 0x4000 * 2 ^ 16), (Reg.SHAPE_DIR 6, w2), (Reg.SHAPE_DIR 8, 2 ^ 31),
    (Reg.SHAPE_DIR 9, 0x400 * 2 ^ 16)] live

/-- Slot 0 in a state beside sixteen channels of its column that play segments 16 to 31 without end. -/
def crowded (st : SeqState) (j : Option Jump) (w2 : Nat) : State :=
  (List.range 16).foldl (fun t k => setReg (Reg.SHAPE_DIR (4 * (16 + k) + 2)) 0xFF0000
    (setChannel (1 + k) { EoChannel.unused with state := .play, seg := 16 + k, begun := k } t)) (chan st j (library w2))

/-- The same, in the exit ramp. -/
def rampUnderWay : State := setChannel 0 { channel (chan .linger none (library 0)) 0 with exiting := true } (chan .linger none (library 0))

theorem test_witness_SequencerFollowsItsStates :
    ((channel (chan .wake none (library 0)) 0).state = .wake ∧ (channel (chan .wake none (library 0)) 0).jump = none) ∧
    ((channel (chan .wake (some ⟨2, .event⟩) (library 0)) 0).jump = some ⟨2, .event⟩ ∧
      mayBegin (chan .wake (some ⟨2, .event⟩) (library 0)) 0 2 1000 = true ∧
      (channel (crowded .wake (some ⟨2, .event⟩) 0) 0).jump = some ⟨2, .event⟩ ∧ mayBegin (crowded .wake (some ⟨2, .event⟩) 0) 0 2 1000 = false) ∧
    ((channel (chan .ready none (library 0)) 0).changing = false ∧
      (channel (setChannel 2559 { EoChannel.unused with state := .ready, changing := true } live) 2559).changing = true) ∧
    ((channel (chan .play none (library 0)) 0).state = .play ∧
      (channel (chan .play none (library 0xFF0000)) 0).plays < 0xFF ∧ fld (dirWord (chan .play none (library 0xFF0000)) 1 2) 16 8 = 0xFF ∧
      fld (dirWord (chan .play none (library 0)) 1 2) 16 8 = 0 ∧ fld (dirWord (chan .play none (library 0)) 1 2) 10 2 = 0 ∧
      fld (dirWord (chan .play none (library 0x403)) 1 2) 10 2 = 1 ∧ segValid (chan .play none (library 0x403)) 3 = false ∧
      segValid (chan .play none (library 0x402)) 2 = true ∧
      mayBegin (chan .play none (library 0x402)) 0 2 (playEnd (chan .play none (library 0x402)) 0) = true ∧
      segValid (crowded .play none 0x402) 2 = true ∧ mayBegin (crowded .play none 0x402) 0 2 (playEnd (crowded .play none 0x402) 0) = false ∧
      (channel (crowded .play (some ⟨2, .host⟩) 0) 0).jump = some ⟨2, .host⟩ ∧
      mayBegin (crowded .play (some ⟨2, .host⟩) 0) 0 2 (playEnd (crowded .play (some ⟨2, .host⟩) 0) 0) = false ∧
      mayBegin (chan .play (some ⟨2, .host⟩) (library 0)) 0 2 (playEnd (chan .play (some ⟨2, .host⟩) (library 0)) 0) = true) ∧
    ((channel (chan .linger none (library 0)) 0).state = .linger ∧ (channel (chan .linger none (library 0)) 0).exiting = false ∧
      (channel (setChannel 0 { EoChannel.unused with state := .held, heldFast := true } live) 0).heldFast = true ∧
      (channel rampUnderWay 0).exiting = true ∧ mismatched (channel rampUnderWay 0).out (channel rampUnderWay 0).lvlTo = false ∧
      (channel rampUnderWay 0).due = false) ∧
    (mismatched 3 0 = true ∧ mismatched 2 0 = false ∧
      (channel (setChannel 0 { channel rampUnderWay 0 with due := true } rampUnderWay) 0).due = true) := by
  decide +kernel

/-- An event of generation 0 on its way to the EO_JUMP task of column 9, whose mask names slot 2304. -/
def jumpEvent (t : Nat) : State :=
  put [(Reg.EO_EVT_MASK 9 0, 1), (Reg.EO_EVT_JUMP 9, t)]
    { library 0 with evt := { inFlight := [{ task := 9, gen := 0, channel := 12, cycle := 3 }], published := [] } }

/-- Slot 2304 in a sequencer state. -/
def lastColumn (st : SeqState) (j : Option Jump) (s : State) : State := setChannel 2304 { EoChannel.unused with state := st, jump := j } s

theorem test_witness_JumpRequestsAreTakenKeptOrDropped :
    (WriteReaches 0 (Reg.EO_CH_JUMP 0 0) (chan .hold none (library 0)) ∧ WriteReaches 1 (Reg.EO_CH_JUMP 9 255) live) ∧
    ((channel (chan .stream none (library 0)) 0).state = .stream ∧ segValid (chan .hold none (library 0)) 3 = false ∧
      bitOf (dirWord (chan .hold none (library 0)) 1 3) 15 = false ∧ (channel (chan .play (some ⟨1, .host⟩) (library 0)) 0).jump ≠ none ∧
      channelHeld (setPhase (colPage 0) .resetting live) 0 = true ∧
      underEoCal { live with eoCal := SMap.set (fun _ => none) [] 0 (some { tier := 0, maxIsCross := false, start := 0 }) } 0 = true ∧ (channel live 0).state = .parked) ∧
    (segValid (chan .hold none (library 0)) 2 = true ∧ underEoCal (chan .hold none (library 0)) 0 = false ∧ (channel rampUnderWay 0).exiting = true ∧
      (channel (chan .play none (library 0)) 0).jump = none ∧
      channelHeld (chan .hold none (library 0)) 0 = false ∧ jumpTarget (chan .hold none (library 0)) 0 2 false = some 2 ∧
      (channel (chan .play none (library 0)) 0).took = none ∧ (channel (chan .wake none (library 0)) 0).jump = none ∧
      mayBegin (chan .ready none (library 0)) 0 2 (nextSample (chan .ready none (library 0))) = true ∧
      mayBegin rampUnderWay 0 2 (nextSample rampUnderWay) = true) ∧
    ((takeEvent 9 (jumpEvent 2)).isSome = true ∧ 2304 ∈ eventSlots (jumpEvent 2) 9 ∧ 2305 ∉ eventSlots (jumpEvent 2) 9 ∧
      getBit (jumpEvent 2) (Reg.EO_EVT_JUMP 9) 15 = false ∧ segValid (jumpEvent 2) (getF (jumpEvent 2) (Reg.EO_EVT_JUMP 9) 0 10) = true ∧
      underEoCal (jumpEvent 2) 2304 = false ∧ channelHeld (jumpEvent 2) 2304 = false ∧
      (channel (lastColumn .play none (jumpEvent 2)) 2304).took = none ∧ (channel (lastColumn .hold none (jumpEvent 2)) 2304).state = .hold ∧
      (channel (lastColumn .play (some ⟨2, .host⟩) (jumpEvent 2)) 2304).jump = some ⟨2, .host⟩ ∧
      (channel (lastColumn .play (some ⟨2, .verdict⟩) (jumpEvent 2)) 2304).jump = some ⟨2, .verdict⟩) ∧
    WriteReaches 0 (Reg.EO_COL_COUNT_CLR 9) live := by
  decide +kernel

/-- A directory with L = 2 and a step for segment 5, invalid so far. -/
def segment (st : Nat) : State := put [(Reg.SHAPE_DIR 21, 1 + 2 ^ 16 * st)] live

/-- What stands at an offset from 0x8000 of COL_0's map resets with bit 31 clear. -/
theorem col_reset_bit (o : Nat) (ho : 0x8000 ≤ o) : bitOf (word (pageResetNat ⟨.col, 0⟩ o)) 31 = false := by
  have rows : ∀ d ∈ blockRegs ⟨.col, 0⟩, d.off + d.stride * d.count ≤ 0x8000 ∧ 0 < d.stride ∨ bitOf (word d.reset) 31 = false := by decide
  unfold pageResetNat pageReg
  rw [if_neg (by omega)]
  cases hf : findIn (blockRegs ⟨.col, 0⟩) o with
  | none => show bitOf (word 0) 31 = false; decide
  | some d =>
    have e : ∀ x y : Nat, (if o = 0 then x else if o = 8 then y else d.reset) = d.reset := fun x y => by
      rw [if_neg (by omega), if_neg (by omega)]
    show bitOf (word (if o = 0 then _ else if o = 8 then _ else d.reset)) 31 = false
    rw [e]
    have hc := List.find?_some hf
    simp only [RegDef.covers, Bool.and_eq_true, decide_eq_true_eq] at hc
    rcases rows d (List.mem_of_find?_eq_some hf) with ⟨h, hs⟩ | h
    · have := (Nat.div_lt_iff_lt_mul hs).1 hc.2
      have e : d.count * d.stride = d.stride * d.count := Nat.mul_comm _ _
      omega
    · exact h

/-- No segment of that device is valid. -/
theorem no_segment_at_reset (k : Nat) (h : k < 1024) : segValid live k = false := by
  have e : Reg.SHAPE_DIR (4 * k + 0) = 0x308000 + 16 * k := by unfold Reg.SHAPE_DIR; omega
  have hr : reg live (Reg.SHAPE_DIR (4 * k + 0)) = resetWord (Reg.SHAPE_DIR (4 * k + 0)) := by
    rw [e]
    have h1 : ¬ Reg.GLB_PRIME_STATUS = 0x308000 + 16 * k := by unfold Reg.GLB_PRIME_STATUS; omega
    have h2 : ¬ Reg.CLK_SRC_STATUS = 0x308000 + 16 * k := by unfold Reg.CLK_SRC_STATUS; omega
    simp [reg, live, SMap.get, h1, h2]
  have hd : decodeFull (0x308000 + 16 * k) = .page ⟨.col, 0⟩ (0x8000 + 16 * k) := by
    unfold decodeFull
    repeat rw [if_neg (by omega)]
    rw [if_pos (by omega), show (0x308000 + 16 * k - 0x300000) / 0x10000 = 0 by omega, show (0x308000 + 16 * k) % 0x10000 = 0x8000 + 16 * k by omega]
  unfold segValid dirWord
  rw [hr, e]
  unfold resetWord
  rw [hd]
  exact col_reset_bit _ (by omega)

/-- Nothing protects its library. -/
theorem unprotected (lo n : Nat) : protector live lo n = none := by
  refine List.find?_eq_none.2 fun k hk => ?_
  simp [segTouches, no_segment_at_reset k (List.mem_range.1 hk)]

theorem test_witness_SegmentsAreValidatedAndProtected :
    (WriteReaches 0 (Reg.SHAPE_DIR 4) (library 0) ∧ segValid (library 0) 1 = true ∧ WriteReaches 0 (Reg.SHAPE_DIR 4092) live) ∧
    (segValid (segment 0x400) 5 = false ∧ bitOf (word (2 ^ 31 + 1048574)) 31 = true ∧ fld (word (2 ^ 31 + 1048574)) 0 20 + segLen (segment 0x400) 5 ≤ 1048576 ∧
      0x400 ≤ segStep (segment 0x400) 5 ∧ segStep (segment 0x8000) 5 ≤ 0x8000 ∧ 1048576 < fld (word (2 ^ 31 + 1048575)) 0 20 + segLen (segment 0x400) 5 ∧
      segStep (segment 0x3FF) 5 < 0x400 ∧ 0x8000 < segStep (segment 0x8001) 5) ∧
    (WriteReaches 0 0x1100000 (library 0) ∧ decodeAddr .pe2560 0x1100000 = .shape 0 ∧ decodeFails (library 0) 0x1100000 4 true = false ∧
      protector (library 0) 0 4 = some 1) ∧
    (WriteReaches 0 Reg.SHAPE_DIR_CMD (chan .play none (library 0)) ∧ segReferenced (chan .play none (library 0)) 1 = true ∧ segReferenced { live1280 with regs := live.regs } 2 = false) ∧
    (WriteReaches 0 0x1100000 live ∧ decodeFails live 0x1100000 4 true = false ∧ protector live 0 4 = none) := by
  refine ⟨?_, ?_, ?_, ?_, ?_, ?_, unprotected 0 4⟩ <;> decide +kernel

/-- Stream 31 on slot 0, with 64 samples and a unit step. -/
def streaming (st mode : Nat) (c : SeqState) : State :=
  put [(Reg.SIPH_CFG 31, mode * 2 ^ 14), (Reg.SIPH_STEP 31, 0x4000), (Reg.SIPH_LEN 31, 64), (Reg.SIPH_STATUS 31, st)] (chan c none live)

/-- The same, with a SIPHON_START event on its way. -/
def startEvent (st mode : Nat) : State :=
  { streaming st mode .hold with evt := { inFlight := [{ task := 10, gen := 2, channel := 1, cycle := 3 }], published := [] } }

theorem test_witness_SiphonStreamsAreArmedPlayedAndHeld :
    (WriteReaches 0 (Reg.SIPH_CMD 31) (streaming 0 0 .hold) ∧ streamState (streaming 0 0 .hold) 31 = 0 ∧ goRefused (streaming 0 0 .hold) 31 = false ∧
      getF (streaming 0 0 .hold) (Reg.SIPH_CFG 31) 14 2 = 0 ∧ goRefused (streaming 0 1 .hold) 31 = false) ∧
    (WriteReaches 0 (Reg.SIPH_CMD 0) live ∧ role live (streamSlot live 0) = roleUnused ∧ (channel (streaming 0 0 .parked) 0).state = .parked ∧
      streamOn (streaming 1 0 .hold) 0 ≠ none ∧ getF live (Reg.SIPH_STEP 0) 0 16 < 0x400 ∧
      (reg (put [(Reg.SIPH_LEN 0, 33)] live) (Reg.SIPH_LEN 0)).toNat % 32 ≠ 0 ∧ ¬ streamSlot (put [(Reg.SIPH_CFG 0, 1280)] live1280) 0 < 1280) ∧
    (streamState (streaming 3 0 .stream) 31 = 3 ∧ streamState (streaming 1 0 .hold) 31 = 1 ∧ streamState (streaming 2 1 .hold) 31 = 2 ∧
      streamState (streaming 4 0 .held) 31 = 4 ∧ (channel (streaming 4 0 .hold) 0).state ≠ .held ∧ (channel (streaming 4 0 .held) (streamSlot (streaming 4 0 .held) 31)).state = .held ∧
      driven (streaming 4 0 .held) (streamSlot (streaming 4 0 .held) 31) = true) ∧
    (getF (streaming 2 1 .hold) (Reg.SIPH_CFG 31) 14 2 ≠ 2 ∧ (takeEvent 10 (startEvent 2 2)).isSome = true ∧
      getF (startEvent 1 2) (Reg.SIPH_CFG 31) 14 2 = 2 ∧ streamState (startEvent 1 2) 31 = 1 ∧ (takeEvent 10 (startEvent 1 2)).isSome = true ∧ (∀ n, n < 32 → streamState (startEvent 0 2) n = 0)) ∧
    (getF (streaming 3 0 .stream) (Reg.SIPH_REPEAT 31) 0 16 ≠ 0xFFFF) := by
  decide +kernel

/-- A device whose alignment page shows a calibration under way. -/
def aligning : State := put [(Reg.SHAPE_ALIGN_STATUS, 1)] live

/-- Position 1 of a ring of two that has joined under the leader at position 0. -/
def ringMember : State := put [(Reg.RING_CFG, 2), (Reg.CTRL ringPage, 1), (Reg.STATUS ringPage, 1), (Reg.RING_STATUS, 0x42)] { live with pins := { live.pins with pos := 1 } }

/-- A run over a sweep of which the third point is a maximum and the fifth a minimum. -/
def swept : SweepRun := { sweep := [0, 1, 5, 3, 0, 2], nearMax := [], nearMin := [] }

/-- A calibration of tier 255 of column 9 runs. -/
def levelCal : State := { live with eoCal := SMap.set (fun _ => none) [] 9 (some { tier := 255, maxIsCross := true, start := 0 }) }

theorem test_witness_AlignmentAndLevelCalibration :
    (WriteReaches 0 Reg.SHAPE_ALIGN_CTRL live ∧ isLeader live = true ∧ isLeader (put [(Reg.RING_CFG, 2)] live) = false ∧
      WriteReaches 0 Reg.SHAPE_ALIGN_CTRL (put [(Reg.RING_CFG, 2)] live)) ∧
    (getBit aligning Reg.SHAPE_ALIGN_STATUS 0 = true ∧ thetaAgree 0 0 = true ∧ thetaAgree 1 0 = false) ∧
    (syncPasses live = true ∧ live.time.running = true ∧ live.align.skip = false ∧ syncPasses (inStage 3) = true ∧
      15 ≤ (List.replicate 15 (52 : Int)).length ∧ 50000 * 16 < absI (((52 : Int) :: List.replicate 15 52).take 16).sum * 15625) ∧
    ({ aligning with align := { aligning.align with first := some (5, [1, 2]) } }.align.first = some (5, [1, 2]) ∧
      ringHears ringMember 0 = true ∧ ringLeader ringMember = false ∧ leaderPos ringMember = 0) ∧
    (WriteReaches 0 (Reg.EO_CAL_CMD 9) levelCal ∧ SMap.get (fun _ => none) levelCal.eoCal 9 ≠ none ∧ driven (withRole 0 1 live) (256 * 0 + 0) = true ∧
      parkForced (inStage 0xE) = true ∧ driven live (256 * 9 + 255) = false ∧ SMap.get (fun _ => none) live.eoCal 9 = none ∧ parkForced live = false) ∧
    (SMap.get (fun _ => none) levelCal.eoCal 9 = some { tier := 255, maxIsCross := true, start := 0 } ∧ extremesAgree 7 0 = true ∧ extremesAgree 8 0 = false ∧
      runExtremes ⟨[0, 1, 2], [], []⟩ = none ∧ runExtremes swept = some (-2698, -2666)) := by
  decide +kernel

/-- Slot 0 is a SWITCH in a manual cell whose heater takes host codes. -/
def heated : State := withRole 0 1 live

theorem test_witness_HeaterFramesCarryTheirCodesInTheMean :
    (live1280.variant.columns = 5 ∧ 4 < live1280.variant.columns ∧ 9 < live.variant.columns) ∧
    (lockedOut { live with pins := { live.pins with lockout := true } } = true ∧ lockedOut { live with pins := { live.pins with vddLow := true } } = true ∧
      thermalDown (inStage 0xF) = true ∧
      bankFlag (put [(Reg.HTR_COL_STATUS 9, 8)] live) 9 255 = true ∧ latched (put [(rbAddr 9 511, 2 ^ 20)] live) 9 511 = true ∧
      role live 0 = roleUnused ∧ (heater live 0).held = none) ∧
    (WriteReaches 0 (Reg.HTR_HOST 0 0) heated ∧ rowSeven heated 0 = true ∧ cellAuto heated 0 = false ∧
      limitedMags heated 0 0 = magnitudes (bipolar heated 0) 0) ∧
    (WriteReaches 0 (Reg.HTR_HOST 9 255) live ∧ rowSeven live 2559 = false ∧ cellAuto (put [(Reg.CELL_STATUS 0, 1)] heated) 0 = true) ∧
    (getF live (Reg.PWR_RAIL_MV 5) 0 16 = 0 ∧ getF (put [(Reg.PWR_RAIL_MV 5, 5000)] live) (Reg.PWR_RAIL_MV 5) 0 16 ≠ 0) := by
  decide

/-- Slot 0 of the device heats, nothing may be spent, and VHTR is 5 V. -/
def heating : State :=
  put [(Reg.PWR_RAIL_MV 5, 5000), (Reg.HTR_BUDGET, 0)] { heated with heaters := SMap.set (fun _ => Heater.zero) [] 0 { Heater.zero with code := 0x8000 } }

/-- The same with its driver stages locked out. -/
def lockedDevice : State := { heating with pins := { heating.pins with lockout := true } }

/-- The state at the global frame boundary that its budget is judged for. -/
def atBoundary (s : State) : State := advanceUptime (ceilDiv s.time.uptime 2048 * 2048) s

/-- No output of it heats. -/
theorem nothing_heats_in_lockout (c : Nat) : colPower (atBoundary lockedDevice) 5000 c = 0 := by
  have hg : ∀ slot, govern (atBoundary lockedDevice) slot = .opened := fun slot => by
    unfold govern
    rw [if_pos]
    simp only [show lockedOut (atBoundary lockedDevice) = true by decide, Bool.true_or]
  have h : ∀ x, nextMag (atBoundary lockedDevice) c x = 0 := fun x => by
    simp [nextMag, magOf, hg]
  refine List.sum_eq_zero fun x hx => ?_
  obtain ⟨k, -, rfl⟩ := List.mem_map.1 hx
  simp only [h, Nat.zero_mul, Nat.cast_zero, zero_div]

/-- A power is no less than nothing. -/
theorem power_nonneg (s : State) (v c : Nat) : 0 ≤ colPower s v c := by
  refine List.sum_nonneg fun x hx => ?_
  obtain ⟨h, -, rfl⟩ := List.mem_map.1 hx
  positivity

/-- The heating device spends something. -/
theorem heating_spends : 0 < ((List.range heating.variant.columns).map (colPower (atBoundary heating) 5000)).sum := by
  have h0 : 0 < nextMag (atBoundary heating) 0 0 ∧ 0 < outputRes (atBoundary heating) 0 0 := by decide
  have hc : 0 < colPower (atBoundary heating) 5000 0 := by
    refine lt_of_lt_of_le ?_ (List.single_le_sum (fun x hx => ?_) _ (List.mem_map.2 ⟨0, List.mem_range.2 (by decide), rfl⟩))
    · obtain ⟨a, b⟩ := h0
      positivity
    · obtain ⟨h, -, rfl⟩ := List.mem_map.1 hx
      positivity
  refine lt_of_lt_of_le hc (List.single_le_sum (fun x hx => ?_) _ (List.mem_map.2 ⟨0, List.mem_range.2 (by decide), rfl⟩))
  obtain ⟨h, -, rfl⟩ := List.mem_map.1 hx
  exact power_nonneg _ _ _

theorem test_witness_BudgetsWithinAndBeyond :
    (getF lockedDevice (Reg.PWR_RAIL_MV 5) 0 16 = 5000 ∧
      ((List.range lockedDevice.variant.columns).map (colPower (atBoundary lockedDevice) 5000)).sum ≤ (effectiveBudget lockedDevice 5000 : Rat)) ∧
    (getF heating (Reg.PWR_RAIL_MV 5) 0 16 = 5000 ∧
      (effectiveBudget heating 5000 : Rat) < ((List.range heating.variant.columns).map (colPower (atBoundary heating) 5000)).sum) := by
  refine ⟨⟨by decide, ?_⟩, by decide, ?_⟩
  · refine le_trans (le_of_eq (List.sum_eq_zero fun x hx => ?_)) (Nat.cast_nonneg _)
    obtain ⟨k, -, rfl⟩ := List.mem_map.1 hx
    exact nothing_heats_in_lockout k
  · rw [show effectiveBudget heating 5000 = 0 by decide]
    exact_mod_cast heating_spends

theorem test_witness_ReadBackFlagsAndProtectionOpens :
    (nextVisit heated 0 0 = some 0 ∧ nextVisit (withRole 2559 2 live) 9 3 = some 510) ∧
    ((rbChecks heated 0 0 ⟨80010, 200000, 0⟩).testBit 0 = true ∧ (rbChecks heated 0 0 ⟨8990, 20000, 0⟩).testBit 1 = true ∧
      (rbChecks heated 0 0 ⟨9000, 17999, 0⟩).testBit 2 = true ∧
      (rbChecks (put [(Reg.HTR_RCAL_A 0 0, 1000)] heated) 0 0 ⟨20000, 40000, 0⟩).testBit 3 = true ∧
      (SMap.get (fun _ => 0) { heated with rbFail := SMap.set (fun _ => 0) [] 0 15 }.rbFail 0).testBit 3 = true) ∧
    ((9 : Fin 10).val < live.variant.columns) ∧ (WriteReaches 0 (Reg.HTR_FAULT_CLR 9) live ∧ WriteReaches 0 (Reg.HTR_COUNT_CLR 0) live) ∧
    (WriteReaches 0 (Reg.HTR_CAL_CMD 0) live ∧ SMap.get (fun _ => false) live.htrCal 0 = false ∧ live.pins.clearN = true ∧
      role heated 0 ≠ roleUnused ∧ WriteReaches 0 (Reg.HTR_CAL_CMD 0) { live with pins := { live.pins with clearN := false } } ∧
      SMap.get (fun _ => false) { live with htrCal := SMap.set (fun _ => false) [] 0 true }.htrCal 0 = true) ∧
    (readAgree ⟨511, 65535, 65535⟩ = true ∧ readAgree ⟨0, 1000, 1006⟩ = false ∧ readAgree ⟨0, 1000, 1005⟩ = true) := by
  decide

end Sys2Proof.Tests
end

