-- ==== Sys2Proof/Tests/WitnessD.lean ====
section
/-! SUPPORT. States that meet the hypotheses of the statements on loop cells, claims, pumps and tap wells. -/

namespace Sys2Proof.Tests

set_option Elab.async false

open Sys2Proof Sys2Proof.Machine

/-- Pumps 0 and 1 in these states. -/
def pumpsIn (a b : Nat) (s : State) : State := put [(Reg.TWIN_STATUS 0, a), (Reg.TWIN_STATUS 1, b)] s

/-- Cell 0 in a state, its pumps ACTIVE and loops running. -/
def withCell (c : LoopCell) (l : List (Nat × Nat)) : State :=
  setCell 0 c (put l (pumpsIn 4 4 { live with loopOrigin := some 0 }))

/-- Bank 1 of cell 0, with N = 1 and kernel INTEGRAL, as its descriptor says. -/
def bankOne (d : Nat) (status : Nat) : List (Nat × Nat) := [(Reg.CELL_BANK 0 384, d), (Reg.CELL_STATUS 0, status), (Reg.CELL_CTRL 0, 2)]

/-- A cell whose capture took no slot as in the loop. -/
def captured : LoopCell := { LoopCell.empty with capture := some [false, false, false, false] }

theorem test_witness_LoopTablesAreCapturedLoadedOrRefused :
    (WriteReaches 0 (Reg.LOOP_TABLE_CMD 0) live ∧ WriteReaches 0 (Reg.LOOP_TABLE_CMD 127) live ∧
      (∀ m ∈ pumpCells 0, m < live.variant.cells → getBit live (Reg.CELL_CTRL m) 1 = false) ∧ 0 ∈ pumpCells 0 ∧
      getBit (withCell LoopCell.empty (bankOne 0 0)) (Reg.CELL_CTRL 0) 1 = true ∧ cellPending (withCell LoopCell.empty (bankOne 0 0)) 0 = false ∧
      WriteReaches 0 (Reg.LOOP_TABLE_CMD 0) (withCell LoopCell.empty (bankOne 0 0))) ∧
    (sideOf 0 0 = some 0 ∧ sideOf 1 0 = some 1 ∧ sideOf 127 639 = some 0 ∧ 0 < live.variant.cells ∧
      cellPending (withCell captured (bankOne 0x11 4)) 0 = true ∧ captureFault (withCell captured (bankOne 0 4)) 0 ≠ 0 ∧
      captureFault (withCell captured (bankOne 0x11 4)) 0 = 0 ∧ inService (withCell captured (bankOne 0x11 4)) 0 = true) ∧
    (bitOf (bankWord (withCell captured (bankOne 0 0)) 0 (1 - activeBank (withCell captured (bankOne 0 0)) 0) 0) 15 = false ∧
      bankStates (withCell captured (bankOne 0 0)) 0 1 = 0 ∧ 12 < bankStates (withCell captured (bankOne 0x1D 0)) 0 1 ∧
      3 < bankKernel (withCell captured (bankOne 0x41 0)) 0 1) ∧
    ((withCell captured (bankOne 0x11 4)).cells ≠ [] ∧ bankFault (withCell captured (bankOne 0x11 4)) 0 1 [false, false, false, false] = 0 ∧
      inService (pumpsIn 1 6 live) 0 = false ∧ inService (pumpsIn 1 6 live) 1 = false) := by
  decide +kernel

/-- A bank whose LD_CRC is checked, with this word 2. -/
def crcBank (v : Nat) : State := setReg (Reg.CELL_BANK 0 386) (word v) (withCell captured (bankOne 0x8011 0))

theorem crc_ignores_its_own_word (v : Nat) : crcBytes (crcBank v) 0 1 = crcBytes (withCell captured (bankOne 0x8011 0)) 0 1 := by
  refine List.map_congr_left fun o _ => ?_
  by_cases h : 8 ≤ o ∧ o < 12
  · simp [h]
  · have : ¬ (384 * 1 + o / 4 = 386) := by omega
    have hr : bankWord (crcBank v) 0 1 (o / 4) = bankWord (withCell captured (bankOne 0x8011 0)) 0 1 (o / 4) := by
      refine reg_setReg_other _ _ ?_
      unfold Reg.CELL_BANK
      omega
    simp [bankByte, hr]

theorem test_witness_ABankWithAWrongCrc :
    ∃ v, v < 2 ∧ bitOf (bankWord (crcBank v) 0 1 0) 15 = true ∧ (bankWord (crcBank v) 0 1 2).toNat = v ∧
      crc32 (crcBytes (crcBank v) 0 1) ≠ v := by
  by_cases h : crc32 (crcBytes (withCell captured (bankOne 0x8011 0)) 0 1) = 0
  · exact ⟨1, by decide, by decide, by decide, by rw [crc_ignores_its_own_word, h]; decide⟩
  · exact ⟨0, by decide, by decide, by decide, by rw [crc_ignores_its_own_word]; exact h⟩

/-- Cells 1 to 9 of the pair update every 4 us with twelve states, and so would cell 0 with the bank that is pending. -/
def fullPair (a b : Nat) : State :=
  forEach (List.range 10) (fun m => withRole (4 * m) 1)
    (pumpsIn a b (withCell captured (bankOne 0x41C 4 ++ (List.range 9).map fun m => (Reg.CELL_BANK (m + 1) 0, 0x41C))))

theorem test_witness_APairThatIsFullOrLost :
    ((loopCell (fullPair 4 4) 0).capture = some [false, false, false, false] ∧ bankFault (fullPair 4 4) 0 1 [false, false, false, false] = 0 ∧
      overLoad (fullPair 4 4) 0 = true) ∧
    (bankFault (pumpsIn 1 6 (withCell captured (bankOne 0x11 4))) 0 1 [false, false, false, false] = 0 ∧
      (loopCell (pumpsIn 1 6 (withCell captured (bankOne 0x11 4))) 0).capture = some [false, false, false, false] ∧
      overLoad (pumpsIn 1 6 (withCell captured (bankOne 0x11 4))) 0 = false ∧
      inService (pumpsIn 1 6 (withCell captured (bankOne 0x11 4))) 0 = false ∧
      inService (pumpsIn 1 6 (withCell captured (bankOne 0x11 4))) 1 = false) := by
  decide +kernel

/-- The primary copy of cell 0 at tick 7, the cell's last boundary being `n`. -/
def atTick (n : Nat) (c : LoopCell) : LoopCell := { c with tick := some n, primary := { LoopCopy.empty with tick := some 7 } }

theorem test_witness_LoopBoundariesSwapAndChangeModes :
    ((withCell LoopCell.empty []).loopOrigin = some 0 ∧ sideOf 0 0 = some 0 ∧ computes (withCell LoopCell.empty []) 0 = true ∧
      columnResetting (withCell LoopCell.empty []) 0 = false ∧ LoopCell.empty.firstDue = false ∧ LoopCell.empty.permit = none ∧
      (LoopCell.empty.copy 0).tick = LoopCell.empty.tick ∧ LoopCell.empty.diverge = false ∧ { LoopCell.empty with diverge := true }.diverge = true ∧
      (LoopCell.empty.copy 0).copied = true) ∧
    (cellPending (withCell { LoopCell.empty with primary := { LoopCopy.empty with loaded := true }, secondary := { LoopCopy.empty with loaded := true } }
        (bankOne 0x11 4)) 0 = true ∧
      bankReady (withCell { LoopCell.empty with primary := { LoopCopy.empty with loaded := true }, secondary := { LoopCopy.empty with loaded := true } }
        (bankOne 0x11 4)) 0 = true) ∧
    (getBit (withCell LoopCell.empty [(Reg.CELL_CTRL 0, 1), (Reg.CELL_BANK 0 0, 0x11)]) (Reg.CELL_CTRL 0) 0 = true ∧
      bankKernel (withCell LoopCell.empty [(Reg.CELL_CTRL 0, 1), (Reg.CELL_BANK 0 0, 0x11)]) 0 0 ≠ 0 ∧
      bankKernel (withCell LoopCell.empty [(Reg.CELL_CTRL 0, 1)]) 0 0 = 0 ∧ cellAuto (withCell LoopCell.empty [(Reg.CELL_CTRL 0, 1)]) 0 = false ∧
      parkForced (withCell LoopCell.empty []) = false ∧ getBit (withCell LoopCell.empty []) (Reg.CELL_CTRL 0) 0 = false) ∧
    (WriteReaches 0 (Reg.INJ_CMD 639) live ∧ cellAuto live 639 = false ∧
      cellAuto (withRole 3 1 (withCell LoopCell.empty [(Reg.CELL_STATUS 0, 1), (Reg.CELL_BANK 0 0, 0x21), (Reg.INJ_CFG 0, 0x81), (Reg.INJ_LEN 0, 1)])) 0 = true ∧
      bankKernel (withRole 3 1 (withCell LoopCell.empty [(Reg.CELL_STATUS 0, 1), (Reg.CELL_BANK 0 0, 0x21), (Reg.INJ_CFG 0, 0x81), (Reg.INJ_LEN 0, 1)])) 0 0 = 2 ∧
      getBit (withRole 3 1 (withCell LoopCell.empty [(Reg.INJ_CFG 0, 0x81)])) (Reg.INJ_CFG 0) (4 + 3) = true ∧
      slotInLoop (withRole 3 1 (withCell LoopCell.empty [])) (4 * 0 + 3) = true ∧
      getBit (withCell LoopCell.empty [(Reg.INJ_STATUS 0, 1)]) (Reg.INJ_STATUS 0) 0 = true) ∧
    WriteReaches 0 (Reg.CELL_CLR 639) live := by
  decide +kernel

/-- Both copies of cell 0 have loaded its bank. -/
def bothLoaded (s : State) : State :=
  setCell 0 { loopCell s 0 with primary := { LoopCopy.empty with loaded := true }, secondary := { LoopCopy.empty with loaded := true } } s

theorem test_witness_LoopBoundariesOfOrphansAndFullPairs :
    (cellPending (bothLoaded (fullPair 4 4)) 0 = true ∧ bankReady (bothLoaded (fullPair 4 4)) 0 = true ∧ overLoad (bothLoaded (fullPair 4 4)) 0 = true ∧
      (loopCell (bothLoaded (fullPair 4 4)) 0).orphanDue = none ∧ (loopCell (bothLoaded (fullPair 4 4)) 0).diverge = false) ∧
    (overLoad (bothLoaded (withCell captured (bankOne 0x11 4))) 0 = false ∧ bankReady (bothLoaded (withCell captured (bankOne 0x11 4))) 0 = true) ∧
    (computes (pumpsIn 1 6 (withCell { LoopCell.empty with orphanDue := some true } [])) 0 = false ∧
      ((LoopCell.empty.copy 0).tick = LoopCell.empty.tick)) := by
  decide +kernel

/-- Cell 0 in automatic under pump 0 with these claims, both copies at tick 7, the secondary's update received or not. -/
def claimed (claims : Nat) (received : Option Nat) (codes : Nat) : State :=
  withRole 0 1 (withCell { LoopCell.empty with primary := { LoopCopy.empty with tick := some 7, codes := [some 900, none, none, none] }
                                               secondary := { LoopCopy.empty with tick := some 7, received := received, codes := [some codes, none, none, none] }
                                               permit := some 0 }
    [(Reg.CLAIM 0 0, claims), (Reg.CELL_STATUS 0, 1), (Reg.TWIN_CFG 0, 0x0230)])

theorem test_witness_ClaimArbiterRegistersPassesOrRefuses :
    (sideOf 0 0 = some 0 ∧ (claimed 5 none 900).loopOrigin.isSome = true ∧ columnResetting (claimed 5 none 900) 0 = false ∧
      computes (claimed 5 none 900) 0 = true ∧ ((loopCell (claimed 5 none 900) 0).copy 1).received ≠ some 7 ∧
      claimOf (claimed 5 none 900) 0 0 = 5 ∧ orphaned (claimed 5 none 900) 0 = false ∧ holderSide (claimed 5 none 900) 0 = 0 ∧
      cellAuto (claimed 5 none 900) 0 = true ∧ rowSeven (claimed 5 none 900) 0 = true ∧
      ((loopCell (claimed 5 none 900) 0).copy 0).codes[0]? = some (some 900)) ∧
    ((claimOf (claimed (4 + 65535 * 65536) none 900) 0 1 + 1) % 65536 = 0 ∧ claimOf (claimed (4 + 65535 * 65536) none 900) 0 0 ≠ 0 ∧
      raisePermitted (claimed (4 + 65535 * 65536) none 900) 0 0 = true) ∧
    (((loopCell (claimed 5 (some 7) 900) 0).copy 1).received = some 7 ∧ (loopCell (claimed 5 (some 7) 900) 0).compared ≠ some 7 ∧
      inService (claimed 5 (some 7) 900) 0 = true ∧ inService (claimed 5 (some 7) 900) 1 = true ∧
      (largestDiff (claimed 5 (some 7) 900) 0).1 ≤ pairCfg (claimed 5 (some 7) 900) 0 8 8 ∧
      pairCfg (claimed 5 (some 7) 30000) 0 8 8 < (largestDiff (claimed 5 (some 7) 30000) 0).1 ∧
      (loopCell (claimed 5 (some 7) 30000) 0).run + 1 ≠ pairCfg (claimed 5 (some 7) 30000) 0 4 4 ∧
      (loopCell (setCell 0 { loopCell (claimed 5 (some 7) 30000) 0 with run := 2 } (claimed 5 (some 7) 30000)) 0).run + 1 =
        pairCfg (claimed 5 (some 7) 30000) 0 4 4 ∧
      (loopCell (claimed 5 (some 7) 900) 0).primary.copied = true ∧ (loopCell (claimed 5 (some 7) 900) 0).secondary.copied = true ∧
      reg (claimed 5 (some 7) 30000) (Reg.PE_KERNEL_VER 0) = reg (claimed 5 (some 7) 30000) (Reg.PE_KERNEL_VER 1) ∧
      pumpState (claimed 5 (some 7) 30000) 0 = 4 ∧ pumpState (claimed 5 (some 7) 30000) 1 = 4) ∧
    (WriteReaches 0 (Reg.TWIN_CMD 127) live ∧ inService (pumpsIn 4 4 live) 0 = true ∧ (pump (pumpsIn 4 4 live) 0).quick = none ∧
      WriteReaches 0 (Reg.HEALTH_CLR 0) live ∧ WriteReaches 0 (Reg.CLAIM_COUNT_CLR 9) live) := by
  decide +kernel

/-- Pump 0 holds cell 0, which no permit binds. -/
def holding (a b : Nat) : State := pumpsIn a b (withCell LoopCell.empty [(Reg.CLAIM 0 0, 1)])

/-- A mismatch has asked both pumps of pair 0 for their quick self-test. -/
def bothAsked : State := setPump 0 { Pump.empty with quick := some .mismatch } (setPump 1 { Pump.empty with quick := some .mismatch } live)

theorem test_witness_LostPumpsPassTheirCellsOrOrphanThem :
    ((sideOf 0 0).isSome = true ∧ (holding 4 4).loopOrigin.isSome = true ∧ columnResetting (holding 4 4) 0 = false ∧ computes (holding 4 4) 0 = true ∧
      computes (holding 5 4) 0 = true ∧ inService (holding 3 4) 0 = true ∧ inService (holding 4 1) 1 = false ∧ 0 ∈ pairCells 0 ∧
      holds (holding 4 4) 0 0 = true ∧ (loopCell (holding 4 4) 0).permit ≠ sideOf 0 0) ∧
    ((pump bothAsked (2 * 0)).quick =
        some .mismatch ∧
      (pump bothAsked (2 * 0 + 1)).quick =
        some .mismatch) ∧
    (pumpState (holding 1 4) 0 = 1 ∧ pumpState (holding 2 4) 0 = 2 ∧ orphaned (put [(claimState 0, 2)] (holding 2 4)) 0 = true ∧
      (loopCell (setCell 0 { loopCell (holding 2 4) 0 with orphanDue := some false } (holding 2 4)) 0).orphanDue ≠ none) ∧
    (WriteReaches 0 (Reg.TWIN_CMD 0) (holding 4 4) ∧ pumpState (holding 4 4) 0 = 4 ∧ pumpState (holding 4 4) (twin 0) = 4 ∧
      { holding 4 4 with kernelStaged := some 0x10203 }.kernelStaged = some 0x10203 ∧ (∀ m ∈ pairCells 64, holds (put [(claimState 320, 1)] live) 63 m = false) ∧
      (holding 4 4).kernelStaged = none) := by
  decide +kernel

end Sys2Proof.Tests
end

