-- ==== Sys2Proof/Tests/WitnessE.lean ====
section
/-! SUPPORT. States that meet the hypotheses of the statements on tap wells, verdicts and pilots. -/

namespace Sys2Proof.Tests

set_option Elab.async false

open Sys2Proof Sys2Proof.Machine

/-- The pages of these wells run. -/
def wellsOn (l : List Nat) (s : State) : State := forEach l (fun w => setPhase (wellPage w) .running) s

/-- Wells 0, 1, 160 and its checker run. -/
def tapped : State := wellsOn [0, 1, 160, partnerWell 160] live

theorem test_witness_RangesReadingsAndReferencesShow :
    (autoRanges (put [(Reg.CH_CFG 0 15, 4)] tapped) 0 15 = true ∧ 0 < chRange (put [(Reg.CH_STATUS 0 15, 3)] tapped) 0 15 ∧
      autoRanges (put [(Reg.CH_CFG 0 15, 4), (Reg.CH_STATUS 0 15, 3)] tapped) 0 15 = true ∧ chRange (put [(Reg.CH_STATUS 0 15, 0)] tapped) 0 15 = 0 ∧
      chRange (put [(Reg.CH_STATUS 0 15, 2)] tapped) 0 15 < 3 ∧ chRange (put [(Reg.CH_STATUS 0 15, 3)] tapped) 0 15 = 3) ∧
    (wellPresent tapped (160 + 7 / 8) = true ∧
      comparesPairs (put [(Reg.WELL_STATUS 160, 1), (Reg.WELL_STATUS (partnerWell 160), 1)] tapped) (160 + 7 / 8) (7 % 8) = true ∧
      getBit tapped (Reg.PW_PLAUS_STATUS 160) 7 = false ∧ plausRun tapped 160 7 true (List.replicate 16 (4000, 0)) = true ∧
      plausRun tapped 160 7 true (List.replicate 15 (4000, 0)) = false ∧ plausRun tapped 160 7 false (List.replicate 16 (100, 100)) = true ∧
      plausRun tapped 160 7 false (List.replicate 16 (4000, 0)) = false) ∧
    (wellPresent live (160 + 63) = true ∧ bitOf (monEntry (setAct (Reg.VRD_MON 0) 0x8005 live) 0) 15 = true ∧
      fld (monEntry (setAct (Reg.VRD_MON 0) 0x8005 live) 0) 10 1 = 0 ∧ monitorFor (setAct (Reg.VRD_MON 0) 0x8005 live) 5 0 = some 0) ∧
    (wellRuns tapped 0 = true ∧ wellRuns tapped 160 = true ∧ isTap 0 = true ∧ dieUnwatched (loseWell 0 true tapped) = false ∧
      wellRuns (wellsOn [298, 303] live) 303 = true ∧ dieUnwatched (loseWell 303 true (wellsOn [298, 303] live)) = false ∧
      wellRuns (wellsOn [298, 303] live) 298 = true ∧ dieUnwatched (loseWell 298 true (wellsOn [298, 303] live)) = true) ∧
    (1099 < 1100 ∧ 1300 < 1301 ∧ wellLost live (288 + 15) = false ∧ wellLost (put [(Reg.WELL_STATUS 303, 16)] live) (288 + 15) = true) ∧
    (wellPresent live 303 = true ∧ getBit live (Reg.WELL_STATUS 303) 0 = false ∧ SMap.get (fun _ => none) live.settleFrom 303 = none ∧
      SMap.get (fun _ => none) { live with settleFrom := SMap.set (fun _ => none) [] 303 (some 5) }.settleFrom 303 = some 5 ∧
      getBit (put [(Reg.WELL_STATUS 303, 1)] live) (Reg.WELL_STATUS 303) 0 = true) ∧
    (wellPresent live 287 = true ∧ (live.refOut[getF live (Reg.WELL_CFG 287) 0 2]?).getD false = false ∧
      ({ live with refOut := [true, true, true] }.refOut[getF live (Reg.WELL_CFG 287) 0 2]?).getD false = true) ∧
    (WriteReaches 0 (Reg.WELL_CFG 0) live ∧ WriteReaches 0 (Reg.WELL_CFG 287) live ∧ WriteReaches 0 (Reg.WELL_COUNT_CLR 287) live ∧
      WriteReaches 0 (Reg.PW_PLAUS_CLR (160 + 63)) live ∧ fld (0xC802 : Word) 8 8 ≤ 200 ∧
      calShown { live with calRun := SMap.set (fun _ => none) [] 0 (some ⟨.internal, 1, 1, 0, 0⟩) } 0 ≠ none) := by
  decide +kernel

/-- A pin on well 0 from now for a microsecond. -/
def aPin : WellPin := { well := 0, inputs := [0], exclusive := true, start := 5000000000, stop := 5000001000 }

/-- A binding of pair 0. -/
def aBinding (mode : Nat) (bound : Bool) : Binding := { mode := mode, tier := 31, bound := bound, gen := 0, ends := some 1000002000 }

/-- That binding stands. -/
def bindingUp (mode : Nat) (bound : Bool) : State := { tapped with binding := SMap.set (fun _ => none) [] 0 (some (aBinding mode bound)) }

theorem test_witness_PinsAndBindingsTakeWellsFromTheScan :
    ({ tapped with pinsPlaced := [aPin] }.pinsPlaced.find? (fun q => q.well == 0) = some aPin ∧ wellRuns tapped 0 = true ∧ boundWell tapped 0 = none ∧
      pinOf tapped 0 = none ∧ boundWell (bindingUp 0 true) 0 ≠ none ∧ wellRuns (bindingUp 0 true) 0 = true) ∧
    (pinOf { tapped with pin := SMap.set (fun _ => none) [] 0 (some aPin) } 0 = some aPin) ∧
    (WriteReaches 0 (Reg.ILV_CTRL (2 * 0)) tapped ∧ WriteReaches 0 (Reg.ILV_CTRL (2 * 79)) tapped ∧ bindingOf tapped 0 = none ∧
      (∀ w, w = 2 * 0 ∨ w = 2 * 0 + 1 → wellRuns tapped w = true ∧ calRun tapped w = none ∧ pinOf tapped w = none) ∧
      wellRuns tapped (2 * 79) = false ∧ bindingOf (bindingUp 1 false) 0 ≠ none) ∧
    (bindingOf (bindingUp 1 false) 0 = some (aBinding 1 false) ∧ bindingOf (bindingUp 2 false) 0 = some (aBinding 2 false) ∧
      (takeEvent (32 + 0) { bindingUp 2 false with evt := { inFlight := [⟨32, 5, 0, 0⟩], published := [] } }).isSome = true) ∧
    (bindingOf (bindingUp 0 true) 0 = some (aBinding 0 true) ∧ (aBinding 0 true).ends = some 1000002000 ∧
      WriteReaches 0 (Reg.ILV_CTRL (2 * 0)) (bindingUp 0 true) ∧ WriteReaches 0 (Reg.ILV_CTRL (2 * 0)) (bindingUp 1 false)) := by
  refine ⟨?_, ?_, ⟨?_, ?_, ?_, ?_, ?_, ?_⟩, ?_, ?_⟩
  case refine_6 => rintro w (rfl | rfl) <;> decide +kernel
  all_goals decide +kernel

/-- A run of well 0 in a phase. -/
def inRun (p : CalPhase) : State := { tapped with calRun := SMap.set (fun _ => none) [] 0 (some ⟨p, 1, 1, 1000000000, 0⟩) }

/-- A measurement of channel 0 in range 0 with these full-scale sums, 256 conversions each. -/
def measured (f1 f2 : Nat) : CalMeasure := { checker := false, channel := 0, range := 0, zero1 := 0, full1 := f1, zero2 := 0, full2 := f2 }

theorem test_witness_CalibrationRunsAgreeOrChangeNothing :
    (WriteReaches 0 (Reg.CAL_CMD 0) tapped ∧ isTap 0 = true ∧ WriteReaches 0 (Reg.CAL_CMD 160) tapped ∧ isPrimary 160 = true ∧
      calRefused tapped 0 0 = true ∧ calRefused tapped 0 1 = false ∧ calRefused tapped 160 0x80 = false ∧ calRefused (inRun .zero) 0 1 = true) ∧
    (calRun (inRun .external) 0 = some ⟨.external, 1, 1, 1000000000, 0⟩ ∧ calRun tapped 0 = none ∧
      (selected 0 1).any (targetBad (inRun .held) 0) = true ∧
      (selected 0 1).any (targetBad (put [(Reg.CH_STATUS 0 0, 0), (Reg.CH_CAL_TARGET 0 0, fullScale 0 / 2)] (inRun .held)) 0) = false ∧
      calRun (put [(Reg.CH_STATUS 0 0, 0), (Reg.CH_CAL_TARGET 0 0, fullScale 0 / 2)] (inRun .held)) 0 = some ⟨.held, 1, 1, 1000000000, 0⟩) ∧
    (calRun (inRun .zero) 0 = some ⟨.zero, 1, 1, 1000000000, 0⟩) ∧
    (calGathered [measured 819200 419200] (calNeeded (inRun .internal) 0 ⟨.internal, 1, 1, 1000000000, 0⟩) = some [measured 819200 419200] ∧
      calGathered [measured 0 0] (calNeeded (inRun .internal) 0 ⟨.internal, 1, 1, 1000000000, 0⟩) = some [measured 0 0] ∧
      calGathered [] (calNeeded (inRun .internal) 0 ⟨.internal, 1, 1, 1000000000, 0⟩) = none ∧
      [measured 819200 419200].find? (fun x => !calAgrees (inRun .internal) 0 ⟨.internal, 1, 1, 1000000000, 0⟩ x) = some (measured 819200 419200)) ∧
    (calAgrees (inRun .internal) 0 ⟨.internal, 1, 1, 1000000000, 0⟩ (measured 0 0) = true ∧ gainBad (inRun .internal) 0 ⟨.internal, 1, 1, 1000000000, 0⟩ (measured 0 0) = true ∧
      calAgrees (inRun .internal) 0 ⟨.internal, 1, 1, 1000000000, 0⟩ (measured 819200 819200) = true ∧
      gainBad (inRun .internal) 0 ⟨.internal, 1, 1, 1000000000, 0⟩ (measured 819200 819200) = false) := by
  decide +kernel

/-- An output item on input 0 with two offsets left. -/
def anItem (index : Nat) : VerdictItem :=
  { tap := false, index := index, monitor := 3, loss := 0, input := 0, reference := 320000000000, left := [0, 1], inside := 0, outside := 0, result := none }

/-- An epoch under verdict with two items and this plan; a sample may be 2 µs old. -/
def judging (plan : List Word) : VerdictEpoch :=
  { num := 7, t := 5000000000, plan := plan, cfg := 80, items := [anItem 5, anItem 9], faulted := false, failed := false }

/-- The dark input 0 is known, the epoch is under verdict, and well 160 scans with its reference settled; its channel 3 has OFS 16. -/
def dark (plan : List Word) : State :=
  { put [(Reg.WELL_STATUS 160, 1), (Reg.CH_STATUS 160 3, 1), (Reg.CH_CAL 160 13, 16 * 65536 + 32768)] tapped with
    verdict := some (judging plan)
    wellOrigin := some 0
    inputPower := SMap.set (fun _ => none) [] 0 (some ⟨0, 0, false, false, false, false, 0, 1000000000, 0⟩) }

/-- That device as a sample of item 5 has shown. -/
def sampled (plan : List Word) (raw : BitVec 12) : State :=
  recordSample 160 3 raw (advanceTo (((anItem 5).reference + 63) / 64) (dark plan))

theorem dark_expects_nothing (plan : List Word) (raw : BitVec 12) (u : Nat) (hu : u ≤ 1000050000) :
    expected (sampled plan raw) (judging plan) (anItem 5) u = some 0 := by
  have h : inputAt (sampled plan raw) 0 u = some ⟨0, 0, false, false, false, false, 0, 1000000000, 0⟩ := by
    have hp : (sampled plan raw).inputPower = (dark plan).inputPower := by
      unfold sampled recordSample setInt intEdge
      cases isOver raw
      · rfl
      · simp only [whenB, if_true, apply_ite State.inputPower]
        split <;> rfl
    have hw : (sampled plan raw).inputWas = [] := by
      unfold sampled recordSample setInt intEdge
      cases isOver raw
      · rfl
      · simp only [whenB, if_true, apply_ite State.inputWas]
        split <;> rfl
    unfold inputAt inputEntry
    rw [hp, hw, show SMap.get (fun _ => none) (dark plan).inputPower 0 = some ⟨0, 0, false, false, false, false, 0, 1000000000, 0⟩ from rfl]
    simp [SMap.get, hu]
  unfold expected
  rw [show (anItem 5).input = 0 from rfl, h]
  simp [anItem, inputPi, inputPiExact, dyadicRat]

theorem dark_window (plan : List Word) (c : Rat) (o : Bool) :
    windowSide (judging plan) (anItem 5) 0 c o = if o = true ∨ 0 < c then 2 else if c < 0 then 1 else 0 := by
  simp [windowSide]

theorem test_witness_ItemsAreJudgedSampleBySample :
    ((dark []).verdict = some (judging []) ∧
      (judging []).items.find? (fun i => i.tap == false && i.index == 5 && i.result.isNone && i.left.contains 1) = some (anItem 5) ∧
      (∃ x ∈ (judging []).items, x.result = none ∧ ¬ (x.tap = (anItem 5).tap ∧ x.index = (anItem 5).index)) ∧
      (anItem 5).left.erase 1 ≠ []) ∧
    (itemSample (sampled [] 0) (judging []) (anItem 5) 0 = some (1999999750, 160) ∧
      itemSample { sampled [] 0 with wellOrigin := none } (judging []) (anItem 5) 0 = none ∧ itemSource (dark []) (anItem 5) = (160, 3)) ∧
    (expected { sampled [] 0 with inputPower := [] } (judging []) (anItem 5) 1000000000 = none) ∧
    (∃ e, expected (sampled [0, 0, 0, 0, 0, 1] 0) (judging [0, 0, 0, 0, 0, 1]) (anItem 5) 1000000000 = some e ∧
      e < ((80 * fld ((judging [0, 0, 0, 0, 0, 1]).word 5) 0 16 : Nat) : Rat)) ∧
    (∃ e, (∀ raw, expected (sampled [] raw) (judging []) (anItem 5) 1000000000 = some e) ∧
      ((80 * fld ((judging []).word 5) 0 16 : Nat) : Rat) ≤ e ∧
      windowSide (judging []) (anItem 5) e (itemCurrent (sampled [] 1) (anItem 5) (1999999750, 160) 1) (isOver 1) = 0 ∧
      windowSide (judging []) (anItem 5) e (itemCurrent (sampled [] 0) (anItem 5) (1999999750, 160) 0) (isOver 0) = 1 ∧
      windowSide (judging []) (anItem 5) e (itemCurrent (sampled [] 2) (anItem 5) (1999999750, 160) 2) (isOver 2) = 2 ∧
      windowSide (judging []) (anItem 5) e (itemCurrent (sampled [] 4090) (anItem 5) (1999999750, 160) 4090) (isOver 4090) = 2) ∧
    ((judging []).required ≤ (anItem 5).inside + 1 ∧ (judging []).samples < (judging []).required + (anItem 5).outside + 1 ∧
      (anItem 5).inside + 1 < (judging [0x1100]).required ∧
      (judging [0x100]).required + (anItem 5).outside + 1 ≤ (judging [0x100]).samples) ∧
    WriteReaches 0 Reg.VRD_COUNT_CLR live := by
  refine ⟨by decide, by decide +kernel, rfl, ⟨0, dark_expects_nothing _ _ _ (by decide), ?_⟩, ⟨0, fun raw => dark_expects_nothing _ _ _ (by decide), ?_, ?_, ?_, ?_, ?_⟩,
    by decide, by decide⟩
  · rw [show fld ((judging [0, 0, 0, 0, 0, 1]).word 5) 0 16 = 1 by decide]; norm_num
  · rw [show fld ((judging []).word 5) 0 16 = 0 by decide]; norm_num
  · rw [dark_window, show itemCurrent (sampled [] 1) (anItem 5) (1999999750, 160) 1 = 0 by decide +kernel]; decide
  · have h : itemCurrent (sampled [] 0) (anItem 5) (1999999750, 160) 0 < 0 := by decide +kernel
    rw [dark_window, if_neg (by rintro (h' | h'); exacts [absurd h' (by decide), absurd h' (not_lt.2 h.le)]), if_pos h]
  · rw [dark_window, if_pos (Or.inr (by decide +kernel))]
  · rw [dark_window, if_pos (Or.inl (by decide))]

/-- Pilots and decoders are on, an epoch is applied, and monitor 0 is the output monitor of port 5. -/
def piloting : State :=
  setAct (Reg.VRD_MON 0) 0x8405 { setPhase verdictPage .running (put [(Reg.VRD_PILOT_CFG, 3), (Reg.VRD_IPT_BASE, 1)] live) with
    lastApplied := some (7, 5000000000)
    pilotDecode := some { num := 7, start := 1000000000, left := [0, 511], heard := [], acted := false } }

/-- What a decoder has heard where the frame of port 3 of switch 0 arrives undimmed or dimmed, twelve readings a bit. -/
def reading (bright dim : Nat) (stale : Bool) : PilotTally :=
  let l := (List.range 32).map fun i => (12 * (if (pilotFrame 0 3).testBit (31 - i) then bright else dim), 12)
  { bits := l, sum := (l.map Prod.fst).sum, count := 384, stale := stale }

theorem test_witness_PilotsRunAndAreDecoded :
    (pilotWanted piloting = true ∧ pilotWanted live = false ∧
      (∃ n, n = 2559 ∧ n < live.variant.slots ∧ role (setChannel n { EoChannel.unused with state := .hold } (withRole n 2 piloting)) n = roleAtten ∧
        (channel (setChannel n { EoChannel.unused with state := .hold } (withRole n 2 piloting)) n).state = .hold) ∧
      (pilotFrame 0 0).testBit (31 - 0) = true ∧ piloting.pilotBit = none ∧
      { piloting with pilotBit := some 4, pilotStarts := [1000000000] }.pilotBit = some 4 ∧
      { piloting with pilotBit := some 4, pilotStarts := [1000000000] }.pilotStarts.head? = some 1000000000 ∧ 1000000000 ≤ piloting.time.uptime) ∧
    (piloting.lastApplied = some (7, 5000000000) ∧ verdictRuns piloting = true ∧ verdictRuns live = false ∧ getBit piloting Reg.VRD_PILOT_CFG 1 = true ∧ outputMonitor piloting 0 = true ∧
      outputMonitor piloting 1 = false ∧ getBit live Reg.VRD_PILOT_CFG 0 = false) ∧
    (piloting.pilotDecode = some { num := 7, start := 1000000000, left := [0, 511], heard := [], acted := false } ∧ [0, 511].erase 511 ≠ [] ∧
      pilotResult piloting 511 (reading 12000 9000 false) = 2 ∧ pilotResult piloting 511 (reading 12000 9000 true) = 4 ∧
      pilotResult piloting 511 (reading 7000 6000 false) = 4 ∧ pilotResult piloting 511 (reading 9000 12000 false) = 3) ∧
    (standAlone live = true ∧ getBit live Reg.VRD_IPT_BASE 0 = false ∧ getBit piloting Reg.VRD_IPT_BASE 0 = true) := by
  refine ⟨⟨?_, ?_, ⟨2559, ?_⟩, ?_⟩, ?_, ?_, ?_⟩ <;> decide +kernel

end Sys2Proof.Tests
end

