-- ==== Sys2Proof/Tests/WitnessF.lean ====
section
/-! SUPPORT. States that meet the hypotheses of the statements on capture, the ring and time. -/

namespace Sys2Proof.Tests

set_option Elab.async false

open Sys2Proof Sys2Proof.Machine

/-- A descriptor of raw codes of slot 5 in one-item units: 64 KiB ring, 16 headers, one item after the trigger, event 9, two records. -/
def aDesc (kind : Nat) (continuous full : Bool) : CaptDesc :=
  { CaptDesc.empty with kind := kind, index := 5, continuous := continuous, full := full, size := 16, hdrLog := 4, header := 0x10000, post := 1
                        trigKind := 1, trigNum := 9, records := 2 }

/-- Stream 255 in a phase. -/
def streamIn (p : CaptPhase) (d : CaptDesc) : State :=
  put [(Reg.STATUS captPage, 1)] { live with
    dramSize := 2 ^ 30
    streams := SMap.set (fun _ => CaptStream.empty) [] 255
      { CaptStream.empty with desc := d, phase := p, count := 2, trigger := some ⟨5000000000, 3, 0, 999999990, 0, 0⟩ } }

/-- The descriptor of stream 255 as the host writes it into shared SRAM. -/
def describes (words : List Nat) (s : State) : State := writeMem (sramAt (64 * 255)) (words.flatMap (toBytes 4)) s

/-- A stream with a record that the host has not acknowledged, on a ring that is full. -/
def ringFull (full : Bool) : State :=
  { streamIn .armed (aDesc 5 false full) with
    streams := SMap.set (fun _ => CaptStream.empty) [] 255
      { CaptStream.empty with desc := aDesc 5 false full, phase := .armed, seq := 1, written := 65536, records := [⟨1, 0, 64⟩] } }

/-- An item at the trigger instant. -/
def anItem7 : CaptItem :=
  { value := 7, instant := 5000000000, range := 0, overRange := false, unsettled := false, gap := false, rateChanged := false, dropped := 0 }

/-- Stream 255 in POST with the one item that its record wants. -/
def recorded : State :=
  { streamIn .post (aDesc 3 false false) with
    streams := SMap.set (fun _ => CaptStream.empty) [] 255
      { CaptStream.empty with desc := aDesc 3 false false, phase := .post, written := 4, count := 1
                              units := [⟨0, 4, 0, [anItem7]⟩], trigger := some ⟨5000000000, 3, 0, 999999990, 0, 0⟩ } }

theorem test_witness_StreamsArmTriggerRecordAndStop :
    (WriteReaches 0 Reg.CAPT_CMD (streamIn .idle CaptDesc.empty) ∧
      armRefused (streamIn .idle CaptDesc.empty) 255 (readDesc (streamIn .idle CaptDesc.empty) 255) ≠ 0 ∧
      armRefused (describes [5 + 5 * 256, 0x041000, 0, 0, 0x10000, 0, 0, 64, 0] (streamIn .idle CaptDesc.empty)) 255
        (readDesc (describes [5 + 5 * 256, 0x041000, 0, 0, 0x10000, 0, 0, 64, 0] (streamIn .idle CaptDesc.empty)) 255) = 0) ∧
    ((stream (streamIn .armed (aDesc 5 false false)) 255).phase = .armed ∧ (stream (streamIn .running (aDesc 5 true false)) 255).phase = .running ∧
      (takeEvent (128 + 255) { streamIn .armed (aDesc 5 false false) with evt := { inFlight := [⟨383, 5, 9, 3⟩], published := [] } }).isSome = true ∧
      (stream (streamIn .post (aDesc 5 false false)) 255).trigger ≠ none ∧ 999999990 ≠ live.time.uptime) ∧
    (getBit (put [(Reg.TRIG_CFG 7, 2)] live) (Reg.TRIG_CFG 7) 0 = false ∧ getBit (put [(Reg.TRIG_CFG 7, 2)] live) (Reg.TRIG_CFG 7) 1 = true ∧
      getBit (put [(Reg.TRIG_CFG 7, 4)] live) (Reg.TRIG_CFG 7) 2 = true ∧ getBit (put [(Reg.TRIG_CFG 7, 1)] live) (Reg.TRIG_CFG 7) 0 = true ∧
      (stream (streamIn .armed { aDesc 5 false false with trigKind := 2, trigNum := 7 }) 255).desc.trigNum = 7) ∧
    ((takeEvent (16 + 7) (put [(Reg.TRIG_CFG 7, 1)] { live with evt := { inFlight := [⟨23, 0, 9, 3⟩], published := [] } })).isSome = true ∧
      SMap.get (fun _ => none) live.trigPulse 7 = none ∧
      SMap.get (fun _ => none) { live with trigPulse := SMap.set (fun _ => none) [] 7 (some (1, 2)) }.trigPulse 7 = some (1, 2)) ∧
    ((stream (ringFull false) 255).phase.active = true ∧ (stream (ringFull false) 255).desc.kind ≠ 7 ∧ (aDesc 3 false false).unitItems = 1 ∧
      (stream (streamIn .armed (aDesc 7 false false)) 255).desc.kind = 7 ∧ (aDesc 7 false false).tagged = false ∧
      (stream (streamIn .armed (aDesc 7 false false)) 255).phase.active = true ∧
      overwritten (ringFull true) 255 65540 ≠ [] ∧ (stream (ringFull true) 255).desc.full = true ∧
      overwritten (streamIn .armed (aDesc 5 false true)) 255 65540 = []) ∧
    (((stream recorded 255).span ⟨5000000000, 3, 0, 999999990, 0, 0⟩).2.2 < (stream recorded 255).count ∧
      (stream recorded 255).trigger = some ⟨5000000000, 3, 0, 999999990, 0, 0⟩ ∧ (stream recorded 255).stopAfter = false ∧
      (stream (streamIn .running (aDesc 5 true false)) 255).eligible + (stream (streamIn .running (aDesc 5 true false)) 255).desc.post ≤ 2) ∧
    ((stream (streamIn .idle CaptDesc.empty) 255).phase.active = false ∧ (stream (streamIn .post (aDesc 5 false false)) 255).phase.active = true) := by
  decide +kernel

/-- A member of a ring of two at position 0: joined, with lane 0 up and position 1 joined. -/
def member (status : Nat) : State :=
  put [(Reg.RING_CFG, 0x502), (Reg.RING_STATUS, status), (Reg.CTRL ringPage, 1), (Reg.RING_LANE 0, 2), (Reg.RING_PEER_A 1, 0x10003)] network

/-- It follows position 1, or leads. -/
def following : State := member 0x244
/-- It leads. -/
def leading : State := member 0x50

/-- What a lane of the ring holds. -/
def laneHolds (l : Nat) (v : RingLane) (s : State) : State := { s with ring := { s.ring with lanes := SMap.set (fun _ => RingLane.empty) s.ring.lanes l v } }

/-- A lane that keeps frame 5 for replay, replayed this often. -/
def keeps (replays : Nat) : RingLane :=
  { RingLane.empty with sent := [{ seq := 5, replays := replays, vc := 1, hopClass := 1, flits := 8, forwarded := false }] }

/-- A follower in a ring of four whose position 2 has joined. -/
def ofFour : State := put [(Reg.RING_CFG, 0x504), (Reg.RING_PEER_A 2, 0x10003)] following

/-- What is known of position 1. -/
def peerOne (p : RingPeer) (s : State) : State := { s with ring := { s.ring with peers := SMap.set (fun _ => RingPeer.empty) s.ring.peers 1 p } }

/-- A HELLO of position 1. -/
def aHello (size : Nat) : Hello :=
  { proto := 1, low := 1, high := 2, variant := .pe2560, pos := 1, size := size, xref := true, serial := 7, firmware := 9, claim := 4, term := 1
    leader := some 1, admits := true }

theorem test_witness_LanesFailRetrainAndMembersJoin :
    (laneState following 0 = 2 ∧ (ringLane (laneHolds 0 (keeps 0) following) 0).sent = (keeps 0).sent ∧
      (ringLane (laneHolds 0 (keeps 0) following) 0).waiting = [] ∧ (∀ f ∈ (keeps 0).sent, f.replays < 3) ∧ (keeps 0).sent ≠ [] ∧ 2048 ≤ ((0 : BitVec 12).toNat + 4096 - 5) % 4096 ∧
      (ringLane (laneHolds 0 (keeps 3) following) 0).sent = (keeps 3).sent ∧ (∃ f ∈ (keeps 3).sent, 3 ≤ f.replays) ∧ ¬ 2048 ≤ ((5 : BitVec 12).toNat + 4096 - 5) % 4096) ∧
    (laneState (put [(Reg.RING_LANE 3, 3)] live) 3 = 3 ∧ laneState (put [(Reg.RING_LANE 3, 1)] live) 3 = 1 ∧ (ringLane live 3).probation = false ∧
      (ringLane (laneHolds 3 { RingLane.empty with probation := true, lockedAt := some 5 } live) 3).probation = true ∧
      (ringLane (laneHolds 3 { RingLane.empty with probation := true, lockedAt := some 5 } live) 3).lockedAt = some 5 ∧
      crcFails (noteCrc 0 3 following) 0 = false ∧ crcFails (noteCrc 0 32 following) 0 = true) ∧
    (ringRuns following = true ∧
      excludeReason (peerOne { RingPeer.empty with hello := some (aHello 2) } following) 0 (aHello 2) = 0 ∧
      excludeReason (peerOne { RingPeer.empty with hello := some (aHello 2) } following) 0 (aHello 4) = 5) ∧
    (standAlone following = false ∧ enabled following ringPage = true ∧ joinState (member 4) ≠ 2 ∧ getBit (put [(Reg.GLB_PRIME_STATUS, 0x107)] (member 4)) Reg.GLB_PRIME_STATUS 8 = true ∧
      getBit following Reg.RING_CFG 8 = true ∧ WriteReaches 0 Reg.RING_CMD (member 4) ∧ laneState following 3 = 0) ∧
    (WriteReaches 0 Reg.RING_CMD following ∧ (∃ p ∈ otherPositions following, probed following p = false) ∧ probed following (leaderPos following) = false ∧
      joinState following = 2 ∧ joinState (member 0x60) = 3 ∧ standAlone live = true) ∧
    (ringLeader leading = true ∧ joinState leading = 2 ∧ ringRuns leading = true ∧ leaderPos following ∈ otherPositions following ∧
      ringLeader following = false ∧ ringHears leading (1 : Fin 4) = true ∧ WriteReaches 0 Reg.RING_COUNT_CLR live) := by
  decide +kernel

/-- A HEARTBEAT of an untrusted follower, or of the leader. -/
def aBeat (leads : Bool) : Heartbeat :=
  { leads := leads, claim := 2, term := 1, epochNum := 4, digest := [], offset := -3, trusted := false, adopting := false, takeback := false
    increment := 2 * 2 ^ 32, epsilon := 5, steps := 1, differs := [] }

/-- A handover's content that names the millisecond. -/
def aHandover : HandoverState :=
  { queue := [], banks := [], lengths := 0, control := 0, lead := 0, running := none, nextNum := 12, marks := [], millisecond := some 5001 }

theorem test_witness_LeadershipAndStatePassOnTheRing :
    (ringHears following (1 : Fin 4) = true ∧ peerState following (1 : Fin 4) = 3 ∧
      (peer (peerOne { RingPeer.empty with heard := some 996000000 } following) 1).heard = some 996000000 ∧ joinState following = 2 ∧
      leaderPos following = 1 ∧ (∀ q ∈ otherPositions following, q ≠ 1 → False) ∧ peerState following (1 : Fin 4) ≠ 4) ∧
    (ringHears ofFour (2 : Fin 4) = true ∧ ringLeader ofFour = false ∧ (0 : BitVec 16).toNat = ringTerm ofFour ∧ leaderPos ofFour = 1 ∧
      (peer ofFour 1).claim < 100) ∧
    (claimHigher 1 (ringTerm following) = true ∧ claimHigher 65535 (ringTerm following) = false ∧ (65535 : BitVec 16).toNat ≠ ringTerm following ∧
      ringLeader leading = true ∧ (0 : BitVec 16).toNat = ringTerm leading ∧ ownClaim leading < 100 ∧ ringHears leading (1 : Fin 4) = true ∧
      ringHears following (1 : Fin 4) = true ∧ ringLeader following = false) ∧
    ((aBeat false).leads = false ∧ getBit leading (Reg.RING_PEER_A 1) 16 = true ∧ (aBeat false).trusted = false ∧ (aBeat true).steps ≠ following.ring.leaderSteps ∧
      getBit following Reg.RING_CFG 10 = true ∧ incrOk (aBeat true).increment = true) ∧
    (ringRuns following = true ∧ ringLeader following = false ∧ [(63 : Fin 64)] ≠ [] ∧
      { following with ring := { following.ring with adopting := [63] } }.ring.adopting ≠ []) ∧
    (WriteReaches 0 Reg.RING_CMD leading ∧ (1 : Fin 4).val ≠ ringPos leading ∧ peerState leading (1 : Fin 4) = 3 ∧ leading.ring.handover = none ∧
      (0 : Fin 4).val = ringPos leading ∧ peerState leading (3 : Fin 4) ≠ 3) ∧
    (leading.handedOff = false ∧ 1 ∈ otherPositions leading ∧ probed leading 1 = false ∧
      { leading with ring := { leading.ring with handover := some ⟨1, 5, some 5001⟩ } }.ring.handover = some ⟨1, 5, some 5001⟩) ∧
    ({ following with ring := { following.ring with incoming := some aHandover } }.ring.incoming = some aHandover ∧ aHandover.millisecond = some 5001 ∧
      standAlone following = false ∧ following.ring.handover = none) := by
  decide +kernel

/-- A staged epoch of the leader, prepared or not, with these votes. -/
def ringEpoch (prepared : Bool) (acks : List Nat) : Epoch :=
  { anEpoch later with num := some 8, staged := some [], prepared := prepared, acks := acks }

/-- An epoch that a follower holds, routed or not, staged or not. -/
def heldEpoch (routed : Bool) (staged : Option (List StagedCell)) : Epoch :=
  { anEpoch later with num := some 8, follower := true, leaderSerial := 3, routed := routed, staged := staged }

/-- A PREPARE of the leader. -/
def aPrepare (routed : Bool) : PrepareFrame :=
  { serial := 3, num := 8, instant := later, preset := 3, tag := 5, vplan := 0, skew := 0, late := false, isInline := false, routed := routed, config := [], payload := [] }

theorem test_witness_EpochsCommitOnEveryMemberOrNone :
    (EpochsDistinct (withEpochs [ringEpoch false []] leading) ∧ ringLeader (withEpochs [ringEpoch false []] leading) = true ∧
      getBit leading Reg.RING_STATUS 10 = false ∧
      (withEpochs [ringEpoch false []] leading).epochs.find? (fun e => e.fixed && !e.prepared && e.phase == .queued && !e.follower && e.staged.isSome) =
        some (ringEpoch false []) ∧
      presetValid (presetUp 3 1 leading) (ringEpoch false []).preset = true ∧ getBit leading (Reg.STATUS epochPage) 0 = true ∧ parkForced leading = false ∧
      getBit leading Reg.GLB_PRIME_STATUS 7 = false ∧ leading.warmRequested = false ∧ getBit leading Reg.RING_STATUS 11 = false ∧
      1 < ringSize leading ∧ 1 ≠ ringPos leading ∧ stage leading ≠ 0xF ∧ (∀ p ∈ otherPositions leading, probed leading p = false)) ∧
    ((withEpochs [ringEpoch true [0]] leading).epochs.find? (fun e => e.num == some 8 && e.prepared && e.phase == .queued && !e.follower) =
        some (ringEpoch true [0]) ∧
      ringHears leading (1 : Fin 4) = true ∧ (∀ q, q < ringSize leading → q = 1 ∨ q ∈ (ringEpoch true [0]).acks) ∧
      ptpNow leading + 3000 ≤ (ringEpoch true [0]).t ∧ epochsBarred leading = false ∧ 0 ∉ (ringEpoch true []).acks ∧
      (withEpochs [ringEpoch true [0]] leading).epochs.find? (fun e => e.prepared && e.phase == .queued && !e.follower) = some (ringEpoch true [0])) ∧
    (EpochsDistinct (withEpochs [] following) ∧ ringRuns following = true ∧ ringLeader following = false ∧ joinState following = 2 ∧
      leaderPos following = 1 ∧ 1 ∈ otherPositions following ∧ probed following 1 = false ∧ (aPrepare false).routed = false ∧ presetValid (presetUp 3 1 following) (aPrepare false).preset = true ∧
      following.ring.payloads = []) ∧
    ((withEpochs [heldEpoch true none] following).epochs.find? (fun e => e.follower && e.leaderSerial == 3 && e.phase == .queued && e.routed) =
        some (heldEpoch true none) ∧
      (withEpochs [heldEpoch true none] following).epochs.find? (fun e => e.follower && e.routed && e.staged.isNone && !e.voted && e.phase == .queued) =
        some (heldEpoch true none) ∧ leaderPos following < 4) ∧
    ((withEpochs [heldEpoch false (some [])] following).epochs.find? (fun e => e.follower && e.num == some 8 && e.phase == .queued && e.staged.isSome) =
        some (heldEpoch false (some [])) ∧
      ptpNow following + 2000 ≤ (heldEpoch false (some [])).t ∧ { heldEpoch false (some []) with t := 5000001999 }.t < ptpNow following + 2000 ∧
      epochsBarred following = false ∧ epochsBarred { following with warmRequested := true } = true ∧
      (withEpochs [heldEpoch false (some [])] following).epochs.find? (fun e => e.follower && e.num == some 8 && e.phase == .queued) =
        some (heldEpoch false (some []))) ∧
    (([(7, 1), (8, 2)] : List (BitVec 12 × Word)).map Prod.fst).Nodup ∧
    ((monitorFor (setAct (Reg.VRD_MON 0) 0x8005 leading) 5 0).isSome = true ∧ SMap.get (fun _ => none) leading.inputPower 5 = none) := by
  decide +kernel

theorem no_monitor_at_reset : monitorFor leading 5 0 = none := by decide +kernel

/-- A step that waits, and a slew of ten ticks. -/
def stepping : State := { live with time := { live.time with step := some (0, 77, 5, 1000000010), slew := some (0x200000001, 10), ppsUntil := some 1000005000 } }

theorem test_witness_TimeIsSteppedOnceAndSlewed :
    (WriteReaches 0 Reg.TIME_CMD live ∧ live.time.running = true ∧ ringDisciplined live = false ∧ getBit live Reg.TIME_STATUS 0 = false ∧
      getF live Reg.TIME_STEP_CFG 0 1 = 0 ∧ getF (put [(Reg.TIME_STEP_B, 999999999)] live) Reg.TIME_STEP_B 0 30 < 1000000000 ∧
      1000000000 ≤ getF (put [(Reg.TIME_STEP_B, 1000000000)] live) Reg.TIME_STEP_B 0 30) ∧
    (State.reset.time.running = false ∧ ringDisciplined (put [(Reg.TIME_STATUS, 4)] live) = true ∧ getBit (put [(Reg.TIME_STATUS, 1)] live) Reg.TIME_STATUS 0 = true) ∧
    (incrOk (reg64 (put [(Reg.TIME_SLEW_INCR_LO, 0x418938), (Reg.TIME_SLEW_INCR_LO + 4, 2)] live) Reg.TIME_SLEW_INCR_LO % 2 ^ 40) = false ∧
      incrOk 0x200418937 = true ∧ incrOk 0x200418938 = false ∧ incrOk 0x1FFBE76C9 = true ∧ incrOk 0x1FFBE76C8 = false ∧
      incrOk (reg64 (put [(Reg.TIME_SLEW_INCR_LO, 0x00418937), (Reg.TIME_SLEW_INCR_LO + 4, 2), (Reg.TIME_SLEW_TICKS, 1)] live) Reg.TIME_SLEW_INCR_LO % 2 ^ 40) = true ∧
      reg (put [(Reg.TIME_SLEW_TICKS, 1)] live) Reg.TIME_SLEW_TICKS ≠ 0 ∧ reg live Reg.TIME_SLEW_TICKS = 0 ∧ live.time.slew = none ∧ stepping.time.slew ≠ none) ∧
    (stepping.time.step = some (0, 77, 5, 1000000010) ∧ stepping.time.ppsUntil = some 1000005000) ∧
    (WriteReaches 0 Reg.TIME_INCR_HI live ∧ incrOk ((0 : Word).toNat + 2 ^ 32 * ((2 : Word).toNat % 256)) = true) ∧
    (getBit (put [(Reg.PPS_CFG, 1)] live) Reg.PPS_CFG 0 = true ∧ live.time.ppsUntil = none) := by
  decide +kernel

theorem test_witness_OffsetsAreMeasuredAndCorrected :
    (ringRuns following = true ∧ laneState following 0 = 2 ∧ joinState following = 2 ∧ ringLeader following = false ∧
      (0 : Fin 4).val ∈ hopLanes (hopTo following (leaderPos following)) ∧ laneNeighbour following 0 = leaderPos following ∧
      probed following (laneNeighbour following 0) = false) ∧
    (absI (-openDiv ((0 - 0) - (0 - 0)) 2 + 0) ≤ 16 * getF following Reg.RING_TIME_TOL 0 10 ∧ { following.ring with goodRun := 1 }.goodRun = 1 ∧
      16 * getF following Reg.RING_TIME_TOL 0 10 < absI (-openDiv ((16000 - 0) - (0 - 16000)) 2 + 0) ∧
      16000 ≤ absI (-openDiv ((16000 - 0) - (0 - 16000)) 2 + 0) ∧ getBit following Reg.RING_STATUS 9 = true ∧ getBit following Reg.RING_CFG 10 = true ∧
      following.time.running = true ∧ getBit following Reg.TIME_STATUS 0 = false) ∧
    ({ following with ring := { following.ring with lastOffset := some 5, overSince := some 6 } }.ring.lastOffset = some 5 ∧
      { following with ring := { following.ring with lastOffset := some 5, overSince := some 6 } }.ring.overSince = some 6 ∧
      ringHears ofFour (2 : Fin 4) = true ∧ leaderPos ofFour ≠ 2) ∧
    (ringHears following (1 : Fin 4) = true ∧ leaderPos following = 1 ∧ ringLeader leading = true) := by
  decide +kernel

end Sys2Proof.Tests
end

