-- ==== Sys2Proof/Tests/WitnessG.lean ====
section
/-! SUPPORT. States that meet the hypotheses of the statements on control ports, events, faults and heat. -/

namespace Sys2Proof.Tests

set_option Elab.async false

open Sys2Proof Sys2Proof.Machine

/-- Port 3 enabled in mode 2 with its link up, rings of 16 descriptors, and cells reserved for its queues of class 7. -/
def ported : State :=
  setAct (Reg.CIS_Q_CFG (egressQueue 3 6)) 0 (setAct (Reg.CIS_Q_CFG (ingressQueue 3 1)) 0 (setAct (Reg.CIS_Q_CFG (egressQueue 3 7)) 8 (setAct (Reg.CIS_Q_CFG (ingressQueue 3 0)) 1
    (put [(Reg.CTRL (macPage 3), 1), (Reg.MAC_CFG 3, 2 + 1518 * 2 ^ 16), (Reg.MAC_STATUS 3, 1), (Reg.DMA_RING_CFG 3 7, 0x401),
      (Reg.DMA_RING_CFG 3 15, 0x401), (Reg.DMA_RING_TAIL 3 7, 2), (Reg.DMA_RING_TAIL 3 15, 2)] live))))

/-- A frame of 64 bytes to an address, of this EtherType, FCS included. -/
def aFrame (dest etype : Nat) : List Byte :=
  withFcs (List.replicate 6 (BitVec.ofNat 8 dest) ++ List.replicate 6 0 ++ [BitVec.ofNat 8 (etype / 256), BitVec.ofNat 8 etype] ++ List.replicate 46 0)

/-- A frame that came from the host's ring. -/
def queued : QFrame := { origin := .ring 7 0 false, bytes := List.replicate 64 0, cells := [5] }

/-- Port 3 with a frame at the head of its class 7, which leaves or does not. -/
def sending (leaving : Bool) : State :=
  setQueue (egressQueue 3 7) [queued] { ported with
    ports := { ported.ports with leaving := if leaving then SMap.set (fun _ => none) [] 3 (some (7, 1000000100)) else [] } }

/-- Port 3 with a received frame for its ring of class 7. -/
def received : State := setQueue (ingressQueue 3 7) [{ queued with origin := .received 0 true 0 false 63 }] ported

theorem test_witness_FramesArriveAndLeave :
    (WriteReaches 0 (Reg.MAC_CFG 3) live ∧ fld (0x23FF0003 : Word) 0 2 = 3 ∧ 1518 ≤ fld (0x24000001 : Word) 16 14 ∧ fld (0x24000001 : Word) 16 14 ≤ 9216 ∧
      fld (0x24000001 : Word) 0 2 ≠ macMode ported 3 ∧ linkUp ported 3 = true ∧ fld (0x00000002 : Word) 0 2 = macMode ported 3) ∧
    (enabled ported (macPage 3) = true ∧ macMode ported 3 ≠ 0 ∧ enabled live (macPage 3) = false ∧ linkUp live 3 = false) ∧
    ((aFrame 0xFF 0x9000).length = 64 ∧ maxLen ported 3 = 1518 ∧ fcsGood (aFrame 0xFF 0x9000) = true ∧ fcsGood (List.replicate 64 1) = false ∧
      frameType (aFrame 0xFF 0x8808) = 0x8808 ∧ frameType (aFrame 0xFF 0x9000) ≠ 0x8808 ∧ acceptsAddress ported 3 (frameDest (aFrame 0xFF 0x9000)) = true ∧
      acceptsAddress ported 3 (frameDest (aFrame 0x02 0x9000)) = false ∧ frameTagged (aFrame 0xFF 0x9000) = false) ∧
    (policerOf ported 3 0 0 0x9000 = none ∧ policerOf (setAct (Reg.POL_USE 3 63) 8 ported) 3 0 0 0x9000 = some 63 ∧
      admits ported (ingressQueue 3 0) (cellsOf 64) = true ∧ admits ported (ingressQueue 3 1) (cellsOf 64) = false) ∧
    (queueOf received (ingressQueue 3 7) ≠ [] ∧ getBit received (Reg.DMA_RING_CFG 3 (8 + 7)) 0 = true ∧ flushPending received (ingressQueue 3 7) = false ∧
      getF received (Reg.DMA_RING_CFG 3 (8 + 7)) 8 4 ≤ 12 ∧
      getF received (Reg.DMA_RING_HEAD 3 (8 + 7)) 0 12 ≠ getF received (Reg.DMA_RING_TAIL 3 (8 + 7)) 0 12) ∧
    (getBit ported (Reg.DMA_RING_CFG 3 7) 0 = true ∧ (fetchedOf ported 3 7).length + 1 < dmaRingSize ported 3 7 ∧
      fetchIndex ported 3 7 ≠ getF ported (Reg.DMA_RING_TAIL 3 7) 0 12 ∧ (59 : BitVec 16).toNat % 2 ^ 14 < 60 ∧ maxLen ported 3 < (1515 : BitVec 16).toNat % 2 ^ 14 + 4 ∧
      (1514 : BitVec 16).toNat % 2 ^ 14 + 4 ≤ maxLen ported 3 ∧ admits ported (egressQueue 3 7) (cellsOf 1518) = true ∧
      admits ported (egressQueue 3 6) (cellsOf 1518) = false) ∧
    (leavingOf (sending true) 3 = some (7, 1000000100) ∧ queueOf (sending true) (egressQueue 3 7) = [queued] ∧
      flushPending (sending true) (egressQueue 3 7) = false ∧ ptpHeader (reg (sending true) (Reg.TIME_PTP_CFG 3)) queued.bytes = none ∧
      returnsTime (reg (sending true) (Reg.TIME_PTP_CFG 3)) queued.bytes = false) ∧
    (WriteReaches 0 (Reg.MAC_COUNT_CLR 3) live ∧ WriteReaches 0 (Reg.POLICE_COUNT_CLR 3) live) := by
  decide +kernel

/-- A gate list of port 3. -/
def aList : GateList := { bank := 0, base := 4000000000, cycle := 1000, len := 1, aligned := false }

/-- Port 3's gate, with an entry of eight nanoseconds in bank A. -/
def gated (inForce : Option GateList) (pending : Option (GateList × Nat)) (base cycle : Nat) : State :=
  { put [(Reg.GATE_LEN 3, 1), (Reg.GCL_A 3 0, 0x8FF), (Reg.GATE_CYCLE 3, cycle), (Reg.GATE_BASE_LO 3, base % 2 ^ 32), (Reg.GATE_BASE_LO 3 + 4, base / 2 ^ 32)] ported with
    ports := { ported.ports with gates := SMap.set (fun _ => GateState.empty) [] 3 { inForce := inForce, pending := pending } } }

theorem test_witness_GatesShapersAndFlushesDecide :
    (WriteReaches 0 (Reg.GATE_CMD 3) live ∧ getF live (Reg.GATE_LEN 3) 0 9 = 0 ∧ WriteReaches 0 (Reg.GATE_CMD 3) (gated none none 4000000000 999) ∧
      getF (gated none none 0 999) (Reg.GATE_CYCLE 3) 0 30 < 1000 ∧ 1000000000 < getF (gated none none 0 1000000001) (Reg.GATE_CYCLE 3) 0 30 ∧
      getBit (put [(Reg.GATE_CFG 3, 1)] live) (Reg.GATE_CFG 3) 0 = true ∧ schedRunning live = false ∧
      (gateOf (gated none (some (aList, 5)) 0 1000) 3).pending ≠ none ∧
      fld (gateEntry (put [(Reg.GCL_A 3 0, 0x7FF)] (gated none none 0 1000)) 3 0 0) 8 24 < 8) ∧
    (getF (gated none none 0 1000) (Reg.GATE_LEN 3) 0 9 ≠ 0 ∧ getBit (gated none none 0 1000) (Reg.GATE_CFG 3) 0 = false ∧
      (gateOf (gated none none 0 1000) 3).pending = none ∧ (∀ e, e < 1 → 8 ≤ fld (gateEntry (gated none none 0 1000) 3 0 e) 8 24) ∧
      idleBank (gated none none 0 1000) 3 = 0 ∧ ptpFine live + 1000 * 2 ^ 32 ≤ 6000000000 * 2 ^ 32 ∧
      reg64 (gated none none 6000000000 1000) (Reg.GATE_BASE_LO 3) = 6000000000 ∧ 4000000000 * 2 ^ 32 < ptpFine live + 1000 * 2 ^ 32) ∧
    ((gateOf (gated none (some (aList, 5)) 0 1000) 3).pending = some (aList, 5) ∧ (gateOf live 3).inForce = none ∧
      (gateOf (gated (some aList) none 0 1000) 3).inForce = some aList) ∧
    (leavingOf (sending false) 3 = none ∧ queueOf (sending false) (egressQueue 3 7) = [queued] ∧ headDrop (sending false) 3 7 queued = none ∧
      (∀ d, d < 7 → queueOf (sending false) (egressQueue 3 d) = []) ∧ eligible (sending false) 3 7 = true ∧ committedPositive (sending false) 3 7 = true) ∧
    (peakCovers (sending false) 3 7 64 = true ∧
      (shaped (put [(Reg.SHP_CFG 3 7, 1), (Reg.SHP_PIR 3 7, 1), (Reg.SHP_BURST 3 7, 2 ^ 17)] { sending false with
        ports := { (sending false).ports with shapers := SMap.set (fun _ => none) [] 31 (some ⟨0, 0, 1000000000⟩) } }) 3 7 = true ∧
      (shaper (put [(Reg.SHP_CFG 3 7, 1), (Reg.SHP_PIR 3 7, 1), (Reg.SHP_BURST 3 7, 2 ^ 17)] { sending false with
        ports := { (sending false).ports with shapers := SMap.set (fun _ => none) [] 31 (some ⟨0, 0, 1000000000⟩) } }) 3 7).peak <
          ((64 + txOverhead (sending false) 3) * bucketUnit : Nat) ∧
      (((64 + txOverhead (sending false) 3) * bucketUnit : Nat) : Int) ≤ ((64 * 2 * bucketUnit : Nat) : Int))) ∧
    (WriteReaches 0 Reg.CIS_FLUSH live ∧ flushPending live 63 = false ∧ flushPending (put [(Reg.CIS_FLUSH_PEND_HI, 2 ^ 31)] live) 63 = true ∧
      flushPending (put [(Reg.CIS_FLUSH_PEND_LO, 2 ^ 31)] (sending false)) 31 = true ∧ leavingOf (sending false) (31 / 8) = none ∧
      queued ∈ queueOf (sending false) 31 ∧ WriteReaches 0 Reg.CIS_COUNT_CLR live) := by
  decide +kernel

/-- The router routes; task input 127 takes channel 255, and producer 0 publishes on it. -/
def routed : State := setAct (Reg.EVT_TASK 63) (word (2 ^ 31 + 255 * 2 ^ 16)) (setAct (Reg.EVT_PROD 0) 0x80FF (put [(Reg.CTRL evtPage, 1)] live))

theorem test_witness_EventsAreRoutedCollideAndEnd :
    (WriteReaches 0 Reg.EVT_FIRE live ∧ routing live = false ∧ WriteReaches 0 Reg.EVT_FIRE routed ∧ routing routed = true ∧ taskChannel routed 127 = some 255 ∧
      taskChannel routed 0 ≠ some 255 ∧ (∀ q ∈ routed.evt.published, q.channel ≠ 255)) ∧
    (∃ e ∈ { routed.evt with inFlight := [⟨127, 0, 3, 1000000000⟩] }.inFlight, e.task = 127 ∧ e.cycle = live.time.uptime) ∧
    (([(⟨255, 0, none, 1000000000, true⟩ : Publication)].filter fun x => x.cycle == live.time.uptime).find? (fun x => x.channel == 255) =
      some ⟨255, 0, none, 1000000000, true⟩) ∧
    (producerChannel routed 0 = some 255 ∧ getF routed Reg.EVT_CFG 0 3 < min 8 8) ∧
    (WriteReaches 0 Reg.EVT_COUNT_CLR live ∧ WriteReaches 0 Reg.EVT_TASK_CLR live) := by
  decide +kernel

/-- A raise of source 95, or of 5, from a page. -/
def aRaise (n : Nat) : Raise := { source := n, inst := 0, page := some timePage, uptime := 1000000000 }

/-- One raise waits, under these windows. -/
def raising (n : Nat) (w : List Guard) : State := { live with flt := { due := [aRaise n], windows := w } }

/-- A window over everything, of source 7. -/
def aGuard (done : Bool) : Guard := { reaction := .blockReset, source := 7, pages := [timePage], everything := true, completed := done, at_ := 999999999 }

/-- The raise of a cycle. -/
def aCycle (n : Nat) : CycleRaise := { source := n, pages := [timePage], multi := false, uptime := 1000000000 }

theorem test_witness_RaisesAreRecordedAcknowledgedAndCleared :
    ((raising 95 []).flt.due = [aRaise 95] ∧ causeOf (raising 95 []) (aCycle 95) = none ∧ causeOf (raising 5 [aGuard false]) (aCycle 5) = some 7 ∧
      recState (raising 5 [aGuard false]) 5 = 0 ∧ recState (put [(recWord 5 0, 2)] (raising 5 [aGuard false])) 5 ≠ 0) ∧
    (getF (put [(Reg.FLT_SEV 5, 0)] live) (Reg.FLT_REACT (takenLevel (put [(Reg.FLT_SEV 5, 0)] live) 5)) 1 4 = 0 ∧
      ¬ (recState live 5 = 1 ∧ recLevel live 5 = 3) ∧ recState (put [(recWord 5 0, 1)] live) 5 = 1 ∧ getBit live Reg.FLT_FIRST 9 = false ∧
      getBit (put [(Reg.FLT_FIRST, 0x200)] live) Reg.FLT_FIRST 9 = true) ∧
    (getBit (put [(Reg.FLT_SEV 5, 3), (Reg.FLT_REACT 3, 0x10)] live) (Reg.FLT_REACT (takenLevel (put [(Reg.FLT_SEV 5, 3), (Reg.FLT_REACT 3, 0x10)] live) 5)) 4 = true ∧
      neverStops 5 = false ∧ live.time.counting = true ∧ stage live ≠ 0xE ∧ stage live ≠ 0xF) ∧
    ({ live with flt := { due := [aRaise 5, { aRaise 5 with page := some (macPage 0) }], windows := [] } }.flt.windows = [] ∧ recState live 5 = 0 ∧
      getF (put [(Reg.FLT_SEV 5, 0)] live) (Reg.FLT_REACT (getF (put [(Reg.FLT_SEV 5, 0)] live) (Reg.FLT_SEV 5) 0 2)) 1 4 = 0) ∧
    ((raising 5 [aGuard false]).flt.windows = [] ++ [aGuard false] ∧ reactionDone live (aGuard false) = true ∧ (aGuard true).completed = true ∧
      (∀ v ∈ (raising 5 [aGuard true]).flt.windows, v.completed = true → v ≠ aGuard true → (aGuard true).at_ < v.at_)) ∧
    (WriteReaches 0 Reg.FLT_ACK live ∧ live.flt.due = [] ∧ Registers.wf live.regs = true ∧ 95 ∈ ackTargets 0 true ∧ 5 ∈ ackTargets 5 false ∧
      recState (put [(recWord 5 0, 2)] live) 5 = 2 ∧ bitStands live 5 = false ∧ bitStands (put [(Reg.FAULT_STATUS clkPage, 15)] live) 3 = true ∧
      WriteReaches 0 Reg.FLT_FIRST_CLR live) := by
  decide +kernel

/-- Thermistor 31 is configured and converted, at a tenth of its resistance at 25 °C. -/
def sensed : State := put [(Reg.HEAT_PIC_COEF 31, 5000 + 3000 * 2 ^ 16), (Reg.HW_RESULT 14 31, 2 ^ 31 + 5000)] live

theorem test_witness_HeatIsSupervisedAndTargetsTimeOut :
    (State.reset.time.counting = false ∧ live.time.counting = true ∧ thermistorAbsent live1280 (95 - 64) = true ∧
      thermistorOhms (put [(Reg.HEAT_PIC_COEF 31, 5000 + 3000 * 2 ^ 16)] live) (95 - 64) = none ∧
      configured live (95 - 64) = false ∧ thermistorAbsent sensed (95 - 64) = false ∧ configured sensed (95 - 64) = true) ∧
    (sensorFaulty live 0 = false ∧ findsFaulty live 0 (-640) = false ∧ findsFaulty live 0 (-641) = true ∧ findsFaulty live 63 2400 = false ∧
      heatLimit live .die 0 ≤ heatLimit live .die 0 ∧ heatLimit live .die 2 ≤ 2400 ∧ (sensorTemp sensed 95 0).all (fun v => !findsFaulty sensed 95 v && decide (heatLimit sensed .pic 2 ≤ v)) = true ∧
      (sensorTemp sensed 95 0).isSome = true ∧
      1 ≤ { HeatSensor.empty with shutRun := 1 }.shutRun ∧ stage live ≠ 0xF ∧ { HeatSensor.empty with faultRun := 1 }.faultRun ≠ 0 ∧
      getBit live Reg.HEAT_STATUS 0 = false ∧ groupThrottled live .die = false) ∧
    ({ inStage 0xF with heat := { live.heat with cool := some 5 } }.heat.cool = some 5 ∧ Registers.wf (inStage 0xF).regs = true ∧ stage (inStage 0xF) = 0xF ∧
      getBit (inStage 0xF) Reg.HEAT_RESTART 2 = false ∧ dieUnwatched (inStage 0xF) = false ∧ dieUnwatched (put [(Reg.WELL_STATUS 298, 16)] live) = true) ∧
    (masterPresent .pe2560 13 = true ∧ masterPresent .pe1280 13 = false ∧ hasPath live 13 9 = true ∧ hasPath live 0 10 = true ∧
      hasPath (inStage 1) 5 9 = false) ∧
    ((0xBFFFFF : BitVec 24).toNat < 0xC00000 ∧ enabled (put [(Reg.CTRL (ddrPage 3), 1)] live) (ddrPage (3 : Fin 4).val) = true) ∧
    WriteReaches 0 Reg.XBAR_COUNT_CLR live := by
  decide +kernel

end Sys2Proof.Tests
end

