-- ==== Sys2Proof/Tests/WitnessH.lean ====
section
/-! SUPPORT. States that meet the hypotheses of the statements on the Wellhead, the census and the serials of epochs. -/

namespace Sys2Proof.Tests

set_option Elab.async false

open Sys2Proof Sys2Proof.Machine

/-- A command runs with these arguments. -/
def whRuns (code a n : Nat) (s : State) : State := modWh (fun w => { w with running := some (code, a, n) }) s

theorem test_witness_WellheadTakesOneCommandAtATime :
    WriteReaches 0 Reg.WH_CMD live ∧ WriteReaches 1 Reg.WH_CMD live ∧ WriteReaches 2 Reg.WH_CMD live ∧ live.wellhead.running = none ∧
      WriteReaches 1 Reg.WH_CMD (whRuns 1 0 0 live) ∧ (whRuns 1 0 0 live).wellhead.running ≠ none := by
  decide +kernel

/-- The message in the data window: this device's serial, 16 bytes of zeros, and word 6. -/
def message (w6 : Nat) : State :=
  setReg (Reg.WH_DATA 0) (word Config.serial.toNat) (setReg (Reg.WH_DATA 1) (word (Config.serial.toNat / 2 ^ 32))
    (modWh (fun w => { w with nonce := some (List.replicate 16 0) }) (put [(Reg.WH_DATA 6, w6)] live)))

theorem message_word (w6 k : Nat) (h : 2 ≤ k) : reg (message w6) (Reg.WH_DATA k) = reg (put [(Reg.WH_DATA 6, w6)] live) (Reg.WH_DATA k) := by
  unfold message
  rw [reg_setReg_other _ _ (by unfold Reg.WH_DATA; omega), reg_setReg_other _ _ (by unfold Reg.WH_DATA; omega)]
  rfl

theorem message_names_the_device (w6 : Nat) : windowBytes (message w6) 0 8 = toBytes 8 Config.serial.toNat := by
  have h0 : reg (message w6) (Reg.WH_DATA 0) = word Config.serial.toNat := reg_setReg_same _ _ _
  have h1 : reg (message w6) (Reg.WH_DATA 1) = word (Config.serial.toNat / 2 ^ 32) := by
    unfold message
    rw [reg_setReg_other _ _ (by decide)]
    exact reg_setReg_same _ _ _
  refine List.ext_getElem (by simp [windowBytes]) fun i hi _ => ?_
  have hi : i < 8 := by simpa [windowBytes] using hi
  rw [toBytes_getElem]
  simp only [windowBytes, List.getElem_map, List.getElem_range, windowByte, Nat.zero_add]
  have key : ∀ n j, j < 4 → byteOf (word n).toNat j = byteOf n j := fun n j hj => by
    refine BitVec.eq_of_getLsbD_eq fun b hb => ?_
    simp only [byteOf, word, BitVec.getLsbD_ofNat, BitVec.toNat_ofNat, Nat.testBit_div_two_pow, Nat.testBit_mod_two_pow]
    simp [show b + 8 * j < 32 by omega]
  by_cases h : i < 4
  · rw [show i / 4 = 0 by omega, h0, key _ _ (by omega), show i % 4 = i by omega]
  · rw [show i / 4 = 1 by omega, h1, key _ _ (by omega)]
    unfold byteOf
    rw [Nat.div_div_eq_div_mul, ← Nat.pow_add, show 32 + 8 * (i % 4) = 8 * i by omega]

theorem message_nonce (w6 : Nat) : nonceOk (message w6) = nonceOk (modWh (fun w => { w with nonce := some (List.replicate 16 0) }) (put [(Reg.WH_DATA 6, w6)] live)) := by
  have : windowBytes (message w6) 8 16 = windowBytes (put [(Reg.WH_DATA 6, w6)] live) 8 16 :=
    List.map_congr_left fun j _ => by unfold windowByte; rw [message_word w6 ((8 + j) / 4) (by omega)]
  unfold nonceOk
  rw [this]
  rfl

theorem message_byte (w6 i : Nat) (h : 24 ≤ i) : windowByte (message w6) i = windowByte (put [(Reg.WH_DATA 6, w6)] live) i := by
  unfold windowByte
  rw [message_word w6 (i / 4) (by omega)]

/-- Everything that the outside settles comes out well. -/
def goodOutcome : WhOutcome := { flashOk := true, signerKey := true, signature := true, image := goodSlot }

/-- A vendor's token of two scopes is accepted, and an owner key for slot 0 with the vendor's signature; a spent nonce and a bad signature are not. -/
theorem test_witness_TokensAndEnrollments :
    (nonceOk (message 3) = true ∧ messageOk (message 3) true goodOutcome = true ∧ (windowByte (message 3) 24).toNat.testBit 2 = false) ∧
    (nonceOk (message 0x100) = true ∧ messageOk (message 0x100) true { goodOutcome with signature := false } = false ∧ nonceOk live = false) ∧
    (freeSlot (message 0).wellhead = some 0 ∧ (windowByte (message 0) 24).toNat = 0 ∧ messageOk (message 0) false goodOutcome = true ∧
      freeSlot { live.wellhead with programmed := 255 } = none) := by
  have n0 : ∀ w6, (keyInService (message w6).wellhead).isSome = false := fun w6 => by
    show (keyInService live.wellhead).isSome = false
    decide
  have good : ∀ w6 v, windowByte (put [(Reg.WH_DATA 6, w6)] live) 25 = 0 → (v = true ∨ v = false) → messageOk (message w6) v goodOutcome = true := fun w6 v h hv => by
    unfold messageOk
    rw [message_names_the_device, message_byte w6 25 (by omega), h, n0]
    rcases hv with rfl | rfl <;> simp [goodOutcome]
  refine ⟨⟨?_, good 3 true (by decide) (.inl rfl), ?_⟩, ⟨?_, ?_, by decide⟩, rfl, ?_, good 0 false (by decide) (.inr rfl), by decide⟩
  · rw [message_nonce]; decide
  · rw [message_byte 3 24 (by omega)]; decide
  · rw [message_nonce]; decide
  · unfold messageOk; simp
  · rw [message_byte 0 24 (by omega)]; decide

/-- The header of a calibration copy of no entries, up to its digest. -/
def calHead : List Byte := toBytes 4 0x504C4D43 ++ toBytes 4 0 ++ toBytes 8 Config.serial.toNat ++ toBytes 4 7 ++ List.replicate 28 0

/-- Copy 0 carries that header. -/
def headed : State := writeFlash (calAt 0) calHead live

/-- Copy 0 is complete, digest and all. -/
def calibrated : State := writeFlash (calAt 0 + 48) (calDigest headed 0) headed

theorem calHead_length : calHead.length = 48 := by simp [calHead]

theorem calibrated_head (o n : Nat) (h : o + n ≤ 48) : flashBytes calibrated (calAt 0 + o) n = (calHead.drop o).take n := by
  unfold calibrated
  rw [flashBytes_writeFlash _ _ _ _ _ (.inl (by omega))]
  exact flashBytes_writeFlash_at _ _ _ _ _ (by rw [calHead_length]; exact h)

theorem test_witness_AValidCalibrationCopy :
    fullMatrix calibrated = true ∧ calValid calibrated (1 - calTarget calibrated) = true ∧ calGen calibrated (1 - calTarget calibrated) ≠ 2 ^ 32 - 1 := by
  have read : ∀ o n bs v, o + n ≤ 48 → (calHead.drop o).take n = bs → ofBytes bs = v → readFlash calibrated (calAt 0 + o) n = v := fun o n bs v h e hv => by
    unfold readFlash
    rw [calibrated_head o n h, e, hv]
  have magic : readFlash calibrated (calAt 0 + 0) 4 = 0x504C4D43 := read 0 4 (toBytes 4 0x504C4D43) _ (by omega) (by simp [calHead, toBytes]) (by decide)
  have count : readFlash calibrated (calAt 0 + 4) 4 = 0 := read 4 4 (toBytes 4 0) _ (by omega) (by simp [calHead, toBytes]) (by decide)
  have ser : readFlash calibrated (calAt 0 + 8) 8 = Config.serial.toNat :=
    read 8 8 (toBytes 8 Config.serial.toNat) _ (by omega) (by simp [calHead, toBytes]) (ofBytes_toBytes 8 _ (by have := Config.serial.isLt; omega))
  have gen : readFlash calibrated (calAt 0 + 16) 4 = 7 := read 16 4 (toBytes 4 7) _ (by omega) (by simp [calHead, toBytes]) (by decide)
  have headCount : readFlash headed (calAt 0 + 4) 4 = 0 := by
    unfold readFlash headed
    rw [flashBytes_writeFlash_at _ _ _ _ _ (by rw [calHead_length]; omega), show (calHead.drop 4).take 4 = toBytes 4 0 by simp [calHead, toBytes]]
    decide
  have len : (calDigest headed 0).length = 16 := shake256_length _ 16 (by omega)
  have dig : flashBytes calibrated (calAt 0 + 48) 16 = calDigest calibrated 0 := by
    have e1 : flashBytes calibrated (calAt 0 + 48) 16 = calDigest headed 0 := by
      have := flashBytes_writeFlash_at (calDigest headed 0) headed (calAt 0 + 48) 0 16 (by rw [len])
      rw [List.drop_zero, List.take_of_length_le (by rw [len])] at this
      exact this
    rw [e1]
    unfold calDigest
    have c0 : readFlash calibrated (calAt 0 + 4) 4 = readFlash headed (calAt 0 + 4) 4 := by rw [count, headCount]
    rw [c0, headCount]
    have hd : flashBytes calibrated (calAt 0) 48 = flashBytes headed (calAt 0) 48 := by
      unfold calibrated
      exact flashBytes_writeFlash _ _ _ _ _ (.inl (by omega))
    rw [hd]
    rfl
  have valid : calValid calibrated 0 = true := by
    unfold calValid
    rw [dig, count, ser, show readFlash calibrated (calAt 0) 4 = 0x504C4D43 from magic]
    simp
  have copy : ∀ (bs : List Byte) (a : Nat) (s : State), (writeFlash a bs s).wellhead.calCopy = s.wellhead.calCopy := fun bs => by
    induction bs with
    | nil => exact fun _ _ => rfl
    | cons x r ih => exact fun a s => ih _ _
  have regs : ∀ (bs : List Byte) (a : Nat) (s : State), (writeFlash a bs s).regs = s.regs := fun bs => by
    induction bs with
    | nil => exact fun _ _ => rfl
    | cons x r ih => exact fun a s => ih _ _
  have target : calTarget calibrated = 1 := by
    have h : calibrated.wellhead.calCopy = none := by unfold calibrated headed; rw [copy, copy]; rfl
    unfold calTarget
    rw [h]
    simp [valid]
  refine ⟨?_, ?_, ?_⟩
  · have h : calibrated.regs = live.regs := by unfold calibrated headed; rw [regs, regs]
    have hr : ∀ a, reg calibrated a = reg live a := fun a => by unfold reg; rw [h]
    have : fullMatrix calibrated = fullMatrix live := by unfold fullMatrix testSession stage getBit getF; rw [hr, hr]
    rw [this]
    decide
  · rw [target]; exact valid
  · rw [target]
    show readFlash calibrated (calAt 0 + 16) 4 ≠ _
    rw [gen]
    decide

theorem test_witness_WellheadCommandsEndAsTheirRulesSay :
    (live.wellhead.running = none ∧ (whRuns 1 0x100000 0 live).wellhead.running = some (1, 0x100000, 0) ∧ (whRuns 1 0x100000 0 live).wellhead.burn = none) ∧
    (flashRange 0xFFFFF 0x10000 = false ∧ flashRange 0x33F0000 0x10000 = true ∧ flashRange 0x33F0001 0x10000 = false ∧ 0x33F0000 % 0x10000 = 0 ∧
      protectedFlash live 0x100000 0x10000 = false ∧
      protectedFlash (modWh (fun w => { w with booted := some 0 }) live) (slotAt 0) 0x10000 = true) ∧
    (lengthOk 256 = true ∧ lengthOk 3072 = true ∧ lengthOk 255 = false ∧ lengthOk 3328 = false ∧ flashRange 0x100000 3072 = true ∧
      protectedFlash live 0x100000 3072 = false) ∧
    (slotCheck (withImage live) 0 (keyInService (withImage live).wellhead) goodSlot = 0 ∧ slotCheck live 1 (keyInService live.wellhead) goodSlot ≠ 0) ∧
    ({ live.wellhead with booted := some 0 }.booted ≠ none ∧ 0 < getF (put [(Reg.WH_BOOT_STATUS, 0x100)] live) Reg.WH_BOOT_STATUS 8 7 ∧
      getF live Reg.WH_BOOT_STATUS 8 7 ≤ live.wellhead.svn) ∧
    (fullMatrix live = true ∧ fullMatrix (inStage 2) = false ∧ { live.wellhead with block := some 3 }.block = some 3) ∧
    (live.wellhead.burn = none ∧ { live.wellhead with burn := some (Burn.svn 64) }.burn = some (Burn.svn 64) ∧
      { live.wellhead with burn := some (Burn.enroll 7 [] (some 6)) }.burn = some (Burn.enroll 7 [] (some 6))) := by
  decide +kernel

/-- The first section is selected. -/
def selecting : State := put [(Reg.CEN_SEL, 1)] live

theorem test_witness_CensusFreezesAnImage :
    (WriteReaches 0 Reg.CEN_CMD live ∧ censusRefusal (put [(Reg.CEN_SEL, 0)] live) = 3 ∧ WriteReaches 0 Reg.CEN_CMD (put [(Reg.CEN_SEL, 0)] live) ∧ WriteReaches 0 Reg.CEN_CMD selecting ∧ censusRefusal selecting = 0 ∧ live.census = none ∧
      { live with census := some ⟨0, 0x1000, [(0, 5), (1023, 6)]⟩ }.census ≠ none) ∧
    ((0, 0x1000) ∈ (layout selecting.variant ((selectedSections (getF selecting Reg.CEN_SEL 0 9)).filter fun j => decide (j < 7) || hasPath selecting 6 3)).1 ∧
      0 < sectionBytes selecting.variant 0 / 4 ∧
      (∃ a, (sectionPlaces selecting.variant 0)[0]? = some a ∧ liveWord selecting a ≠ 0)) ∧
    (1023 < 0x1000 / 4 ∧ (1023, (6 : Word)) ∈ ([(0, 5), (1023, 6)] : List (Nat × Word))) := by
  refine ⟨by decide, ⟨by decide, by decide, ?_⟩, by decide⟩
  exact ⟨0, by decide +kernel, by decide +kernel⟩

theorem test_witness_EpochSerialsStayDistinct : EpochsDistinct live ∧ ∃ t, step live = .next t := by
  exact ⟨by decide, _, rfl⟩

end Sys2Proof.Tests
end

section
/-! PROOF. Epochs from staging to report: what the sending of a notice does to the Cistern, and why the statement fails. -/

namespace Sys2Proof.Machine

open Sys2Proof

/-! ### Frames in the Cistern (R494, R507) -/

/-- Going to an instant changes the clock alone. -/
theorem advanceTo_frame (t : Nat) (s : State) : ∃ c, advanceTo t s = { s with time := c } := by
  unfold advanceTo
  split
  · exact ⟨_, rfl⟩
  · exact ⟨s.time, rfl⟩

@[simp] theorem setInt_mem (p : Page) (i : Nat) (s : State) : (setInt p i s).mem = s.mem := by
  unfold setInt intEdge
  split <;> rfl

@[simp] theorem setFault_mem (p : Page) (i : Nat) (s : State) : (setFault p i s).mem = s.mem := by
  obtain ⟨_, _, h⟩ := setFault_frame p i s
  rw [h]

/-- What an operation leaves of the windows' bytes, its repetition leaves. -/
theorem forEach_mem {α : Type} {f : α → State → State} (hf : ∀ x t, (f x t).mem = t.mem) (l : List α) (s : State) :
    (forEach l f s).mem = s.mem :=
  forEach_keeps (fun t => t.mem = s.mem) f l (fun x _ t h => (hf x t).trans h) rfl

theorem passDone_mem (l : List (Nat × Bool)) (n c : Nat) (s : State) : (passDone l n c s).2.mem = s.mem := by
  induction l generalizing s with
  | nil => rfl
  | cons x r ih =>
    obtain ⟨i, done⟩ := x
    cases done with
    | false => rfl
    | true => exact ih (headMoves n c s)

theorem discardFrame_mem (n outcome : Nat) (f : QFrame) (s : State) : (discardFrame n outcome f s).mem = s.mem := by
  unfold discardFrame
  split
  · simp [txReturn, modPorts, passDone_mem]
  · rfl

theorem countDrop_mem (n c outcome : Nat) (s : State) : (countDrop n c outcome s).mem = s.mem := by
  unfold countDrop
  split <;> simp

theorem dropHeads_mem (n c : Nat) (l : List QFrame) (s : State) : (dropHeads n c l s).mem = s.mem := by
  induction l generalizing s with
  | nil => rfl
  | cons f r ih =>
    unfold dropHeads
    split
    · rfl
    · rw [ih, discardFrame_mem, countDrop_mem]
      rfl

theorem settleHeads_mem (n : Nat) (s : State) : (settleHeads n s).mem = s.mem := by
  unfold settleHeads
  refine forEach_mem (fun c t => ?_) _ s
  split
  · rfl
  · exact dropHeads_mem _ _ _ t

theorem debit_mem (n c len : Nat) (s : State) : (debit n c len s).mem = s.mem := by
  unfold debit
  split <;> rfl

/-- The choice of the frame that a port sends next writes no byte of a window. -/
theorem chooseFrame_mem (n : Nat) (s : State) : (chooseFrame n s).mem = s.mem := by
  unfold chooseFrame
  dsimp only
  split
  · exact settleHeads_mem n s
  · split
    · exact settleHeads_mem n s
    · split
      · exact settleHeads_mem n s
      · exact (debit_mem _ _ _ _).trans (settleHeads_mem n s)

/-- A frame that one cell holds stands in a cell, byte for byte, once it is in its queue. -/
theorem memByte_enqueue (q : Nat) (o : FrameOrigin) (bytes : List Byte) (s : State) (h : cellsOf bytes.length = 1) :
    ∃ c, ∀ i (hi : i < bytes.length), memByte (enqueue q o bytes s) (cellAt c + i) = bytes[i] := by
  have hle : bytes.length ≤ 256 := by unfold cellsOf at h; omega
  obtain ⟨c, hc⟩ : ∃ c, takeCells 1 [] s = ([c], draw s) := ⟨_, rfl⟩
  refine ⟨c, fun i hi => ?_⟩
  have hm : (enqueue q o bytes s).mem = (writeMem (cellAt c) bytes (draw s)).mem := by
    simp only [enqueue, h, hc, storeCells, List.take_of_length_le hle]
    rfl
  unfold memByte
  rw [hm]
  exact memByte_writeMem_at bytes _ _ i hi

/-! ### Notices -/

@[simp] theorem netBytes_length (n v : Nat) : (netBytes n v).length = n := by simp [netBytes]

@[simp] theorem beBytes_length (n v : Nat) : (beBytes n v).length = n := by simp [beBytes]

/-- A notice's payload is 32 bytes (R182). -/
theorem noticePayload_length (s : State) (e : Epoch) : (noticePayload s e).length = 32 := by simp [noticePayload]

/-- An epoch frame is its payload behind a header of 30 bytes, and the FCS. -/
theorem epochFrame_length (s : State) (n : Nat) (notice : Bool) (payload : List Byte) :
    (epochFrame s n notice payload).length = payload.length + 34 := by
  simp only [epochFrame, withFcs, fcsOf, List.length_append, netBytes_length, toBytes_length, List.length_cons, List.length_nil]
  omega

/-- Byte 12 of an epoch frame begins the tag's type 0x8100, behind the two addresses. -/
theorem epochFrame_tag (s : State) (n : Nat) (notice : Bool) (payload : List Byte) (h : 12 < (epochFrame s n notice payload).length) :
    (epochFrame s n notice payload)[12] = 0x81 := rfl

/-- Where port 3 alone sends notices and admits the frame, the frame enters its TC7 queue and the port chooses what to send. -/
theorem sendEpochFrame_port3 {s : State} (payload : List Byte) (hoff : ∀ n, n < 3 → getBit s (Reg.MAC_EPOCH_FRAME n) 0 = false)
    (hon : getBit s (Reg.MAC_EPOCH_FRAME 3) 0 = true)
    (hadm : admits s (egressQueue 3 7) (cellsOf (epochFrame s 3 true payload).length) = true) :
    sendEpochFrame true payload s = chooseFrame 3 (enqueue (egressQueue 3 7) .epoch (epochFrame s 3 true payload) s) := by
  simp [sendEpochFrame, show List.range 4 = [0, 1, 2, 3] from rfl, hoff, hon, hadm]

theorem exec_noticeSend {s : State} {e : Epoch} (hl : isLeader s = true) (hf : s.epochs.find? (fun x => noticeDue s x) = some e) :
    exec .noticeSend s = .next (sendEpochFrame true (noticePayload (advanceTo (e.t - 100 * e.lead) s) e)
      (modEpoch e.id (fun x => { x with noticeSent := true }) (advanceTo (e.t - 100 * e.lead) s))) := by
  show execNoticeSend s = _
  simp [execNoticeSend, hl, hf]

/-- A notice that port 3 alone sends and admits leaves its frame in a cell, whatever stood there. -/
theorem noticeSend_fills_cell {s : State} {e : Epoch} (hl : isLeader s = true) (hf : s.epochs.find? (fun x => noticeDue s x) = some e)
    (hoff : ∀ n, n < 3 → getBit s (Reg.MAC_EPOCH_FRAME n) 0 = false) (hon : getBit s (Reg.MAC_EPOCH_FRAME 3) 0 = true)
    (hadm : admits s (egressQueue 3 7) 1 = true) :
    ∃ t c, exec .noticeSend s = .next t ∧ memByte t (cellAt c + 12) = 0x81 := by
  obtain ⟨clk, hclk⟩ := advanceTo_frame (e.t - 100 * e.lead) s
  have hx := exec_noticeSend hl hf
  rw [hclk] at hx
  generalize hp : noticePayload { s with time := clk } e = payload at hx
  have hlen : payload.length = 32 := hp ▸ noticePayload_length _ e
  generalize hu : modEpoch e.id (fun x => { x with noticeSent := true }) { s with time := clk } = u at hx
  have hframe : (epochFrame u 3 true payload).length = 66 := by rw [epochFrame_length, hlen]
  have hcells : cellsOf (epochFrame u 3 true payload).length = 1 := by rw [hframe]; rfl
  have hsend := sendEpochFrame_port3 (s := u) payload (by subst hu; exact hoff) (by subst hu; exact hon)
    (by rw [hcells]; subst hu; exact hadm)
  obtain ⟨c, hc⟩ := memByte_enqueue (egressQueue 3 7) .epoch (epochFrame u 3 true payload) u hcells
  refine ⟨_, c, hx, ?_⟩
  rw [hsend, memByte, chooseFrame_mem]
  exact (hc 12 (by omega)).trans (epochFrame_tag u 3 true payload (by omega))

/-! ### The counterexample -/

/-- An epoch of number 1 whose instant, one second from now, is fixed and whose notice has not left. -/
def noticedEpoch : Epoch :=
  { newEpoch State.reset [0, 0, 0, word 200] false 5000000000 with num := some 1, t := 6000000000, fixed := true }

/-- A stand-alone device in P7 with one queued epoch, notices enabled, NOTICE_EN of port 3, and one cell reserved for the port's
TC7 queue; no byte of a window has been written. -/
def noticingDevice : State := { State.reset with
  regs := [(Reg.GLB_PRIME_STATUS, 7), (Reg.EPOCH_CFG, 0x100), (Reg.MAC_EPOCH_FRAME 3, 1)]
  active := [(Reg.CIS_Q_CFG (egressQueue 3 7), 1)]
  time := { State.reset.time with counting := true, running := true, uptime := 1000000000, sec := 5 }
  epochs := [noticedEpoch]
  epochSerial := 2 }

theorem noticingDevice_distinct : EpochsDistinct noticingDevice := by decide

theorem noticingDevice_leads : isLeader noticingDevice = true := by decide

theorem noticingDevice_due : noticingDevice.epochs.find? (fun x => noticeDue noticingDevice x) = some noticedEpoch := by decide

/-- Refutes O29, by its clause on notices: the clause keeps every byte, but the frame of a notice is stored in a cell of the Cistern
(R494, R507). Port 3 of `noticingDevice` sends the notice of `noticedEpoch`; byte 12 of the frame's cell, zero before, is 0x81 then. -/
theorem not_epochTimelineFromStagingToReport : ¬ Obligations.EpochTimelineFromStagingToReport := by
  unfold Obligations.EpochTimelineFromStagingToReport
  rintro ⟨-, -, -, -, -, hnotice, -⟩
  obtain ⟨hsent, -⟩ := hnotice noticingDevice noticingDevice_distinct noticingDevice_leads
  obtain ⟨t, ht, -, -, hmem, -⟩ := hsent noticedEpoch noticingDevice_due
  obtain ⟨u, c, hu, hcell⟩ := noticeSend_fills_cell noticingDevice_leads noticingDevice_due (by decide) (by decide) (by decide)
  obtain rfl : t = u := by
    rw [ht] at hu
    exact Host.Outcome.next.inj hu
  have hzero : memByte noticingDevice (cellAt c + 12) = 0 := rfl
  rw [hmem, hzero] at hcell
  exact absurd hcell (by decide)

end Sys2Proof.Machine
end

section
/-! PROOF. The cold paths: what they keep of the registers, and why the statement on them fails. -/

namespace Sys2Proof

/-! ### Keys of sparse maps -/

variable {α : Type}

/-- A key whose every entry holds the default reads as the default. -/
theorem SMap.get_eq_default {d : Nat → α} {m : SMap α} {k : Nat} (h : ∀ e ∈ m, e.1 = k → e.2 = d k) : SMap.get d m k = d k := by
  induction m with
  | nil => rfl
  | cons e r ih =>
    unfold SMap.get
    split
    · exact h e List.mem_cons_self ‹_›
    · exact ih fun x hx => h x (List.mem_cons_of_mem _ hx)

theorem SMap.le_key_of_rising {m : SMap α} {b : Nat} (h : SMap.rising b m = true) : ∀ e ∈ m, b ≤ e.1 := by
  induction m generalizing b with
  | nil => simp
  | cons x r ih =>
    simp only [SMap.rising, Bool.and_eq_true, decide_eq_true_eq] at h
    obtain ⟨hx, hr⟩ := h
    intro e he
    rcases List.mem_cons.1 he with rfl | he
    · exact hx
    · exact (Nat.le_succ_of_le hx).trans (ih hr e he)

end Sys2Proof

namespace Sys2Proof.Machine

open Sys2Proof

/-! ### Words kept over a reset (R131) -/

/-- A word of which no bit is kept reads as at reset. -/
theorem get_keepWords_lost {keep : Nat → Nat} {a : Nat} (m : SMap Word) (h : keep a = 0) :
    SMap.get resetWord (keepWords keep m) a = resetWord a := by
  refine SMap.get_eq_default fun e he hk => ?_
  obtain ⟨x, -, rfl⟩ := List.mem_map.1 (List.mem_filter.1 he).1
  obtain rfl : x.1 = a := hk
  have hall : ~~~word 0 = BitVec.allOnes 32 := rfl
  simp only [h, hall, BitVec.and_allOnes]
  simp [word]

/-- Of an entry each kept bit stands and every other is as at reset; an entry equal to its reset word is not listed. -/
theorem keepWords_cons (keep : Nat → Nat) (k : Nat) (v : Word) (r : SMap Word) :
    keepWords keep ((k, v) :: r) =
      if (v &&& word (keep k)) ||| (resetWord k &&& ~~~word (keep k)) = resetWord k then keepWords keep r
      else (k, (v &&& word (keep k)) ||| (resetWord k &&& ~~~word (keep k))) :: keepWords keep r := by
  simp only [keepWords, List.map_cons, List.filter_cons, Bool.not_eq_true', decide_eq_false_iff_not, ite_not]

/-- A word that is kept whole reads as before, in a canonical store. -/
theorem get_keepWords_kept {keep : Nat → Nat} {a b : Nat} {m : SMap Word} (hm : SMap.rising b m = true) (h : keep a = 0xFFFFFFFF) :
    SMap.get resetWord (keepWords keep m) a = SMap.get resetWord m a := by
  induction m generalizing b with
  | nil => rfl
  | cons e r ih =>
    obtain ⟨k, v⟩ := e
    simp only [SMap.rising, Bool.and_eq_true, decide_eq_true_eq] at hm
    obtain ⟨-, hr⟩ := hm
    have htail : SMap.get resetWord (keepWords keep r) a = SMap.get resetWord r a := ih hr
    rw [keepWords_cons]
    by_cases hk : k = a
    · subst hk
      have hrest : SMap.get resetWord r k = resetWord k :=
        SMap.get_eq_default fun e he hek => absurd (SMap.le_key_of_rising hr e he) (by omega)
      have hword : (v &&& word (keep k)) ||| (resetWord k &&& ~~~word (keep k)) = v := by
        rw [h, show word 0xFFFFFFFF = BitVec.allOnes 32 from rfl]
        simp only [BitVec.and_allOnes, BitVec.not_allOnes, BitVec.and_zero, BitVec.or_zero]
      rw [hword]
      split
      · next hv => simp [SMap.get, htail, hrest, hv]
      · simp [SMap.get]
    · split <;> simp [SMap.get, hk, htail]

theorem coldKeep_eq_zero {a : Nat} (h : a ≠ Reg.GLB_RESET_CAUSE) : coldKeep false a = 0 := by simp [coldKeep, h]

/-- A cold path leaves every register but GLB_RESET_CAUSE at its reset word. -/
theorem reg_coldReset_lost (s : State) {a : Nat} (h : a ≠ Reg.GLB_RESET_CAUSE) : reg (coldReset false s) a = resetWord a :=
  get_keepWords_lost s.regs (coldKeep_eq_zero h)

/-- A cold path keeps GLB_RESET_CAUSE, in a canonical store. -/
theorem reg_coldReset_resetCause {s : State} (hs : Registers.wf s.regs = true) :
    reg (coldReset false s) Reg.GLB_RESET_CAUSE = reg s Reg.GLB_RESET_CAUSE :=
  get_keepWords_kept (SMap.wf_iff.1 hs).1 rfl

/-! ### Pin resets -/

theorem exec_resetNLow {s : State} (hn : s.pins.resetN = true) (hp : s.pins.pwrgood = true) :
    exec .resetNLow s = .next (setB Reg.GLB_RESET_CAUSE 1 true
      { coldReset false s with pins := { (coldReset false s).pins with resetN := false } }) := by
  show execResetNLow s = _
  simp [execResetNLow, hn, hp]

/-- What R125 and R131 ask of a pin reset's registers, and what the model answers over a canonical store: PIN sets, the other bits of
GLB_RESET_CAUSE stand, and every other register is at reset. -/
theorem resetNLow_registers_of_canonical {s : State} (hs : Registers.wf s.regs = true) (hn : s.pins.resetN = true)
    (hp : s.pins.pwrgood = true) :
    ∃ t, exec .resetNLow s = .next t ∧ (∀ a, a ≠ Reg.GLB_RESET_CAUSE → reg t a = resetWord a) ∧ getBit t Reg.GLB_RESET_CAUSE 1 = true ∧
      ∀ i, i < 32 → i ≠ 1 → getBit t Reg.GLB_RESET_CAUSE i = getBit s Reg.GLB_RESET_CAUSE i := by
  refine ⟨_, exec_resetNLow hn hp, fun a ha => ?_, getBit_setB_same _ _ _ _ (by decide), fun i hi h1 => ?_⟩
  · rw [reg_setB_other _ _ _ ha.symm]
    exact reg_coldReset_lost s ha
  · rw [getBit_setB_beside _ _ _ _ _ h1.symm hi]
    exact congrArg (bitOf · i) (reg_coldReset_resetCause hs)

/-! ### The counterexample -/

/-- A device out of reset whose register store lists GLB_RESET_CAUSE twice: the word in front, the one that is read, is the reset word 1;
the one behind it is 5. -/
def twiceCaused : State := { State.reset with regs := [(Reg.GLB_RESET_CAUSE, 1), (Reg.GLB_RESET_CAUSE, 5)] }

/-- Refutes O19, by its clause on the pin reset: the clause speaks of every state, and a cold path keeps GLB_RESET_CAUSE only where its word
is listed once (`resetNLow_registers_of_canonical`). `twiceCaused` reads bit 2 of GLB_RESET_CAUSE as 0; the reset drops the word in front, a
reset word, and bit 2 then reads as 1. -/
theorem not_coldPathsLoseEverythingButTheResetCause : ¬ Obligations.ColdPathsLoseEverythingButTheResetCause := by
  unfold Obligations.ColdPathsLoseEverythingButTheResetCause
  rintro ⟨-, hpin, -⟩
  obtain ⟨t, ht, -, -, -, -, -, hkept, -⟩ := hpin twiceCaused rfl rfl
  obtain rfl := Host.Outcome.next.inj ((exec_resetNLow rfl rfl).symm.trans ht)
  exact absurd (hkept 2 (by decide) (by decide)) (by decide)

end Sys2Proof.Machine
end

section
/-! PROOF. Registers that the control ports and the ring's lanes leave alone: those below the RING page. -/

namespace Sys2Proof.Machine

open Sys2Proof

/-- No register of a page below the RING page has changed. -/
def SameRegsBelowRing (s t : State) : Prop := ∀ a, a < 0xA000 → reg t a = reg s a

variable {s t : State}

namespace SameRegsBelowRing

theorem refl (s : State) : SameRegsBelowRing s s := fun _ _ => rfl

theorem setReg (h : SameRegsBelowRing s t) {a : Nat} (v : Word) (ha : 0xA000 ≤ a) : SameRegsBelowRing s (setReg a v t) :=
  fun b hb => (reg_setReg_other _ _ (by omega)).trans (h b hb)

theorem setF (h : SameRegsBelowRing s t) {a : Nat} (lo w v : Nat) (ha : 0xA000 ≤ a) : SameRegsBelowRing s (setF a lo w v t) :=
  h.setReg _ ha

theorem setB (h : SameRegsBelowRing s t) {a : Nat} (i : Nat) (b : Bool) (ha : 0xA000 ≤ a) : SameRegsBelowRing s (setB a i b t) :=
  h.setReg _ ha

theorem emit (h : SameRegsBelowRing s t) (e : Emission) : SameRegsBelowRing s (emit e t) := h

theorem modPorts (h : SameRegsBelowRing s t) (f : PortState → PortState) : SameRegsBelowRing s (modPorts f t) := h

theorem modLane (h : SameRegsBelowRing s t) (l : Nat) (f : RingLane → RingLane) : SameRegsBelowRing s (modLane l f t) := h

theorem setInt (h : SameRegsBelowRing s t) {p : Page} (i : Nat) (hp : 0xA000 ≤ pageBase p) : SameRegsBelowRing s (setInt p i t) :=
  fun b hb => (reg_setInt_other _ _ _ (by unfold Reg.INT_STATUS; omega)).trans (h b hb)

theorem setFault (h : SameRegsBelowRing s t) {p : Page} (i : Nat) (hp : 0xA000 ≤ pageBase p) : SameRegsBelowRing s (setFault p i t) :=
  fun b hb => (reg_setFault_other _ _ _ (by unfold Reg.FAULT_STATUS; omega)).trans (h b hb)

theorem forEach {α : Type} (h : SameRegsBelowRing s t) (l : List α) {f : α → State → State}
    (hf : ∀ x u, SameRegsBelowRing s u → SameRegsBelowRing s (f x u)) : SameRegsBelowRing s (forEach l f t) :=
  forEach_keeps _ f l (fun x _ u => hf x u) h

end SameRegsBelowRing

theorem macPage_above_ring (n : Nat) : 0xA000 ≤ pageBase (macPage n) := by simp only [pageBase, macPage]; omega

theorem gatePage_above_ring (n : Nat) : 0xA000 ≤ pageBase (gatePage n) := by simp only [pageBase, gatePage]; omega

/-! ### The choice of a frame (R485, R501, R502, R506) -/

theorem SameRegsBelowRing.passDone (h : SameRegsBelowRing s t) (l : List (Nat × Bool)) (n c : Nat) :
    SameRegsBelowRing s (passDone l n c t).2 := by
  induction l generalizing t with
  | nil => exact h
  | cons x r ih =>
    obtain ⟨i, done⟩ := x
    cases done with
    | false => exact h
    | true => exact ih (h.setF _ _ _ (by unfold Reg.DMA_RING_HEAD; omega))

theorem SameRegsBelowRing.txReturn (h : SameRegsBelowRing s t) (n c i outcome : Nat) (ts : Option Nat) :
    SameRegsBelowRing s (txReturn n c i outcome ts t) := by
  unfold Machine.txReturn
  have hcount : 0xA000 ≤ Reg.DMA_RING_COUNT n c := by unfold Reg.DMA_RING_COUNT; omega
  exact ((((h.emit _).setF 0 32 _ hcount).passDone _ n c).modPorts _).setInt 0 (macPage_above_ring n)

theorem SameRegsBelowRing.discardFrame (h : SameRegsBelowRing s t) (n outcome : Nat) (f : QFrame) :
    SameRegsBelowRing s (discardFrame n outcome f t) := by
  unfold Machine.discardFrame
  split
  · exact h.txReturn _ _ _ _ _
  · exact h

theorem SameRegsBelowRing.countDrop (h : SameRegsBelowRing s t) (n c outcome : Nat) : SameRegsBelowRing s (countDrop n c outcome t) := by
  unfold Machine.countDrop
  split
  · exact (h.setF _ _ _ (by unfold Reg.MAC_TX_DROPS; omega)).setFault 0 (macPage_above_ring n)
  · exact (h.setF _ _ _ (by unfold Reg.GATE_OVERSIZE; omega)).setInt 2 (gatePage_above_ring n)

theorem SameRegsBelowRing.dropHeads (h : SameRegsBelowRing s t) (n c : Nat) (l : List QFrame) :
    SameRegsBelowRing s (dropHeads n c l t) := by
  induction l generalizing t with
  | nil => exact h
  | cons f r ih =>
    unfold Machine.dropHeads
    split
    · exact h
    · exact ih (((h.modPorts _).countDrop n c _).discardFrame n _ f)

theorem SameRegsBelowRing.settleHeads (h : SameRegsBelowRing s t) (n : Nat) : SameRegsBelowRing s (settleHeads n t) := by
  refine h.forEach _ fun c u hu => ?_
  split
  · exact hu
  · exact hu.dropHeads _ _ _

theorem reg_debit (n c len : Nat) (s : State) (a : Nat) : reg (debit n c len s) a = reg s a := by
  unfold debit
  split <;> rfl

theorem SameRegsBelowRing.chooseFrame (h : SameRegsBelowRing s t) (n : Nat) : SameRegsBelowRing s (chooseFrame n t) := by
  have hheads := h.settleHeads n
  unfold Machine.chooseFrame
  dsimp only
  split
  · exact hheads
  · split
    · exact hheads
    · split
      · exact hheads
      · exact fun a ha => (reg_debit _ _ _ _ a).trans (hheads a ha)

/-! ### Lanes -/

theorem SameRegsBelowRing.laneDown (h : SameRegsBelowRing s t) (n : Nat) : SameRegsBelowRing s (laneDown n t) := by
  have hstat : 0xA000 ≤ Reg.MAC_STATUS n := by unfold Reg.MAC_STATUS; omega
  have hdown := h.setF 1 4 0 hstat
  unfold Machine.laneDown linkFollows
  refine SameRegsBelowRing.chooseFrame ?_ n
  split
  · exact (hdown.setB 0 _ hstat).setInt 2 (macPage_above_ring n)
  · exact hdown

end Sys2Proof.Machine
end

section
/-! PROOF. References, rails and the PCIe link (R64 to R70, R138, R583): what each of their commands shows. -/

namespace Sys2Proof.Machine

open Sys2Proof

/-! ### Faults beside other registers -/

@[simp] theorem setFault_pins (p : Page) (i : Nat) (s : State) : (setFault p i s).pins = s.pins := by
  obtain ⟨_, _, h⟩ := setFault_frame p i s
  rw [h]

@[simp] theorem setFault_time (p : Page) (i : Nat) (s : State) : (setFault p i s).time = s.time := by
  obtain ⟨_, _, h⟩ := setFault_frame p i s
  rw [h]

@[simp] theorem setFault_prime (p : Page) (i : Nat) (s : State) : (setFault p i s).prime = s.prime := by
  obtain ⟨_, _, h⟩ := setFault_frame p i s
  rw [h]

theorem getBit_setFault_other (p : Page) (i j : Nat) (s : State) {a : Nat} (h : Reg.FAULT_STATUS p ≠ a) :
    getBit (setFault p i s) a j = getBit s a j := congrArg (bitOf · j) (reg_setFault_other p i s h)

theorem SameRegsBut.setFault {l : List Nat} {s t : State} (h : SameRegsBut l s t) {p : Page} (i : Nat) (hp : Reg.FAULT_STATUS p ∈ l) :
    SameRegsBut l s (setFault p i t) := fun a ha =>
  (reg_setFault_other p i t fun (e : Reg.FAULT_STATUS p = a) => ha (e ▸ hp)).trans (h a ha)

/-! ### Holdover (R65, R66) -/

@[simp] theorem getBit_modPrime (f : Prime → Prime) (s : State) (a i : Nat) : getBit (modPrime f s) a i = getBit s a i := rfl

theorem SameRegsBut.modPrime {l : List Nat} {s t : State} (h : SameRegsBut l s t) (f : Prime → Prime) : SameRegsBut l s (modPrime f t) := h

theorem SameRegsBut.enterHoldover {l : List Nat} {s t : State} (h : SameRegsBut l s t) (hl : Reg.CLK_SRC_STATUS ∈ l) :
    SameRegsBut l s (enterHoldover t) := by
  unfold Machine.enterHoldover
  split
  · exact h
  · exact ((h.setReg _ hl).setReg _ hl).modPrime _

theorem getBit_enterHoldover_holdover (s : State) : getBit (enterHoldover s) Reg.CLK_SRC_STATUS 4 = true := by
  unfold enterHoldover
  split
  · assumption
  · rw [getBit_modPrime, getBit_setB_same _ _ _ _ (by decide)]

/-- Entry into holdover leaves every bit of CLK_SRC_STATUS but HOLDOVER and SYS_PLL_LOCK. -/
theorem getBit_enterHoldover_beside (s : State) {i : Nat} (h2 : 2 ≠ i) (h4 : 4 ≠ i) (hi : i < 32) :
    getBit (enterHoldover s) Reg.CLK_SRC_STATUS i = getBit s Reg.CLK_SRC_STATUS i := by
  unfold enterHoldover
  split
  · rfl
  · rw [getBit_modPrime, getBit_setB_beside _ _ _ _ _ h4 hi, getBit_setB_beside _ _ _ _ _ h2 hi]

theorem getBit_enterHoldover_other (s : State) {a i : Nat} (h : a ≠ Reg.CLK_SRC_STATUS) :
    getBit (enterHoldover s) a i = getBit s a i :=
  congrArg (bitOf · i) ((SameRegsBut.refl _ s).enterHoldover (List.mem_singleton.2 rfl) a (by simpa using h))

theorem enterHoldover_start {s : State} (h : getBit s Reg.CLK_SRC_STATUS 4 = false) :
    (enterHoldover s).prime.holdover = some s.time.uptime := by
  simp [enterHoldover, h, modPrime]

/-! ### References (R64 to R67) -/

theorem exec_xrefLoss {s : State} (hc : s.time.counting = true) (hx : getBit s Reg.CLK_SRC_STATUS 1 = true) :
    exec .xrefLoss s = .next (
      if getBit s Reg.CLK_SRC_STATUS 3 then enterHoldover (setFault clkPage 1 (setB Reg.CLK_SRC_STATUS 1 false s))
      else setB Reg.CLK_SRC_STATUS 1 false s) := by
  have h3 : getBit (setB Reg.CLK_SRC_STATUS 1 false s) Reg.CLK_SRC_STATUS 3 = getBit s Reg.CLK_SRC_STATUS 3 :=
    getBit_setB_beside _ _ _ _ _ (by decide) (by decide)
  show execXrefLoss s = _
  simp [execXrefLoss, hc, hx, h3]

/-- XREF lost while the system PLL does not run on it (R64). -/
theorem xrefLoss_unused {s : State} (hc : s.time.counting = true) (hx : getBit s Reg.CLK_SRC_STATUS 1 = true)
    (h3 : getBit s Reg.CLK_SRC_STATUS 3 = false) :
    ∃ t, exec .xrefLoss s = .next t ∧ getBit t Reg.CLK_SRC_STATUS 1 = false ∧ OnlyRegs [Reg.CLK_SRC_STATUS] s t := by
  refine ⟨_, exec_xrefLoss hc hx, ?_⟩
  simp only [h3, Bool.false_eq_true, if_false]
  exact ⟨getBit_setB_same _ _ _ _ (by decide), (OnlyRegs.refl _ s).setB _ _ (by simp)⟩

/-- XREF lost while the system PLL runs on it, outside holdover (R65, R67). -/
theorem xrefLoss_used {s : State} (hc : s.time.counting = true) (hx : getBit s Reg.CLK_SRC_STATUS 1 = true)
    (h3 : getBit s Reg.CLK_SRC_STATUS 3 = true) (h4 : getBit s Reg.CLK_SRC_STATUS 4 = false) :
    ∃ t, exec .xrefLoss s = .next t ∧ getBit t Reg.CLK_SRC_STATUS 1 = false ∧ getBit t Reg.CLK_SRC_STATUS 4 = true ∧
      t.prime.holdover = some s.time.uptime ∧ getBit t (Reg.FAULT_STATUS clkPage) 1 = true ∧
      SameRegsBut [Reg.CLK_SRC_STATUS, Reg.FAULT_STATUS clkPage] s t := by
  refine ⟨_, exec_xrefLoss hc hx, ?_⟩
  simp only [h3, if_true]
  have hne : Reg.FAULT_STATUS clkPage ≠ Reg.CLK_SRC_STATUS := by decide
  have hheld : getBit (setFault clkPage 1 (setB Reg.CLK_SRC_STATUS 1 false s)) Reg.CLK_SRC_STATUS 4 = false := by
    rw [getBit_setFault_other _ _ _ _ hne, getBit_setB_beside _ _ _ _ _ (by decide) (by decide), h4]
  refine ⟨?_, getBit_enterHoldover_holdover _, ?_, ?_, ?_⟩
  · rw [getBit_enterHoldover_beside _ (by decide) (by decide) (by decide), getBit_setFault_other _ _ _ _ hne,
      getBit_setB_same _ _ _ _ (by decide)]
  · simp [enterHoldover_start hheld]
  · rw [getBit_enterHoldover_other _ hne, getBit_setFault _ _ _ (by decide)]
  · exact SameRegsBut.enterHoldover (((SameRegsBut.refl _ s).setReg _ (by simp)).setFault _ (by simp)) (by simp)

/-- The lanes that stop with CLKREF stand in pages from the RING page on. -/
theorem sameRegsBelowRing_lanesStopped (s : State) :
    SameRegsBelowRing s (forEach (List.range 4) (fun l t => setF (Reg.RING_LANE l) 0 2 0 (modLane l (fun _ => RingLane.empty) t))
      (forEach (List.range 4) laneDown s)) :=
  ((SameRegsBelowRing.refl s).forEach _ fun n _ h => h.laneDown n).forEach _ fun _ _ h =>
    (h.modLane _ _).setF _ _ _ (by unfold Reg.RING_LANE; omega)

theorem clkrefLoss_shown {s : State} (hc : s.time.counting = true) (hr : getBit s Reg.CLK_SRC_STATUS 0 = true) :
    ∃ t, exec .clkrefLoss s = .next t ∧ getBit t Reg.CLK_SRC_STATUS 0 = false ∧ getBit t (Reg.FAULT_STATUS clkPage) 0 = true := by
  have hx : exec .clkrefLoss s = execClkrefLoss s := rfl
  simp only [execClkrefLoss, hc, hr, Bool.not_true, Bool.or_false, Bool.false_eq_true, if_false] at hx
  refine ⟨_, hx, ?_⟩
  generalize hu : setFault clkPage 0 (setB Reg.CLK_SRC_STATUS 5 false (setB Reg.CLK_SRC_STATUS 0 false s)) = u
  have hne : Reg.FAULT_STATUS clkPage ≠ Reg.CLK_SRC_STATUS := by decide
  have hok : getBit u Reg.CLK_SRC_STATUS 0 = false := by
    rw [← hu, getBit_setFault_other _ _ _ _ hne, getBit_setB_beside _ _ _ _ _ (by decide) (by decide), getBit_setB_same _ _ _ _ (by decide)]
  have hfault : getBit u (Reg.FAULT_STATUS clkPage) 0 = true := by rw [← hu, getBit_setFault _ _ _ (by decide)]
  have hlanes := sameRegsBelowRing_lanesStopped u
  generalize forEach (List.range 4) _ (forEach (List.range 4) laneDown u) = v at hlanes ⊢
  have hok' : getBit v Reg.CLK_SRC_STATUS 0 = false := (congrArg (bitOf · 0) (hlanes _ (by decide))).trans hok
  have hfault' : getBit v (Reg.FAULT_STATUS clkPage) 0 = true := (congrArg (bitOf · 0) (hlanes _ (by decide))).trans hfault
  split
  · exact ⟨hok', hfault'⟩
  · exact ⟨(getBit_enterHoldover_beside _ (by decide) (by decide) (by decide)).trans hok', (getBit_enterHoldover_other _ hne).trans hfault'⟩

theorem referencePresent_shown (x : Bool) {s : State} (hc : s.time.counting = true) :
    ∃ t, exec (.referencePresent x) s = .next t ∧ getBit t Reg.CLK_SRC_STATUS (if x then 1 else 0) = true ∧
      getBit t Reg.CLK_SRC_STATUS 3 = getBit s Reg.CLK_SRC_STATUS 3 ∧ OnlyRegs [Reg.CLK_SRC_STATUS] s t := by
  have hx : exec (.referencePresent x) s = execReferencePresent x s := rfl
  simp only [execReferencePresent, hc, Bool.not_true, Bool.false_eq_true, if_false] at hx
  refine ⟨_, hx, ?_⟩
  have hshown : ∀ i, i < 3 → getBit (setB Reg.CLK_SRC_STATUS i true s) Reg.CLK_SRC_STATUS i = true ∧
      getBit (setB Reg.CLK_SRC_STATUS i true s) Reg.CLK_SRC_STATUS 3 = getBit s Reg.CLK_SRC_STATUS 3 ∧
      OnlyRegs [Reg.CLK_SRC_STATUS] s (setB Reg.CLK_SRC_STATUS i true s) := fun i hi =>
    ⟨getBit_setB_same _ _ _ _ (by omega), getBit_setB_beside _ _ _ _ _ (by omega) (by decide), (OnlyRegs.refl _ s).setB _ _ (by simp)⟩
  cases x with
  | true => exact hshown 1 (by decide)
  | false =>
    obtain ⟨hset, hsource, honly⟩ := hshown 0 (by decide)
    simp only [Bool.false_eq_true, if_false]
    split
    · exact ⟨(getBit_setB_beside _ _ _ _ _ (by decide) (by decide)).trans hset,
        (getBit_setB_beside _ _ _ _ _ (by decide) (by decide)).trans hsource, honly.setB _ _ (by simp)⟩
    · exact ⟨hset, hsource, honly⟩

/-- A command that falls at an uptime finds it passed. -/
theorem le_uptime_advanceUptime (t : Nat) {s : State} (hc : s.time.counting = true) : t ≤ (advanceUptime t s).time.uptime := by
  have hup : (advanceUptime t s).time.uptime = s.time.uptime + 2 * ceilDiv (t - s.time.uptime) 2 := by
    simp only [advanceUptime, advanceTicks, Clock.after, hc, if_true]
    split <;> rfl
  rw [hup, ceilDiv]
  omega

theorem holdoverExpired_shown {h : Nat} {s : State} (hh : s.prime.holdover = some h) (hc : s.time.counting = true) :
    ∃ t, exec .holdoverExpired s = .next t ∧ getBit t (Reg.FAULT_STATUS clkPage) 3 = true ∧ t.prime.holdover = none ∧
      h + 10000000 ≤ t.time.uptime ∧ SameRegsBut [Reg.FAULT_STATUS clkPage] s t := by
  have hx : exec .holdoverExpired s = execHoldoverExpired s := rfl
  simp only [execHoldoverExpired, hh] at hx
  refine ⟨_, hx, getBit_setFault _ _ _ (by decide), by simp [modPrime], ?_, ?_⟩
  · rw [setFault_time]
    exact le_uptime_advanceUptime _ hc
  · exact SameRegsBut.setFault (fun _ _ => rfl) _ (by simp)

theorem sysPllUnlock_shown {s : State} (hl : getBit s Reg.CLK_SRC_STATUS 2 = true) (h4 : getBit s Reg.CLK_SRC_STATUS 4 = false) :
    ∃ t, exec .sysPllUnlock s = .next t ∧ getBit t Reg.CLK_SRC_STATUS 2 = false ∧ getBit t (Reg.FAULT_STATUS clkPage) 2 = true ∧
      SameRegsBut [Reg.CLK_SRC_STATUS, Reg.FAULT_STATUS clkPage] s t := by
  have hx : exec .sysPllUnlock s = execSysPllUnlock s := rfl
  simp only [execSysPllUnlock, hl, h4, Bool.not_false, Bool.and_true, if_true] at hx
  refine ⟨_, hx, ?_, getBit_setFault _ _ _ (by decide), ((SameRegsBut.refl _ s).setReg _ (by simp)).setFault _ (by simp)⟩
  rw [getBit_setFault_other _ _ _ _ (by decide), getBit_setB_same _ _ _ _ (by decide)]

/-! ### Rails and power (R13, R68 to R70) -/

@[simp] theorem inWindow_railLockout (r v rail microvolts : Nat) (s : State) :
    inWindow (railLockout r v s) rail microvolts = inWindow s rail microvolts := rfl

@[simp] theorem railLockout_time (r v : Nat) (s : State) : (railLockout r v s).time = s.time := rfl

theorem railOutOfWindow_shown {r : Fin 10} {v : Nat} {s : State} (hc : s.time.counting = true) (hw : inWindow s r v = false) :
    ∃ t, exec (.railOutOfWindow ⟨r, v⟩) s = .next t ∧ getBit t Reg.PWR_MON_STATUS r.val = false ∧
      getBit t (Reg.FAULT_STATUS pwrPage) r.val = true ∧ SameRegsBut [Reg.PWR_MON_STATUS, Reg.FAULT_STATUS pwrPage] s t := by
  have hx : exec (.railOutOfWindow ⟨r, v⟩) s = execRailOutOfWindow ⟨r, v⟩ s := rfl
  simp only [execRailOutOfWindow, railLockout_time, inWindow_railLockout, hc, hw, Bool.not_false, Bool.and_self, if_true] at hx
  have hr : r.val < 32 := by omega
  refine ⟨_, hx, ?_, getBit_setFault _ _ _ hr, ?_⟩
  · rw [getBit_setFault_other _ _ _ _ (by decide), getBit_setB_same _ _ _ _ hr]
  · have hpins : SameRegsBut [Reg.PWR_MON_STATUS, Reg.FAULT_STATUS pwrPage] s (railLockout r v s) := fun _ _ => rfl
    exact (hpins.setReg _ (by simp)).setFault _ (by simp)

theorem railBackInWindow_shown {r : Fin 10} {v : Nat} {s : State} (hc : s.time.counting = true) (hw : inWindow s r v = true) :
    ∃ t, exec (.railBackInWindow ⟨r, v⟩) s = .next t ∧ getBit t Reg.PWR_MON_STATUS r.val = true ∧
      OnlyRegs [Reg.PWR_MON_STATUS] { s with pins := t.pins } t := by
  have hx : exec (.railBackInWindow ⟨r, v⟩) s = execRailBackInWindow ⟨r, v⟩ s := rfl
  simp only [execRailBackInWindow, railLockout_time, inWindow_railLockout, hc, hw, Bool.and_self, if_true] at hx
  exact ⟨_, hx, getBit_setB_same _ _ _ _ (by omega), (OnlyRegs.refl _ (railLockout r v s)).setB _ _ (by simp)⟩

/-- Every listed cell takes its estimate, and nothing else changes. -/
theorem forEach_cellPower (w : List Word) (l : List Nat) (s : State) :
    ∃ p, forEach l (fun m t => { t with cellPower := SMap.set (fun _ => 0) t.cellPower m ((w[m]?).getD 0) }) s = { s with cellPower := p } ∧
      ∀ m, SMap.get (fun _ => 0) p m = if m ∈ l then (w[m]?).getD 0 else SMap.get (fun _ => 0) s.cellPower m := by
  induction l generalizing s with
  | nil => exact ⟨s.cellPower, rfl, fun _ => rfl⟩
  | cons x r ih =>
    obtain ⟨p, hp, hget⟩ := ih { s with cellPower := SMap.set (fun _ => 0) s.cellPower x ((w[x]?).getD 0) }
    refine ⟨p, hp, fun m => ?_⟩
    rw [hget, SMap.get_set]
    by_cases hr : m ∈ r
    · simp [hr]
    · by_cases hxm : x = m
      · simp [hxm]
      · simp [hr, hxm, Ne.symm hxm]

theorem cellPowerEstimateRefresh_shown (w : List Word) (mw : BitVec 16) {s : State} (hc : s.time.counting = true) :
    ∃ t, exec (.cellPowerEstimateRefresh w mw) s = .next t ∧ getF t Reg.PWR_DEVICE_MW 0 16 = mw.toNat ∧
      (∀ m, m < s.variant.cells → SMap.get (fun _ => 0) t.cellPower m = (w[m]?).getD 0) ∧
      OnlyRegs [Reg.PWR_DEVICE_MW] { s with cellPower := t.cellPower, cellPowerWas := s.cellPower, cellPowerAt := s.time.uptime } t := by
  have hx : exec (.cellPowerEstimateRefresh w mw) s = execCellPowerEstimateRefresh w mw s := rfl
  obtain ⟨p, hp, hget⟩ := forEach_cellPower w (allCells s) { s with cellPowerWas := s.cellPower, cellPowerAt := s.time.uptime }
  simp only [execCellPowerEstimateRefresh, hc, Bool.not_true, Bool.false_eq_true, if_false, hp] at hx
  refine ⟨_, hx, ?_, fun m hm => ?_, (OnlyRegs.refl _ _).setF _ _ _ (by simp)⟩
  · rw [getF_setF_same _ _ _ _ _ (by decide), Nat.mod_eq_of_lt mw.isLt]
  · exact (hget m).trans (if_pos (List.mem_range.2 hm))

/-! ### The PCIe link (R119, R138, R583) -/

/-- What a write of a DMA ring's registers and a change of the ports' state keep, the clearing of the rings keeps. -/
theorem clearRings_keeps (P : State → Prop) {s : State}
    (hregs : ∀ n r u, n < 4 → r < 16 → P u →
      P (setReg (Reg.DMA_RING_HEAD n r) 0 (setReg (Reg.DMA_RING_TAIL n r) 0 (setB (Reg.DMA_RING_CFG n r) 0 false u))))
    (hports : ∀ f u, P u → P (modPorts f u)) (h : P s) : P (clearRings s) := by
  unfold clearRings
  refine hports _ _ (forEach_keeps P _ _ (fun n hn _ ht => ?_) h)
  exact forEach_keeps P _ _ (fun r hr u hu => hregs n r u (List.mem_range.1 hn) (List.mem_range.1 hr) hu) ht

@[simp] theorem clearRings_pins (s : State) : (clearRings s).pins = s.pins :=
  clearRings_keeps (fun t => t.pins = s.pins) (fun _ _ _ _ _ h => h) (fun _ _ h => h) rfl

@[simp] theorem clearRings_endpoint (s : State) : (clearRings s).endpoint = s.endpoint :=
  clearRings_keeps (fun t => t.endpoint = s.endpoint) (fun _ _ _ _ _ h => h) (fun _ _ h => h) rfl

/-- The rings' registers stand in the MAC pages. -/
theorem reg_clearRings_other (s : State) {a : Nat} (ha : a < 0x10000 ∨ 0x14000 ≤ a) : reg (clearRings s) a = reg s a := by
  refine clearRings_keeps (fun t => reg t a = reg s a) (fun n r u hn hr hu => ?_) (fun _ _ h => h) rfl
  rw [reg_setReg_other _ _ (by unfold Reg.DMA_RING_HEAD; omega), reg_setReg_other _ _ (by unfold Reg.DMA_RING_TAIL; omega),
    reg_setB_other _ _ _ (by unfold Reg.DMA_RING_CFG; omega), hu]

theorem pciePerstLow_shown {s : State} (hp : s.pins.perstN = true) (hc : s.time.counting = true) :
    ∃ t, exec .pciePerstLow s = .next t ∧ t.pins.perstN = false ∧ t.pins.pcieUp = false ∧ getBit t Reg.GLB_RESET_CAUSE 6 = true ∧
      t.endpoint = { config := [], msix := [] } ∧ reg t Reg.PCIE_BAR2_BASE = 0 := by
  have hx : exec .pciePerstLow s = execPciePerstLow s := rfl
  simp only [execPciePerstLow, hp, hc, Bool.not_true, Bool.false_eq_true, if_false] at hx
  refine ⟨_, hx, ?_⟩
  generalize hu : setB Reg.GLB_RESET_CAUSE 6 true _ = u
  have hcause : reg (clearRings u) Reg.GLB_RESET_CAUSE = reg u Reg.GLB_RESET_CAUSE := reg_clearRings_other u (by decide)
  have hbase : reg (clearRings u) Reg.PCIE_BAR2_BASE = reg u Reg.PCIE_BAR2_BASE := reg_clearRings_other u (by decide)
  rw [getBit, hcause, hbase, clearRings_pins, clearRings_endpoint, ← hu]
  refine ⟨rfl, rfl, getBit_setB_same _ _ _ _ (by decide), rfl, ?_⟩
  rw [reg_setB_other _ _ _ (by decide), reg_setReg_same]

theorem pcieLinkUp_shown {s : State} (hc : s.time.counting = true) (hp : s.pins.perstN = true) (hs : stage s ≠ 0xF)
    (hf : getF s Reg.GLB_PRIME_STATUS 16 8 ≠ 1) :
    ∃ t, exec .pcieLinkUp s = .next t ∧ t.pins = { s.pins with pcieUp := true } ∧ getBit t Reg.CLK_SRC_STATUS 6 = true ∧
      OnlyRegs [Reg.CLK_SRC_STATUS] { s with pins := t.pins } t := by
  have hx : exec .pcieLinkUp s = execPcieLinkUp s := rfl
  simp only [execPcieLinkUp, hc, hp, hs, hf, Bool.not_true, decide_false, Bool.or_self, Bool.false_eq_true, if_false] at hx
  exact ⟨_, hx, by simp [hp], getBit_setB_same _ _ _ _ (by decide), (OnlyRegs.refl _ _).setB _ _ (by simp)⟩

theorem pcieLinkDown_shown {s : State} (hp : s.pins.pcieUp = true) :
    ∃ t, exec .pcieLinkDown s = .next t ∧ t.pins = { s.pins with pcieUp := false } ∧ getBit t Reg.CLK_SRC_STATUS 6 = false ∧
      getBit t (Reg.FAULT_STATUS pciePage) 0 = true ∧ SameRegsBut [Reg.CLK_SRC_STATUS, Reg.FAULT_STATUS pciePage] s t := by
  have hx : exec .pcieLinkDown s = execPcieLinkDown s := rfl
  simp only [execPcieLinkDown, hp, Bool.not_true, Bool.false_eq_true, if_false] at hx
  refine ⟨_, hx, setFault_pins _ _ _, ?_, getBit_setFault _ _ _ (by decide), ?_⟩
  · rw [getBit_setFault_other _ _ _ _ (by decide), getBit_setB_same _ _ _ _ (by decide)]
  · have hpins : SameRegsBut [Reg.CLK_SRC_STATUS, Reg.FAULT_STATUS pciePage] s { s with pins := { s.pins with pcieUp := false } } :=
      fun _ _ => rfl
    exact (hpins.setReg _ (by simp)).setFault _ (by simp)

/-- Settles O24, command by command. -/
theorem referencesRailsAndThePcieLinkAreShown : Obligations.ReferencesRailsAndThePcieLinkAreShown :=
  ⟨fun _ hc hx => ⟨xrefLoss_unused hc hx, xrefLoss_used hc hx⟩,
    fun _ => clkrefLoss_shown,
    fun x _ => referencePresent_shown x,
    fun _ _ => holdoverExpired_shown,
    fun _ => sysPllUnlock_shown,
    fun _ _ _ hc => ⟨railOutOfWindow_shown hc, railBackInWindow_shown hc⟩,
    fun w mw _ => cellPowerEstimateRefresh_shown w mw,
    fun _ => pciePerstLow_shown,
    fun _ => rfl,
    fun _ => pcieLinkUp_shown,
    fun _ => pcieLinkDown_shown⟩

end Sys2Proof.Machine
end

section
/-! PROOF. Where registers stand: an address and the place that it decodes to, and how a write gets there. -/

namespace Sys2Proof.Machine

open Sys2Proof

/-! ### Pages and their addresses (R84, R85) -/

/-- A place that the part has is what the address decodes to before the variant is looked at. -/
theorem decodeFull_of_decodeAddr {v : Variant} {a : Nat} {t : Target} (h : decodeAddr v a = t) (ht : t ≠ .hole) : decodeFull a = t := by
  unfold decodeAddr at h
  dsimp only at h
  split at h
  · exact h
  · exact absurd h.symm ht

theorem decodeAddr_of_decodeFull {v : Variant} {a : Nat} {t : Target} (h : decodeFull a = t) (hole : decodeAddr v a ≠ .hole) :
    decodeAddr v a = t :=
  (decodeFull_of_decodeAddr rfl hole).symm.trans h

theorem present_of_decodeAddr {v : Variant} {a : Nat} {p : Page} {o : Nat} (h : decodeAddr v a = .page p o) : p.present v = true := by
  have hfull := decodeFull_of_decodeAddr h (by simp)
  unfold decodeAddr at h
  rw [hfull] at h
  by_contra hp
  simp [Target.present, hp] at h

/-- A well's page: where it begins, how long it is, and that the full part has it. -/
theorem wellPage_place {w : Nat} (h : w < 304) :
    pageBase (wellPage w) = wellBase w ∧ pageSize (wellPage w) = 0x1000 ∧ (wellPage w).present .pe2560 = true := by
  unfold wellPage
  split
  · exact ⟨rfl, rfl, by simp [Page.present, Variant.tapWells, Variant.columns, *]⟩
  · split
    · exact ⟨congrArg wellBase (Nat.add_sub_of_le (by omega)), rfl, by simp [Page.present, Variant.hasPortWell]; omega⟩
    · exact ⟨congrArg wellBase (Nat.add_sub_of_le (by omega)), rfl, by simp [Page.present]; omega⟩

/-- What an address below 0x0001_0000 decodes to. -/
theorem decodeFull_lowPage {a : Nat} (h : a < 0x10000) :
    ∃ k, decodeFull a = .page ⟨k, 0⟩ (a % 0x1000) ∧ pageBase ⟨k, 0⟩ = a / 0x1000 * 0x1000 ∧ pageSize ⟨k, 0⟩ = 0x1000 ∧
      Page.present .pe2560 ⟨k, 0⟩ = true := by
  have hd : decodeFull a = .page ⟨(lowPages[a / 0x1000]?).getD .glb, 0⟩ (a % 0x1000) := by unfold decodeFull; rw [if_pos h]
  refine ⟨_, hd, ?_⟩
  have hn : a / 0x1000 < 16 := by omega
  generalize a / 0x1000 = n at hn
  interval_cases n <;> decide

/-- The page of an address, where it begins at a multiple of its own size. -/
theorem page_of_base {a n : Nat} {p q : Page} {o : Nat} (hs : pageSize q = n) (hb : pageBase q = a / n * n)
    (hp : q.present .pe2560 = true) (h : Target.page q (a % n) = .page p o) :
    a = pageBase p + o ∧ o < pageSize p ∧ p.present .pe2560 = true := by
  obtain ⟨rfl, rfl⟩ := Target.page.inj h
  have hn : 0 < pageSize q := by unfold pageSize; split <;> decide
  exact ⟨by rw [hb, Nat.div_add_mod'], hs ▸ Nat.mod_lt _ (hs ▸ hn), hp⟩

/-- No page stands above COL_9. -/
theorem decodeFull_ne_page {a : Nat} (ha : 0x3A0000 ≤ a) (p : Page) (o : Nat) : decodeFull a ≠ .page p o := by
  intro h
  unfold decodeFull at h
  iterate 17 rw [if_neg (by omega)] at h
  iterate 11
    obtain ⟨-, h⟩ | ⟨-, h⟩ := ite_eq_iff.1 h
    · contradiction
  contradiction

/-- An address that decodes to an offset of a page is that offset of it, within the page, and the full part has the page. -/
theorem decodeFull_page {a : Nat} {p : Page} {o : Nat} (h : decodeFull a = .page p o) :
    a = pageBase p + o ∧ o < pageSize p ∧ p.present .pe2560 = true := by
  by_cases hlow : a < 0x10000
  · obtain ⟨k, hd, hb, hs, hp⟩ := decodeFull_lowPage hlow
    exact page_of_base hs hb hp (hd.symm.trans h)
  have hhigh : a < 0x3A0000 := Nat.lt_of_not_le fun hge => decodeFull_ne_page hge p o h
  unfold decodeFull at h
  rw [if_neg hlow] at h
  rcases ite_eq_iff.1 h with ⟨c, h⟩ | ⟨c1, h⟩
  · exact page_of_base (n := 0x1000) rfl (by simp only [pageBase]; omega) (by simp only [Page.present, decide_eq_true_eq]; omega) h
  rcases ite_eq_iff.1 h with ⟨c, h⟩ | ⟨c2, h⟩
  · exact page_of_base (n := 0x1000) rfl (by simp only [pageBase]; omega) (by simp only [Page.present, decide_eq_true_eq]; omega) h
  rcases ite_eq_iff.1 h with ⟨c, h⟩ | ⟨c3, h⟩
  · exact page_of_base (n := 0x1000) rfl (by simp only [pageBase]; omega) (by simp only [Page.present, decide_eq_true_eq]; omega) h
  rcases ite_eq_iff.1 h with ⟨c, h⟩ | ⟨c4, h⟩
  · exact page_of_base (n := 0x1000) rfl (by simp only [pageBase]; omega) rfl h
  rcases ite_eq_iff.1 h with ⟨c, h⟩ | ⟨c5, h⟩
  · contradiction
  rcases ite_eq_iff.1 h with ⟨c, h⟩ | ⟨c6, h⟩
  · exact page_of_base (n := 0x1000) rfl (by simp only [pageBase]; omega) rfl h
  rcases ite_eq_iff.1 h with ⟨c, h⟩ | ⟨c7, h⟩
  · exact page_of_base (n := 0x1000) rfl (by simp only [pageBase]; omega) (by simp only [Page.present, decide_eq_true_eq]; omega) h
  rcases ite_eq_iff.1 h with ⟨c, h⟩ | ⟨c8, h⟩
  · exact page_of_base (n := 0x1000) rfl (by simp only [pageBase]; omega) rfl h
  rcases ite_eq_iff.1 h with ⟨c, h⟩ | ⟨c9, h⟩
  · exact page_of_base (n := 0x1000) rfl (by simp only [pageBase]; omega) rfl h
  rcases ite_eq_iff.1 h with ⟨c, h⟩ | ⟨c10, h⟩
  · exact page_of_base (n := 0x1000) rfl (by simp only [pageBase]; omega) rfl h
  rcases ite_eq_iff.1 h with ⟨c, h⟩ | ⟨c11, h⟩
  · contradiction
  rcases ite_eq_iff.1 h with ⟨c, h⟩ | ⟨c12, h⟩
  · obtain ⟨hb, hs, hp⟩ := wellPage_place (w := (a - 0x100000) / 0x1000) (by omega)
    exact page_of_base (n := 0x1000) hs (by rw [hb]; unfold wellBase; split <;> omega) hp h
  rcases ite_eq_iff.1 h with ⟨c, h⟩ | ⟨c13, h⟩
  · exact page_of_base (n := 0x1000) rfl (by simp only [pageBase]; omega) (by exact decide_eq_true (p := (a - 0x200000) / 0x1000 < 128) (by omega)) h
  rcases ite_eq_iff.1 h with ⟨c, h⟩ | ⟨c14, h⟩
  · obtain ⟨hb, hs, hp⟩ := wellPage_place (w := (a - 0x280000) / 0x1000 + 256) (by omega)
    exact page_of_base (n := 0x1000) hs (by rw [hb]; unfold wellBase; split <;> omega) hp h
  rcases ite_eq_iff.1 h with ⟨c, h⟩ | ⟨c15, h⟩
  · contradiction
  rcases ite_eq_iff.1 h with ⟨c, h⟩ | ⟨c16, h⟩
  · exact page_of_base (n := 0x10000) rfl (by simp only [pageBase]; omega) (by exact decide_eq_true (p := (a - 0x300000) / 0x10000 < 10) (by omega)) h
  exact absurd hhigh c16

/-- An address that decodes to a byte of the element table's shadow view (R32). -/
theorem decodeFull_slotShadow {a n o : Nat} (h : decodeFull a = .slotShadow n o) : a = 0x1000000 + 64 * n + o ∧ o < 64 := by
  unfold decodeFull at h
  iterate 17
    obtain ⟨-, h⟩ | ⟨-, h⟩ := ite_eq_iff.1 h
    · contradiction
  obtain ⟨-, h⟩ | ⟨hlo, h⟩ := ite_eq_iff.1 h
  · contradiction
  obtain ⟨-, h⟩ | ⟨-, h⟩ := ite_eq_iff.1 h
  · obtain ⟨rfl, rfl⟩ := Target.slotShadow.inj h
    omega
  iterate 9
    obtain ⟨-, h⟩ | ⟨-, h⟩ := ite_eq_iff.1 h
    · contradiction
  contradiction

/-- An address that decodes to a byte of the loop window (R283). -/
theorem decodeFull_loopWin {a o : Nat} (h : decodeFull a = .loopWin o) : a = 0x1800000 + o := by
  unfold decodeFull at h
  iterate 24
    obtain ⟨-, h⟩ | ⟨-, h⟩ := ite_eq_iff.1 h
    · contradiction
  obtain ⟨-, h⟩ | ⟨hlo, h⟩ := ite_eq_iff.1 h
  · contradiction
  obtain ⟨-, h⟩ | ⟨-, h⟩ := ite_eq_iff.1 h
  · obtain rfl := Target.loopWin.inj h
    omega
  iterate 2
    obtain ⟨-, h⟩ | ⟨-, h⟩ := ite_eq_iff.1 h
    · contradiction
  contradiction
theorem decodeFull_loopWin_at {o : Nat} (h : o < 0x800000) : decodeFull (0x1800000 + o) = .loopWin o := by
  unfold decodeFull
  iterate 25 rw [if_neg (by omega)]
  rw [if_pos (by omega), Nat.add_sub_cancel_left]

end Sys2Proof.Machine
end

section
/-! PROOF. How an access of one word of a page reaches its effect. -/

namespace Sys2Proof.Machine

open Sys2Proof

variable {req : Requester} {p : Page} {o : Nat} {s : State}

/-! ### Words of pages -/

/-- Every page that a part has ends below 16 MiB (R84, R85). -/
theorem pageEnd_le {v : Variant} (h : p.present v = true) : pageBase p + pageSize p ≤ 0x1000000 := by
  have hpos : 0 < pageSize p := by unfold pageSize; split <;> decide
  have hlast := decodeFull_of_decodeAddr (decodeAddr_page h (show pageSize p - 1 < pageSize p by omega)) (by simp)
  have hlt : pageBase p + (pageSize p - 1) < 0x3A0000 := Nat.lt_of_not_le fun hge => decodeFull_ne_page hge _ _ hlast
  omega

theorem regAt_page {v : Variant} (h : p.present v = true) (ho : o < pageSize p) : regAt (pageBase p + o) = pageReg p o := by
  unfold regAt
  rw [decodeFull_of_decodeAddr (decodeAddr_page h ho) (by simp)]
  rfl

/-- A command's address names the word of a page that it is made from. -/
theorem toNat_pageAddr {v : Variant} (h : p.present v = true) (ho : o < pageSize p) :
    (BitVec.ofNat 28 (pageBase p + o)).toNat = pageBase p + o := by
  have := pageEnd_le h
  rw [BitVec.toNat_ofNat]
  omega

theorem header_lt_pageSize (p : Page) (h : o < 0x1000) : o < pageSize p := by unfold pageSize; split <;> omega

@[simp] theorem word_toNat (v : Word) : word v.toNat = v := by simp [word]

@[simp] theorem lo32_toNat (v : Word) : lo32 v.toNat = v := word_toNat v

theorem lo32_zeroExtended (v : Word) : lo32 (v.setWidth 64).toNat = v := by
  rw [BitVec.toNat_setWidth, Nat.mod_eq_of_lt (by omega), lo32_toNat]

/-! ### Accesses -/

theorem misfit_eq (t : Target) (a n : Nat) (w : Bool) : misfit t a n w = (a % n != 0 || (w && decide (n < 4) && !byteWindow t)) := by
  cases t <;> rfl

/-- An aligned access to what the part has is no decode error, but for a narrow write outside the byte windows (R97, R112). -/
theorem decodeFails_eq_false {a n : Nat} {w : Bool} (h : decodeAddr s.variant a ≠ .hole) (ha : a % n = 0)
    (hn : w = true → n < 4 → byteWindow (decodeAddr s.variant a) = true) : decodeFails s a n w = false := by
  have hwin : (w && decide (n < 4) && !byteWindow (decodeAddr s.variant a)) = false := by simpa using hn
  simp [decodeFails, h, misfit_eq, ha, hwin]

theorem sizedRead_reaches {a n : Nat} (eff : State → State) (h : Reaches req a false s) (ha : a % n = 0) :
    sizedAccess req a n false eff s = eff s :=
  sizedAccess_reaches eff h (decodeFails_eq_false h.2.2.1 ha (by simp))

/-- A word's write that reaches its place has its effect. -/
theorem writeWord_reaches {a : Nat} (data : Nat) (h : WriteReaches req a s) (ha : a % 4 = 0) :
    writeAccess req a 4 data s = effWrite req a 4 data s :=
  sizedWrite_reaches _ h (decodeFails_eq_false h.1.2.2.1 ha (by omega))

/-- The part of COL_0 that holds the segment directory, which has a write rule of its own (R202, R203). -/
def inShapeDir (p : Page) (o : Nat) : Prop := p.kind = .col ∧ p.inst = 0 ∧ 0x8000 ≤ o ∧ o < 0xC000

/-- A 32-bit write that reaches a word of a page is that page's write of the word (R94). -/
theorem writeWord_page (data : Nat) (hp : p.present s.variant = true) (ho : o < pageSize p) (h4 : o % 4 = 0) (hdir : ¬ inShapeDir p o)
    (h : WriteReaches req (pageBase p + o) s) : writeAccess req (pageBase p + o) 4 data s = pageWrite req p o (lo32 data) s := by
  have hbase := pageBase_mod p
  have hno : (decide (p.kind = .col) && decide (p.inst = 0) && decide (0x8000 ≤ o) && decide (o < 0xC000)) = false := by
    simpa [inShapeDir] using hdir
  rw [writeWord_reaches data h (by omega)]
  unfold effWrite
  rw [decodeAddr_page hp ho]
  simp only [hno, Bool.false_eq_true, if_false, show ¬ (4 = 8) by decide, decide_false, Bool.false_and, wordsOf, forEach_cons, forEach_nil,
    Nat.add_sub_cancel_left]

theorem exec_registerWrite_page (v : DWord) (hp : p.present s.variant = true) (ho : o < pageSize p) (h4 : o % 4 = 0)
    (hdir : ¬ inShapeDir p o) (h : WriteReaches req (pageBase p + o) s) :
    exec (.registerWrite req (BitVec.ofNat 28 (pageBase p + o)) .four v) s = .next (pageWrite req p o (lo32 v.toNat) s) := by
  show Host.Outcome.next (writeAccess req _ 4 v.toNat s) = _
  rw [toNat_pageAddr hp ho, writeWord_page _ hp ho h4 hdir h]

end Sys2Proof.Machine
end

section
/-! PROOF. Reads of the halves of 64-bit pairs (R97, R98, R100, R101). -/

namespace Sys2Proof.Machine

open Sys2Proof

/-! ### Where low halves stand (R98) -/

/-- The access types of a low half. -/
def isLow (d : RegDef) : Bool := d.acc == .rol || d.acc == .rwl

/-- Whether every low half of a map, each time that its row repeats, stands at a multiple of 8. -/
def lowRowsAligned (l : List RegDef) : Bool := l.all fun d => !isLow d || (d.off % 8 == 0 && (d.stride % 8 == 0 || d.count == 1))

theorem headerRegs_lowRowsAligned : lowRowsAligned headerRegs = true := by decide

theorem slotRegs_lowRowsAligned : lowRowsAligned slotRegs = true := by decide

theorem cellRegs_lowRowsAligned : lowRowsAligned cellRegs = true := by decide

theorem blockRegs_lowRowsAligned (p : Page) : lowRowsAligned (blockRegs p) = true := by
  obtain ⟨k, n⟩ := p
  cases k <;> simp only [blockRegs] <;> (try split) <;> decide

/-- An offset that a row covers is one of its instances. -/
theorem RegDef.place_of_covers {d : RegDef} {o : Nat} (h : d.covers o = true) : ∃ i, i < d.count ∧ o = d.off + d.stride * i := by
  simp only [RegDef.covers, Bool.and_eq_true, decide_eq_true_eq, beq_iff_eq] at h
  obtain ⟨⟨hle, hmod⟩, hlt⟩ := h
  have := Nat.div_add_mod (o - d.off) d.stride
  exact ⟨_, hlt, by omega⟩

/-- The row that is found for an offset is of the map, and the offset is one of its instances. -/
theorem findIn_some {l : List RegDef} {o : Nat} {d : RegDef} (h : findIn l o = some d) :
    d ∈ l ∧ ∃ i, i < d.count ∧ o = d.off + d.stride * i :=
  ⟨List.mem_of_find?_eq_some h, RegDef.place_of_covers (List.find?_some (p := fun d => RegDef.covers d o) h)⟩

theorem lowRow_aligned {l : List RegDef} (hl : lowRowsAligned l = true) {o : Nat} {d : RegDef} (h : findIn l o = some d)
    (hd : isLow d = true) : o % 8 = 0 := by
  obtain ⟨hmem, i, hi, rfl⟩ := findIn_some h
  have hrow := List.all_eq_true.1 hl d hmem
  simp only [hd, Bool.not_true, Bool.false_or, Bool.and_eq_true, Bool.or_eq_true, beq_iff_eq] at hrow
  obtain ⟨hoff, hstride | hone⟩ := hrow
  · have : d.stride * i % 8 = 0 := by rw [Nat.mul_mod, hstride, Nat.zero_mul, Nat.zero_mod]
    omega
  · obtain rfl : i = 0 := by omega
    simpa using hoff

/-- An address with a register stands in a page, in the shadow view of the element table or in a cell's region. -/
theorem regAt_some {a : Nat} {d : RegDef} (h : regAt a = some d) :
    (∃ p o, decodeFull a = .page p o ∧ pageReg p o = some d) ∨
      (∃ n o, decodeFull a = .slotShadow n o ∧ findIn slotRegs o = some d) ∨
      ∃ o, decodeFull a = .loopWin o ∧ o < 0x280000 ∧ findIn cellRegs (o % 0x1000) = some d := by
  unfold regAt at h
  cases ht : decodeFull a with
  | page p o => exact .inl ⟨p, o, rfl, by rwa [ht] at h⟩
  | slotShadow n o => exact .inr (.inl ⟨n, o, rfl, by rwa [ht] at h⟩)
  | loopWin o =>
    rw [ht, Target.reg] at h
    split at h
    · exact .inr (.inr ⟨o, rfl, ‹_›, h⟩)
    · cases h
  | _ => rw [ht] at h; cases h

theorem lowHalf_eq (a : Nat) : lowHalf a = (regAt a).any isLow := by
  unfold lowHalf
  split <;> simp_all [isLow]

/-- Every low half stands at a multiple of 8 (R98). -/
theorem lowHalf_aligned {a : Nat} (h : lowHalf a = true) : a % 8 = 0 := by
  rw [lowHalf_eq, Option.any_eq_true] at h
  obtain ⟨d, hd, hlow⟩ := h
  obtain ⟨p, o, ht, hr⟩ | ⟨n, o, ht, hr⟩ | ⟨o, ht, -, hr⟩ := regAt_some hd
  · obtain ⟨rfl, -, -⟩ := decodeFull_page ht
    have hbase := pageBase_mod p
    have : o % 8 = 0 := by
      unfold pageReg at hr
      split at hr
      · exact lowRow_aligned headerRegs_lowRowsAligned hr hlow
      · exact lowRow_aligned (blockRegs_lowRowsAligned p) hr hlow
    omega
  · obtain ⟨rfl, -⟩ := decodeFull_slotShadow ht
    have := lowRow_aligned slotRegs_lowRowsAligned hr hlow
    omega
  · obtain rfl := decodeFull_loopWin ht
    have := lowRow_aligned cellRegs_lowRowsAligned hr hlow
    omega

theorem highHalf_eq_false_of_aligned {a : Nat} (h : a % 8 = 0) : highHalf a = false := by
  by_contra hh
  have h4 : 4 ≤ a ∧ lowHalf (a - 4) = true := by simpa [highHalf] using hh
  have := lowHalf_aligned h4.2
  omega

theorem lowHalf_eq_false_of_highHalf {a : Nat} (h : highHalf a = true) : lowHalf a = false := by
  by_contra hl
  rw [highHalf_eq_false_of_aligned (lowHalf_aligned (by simpa using hl))] at h
  cases h

/-! ### What each read does (R97, R100, R101) -/

variable {req : Requester} {a n : Nat} {s : State}

theorem latch_latchHigh (req : Requester) (a : Nat) (s : State) (i : Nat) :
    SMap.get (fun _ => none) (latchHigh req a s).bus.latch i =
      if req.toNat = i then some (a, readWord s (a + 4)) else SMap.get (fun _ => none) s.bus.latch i := by
  simp only [latchHigh, SMap.get_set]

/-- A read of 32 bits or narrower, but not a narrow one of a byte window, is the 32-bit read of the word that holds it. -/
theorem readEffect_word (h8 : n ≠ 8) (hw : n < 4 → byteWindow (decodeAddr s.variant a) = false) :
    readEffect req a n s = emit (.readData req (laneData (wordRead s req (a - a % 4)) a n))
      (if lowHalf (a - a % 4) then latchHigh req (a - a % 4) s else s) := by
  have hnarrow : (decide (n < 4) && byteWindow (decodeAddr s.variant a)) = false := by simpa using hw
  simp only [readEffect, if_neg h8, hnarrow, Bool.false_eq_true, if_false]

/-- A read of a word that is no half of a pair, or of a byte window, is of what the word reads as (R97). -/
theorem readEffect_plain (h8 : n ≠ 8) (hl : lowHalf (a - a % 4) = false) (hh : highHalf (a - a % 4) = false) :
    readEffect req a n s = emit (.readData req (laneData (readWord s (a - a % 4)) a n)) s := by
  simp only [readEffect, if_neg h8, wordRead, hl, hh, Bool.false_eq_true, if_false, ite_self]

/-- The high half is read from the shadow of its own pair, and from the live word where the shadow is another pair's (R100). -/
theorem highValue_eq (s : State) (req : Requester) (a : Nat) :
    (∀ v, SMap.get (fun _ => none) s.bus.latch req.toNat = some (a, v) → highValue s req a = v) ∧
      ((∀ v, SMap.get (fun _ => none) s.bus.latch req.toNat ≠ some (a, v)) → highValue s req a = readWord s (a + 4)) := by
  unfold highValue
  refine ⟨fun v hv => by simp [hv], fun hv => ?_⟩
  split
  · next b v hb =>
    rw [if_neg]
    rintro rfl
    exact hv v hb
  · rfl

theorem size_narrow {size : AccessSize} {t : Target} (h8 : size ≠ .eight) (hw : size = .four ∨ byteWindow t = false) :
    size.bytes ≠ 8 ∧ (size.bytes < 4 → byteWindow t = false) := by
  cases size <;> simp_all [AccessSize.bytes]

/-! ### The commands -/

theorem exec_lowHalfRead {addr : BitVec 28} {size : AccessSize} (hh : highHalf (addr.toNat - addr.toNat % 4) = false)
    (ha : addr.toNat % size.bytes = 0) (h : Reaches req addr.toNat false s) :
    exec (.lowHalfRead req ⟨addr, size⟩) s = .next (readEffect req addr.toNat size.bytes s) := by
  show execLowHalfRead req ⟨addr, size⟩ s = _
  simp only [execLowHalfRead, hh, Bool.false_eq_true, if_false, sizedRead_reaches _ h ha]

theorem exec_highHalfRead {addr : BitVec 28} {size : AccessSize} (hh : highHalf (addr.toNat - addr.toNat % 4) = true)
    (ha : addr.toNat % size.bytes = 0) (h : Reaches req addr.toNat false s) :
    exec (.highHalfRead req ⟨addr, size⟩) s = .next (readEffect req addr.toNat size.bytes s) := by
  show execHighHalfRead req ⟨addr, size⟩ s = _
  simp only [execHighHalfRead, hh, if_true, sizedRead_reaches _ h ha]

/-- The read of a low half latches the high half for its requester (R100). -/
theorem lowHalfRead_latches {addr : BitVec 28} {size : AccessSize} (hl : lowHalf (addr.toNat - addr.toNat % 4) = true) (h8 : size ≠ .eight)
    (ha : addr.toNat % size.bytes = 0) (hw : size = .four ∨ byteWindow (decodeAddr s.variant addr.toNat) = false)
    (h : Reaches req addr.toNat false s) :
    ∃ t, exec (.lowHalfRead req ⟨addr, size⟩) s = .next t ∧
      SMap.get (fun _ => none) t.bus.latch req.toNat =
        some (addr.toNat - addr.toNat % 4, readWord s (addr.toNat - addr.toNat % 4 + 4)) ∧
      (∀ i, i ≠ req.toNat → SMap.get (fun _ => none) t.bus.latch i = SMap.get (fun _ => none) s.bus.latch i) ∧
      t.out = .readData req (laneData (readWord s (addr.toNat - addr.toNat % 4)) addr.toNat size.bytes) :: s.out ∧
      ∃ l o, t = { s with bus := { s.bus with latch := l }, out := o } := by
  obtain ⟨hn, hnw⟩ := size_narrow h8 hw
  have hh : highHalf (addr.toNat - addr.toNat % 4) = false := highHalf_eq_false_of_aligned (lowHalf_aligned hl)
  refine ⟨_, exec_lowHalfRead hh ha h, ?_⟩
  rw [readEffect_word hn hnw, if_pos hl, wordRead, hh, if_neg Bool.false_ne_true]
  exact ⟨(latch_latchHigh _ _ _ _).trans (if_pos rfl), fun i hi => (latch_latchHigh _ _ _ _).trans (if_neg hi.symm), rfl, _, _, rfl⟩

/-- The read of a high half returns the shadow of its own pair, otherwise the live word (R100). -/
theorem highHalfRead_answers {addr : BitVec 28} {size : AccessSize} {a : Nat} (hl : lowHalf a = true)
    (hpair : addr.toNat - addr.toNat % 4 = a + 4) (h8 : size ≠ .eight) (ha : addr.toNat % size.bytes = 0)
    (hw : size = .four ∨ byteWindow (decodeAddr s.variant addr.toNat) = false) (h : Reaches req addr.toNat false s) :
    ∃ t, exec (.highHalfRead req ⟨addr, size⟩) s = .next t ∧
      (∀ v, SMap.get (fun _ => none) s.bus.latch req.toNat = some (a, v) →
        t = { s with out := .readData req (laneData v addr.toNat size.bytes) :: s.out }) ∧
      ((∀ v, SMap.get (fun _ => none) s.bus.latch req.toNat ≠ some (a, v)) →
        t = { s with out := .readData req (laneData (readWord s (a + 4)) addr.toNat size.bytes) :: s.out }) := by
  obtain ⟨hn, hnw⟩ := size_narrow h8 hw
  obtain ⟨hshadow, hlive⟩ := highValue_eq s req a
  have hh : highHalf (addr.toNat - addr.toNat % 4) = true := by simp [hpair, highHalf, hl]
  refine ⟨_, exec_highHalfRead hh ha h, ?_⟩
  rw [readEffect_word hn hnw, lowHalf_eq_false_of_highHalf hh, if_neg Bool.false_ne_true, wordRead, hh, if_pos rfl, hpair, Nat.add_sub_cancel]
  exact ⟨fun v hv => by rw [hshadow v hv]; rfl, fun hv => by rw [hlive hv]; rfl⟩

/-- Settles O7, by the kind of the word that is read: a low half, a high half, or neither. -/
theorem lowHalfReadLatchesTheHighHalf : Obligations.LowHalfReadLatchesTheHighHalf := by
  refine ⟨fun a => lowHalf_aligned, fun req addr size s hl h8 ha hw h => lowHalfRead_latches hl h8 ha hw h,
    fun req addr size a s hl hpair h8 ha hw h => highHalfRead_answers hl hpair h8 ha hw h, fun req addr s ha h => ?_,
    fun req addr size s hl hh h8 ha h => ?_⟩
  · rw [exec_lowHalfRead (highHalf_eq_false_of_aligned (by omega)) ha h]
    rfl
  · rw [exec_lowHalfRead hh ha h, readEffect_plain (by cases size <;> simp_all [AccessSize.bytes]) hl hh]
    rfl

end Sys2Proof.Machine
end

section
/-! PROOF. Writes of the halves of 64-bit RW pairs (R100 to R102). -/

namespace Sys2Proof.Machine

open Sys2Proof

/-! ### Where RW pairs stand (R98, R102) -/

/-- Whether the word above every low half of an RW pair of a map is its high half. -/
def pairRowsComplete (l : List RegDef) : Bool :=
  l.all fun d => d.acc != .rwl || (List.range d.count).all fun i => (findIn l (d.off + d.stride * i + 4)).any (·.acc == .rwh)

theorem blockRegs_pairRowsComplete (p : Page) : pairRowsComplete (blockRegs p) = true := by
  obtain ⟨k, n⟩ := p
  cases k <;> simp only [blockRegs] <;> (try split) <;> decide

theorem pairRow_high {l : List RegDef} (hl : pairRowsComplete l = true) {o : Nat} {d : RegDef} (h : findIn l o = some d)
    (hd : d.acc = .rwl) : ∃ e, findIn l (o + 4) = some e ∧ e.acc = .rwh := by
  obtain ⟨hmem, i, hi, rfl⟩ := findIn_some h
  have hrow := List.all_eq_true.1 hl d hmem
  simp only [hd, bne_self_eq_false, Bool.false_or] at hrow
  obtain ⟨e, he, hacc⟩ := (Option.any_eq_true _ _).1 (List.all_eq_true.1 hrow i (List.mem_range.2 hi))
  exact ⟨e, he, by simpa using hacc⟩

/-- No column page holds an RW pair, and no page header. -/
theorem no_pair_in_header_or_col {l : List RegDef} {p : Page} (hl : l = headerRegs ∨ l = slotRegs ∨ (p.kind = .col ∧ l = blockRegs p)) :
    ∀ d ∈ l, d.acc ≠ .rwl := by
  obtain rfl | rfl | ⟨hp, rfl⟩ := hl
  · decide
  · decide
  · obtain ⟨k, n⟩ := p
    obtain rfl : k = .col := hp
    simp only [blockRegs]
    split <;> decide

/-- The only RW pair of a cell's region is INJ_START_T (R302). -/
theorem cellPair_offset {o : Nat} {d : RegDef} (h : findIn cellRegs o = some d) (hd : d.acc = .rwl) : o = 0x220 := by
  obtain ⟨hmem, i, hi, rfl⟩ := findIn_some h
  have hrow : ∀ d ∈ cellRegs, d.acc = .rwl → d.off = 0x220 ∧ d.count = 1 := by decide
  obtain ⟨hoff, hone⟩ := hrow d hmem hd
  obtain rfl : i = 0 := by omega
  simpa using hoff

theorem rwLow_eq (a : Nat) : rwLow a = (regAt a).any (·.acc == .rwl) := by
  unfold rwLow
  split <;> simp_all

theorem lowHalf_of_rwLow {a : Nat} (h : rwLow a = true) : lowHalf a = true := by
  rw [rwLow_eq, Option.any_eq_true] at h
  obtain ⟨d, hd, hacc⟩ := h
  rw [lowHalf_eq, hd]
  simp only [Option.any_some, isLow, hacc, Bool.or_true]

/-- An RW pair stands in a page's own registers, no column's, or is a cell's INJ_START_T. -/
theorem rwLow_place {a : Nat} (h : rwLow a = true) :
    (∃ p o, decodeFull a = .page p o ∧ 0x40 ≤ o ∧ p.kind ≠ .col ∧ (∃ d, pageReg p o = some d ∧ d.acc = .rwl) ∧
      ∃ e, pageReg p (o + 4) = some e ∧ e.acc = .rwh) ∨
    ∃ o, decodeFull a = .loopWin o ∧ o < 0x280000 ∧ o % 0x1000 = 0x220 := by
  rw [rwLow_eq, Option.any_eq_true] at h
  obtain ⟨d, hd, hacc⟩ := h
  have hacc : d.acc = .rwl := by simpa using hacc
  obtain ⟨p, o, ht, hr⟩ | ⟨n, o, ht, hr⟩ | ⟨o, ht, hlt, hr⟩ := regAt_some hd
  · have hr' := hr
    unfold pageReg at hr
    split at hr
    · exact absurd hacc (no_pair_in_header_or_col (p := p) (.inl rfl) d (findIn_some hr).1)
    · next ho =>
      have hcol : p.kind ≠ .col := fun hc =>
        no_pair_in_header_or_col (.inr (.inr ⟨hc, rfl⟩)) d (findIn_some hr).1 hacc
      obtain ⟨e, he, heacc⟩ := pairRow_high (blockRegs_pairRowsComplete p) hr hacc
      exact .inl ⟨p, o, ht, by omega, hcol, ⟨d, hr', hacc⟩, e, by rwa [pageReg, if_neg (by omega)], heacc⟩
  · exact absurd hacc (no_pair_in_header_or_col (p := glbPage) (.inr (.inl rfl)) d (findIn_some hr).1)
  · exact .inr ⟨o, ht, hlt, cellPair_offset hr hacc⟩

/-! ### What a write of either half does (R102) -/

variable {req : Requester} {a : Nat} {s : State}

/-- A 32-bit write to a cell's region outside its banks (R283, R302). -/
theorem effWrite_cell {o : Nat} (v : Word) (ht : decodeAddr s.variant a = .loopWin o) (hwin : o < 0x280000) (hbank : o % 0x1000 < 0x400)
    (h4 : o % 4 = 0) : effWrite req a 4 v.toNat s = cellWrite req (o / 0x1000) (o % 0x1000) v (BitVec.allOnes 32) s := by
  have hx : o % 0x1000 % 4 = 0 := by omega
  have hv : word (v.toNat % 2 ^ 32) = v := by rw [Nat.mod_eq_of_lt v.isLt, word_toNat]
  unfold effWrite
  rw [ht]
  simp only [show ¬ (0x280000 ≤ o) by omega, show ¬ (0x400 ≤ o % 0x1000) by omega, if_false, decide_false, Bool.false_and, Bool.false_eq_true,
    show ¬ (4 = 8) by decide, hx, Nat.mul_zero, Nat.pow_zero, Nat.mul_one, Nat.sub_zero, hv]
  rfl

/-- A write of INJ_START_T, each half of it (R302). -/
theorem cellWrite_pair (req : Requester) (cell : Nat) (v : Word) (s : State) :
    cellWrite req cell 0x220 v (BitVec.allOnes 32) s = holdLow req (0x1800000 + 0x1000 * cell + 0x220) v s ∧
      cellWrite req cell 0x224 v (BitVec.allOnes 32) s = writeHigh req (0x1800000 + 0x1000 * cell + 0x220) v s := by
  have hlow : findIn cellRegs 0x220 = some ⟨0x220, 4, 1, .rwl, 0, 0xFFFFFFFF, false⟩ := by decide
  have hhigh : findIn cellRegs 0x224 = some ⟨0x224, 4, 1, .rwh, 0, 0xFFFFFFFF, false⟩ := by decide
  have hmerge : ∀ old : Word, (old &&& ~~~(BitVec.allOnes 32)) ||| (v &&& BitVec.allOnes 32) = v := fun old => by
    rw [BitVec.not_allOnes, BitVec.and_zero, BitVec.and_allOnes, BitVec.zero_or]
  constructor
  · simp only [cellWrite, hlow, hmerge]
  · simp only [cellWrite, hhigh, hmerge]
    rfl

theorem write_rwLow (v : Word) (hl : rwLow a = true) (h4 : a % 4 = 0) (h : WriteReaches req a s) :
    writeAccess req a 4 v.toNat s = holdLow req a v s := by
  have hole : decodeAddr s.variant a ≠ .hole := h.1.2.2.1
  obtain ⟨p, o, ht, ho, hcol, ⟨d, hd, hacc⟩, -⟩ | ⟨o, ht, hwin, hx⟩ := rwLow_place hl
  · have hp := present_of_decodeAddr (decodeAddr_of_decodeFull ht hole)
    obtain ⟨rfl, hsize, -⟩ := decodeFull_page ht
    have hbase := pageBase_mod p
    rw [writeWord_page _ hp hsize (by omega) (fun hdir => hcol hdir.1) h]
    simp only [pageWrite, if_neg (show ¬ o < 0x40 by omega), hd, hacc, lo32_toNat]
  · obtain rfl := decodeFull_loopWin ht
    rw [writeWord_reaches _ h h4, effWrite_cell v (decodeAddr_of_decodeFull ht hole) hwin (by omega) (by omega), hx, (cellWrite_pair _ _ _ _).1]
    congr 1
    omega

theorem write_rwHigh (v : Word) (hl : rwLow a = true) (h : WriteReaches req (a + 4) s) :
    writeAccess req (a + 4) 4 v.toNat s = writeHigh req a v s := by
  have h8 : a % 8 = 0 := lowHalf_aligned (lowHalf_of_rwLow hl)
  have hole : decodeAddr s.variant (a + 4) ≠ .hole := h.1.2.2.1
  obtain ⟨p, o, ht, ho, hcol, -, e, he, hacc⟩ | ⟨o, ht, hwin, hx⟩ := rwLow_place hl
  · obtain ⟨rfl, hsize, hfull⟩ := decodeFull_page ht
    have hbase := pageBase_mod p
    have hsize8 : pageSize p % 8 = 0 := by unfold pageSize; split <;> decide
    have hnext : decodeFull (pageBase p + (o + 4)) = .page p (o + 4) :=
      decodeFull_of_decodeAddr (decodeAddr_page hfull (by omega)) (by simp)
    have hp := present_of_decodeAddr (decodeAddr_of_decodeFull hnext hole)
    rw [Nat.add_assoc] at h ⊢
    rw [writeWord_page (p := p) _ hp (by omega) (by omega) (fun hdir => hcol hdir.1) h]
    simp only [pageWrite, if_neg (show ¬ o + 4 < 0x40 by omega), he, hacc, lo32_toNat, ← Nat.add_assoc, Nat.add_sub_cancel]
  · obtain rfl := decodeFull_loopWin ht
    have hnext : decodeFull (0x1800000 + o + 4) = .loopWin (o + 4) := by
      rw [Nat.add_assoc]
      exact decodeFull_loopWin_at (by omega)
    rw [writeWord_reaches _ h (by omega), effWrite_cell v (decodeAddr_of_decodeFull hnext hole) (by omega) (by omega) (by omega),
      show (o + 4) % 0x1000 = 0x224 by omega, (cellWrite_pair _ _ _ _).2]
    congr 1
    omega

theorem exec_pairLowWrite {addr : BitVec 28} (v : Word) (hl : rwLow addr.toNat = true) (h4 : addr.toNat % 4 = 0)
    (h : WriteReaches req addr.toNat s) : exec (.pairLowWrite req addr v) s = .next (holdLow req addr.toNat v s) := by
  show execPairLowWrite req addr v s = _
  simp only [execPairLowWrite, hl, if_true, write_rwLow v hl h4 h]

theorem exec_pairHighWrite (v : Word) (hl : rwLow a = true) (ha : a + 4 < 2 ^ 28) (h : WriteReaches req (a + 4) s) :
    exec (.pairHighWrite req (BitVec.ofNat 28 (a + 4)) v) s = .next (writeHigh req a v s) := by
  have haddr : (BitVec.ofNat 28 (a + 4)).toNat = a + 4 := by rw [BitVec.toNat_ofNat, Nat.mod_eq_of_lt ha]
  show execPairHighWrite req _ v s = _
  simp only [execPairHighWrite, haddr, Nat.add_sub_cancel, hl, show 4 ≤ a + 4 by omega, decide_true, Bool.and_self, if_true,
    write_rwHigh v hl h]

/-! ### Both halves take effect together -/

/-- Which pairs ignore writes does not turn on what is held. -/
theorem pairIgnored_takeHeld (req : Requester) (b : Nat) (s : State) : pairIgnored (takeHeld req b s).2 a = pairIgnored s a := rfl

/-- The bits that a word of a pair has (R95). -/
def pairMask (a : Nat) : Word := word (((regAt a).map RegDef.mask).getD 0)

theorem pairApply_ignored (lo hi : Word) (h : pairIgnored s a = true) : pairApply a lo hi s = s := by
  simp only [pairApply, h, if_true]

theorem pairApply_taken (lo hi : Word) (h : pairIgnored s a = false) (ha : a ≠ Reg.TIME_INCR_LO) :
    pairApply a lo hi s = setReg (a + 4) (hi &&& pairMask (a + 4)) (setReg a (lo &&& pairMask a) s) := by
  simp only [pairApply, h, Bool.false_eq_true, if_false, if_neg ha, pairMask]

/-- A write of a high half takes both halves, once, and changes no other word (R102). -/
theorem writeHigh_takes (v : Word) (ha : a ≠ Reg.TIME_INCR_LO) :
    SMap.get (fun _ => none) (writeHigh req a v s).bus.held (req.toNat * 2 ^ 28 + a) = none ∧
      (pairIgnored s a = true → (writeHigh req a v s).regs = s.regs) ∧
      (pairIgnored s a = false →
        reg (writeHigh req a v s) a =
          ((SMap.get (fun _ => none) s.bus.held (req.toNat * 2 ^ 28 + a)).getD (reg s a)) &&& word (((regAt a).map RegDef.mask).getD 0) ∧
        reg (writeHigh req a v s) (a + 4) = v &&& word (((regAt (a + 4)).map RegDef.mask).getD 0)) ∧
      SameRegsBut [a, a + 4] s (writeHigh req a v s) ∧ SameBytes s (writeHigh req a v s) := by
  have hspent : SMap.get (fun _ => none) (takeHeld req a s).2.bus.held (req.toNat * 2 ^ 28 + a) = none := by
    simp only [takeHeld, SMap.get_set_same]
  have hsame : SameRegsBut [a, a + 4] s (takeHeld req a s).2 := fun _ _ => rfl
  unfold writeHigh
  dsimp only
  cases hi : pairIgnored s a with
  | true =>
    rw [pairApply_ignored _ _ ((pairIgnored_takeHeld req a s).trans hi)]
    exact ⟨hspent, fun _ => rfl, by simp, hsame, fun _ => rfl, fun _ => rfl⟩
  | false =>
    rw [pairApply_taken _ _ ((pairIgnored_takeHeld req a s).trans hi) ha]
    refine ⟨hspent, by simp, fun _ => ⟨?_, reg_setReg_same _ _ _⟩, (hsame.setReg _ (by simp)).setReg _ (by simp), fun _ => rfl, fun _ => rfl⟩
    rw [reg_setReg_other _ _ (by omega), reg_setReg_same]
    rfl

/-- Settles O8, by the page's own pairs and the one of a cell. -/
theorem pairTakesEffectWithItsHighHalf : Obligations.PairTakesEffectWithItsHighHalf := by
  refine ⟨fun req addr v s hl h4 h => ?_, fun req a v s hl _ hlt ha h => ⟨_, exec_pairHighWrite v hl hlt h, writeHigh_takes v ha⟩⟩
  rw [exec_pairLowWrite v hl h4 h, holdLow]
  constructor
  · intro hi
    rw [if_pos hi]
  · intro hi
    rw [hi, if_neg Bool.false_ne_true]
    exact ⟨_, rfl, by simp only [SMap.get_set_same], _, rfl⟩

end Sys2Proof.Machine
end

section
/-! PROOF. Writes that a lock stops, decode errors, and requests without a path (R109 to R114, R578). -/

namespace Sys2Proof.Machine

open Sys2Proof

/-- Every command that writes one command register of BAR0 is a host write of that register. -/
theorem exec_commandRegister {c : Instr} {req : Requester} {a : Nat} (h : commandRegister c = some (req, a)) :
    ∃ eff : State → State, ∀ s, exec c s = .next (hostWrite req a eff s) := by
  unfold commandRegister at h
  split at h <;> cases h <;> exact ⟨_, fun _ => rfl⟩

/-! ### Counting fields that saturate -/

theorem satInc_lt (w n : Nat) : satInc w n < 2 ^ w := by
  have := Nat.two_pow_pos w
  unfold satInc
  split <;> omega

theorem getF_bumpF_same (s : State) (a lo w : Nat) (h : lo + w ≤ 32) : getF (bumpF a lo w s) a lo w = satInc w (getF s a lo w) := by
  rw [bumpF, getF_setF_same _ _ _ _ _ h, Nat.mod_eq_of_lt (satInc_lt _ _)]

/-! ### The two records of the GLB page (R111, R114) -/

/-- The shape both records share: the first since bit `i` of INT_STATUS was last clear gives the address and the information word,
and each one counts in bits 31 to 16 of that word. -/
def recordFirst (i addrReg infoReg : Nat) (addr info : Word) (s : State) : State :=
  setInt glbPage i (bumpF infoReg 16 16
    (if !getBit s (Reg.INT_STATUS glbPage) i then setReg infoReg info (setReg addrReg addr s) else s))

theorem recordLocked_eq (req : Requester) (a : Nat) (s : State) :
    recordLocked req a s = recordFirst 1 Reg.GLB_LOCK_ADDR Reg.GLB_LOCK_INFO (word a) (word req.toNat) s := rfl

theorem recordDecode_eq (req : Requester) (a : Nat) (w : Bool) (s : State) :
    recordDecode req a w s = recordFirst 0 Reg.GLB_DECODE_ADDR Reg.GLB_DECODE_INFO (word a) (word (req.toNat + 8 * b2n w)) s := rfl

section
variable {i addrReg infoReg : Nat} {addr info : Word} {s : State}

theorem recordFirst_sets (hi : i < 32) :
    getBit (recordFirst i addrReg infoReg addr info s) (Reg.INT_STATUS glbPage) i = true := getBit_setInt _ _ _ hi

/-- The first write recorded gives its address and its information, with a count of 1. -/
theorem recordFirst_first (h : getBit s (Reg.INT_STATUS glbPage) i = false) (ha : Reg.INT_STATUS glbPage ≠ addrReg)
    (hn : Reg.INT_STATUS glbPage ≠ infoReg) (hne : infoReg ≠ addrReg) (hinfo : fld info 16 16 = 0) :
    reg (recordFirst i addrReg infoReg addr info s) addrReg = addr ∧
      reg (recordFirst i addrReg infoReg addr info s) infoReg = setFld info 16 16 1 := by
  unfold recordFirst
  rw [h, reg_setInt_other _ _ _ ha, reg_setInt_other _ _ _ hn, reg_bumpF_other _ _ _ hne]
  constructor
  · rw [Bool.not_false, if_pos rfl, reg_setReg_other _ _ hne, reg_setReg_same]
  · simp [bumpF, getF, hinfo, satInc]

/-- A later one leaves the address and counts up to saturation. -/
theorem recordFirst_later (h : getBit s (Reg.INT_STATUS glbPage) i = true) (ha : Reg.INT_STATUS glbPage ≠ addrReg)
    (hn : Reg.INT_STATUS glbPage ≠ infoReg) (hne : infoReg ≠ addrReg) :
    reg (recordFirst i addrReg infoReg addr info s) addrReg = reg s addrReg ∧
      getF (recordFirst i addrReg infoReg addr info s) infoReg 16 16 = satInc 16 (getF s infoReg 16 16) := by
  unfold recordFirst getF
  rw [h, reg_setInt_other _ _ _ ha, reg_setInt_other _ _ _ hn, reg_bumpF_other _ _ _ hne]
  refine ⟨rfl, ?_⟩
  rw [Bool.not_true, if_neg (by decide)]
  exact getF_bumpF_same _ _ _ _ (by decide)

end

/-! ### Writes that a lock stops (R109 to R111) -/

theorem recordLocked_first (req : Requester) (a : Nat) {s : State} (h : getBit s (Reg.INT_STATUS glbPage) 1 = false) :
    reg (recordLocked req a s) Reg.GLB_LOCK_ADDR = word a ∧ getF (recordLocked req a s) Reg.GLB_LOCK_INFO 0 3 = req.toNat ∧
      getF (recordLocked req a s) Reg.GLB_LOCK_INFO 16 16 = 1 := by
  have hinfo : ∀ req : Requester, fld (word req.toNat) 16 16 = 0 ∧ fld (setFld (word req.toNat) 16 16 1) 0 3 = req.toNat := by decide
  obtain ⟨haddr, hreg⟩ := recordFirst_first (addrReg := Reg.GLB_LOCK_ADDR) (infoReg := Reg.GLB_LOCK_INFO) (addr := word a) h
    (by decide) (by decide) (by decide) (hinfo req).1
  rw [← recordLocked_eq] at haddr hreg
  unfold getF
  rw [hreg]
  exact ⟨haddr, (hinfo req).2, fld_setFld _ _ _ _ (by decide)⟩

theorem recordLocked_later (req : Requester) (a : Nat) {s : State} (h : getBit s (Reg.INT_STATUS glbPage) 1 = true) :
    reg (recordLocked req a s) Reg.GLB_LOCK_ADDR = reg s Reg.GLB_LOCK_ADDR ∧
      getF (recordLocked req a s) Reg.GLB_LOCK_INFO 16 16 = satInc 16 (getF s Reg.GLB_LOCK_INFO 16 16) := by
  rw [recordLocked_eq]
  exact recordFirst_later h (by decide) (by decide) (by decide)

theorem lockStops_page {s : State} {p : Page} (o : Nat) {req : Requester} (h : getBit s (Reg.PAGE_LOCK p) 0 = true)
    (hr : req = 0 ∨ req = 1 ∨ req = 5) : lockStops s req (.page p o) = true := by
  have hb : lockBinds req = true := by
    obtain rfl | rfl | rfl := hr <;> rfl
  simp [lockStops, hb, lockPage, pageLocked, h]

/-- Settles O9: every such command is a host write, and a host write under a lock is the record alone. -/
theorem lockedWritesAreIgnoredAndRecorded : Obligations.LockedWritesAreIgnoredAndRecorded := by
  unfold Obligations.LockedWritesAreIgnoredAndRecorded
  refine ⟨fun req a s => ⟨recordFirst_sets (by decide), recordLocked_first req a,
      fun h => recordLocked_later req a h, recordLocked_frame req a s⟩,
    fun c req a s hc hr hl => ?_, fun req addr size v s hr hd hp hl => ?_, fun s p o req => lockStops_page o⟩
  · obtain ⟨eff, he⟩ := exec_commandRegister hc
    rw [he, hostWrite_locked _ hr hl]
  · have hw : ∀ n eff, decodeFails s addr.toNat n true = false → sizedWrite req addr.toNat n eff s = recordLocked req addr.toNat s :=
      fun n eff hd => sizedWrite_locked eff hr hd hl hp
    refine ⟨congrArg _ (hw _ _ hd), congrArg _ (hw _ _ hd), ?_, ?_, ?_⟩
    · rintro rfl hlow
      exact congrArg _ ((if_pos hlow).trans (hw _ _ hd))
    · rintro rfl h4 hlow
      exact congrArg _ ((if_pos (by simp [h4, hlow])).trans (hw _ _ hd))
    · rintro rfl hw1
      exact congrArg _ ((if_pos hw1).trans (hw _ _ hd))

end Sys2Proof.Machine
end

section
/-! PROOF. Decode errors (R112 to R114) and requests without a path (R578). -/

namespace Sys2Proof.Machine

open Sys2Proof

variable {req : Requester} {s : State}

/-! ### What a decode error records and answers (R112, R114) -/

theorem recordDecode_first (req : Requester) (a : Nat) (w : Bool) (h : getBit s (Reg.INT_STATUS glbPage) 0 = false) :
    reg (recordDecode req a w s) Reg.GLB_DECODE_ADDR = word a ∧ getF (recordDecode req a w s) Reg.GLB_DECODE_INFO 0 3 = req.toNat ∧
      getBit (recordDecode req a w s) Reg.GLB_DECODE_INFO 3 = w ∧ getF (recordDecode req a w s) Reg.GLB_DECODE_INFO 16 16 = 1 := by
  have hinfo : ∀ (req : Requester) (w : Bool), fld (word (req.toNat + 8 * b2n w)) 16 16 = 0 ∧
      fld (setFld (word (req.toNat + 8 * b2n w)) 16 16 1) 0 3 = req.toNat ∧
      bitOf (setFld (word (req.toNat + 8 * b2n w)) 16 16 1) 3 = w := by decide
  obtain ⟨hcount, hreq, hdir⟩ := hinfo req w
  obtain ⟨haddr, hreg⟩ := recordFirst_first (addrReg := Reg.GLB_DECODE_ADDR) (infoReg := Reg.GLB_DECODE_INFO) (addr := word a) h
    (by decide) (by decide) (by decide) hcount
  rw [← recordDecode_eq] at haddr hreg
  unfold getF getBit
  rw [hreg]
  exact ⟨haddr, hreq, hdir, fld_setFld _ _ _ _ (by decide)⟩

theorem recordDecode_later (req : Requester) (a : Nat) (w : Bool) (h : getBit s (Reg.INT_STATUS glbPage) 0 = true) :
    reg (recordDecode req a w s) Reg.GLB_DECODE_ADDR = reg s Reg.GLB_DECODE_ADDR ∧
      getF (recordDecode req a w s) Reg.GLB_DECODE_INFO 16 16 = satInc 16 (getF s Reg.GLB_DECODE_INFO 16 16) := by
  rw [recordDecode_eq]
  exact recordFirst_later h (by decide) (by decide) (by decide)

/-- A record sends at most the message of its interrupt (R92). -/
theorem recordDecode_out (req : Requester) (a : Nat) (w : Bool) (s : State) :
    ∃ m, (m = [] ∨ ∃ v, m = [Emission.msix v]) ∧ (recordDecode req a w s).out = m ++ s.out := by
  have hout : ∀ t : State, t.out = s.out → ∃ m, (m = [] ∨ ∃ v, m = [Emission.msix v]) ∧ (setInt glbPage 0 t).out = m ++ s.out := by
    intro t ht
    rw [setInt_out, ht]
    split
    · exact ⟨[_], .inr ⟨_, rfl⟩, rfl⟩
    · exact ⟨[], .inl rfl, rfl⟩
  refine hout _ ?_
  split <;> rfl

theorem recordDecode_variant (req : Requester) (a : Nat) (w : Bool) (s : State) : (recordDecode req a w s).variant = s.variant := by
  obtain ⟨⟨r, o, h⟩, -⟩ := recordDecode_frame req a w s
  rw [h]

/-- The answer changes nothing but what has left the device. -/
theorem answerDecode_frame (req : Requester) (a : Nat) (w : Bool) (s : State) : ∃ o, answerDecode req a w s = { s with out := o } := by
  unfold answerDecode
  repeat' split
  all_goals exact ⟨_, rfl⟩

theorem reg_answerDecode (req : Requester) (a : Nat) (w : Bool) (s : State) (b : Nat) : reg (answerDecode req a w s) b = reg s b := by
  obtain ⟨o, h⟩ := answerDecode_frame req a w s
  rw [h]
  rfl

/-- What each variant answers a decode error with (R112). -/
theorem answerDecode_out (req : Requester) (a : Nat) (w : Bool) (s : State) :
    (s.variant = .pe2560 → w = false → (answerDecode req a w s).out = .readData req 0 :: s.out) ∧
      (s.variant = .pe2560 → w = true → (answerDecode req a w s).out = s.out) ∧
      (s.variant = .pe1280 → w = true → req = 0 → (answerDecode req a w s).out = .unsupportedRequest a :: s.out) ∧
      (s.variant = .pe1280 → w = true → req ≠ 0 → req ≠ 1 → (answerDecode req a w s).out = s.out) ∧
      (s.variant = .pe1280 → w = false ∨ req = 1 → (answerDecode req a w s).out = .errorAnswer req a :: s.out) := by
  unfold answerDecode
  refine ⟨?_, ?_, ?_, ?_, ?_⟩
  · rintro hv rfl
    simp [hv]
  · rintro hv rfl
    simp [hv]
  · rintro hv rfl rfl
    simp [hv]
  · rintro hv rfl h0 h1
    have h0' : ¬ req = 0#3 := h0
    have h1' : ¬ req = 1#3 := h1
    simp [hv, h0', h1']
  · rintro hv (rfl | rfl) <;> simp [hv]

/-! ### The events -/

theorem exec_decodeError_fails {addr : BitVec 28} {size : AccessSize} {w : Bool} (h1 : arrives s req = true)
    (h2 : barred s req (decodeAddr s.variant addr.toNat) w = false) (hd : decodeFails s addr.toNat size.bytes w = true) :
    exec (.decodeError req addr size w) s = .next (answerDecode req addr.toNat w (recordDecode req addr.toNat w s)) := by
  show Host.Outcome.next _ = _
  rw [if_pos hd, sizedAccess_fails _ hd h1 h2]
  rfl

theorem hostWrite_hole {a : Nat} (eff : State → State) (h1 : arrives s req = true) (h2 : barred s req (decodeAddr s.variant a) true = false)
    (h3 : decodeAddr s.variant a = .hole) : hostWrite req a eff s = decodeError req a true s := access_hole _ h1 h2 h3

theorem exec_sparsePathError {m : Fin 14} {target : Fin 12} {addr : BitVec 32} (hc : s.time.counting = true)
    (hp : hasPath s m.val target.val = false) (ht : target.val ≠ 11) (hv : m.val = 13 → s.variant = .pe2560) :
    exec (.sparsePathError m target addr) s = .next (sparseError (masterRequester m.val) m.val target.val addr.toNat s) := by
  have hm : masterPresent s.variant m.val = true := by
    by_cases h13 : m.val = 13
    · simp [masterPresent, h13, hv h13]
    · simp [masterPresent, show m.val < 13 by omega]
  show Host.Outcome.next _ = _
  rw [if_pos (by simp [hc, hm, ht, hp])]

/-- A request without a path is counted, shown and answered (R578). -/
theorem sparseError_records {master target : Nat} (a : Nat) (hm : master < 16) (ht : target < 16) :
    getF (sparseError req master target a s) Reg.XBAR_SPARSE_ERR 16 16 = satInc 16 (getF s Reg.XBAR_SPARSE_ERR 16 16) ∧
      getF (sparseError req master target a s) Reg.XBAR_SPARSE_ERR 0 8 = master + 16 * target ∧
      getBit (sparseError req master target a s) (Reg.INT_STATUS xbarPage) 1 = true ∧
      (sparseError req master target a s).out.head? = some (.errorAnswer req a) ∧
      OnlyRegsOut [Reg.XBAR_SPARSE_ERR, Reg.INT_STATUS xbarPage] s (sparseError req master target a s) := by
  have hreg : ∀ lo w, getF (sparseError req master target a s) Reg.XBAR_SPARSE_ERR lo w =
      getF (bumpF Reg.XBAR_SPARSE_ERR 16 16 (setF Reg.XBAR_SPARSE_ERR 0 8 (master + 16 * target) s)) Reg.XBAR_SPARSE_ERR lo w := fun lo w => by
    unfold sparseError getF
    rw [reg_emit, reg_setInt_other _ _ _ (by decide)]
  refine ⟨?_, ?_, getBit_setInt _ _ _ (by decide), rfl, ?_⟩
  · rw [hreg, getF_bumpF_same _ _ _ _ (by decide), getF_setF_beside _ _ _ _ _ _ _ (by decide) (by decide)]
  · rw [hreg, bumpF, getF_setF_beside _ _ _ _ _ _ _ (by decide) (by decide), getF_setF_same _ _ _ _ _ (by decide)]
    omega
  · exact ((((OnlyRegsOut.refl _ s).setF _ _ _ (by simp)).bumpF _ _ (by simp)).setInt _ _ (by simp)).emit _

/-- Settles O10: the record in GLB, the answer of each variant, and the request without a path. -/
theorem decodeErrorsAreRecordedAndAnsweredByVariant : Obligations.DecodeErrorsAreRecordedAndAnsweredByVariant := by
  unfold Obligations.DecodeErrorsAreRecordedAndAnsweredByVariant
  refine ⟨fun req addr size w s h1 h2 hd => ?_, fun c req a s hc h1 h2 h3 => ?_, fun m target addr s hc hp ht hv => ?_⟩
  · refine ⟨_, exec_decodeError_fails h1 h2 hd, ?_, ?_, ?_, ?_, ?_⟩
    · rw [getBit, reg_answerDecode]
      exact recordFirst_sets (by decide)
    · simp only [getF, getBit, reg_answerDecode]
      exact recordDecode_first req addr.toNat w
    · simp only [getF, reg_answerDecode]
      exact recordDecode_later req addr.toNat w
    · obtain ⟨o, ho⟩ := answerDecode_frame req addr.toNat w (recordDecode req addr.toNat w s)
      obtain ⟨⟨r, o', hr⟩, hrest⟩ := recordDecode_frame req addr.toNat w s
      exact ⟨⟨r, o, by rw [ho, hr]⟩, fun b hb => (reg_answerDecode _ _ _ _ b).trans (hrest b hb)⟩
    · obtain ⟨m, hm, hout⟩ := recordDecode_out req addr.toNat w s
      refine ⟨m, hm, ?_⟩
      have hans := answerDecode_out req addr.toNat w (recordDecode req addr.toNat w s)
      rwa [recordDecode_variant, hout] at hans
  · obtain ⟨eff, he⟩ := exec_commandRegister hc
    rw [he, hostWrite_hole _ h1 h2 h3]
  · exact ⟨_, exec_sparsePathError hc hp ht hv, sparseError_records _ (by omega) (by omega)⟩

end Sys2Proof.Machine
end

section
/-! PROOF. Register writes that only follow the access type (R94 to R97), and writes to the byte memories behind BAR0 and BAR2 (R116). -/

namespace Sys2Proof.Machine

open Sys2Proof

variable {req : Requester} {p : Page} {o : Nat} {d : RegDef} {s : State}

/-! ### The word that a write leaves (R95, R96) -/

theorem bitOf_lo32 (v : DWord) {i : Nat} (hi : i < 32) : bitOf (lo32 v.toNat) i = v.getLsbD i := by
  have : (v.toNat % 2 ^ 32).testBit i = v.toNat.testBit i := by simp only [Nat.testBit_mod_two_pow, hi, decide_true, Bool.true_and]
  simpa [bitOf, lo32, word, BitVec.getLsbD] using this

/-- A merge under a mask, bit by bit. -/
theorem bitOf_merge (old new m : Word) {i : Nat} (hi : i < 32) :
    bitOf ((old &&& ~~~m) ||| (new &&& m)) i = if bitOf m i = true then bitOf new i else bitOf old i := by
  simp only [bitOf, BitVec.getLsbD_or, BitVec.getLsbD_and, BitVec.getLsbD_not, hi, decide_true, Bool.true_and]
  by_cases hm : m.getLsbD i = true <;> simp only [hm] <;> simp

/-- The one field of a word with reserved encodings keeps its value where it is given one (R96). -/
theorem bitOf_keepFields_one (old v : Word) (lo w : Nat) (ok : Nat → Bool) {i : Nat} (hi : i < 32) :
    bitOf (keepFields old v [(lo, w, ok)]) i = if ok (fld v lo w) = false ∧ lo ≤ i ∧ i < lo + w then bitOf old i else bitOf v i := by
  simp only [keepFields, List.foldl_cons, List.foldl_nil]
  cases hok : ok (fld v lo w)
  · simp only [Bool.false_eq_true, if_false, true_and]
    rw [bitOf_setFld]
    split
    · have h2 : i - lo < w := by omega
      have h3 : i - lo + lo = i := by omega
      simp [fld, bitOf, BitVec.getLsbD, hi, h2, h3, Nat.testBit_div_two_pow]
    · simp [hi]
  · simp

theorem rwWrite_plain (v : Word) (hk : p.kind ∉ [.epoch, .route, .siphon, .col, .tw, .pw, .capt, .ring, .mac, .gate, .flt, .heat, .tmux])
    (hr : rangeIgnored p o v = false) (hcal : d.cal = false) :
    rwWrite req p o d v s = setReg (pageBase p + o) (written s p o d v) s := by
  have hplain : plainWrite p o d v s = setReg (pageBase p + o) (written s p o d v) s := by
    simp [plainWrite, putWord, hr, hcal]
  rw [← hplain]
  unfold rwWrite
  split
  case h_14 => rfl
  all_goals
    next h =>
    rw [h] at hk
    exact absurd (by decide) hk

/-! ### Bytes put one after another -/

theorem writePumpMem_frame (bs : List Byte) (a : Nat) (s : State) : ∃ m, writePumpMem a bs s = { s with pumpMem := m } := by
  induction bs generalizing a s with
  | nil => exact ⟨s.pumpMem, rfl⟩
  | cons b r ih =>
    obtain ⟨m, hm⟩ := ih (a + 1) { s with pumpMem := SMap.put s.pumpMem a b }
    exact ⟨m, hm⟩

theorem pumpByte_put (s : State) (a : Nat) (v : Byte) (b : Nat) :
    pumpByte { s with pumpMem := SMap.put s.pumpMem a v } b = if a = b then v else pumpByte s b := SMap.get_put _ _ _ _ _

theorem dramByte_put (s : State) (a : Nat) (v : Byte) (b : Nat) :
    dramByte { s with dram := SMap.put s.dram a v } b = if a = b then v else dramByte s b := SMap.get_put _ _ _ _ _

theorem pumpByte_writePumpMem (bs : List Byte) (s : State) (a b : Nat) (h : b < a ∨ a + bs.length ≤ b) :
    pumpByte (writePumpMem a bs s) b = pumpByte s b := by
  induction bs generalizing a s with
  | nil => rfl
  | cons x r ih =>
    simp only [List.length_cons] at h
    unfold writePumpMem
    rw [ih _ (a + 1) (by omega), pumpByte_put, if_neg (by omega)]

theorem pumpByte_writePumpMem_at (bs : List Byte) (s : State) (a i : Nat) (h : i < bs.length) :
    pumpByte (writePumpMem a bs s) (a + i) = bs[i] := by
  induction bs generalizing a s i with
  | nil => simp at h
  | cons x r ih =>
    unfold writePumpMem
    cases i with
    | zero => exact (pumpByte_writePumpMem r _ (a + 1) a (by omega)).trans ((pumpByte_put s a x a).trans (if_pos rfl))
    | succ j =>
      have := ih { s with pumpMem := SMap.put s.pumpMem a x } (a + 1) j (by simpa using h)
      rwa [show a + 1 + j = a + (j + 1) by omega] at this

theorem dramByte_writeDram_at (bs : List Byte) (s : State) (a i : Nat) (h : i < bs.length) :
    dramByte (writeDram a bs s) (a + i) = bs[i] := by
  induction bs generalizing a s i with
  | nil => simp at h
  | cons x r ih =>
    unfold writeDram
    cases i with
    | zero => exact (dramByte_writeDram r _ (a + 1) a (by omega)).trans ((dramByte_put s a x a).trans (if_pos rfl))
    | succ j =>
      have := ih { s with dram := SMap.put s.dram a x } (a + 1) j (by simpa using h)
      rwa [show a + 1 + j = a + (j + 1) by omega] at this

/-! ### Writes behind BAR0 (R97) -/

/-- A write that reaches a byte window is decoded whatever its width (R97). -/
theorem exec_registerWrite_bytes {addr : BitVec 28} (size : AccessSize) (v : DWord) (hw : byteWindow (decodeAddr s.variant addr.toNat) = true)
    (ha : addr.toNat % size.bytes = 0) (h : WriteReaches req addr.toNat s) :
    exec (.registerWrite req addr size v) s = .next (effWrite req addr.toNat size.bytes v.toNat s) :=
  congrArg _ (sizedWrite_reaches _ h (decodeFails_eq_false h.1.2.2.1 ha fun _ _ => hw))

theorem effWrite_sram {a off : Nat} (n data : Nat) (h : decodeAddr s.variant a = .sram off) :
    effWrite req a n data s =
      if 0xC00000 ≤ off then whenB (req == 0 || req == 1) (bumpF Reg.CIS_HOST_WRITES 0 16) s else writeMem a (toBytes n data) s := by
  unfold effWrite
  rw [h]

theorem effWrite_pumpMem {a k off : Nat} (n data : Nat) (h : decodeAddr s.variant a = .pumpMem k off) :
    effWrite req a n data s = writePumpMem a (toBytes n data) s := by
  unfold effWrite
  rw [h]

/-- A word of a type that hosts only read, and an offset without a register, ignore a write (R94, R98). -/
theorem pageWrite_readOnly (v : Word) (h40 : 0x40 ≤ o)
    (hacc : (pageReg p o).map RegDef.acc = none ∨ (pageReg p o).map RegDef.acc = some .ro ∨ (pageReg p o).map RegDef.acc = some .rol) :
    pageWrite req p o v s = s := by
  unfold pageWrite
  rw [if_neg (by omega)]
  cases hr : pageReg p o with
  | none => rfl
  | some d =>
    rw [hr] at hacc
    obtain h | h | h := hacc
    · cases h
    · simp only [Option.some.inj h]
    · simp only [Option.some.inj h]

theorem pageWrite_rw (v : Word) (h40 : 0x40 ≤ o) (hr : pageReg p o = some d) (hacc : d.acc = .rw) :
    pageWrite req p o v s = rwWrite req p o d v s := by
  simp only [pageWrite, if_neg (show ¬ o < 0x40 by omega), hr, hacc]

/-- Settles O11, by the access type of a page's word, and by the bytes of the place elsewhere. -/
theorem plainRegisterWritesFollowTheAccessType : Obligations.PlainRegisterWritesFollowTheAccessType := by
  unfold Obligations.PlainRegisterWritesFollowTheAccessType
  refine ⟨fun req p o v s hp ho h4 h40 hdir hacc h => ?_, fun req p o d v s hp h40 ho h4 hk hr hacc hcal hin h => ?_,
    fun req addr size v s off ht ha h => ?_, fun req addr size v s k off ht ha h => ?_⟩
  · rw [exec_registerWrite_page v hp ho h4 (fun ⟨hcol, hinst, hlo, _⟩ => absurd (hdir hcol hinst) (by omega)) h, pageWrite_readOnly _ h40 hacc]
  · have hdir : ¬ inShapeDir p o := fun ⟨hcol, _⟩ => hk (by rw [hcol]; decide)
    refine ⟨_, exec_registerWrite_page v hp ho h4 hdir h, ?_⟩
    rw [pageWrite_rw _ h40 hr hacc, rwWrite_plain _ hk hin hcal]
    simp only [getBit, reg_setReg_same, written]
    refine ⟨fun i hi hm => ?_, fun hnone i hi hm => ?_, fun lo w ok hone i hi hm => ?_, (OnlyRegs.refl _ s).setReg _ (by simp)⟩
    · rw [bitOf_merge _ _ _ hi, if_neg (by simp [hm])]
    · rw [bitOf_merge _ _ _ hi, if_pos hm, hnone, ← bitOf_lo32 v hi]
      rfl
    · rw [bitOf_merge _ _ _ hi, if_pos hm, hone, bitOf_keepFields_one _ _ _ _ _ hi, bitOf_lo32 v hi]
  · refine ⟨_, exec_registerWrite_bytes size v (by rw [ht]; rfl) ha h, ?_⟩
    rw [effWrite_sram _ _ ht]
    refine ⟨fun hc hr => ?_, fun hc hr => ?_, fun hc => ?_⟩
    · have hno : (req == 0 || req == 1) = false := by simpa using hr
      rw [if_pos hc, hno, whenB_false]
    · have hyes : (req == 0 || req == 1) = true := by simpa using hr
      rw [if_pos hc, hyes, whenB_true]
      exact ⟨getF_bumpF_same _ _ _ _ (by decide), (OnlyRegs.refl _ s).bumpF _ _ (by simp)⟩
    · rw [if_neg (by omega)]
      refine ⟨writeMem_frame _ _ _, fun i hi => ?_, fun a ha => memByte_writeMem _ _ _ _ (by simpa using ha)⟩
      rw [memByte_writeMem_at _ _ _ _ (by simpa using hi), toBytes_getElem]
  · refine ⟨_, exec_registerWrite_bytes size v (by rw [ht]; rfl) ha h, ?_⟩
    rw [effWrite_pumpMem _ _ ht]
    refine ⟨writePumpMem_frame _ _ _, fun i hi => ?_, fun a ha => pumpByte_writePumpMem _ _ _ _ (by simpa using ha)⟩
    rw [pumpByte_writePumpMem_at _ _ _ _ (by simpa using hi), toBytes_getElem]

/-! ### BAR2 (R116) -/

section
variable {off : BitVec 32} {size : AccessSize}

/-- With a path and within the DRAM in service, an access has its effect at the window's base plus its offset. -/
theorem exec_bar2Access_write (v : DWord) (h1 : arrives s 0 = true) (hp : hasPath s 0 6 = true)
    (hin : getF s Reg.PCIE_BAR2_BASE 0 11 * 2 ^ 26 + off.toNat + size.bytes ≤ s.dramSize) :
    exec (.bar2Access 0 off size (some v)) s =
      .next (writeDram (getF s Reg.PCIE_BAR2_BASE 0 11 * 2 ^ 26 + off.toNat) (toBytes size.bytes v.toNat) s) := by
  show execBar2Access _ _ _ _ _ = _
  unfold execBar2Access
  dsimp only
  rw [if_neg (by simpa using h1), if_neg (by omega), if_neg (by simpa using hp)]

theorem exec_bar2Access_read (h1 : arrives s 0 = true) (hp : hasPath s 0 6 = true)
    (hin : getF s Reg.PCIE_BAR2_BASE 0 11 * 2 ^ 26 + off.toNat + size.bytes ≤ s.dramSize) :
    exec (.bar2Access 0 off size none) s =
      .next (emit (.readData 0 (readDram s (getF s Reg.PCIE_BAR2_BASE 0 11 * 2 ^ 26 + off.toNat) size.bytes)) s) := by
  show execBar2Access _ _ _ _ _ = _
  unfold execBar2Access
  dsimp only
  rw [if_neg (by simpa using h1), if_neg (by omega), if_neg (by simpa using hp)]

theorem exec_bar2Access_beyond (w : Option DWord) (h1 : arrives s 0 = true)
    (hout : s.dramSize < getF s Reg.PCIE_BAR2_BASE 0 11 * 2 ^ 26 + off.toNat + size.bytes) :
    exec (.bar2Access 0 off size w) s =
      .next (decodeError 0 ((getF s Reg.PCIE_BAR2_BASE 0 11 * 2 ^ 26 + off.toNat) % 2 ^ 28) w.isSome s) := by
  show execBar2Access _ _ _ _ _ = _
  unfold execBar2Access
  dsimp only
  rw [if_neg (by simpa using h1), if_pos hout]

end

/-- Settles O12, by the outcome of an access within and beyond the DRAM in service. -/
theorem bar2ReachesDramAtTheWindowBase : Obligations.Bar2ReachesDramAtTheWindowBase := by
  unfold Obligations.Bar2ReachesDramAtTheWindowBase
  refine ⟨fun off size v s h1 hp hin => ⟨_, exec_bar2Access_write v h1 hp hin, writeDram_frame _ _ _, fun i hi => ?_,
      fun a ha => dramByte_writeDram _ _ _ _ (by simpa using ha)⟩,
    fun off size s h1 hp hin => exec_bar2Access_read h1 hp hin, fun off size w s h1 hout => exec_bar2Access_beyond w h1 hout⟩
  rw [dramByte_writeDram_at _ _ _ _ (by simpa using hi), toBytes_getElem]

end Sys2Proof.Machine
end

section
/-! PROOF. FREEZE (R91). -/

namespace Sys2Proof.Machine

open Sys2Proof

variable {p : Page} {s : State}

/-! ### The snapshot -/

/-- What a key reads as once values of a function have been put at the keys of a list. -/
theorem SMap.get_foldl_set_mem {d f : Nat → Word} (l : List Nat) (b : Nat) {m : SMap Word} {o : Nat}
    (h : o ∈ l ∨ SMap.get d m (b + o) = f (b + o)) :
    SMap.get d (l.foldl (fun m o => SMap.set d m (b + o) (f (b + o))) m) (b + o) = f (b + o) := by
  induction l generalizing m with
  | nil => exact h.resolve_left List.not_mem_nil
  | cons x r ih =>
    refine ih ?_
    by_cases hx : o = x
    · subst hx
      exact .inr (SMap.get_set_same _ _ _ _)
    · exact h.imp (fun hm => (List.mem_cons.1 hm).resolve_left hx) (fun hm => (SMap.get_set_other _ _ _ (by omega)).trans hm)

/-- Every register that FREEZE holds is in the snapshot. -/
theorem mem_frozenOffsets {o : Nat} (h : freezes (pageReg p o) = true) : o ∈ frozenOffsets p := by
  cases hr : pageReg p o with
  | none =>
    rw [hr] at h
    cases h
  | some d =>
    have hd : ∃ i, d ∈ headerRegs ++ blockRegs p ∧ i < d.count ∧ o = d.off + d.stride * i := by
      rw [pageReg] at hr
      split at hr
      · obtain ⟨hm, i, hi, ho⟩ := findIn_some hr
        exact ⟨i, List.mem_append_left _ hm, hi, ho⟩
      · obtain ⟨hm, i, hi, ho⟩ := findIn_some hr
        exact ⟨i, List.mem_append_right _ hm, hi, ho⟩
    obtain ⟨i, hm, hi, rfl⟩ := hd
    rw [hr] at h
    exact List.mem_flatMap.2 ⟨d, List.mem_filter.2 ⟨hm, h⟩, List.mem_map.2 ⟨i, List.mem_range.2 hi, rfl⟩⟩

/-- The values of this cycle of a page's registers that FREEZE holds. -/
def snapshot (p : Page) (s : State) : SMap Word :=
  (frozenOffsets p).foldl (fun m o => SMap.set resetWord m (pageBase p + o) (liveWord s (pageBase p + o))) []

theorem snapshot_get {o : Nat} (h : freezes (pageReg p o) = true) :
    SMap.get resetWord (snapshot p s) (pageBase p + o) = liveWord s (pageBase p + o) :=
  SMap.get_foldl_set_mem _ _ (.inl (mem_frozenOffsets h))

/-! ### The write and the reads -/

/-- A write of CTRL.FREEZE sets the bit and puts the page's snapshot in or out, and nothing else. -/
theorem setFreeze_frozen (p : Page) (on : Bool) (s : State) (h : on = true → getBit s (Reg.CTRL p) 2 = false) :
    setFreeze p on s = { setB (Reg.CTRL p) 2 on s with
      bus := { s.bus with frozen := SMap.set (fun _ => none) s.bus.frozen (pageBase p) (if on then some (snapshot p s) else none) } } := by
  unfold setFreeze
  cases on with
  | false => rfl
  | true =>
    rw [h rfl]
    rfl

theorem setFreeze_frame (p : Page) (on : Bool) (s : State) (h : on = true → getBit s (Reg.CTRL p) 2 = false) :
    getBit (setFreeze p on s) (Reg.CTRL p) 2 = on ∧
      OnlyRegs [Reg.CTRL p] { s with bus := (setFreeze p on s).bus } (setFreeze p on s) := by
  rw [setFreeze_frozen p on s h]
  refine ⟨getBit_setB_same s _ _ _ (by decide), ⟨⟨_, rfl⟩, fun a ha => ?_⟩⟩
  exact reg_setB_other s _ _ (fun e => ha (e ▸ List.mem_singleton_self _))

/-- A read of a frozen page's register that FREEZE holds comes from the snapshot (R91). -/
theorem readWord_frozen (hp : p.present s.variant = true) {o : Nat} (ho : o < pageSize p) (hf : freezes (pageReg p o) = true) {m : SMap Word}
    (hm : SMap.get (fun _ => none) s.bus.frozen (pageBase p) = some m) :
    readWord s (pageBase p + o) = SMap.get resetWord m (pageBase p + o) := by
  simp only [readWord, decodeAddr_page hp ho, hm, hf, if_true]

theorem readWord_live (hp : p.present s.variant = true) {o : Nat} (ho : o < pageSize p)
    (hm : SMap.get (fun _ => none) s.bus.frozen (pageBase p) = none) : readWord s (pageBase p + o) = liveWord s (pageBase p + o) := by
  simp only [readWord, decodeAddr_page hp ho, hm]

theorem exec_freeze {req : Requester} (on : Bool) (h : WriteReaches req (Reg.CTRL p) s) :
    exec (.freeze req p on) s = .next (setFreeze p on s) := congrArg _ (hostWrite_reaches _ h)

/-- Settles O15: the snapshot that FREEZE = 1 puts in lists every register that it holds, and FREEZE = 0 takes it out. -/
theorem frozenPagesReturnTheValuesOfTheFreeze : Obligations.FrozenPagesReturnTheValuesOfTheFreeze := by
  unfold Obligations.FrozenPagesReturnTheValuesOfTheFreeze
  refine ⟨fun req p s hp h hbit => ?_, fun req p s hp h => ?_⟩
  · obtain ⟨hset, hframe⟩ := setFreeze_frame p true s fun _ => hbit
    refine ⟨_, exec_freeze true h, hset, hframe, fun u o hu hv ho hf => ?_⟩
    rw [setFreeze_frozen p true s fun _ => hbit] at hu hv
    have hv : u.variant = s.variant := hv
    rw [readWord_frozen (hv ▸ hp) ho hf (m := snapshot p s) (by rw [hu, SMap.get_set_same, if_pos rfl]), snapshot_get hf]
  · obtain ⟨hset, hframe⟩ := setFreeze_frame p false s (by simp)
    refine ⟨_, exec_freeze false h, hset, hframe, fun o ho => ?_⟩
    rw [setFreeze_frozen p false s (by simp)]
    refine readWord_live ?_ ho ?_
    · exact hp
    · simp only [SMap.get_set_same, Bool.false_eq_true, if_false]

end Sys2Proof.Machine
end

section
/-! PROOF. W1C writes of the page header (R92, R93, R114). -/

namespace Sys2Proof.Machine

open Sys2Proof

variable {req : Requester} {p : Page} {s : State}

/-! ### Bits that a write clears -/

/-- Bit by bit, clearing the bits written whose cause has ended. -/
theorem bitOf_clear (old v standing : Word) {i : Nat} (hi : i < 32) :
    bitOf (old &&& ~~~(v &&& ~~~standing)) i = (bitOf old i && !(bitOf v i && !bitOf standing i)) := by
  simp only [bitOf, BitVec.getLsbD_and, BitVec.getLsbD_not, hi, decide_true, Bool.true_and]

/-- The same where only bits that stand at 1 count as cleared. -/
theorem bitOf_clear_set (old v standing : Word) {i : Nat} (hi : i < 32) :
    bitOf (old &&& ~~~(old &&& v &&& ~~~standing)) i = (bitOf old i && !(bitOf v i && !bitOf standing i)) := by
  simp only [bitOf, BitVec.getLsbD_and, BitVec.getLsbD_not, hi, decide_true, Bool.true_and]
  cases old.getLsbD i <;> simp

/-! ### The write that arrives -/

/-- A W1C write of a page's INT_STATUS or FAULT_STATUS that reaches it clears there. -/
theorem exec_w1cWrite_header {o : Nat} (v : Word) (ho : o = 0x10 ∨ o = 0x18) (hp : p.present s.variant = true)
    (h : WriteReaches req (pageBase p + o) s) :
    exec (.w1cWrite req (BitVec.ofNat 28 (pageBase p + o)) v) s = .next (w1cAt p o v s) := by
  have hlt : o < 0x40 := by omega
  have hsize := header_lt_pageSize p (o := o) (by omega)
  have hrow : (findIn headerRegs o).any (·.acc == .w1c) = true := by
    obtain rfl | rfl := ho <;> decide
  have hw : isW1c (pageBase p + o) = true := by
    unfold isW1c
    rw [regAt_page hp hsize, pageReg, if_pos hlt]
    obtain ⟨d, hd, hacc⟩ := (Option.any_eq_true _ _).1 hrow
    simp only [hd, hacc]
  show Host.Outcome.next _ = _
  rw [toNat_pageAddr hp hsize, if_pos hw, writeWord_page _ hp hsize (by omega) (fun hdir => by obtain ⟨-, -, hlo, -⟩ := hdir; omega) h, lo32_toNat]
  congr 1
  unfold pageWrite
  rw [if_pos hlt]
  obtain rfl | rfl := ho <;> rfl

/-! ### INT_STATUS (R92, R93, R114) -/

/-- The records behind GLB's interrupts. -/
abbrev glbRecords : List Nat := [Reg.GLB_DECODE_ADDR, Reg.GLB_DECODE_INFO, Reg.GLB_LOCK_ADDR, Reg.GLB_LOCK_INFO]

theorem glbCleared_frame (gone : Word) (s : State) : OnlyRegs glbRecords s (glbCleared gone s) := by
  unfold glbCleared
  dsimp only
  split
  · split
    · exact ((((OnlyRegs.refl _ s).setF _ _ _ (by simp)).setReg _ (by simp)).setF _ _ _ (by simp)).setReg _ (by simp)
    · exact ((OnlyRegs.refl _ s).setF _ _ _ (by simp)).setReg _ (by simp)
  · split
    · exact ((OnlyRegs.refl _ s).setF _ _ _ (by simp)).setReg _ (by simp)
    · exact .refl _ s

theorem glbCleared_decode (gone : Word) (s : State) (h : bitOf gone 0 = true) :
    reg (glbCleared gone s) Reg.GLB_DECODE_ADDR = 0 ∧ getF (glbCleared gone s) Reg.GLB_DECODE_INFO 16 16 = 0 := by
  unfold glbCleared
  rw [h, if_pos rfl]
  have hne : Reg.GLB_LOCK_ADDR ≠ Reg.GLB_DECODE_ADDR ∧ Reg.GLB_LOCK_INFO ≠ Reg.GLB_DECODE_ADDR ∧ Reg.GLB_DECODE_ADDR ≠ Reg.GLB_DECODE_INFO ∧
      Reg.GLB_LOCK_ADDR ≠ Reg.GLB_DECODE_INFO ∧ Reg.GLB_LOCK_INFO ≠ Reg.GLB_DECODE_INFO := by decide
  obtain ⟨h1, h2, h3, h4, h5⟩ := hne
  cases bitOf gone 1 <;>
    simp [getF, reg_setReg_other, reg_setF_other, h1, h2, h3, h4, h5, fld_setFld]

theorem glbCleared_lock (gone : Word) (s : State) (h : bitOf gone 1 = true) :
    reg (glbCleared gone s) Reg.GLB_LOCK_ADDR = 0 ∧ getF (glbCleared gone s) Reg.GLB_LOCK_INFO 16 16 = 0 := by
  unfold glbCleared
  rw [h, if_pos rfl]
  have hne : Reg.GLB_LOCK_ADDR ≠ Reg.GLB_LOCK_INFO := by decide
  simp [getF, reg_setReg_other, hne, fld_setFld]

theorem reg_glbCleared_header (gone : Word) (s : State) (p : Page) {o : Nat} (ho : o < 0x40) :
    reg (glbCleared gone s) (pageBase p + o) = reg s (pageBase p + o) := by
  refine (glbCleared_frame gone s).2 _ fun hm => ?_
  have hbase := pageBase_mod p
  simp only [glbRecords, Reg.GLB_DECODE_ADDR, Reg.GLB_DECODE_INFO, Reg.GLB_LOCK_ADDR, Reg.GLB_LOCK_INFO, List.mem_cons,
    List.not_mem_nil, or_false] at hm
  omega

/-- The bits of INT_STATUS that a W1C write clears: those that stand at 1, are written as 1 and whose cause has ended (R93). -/
def intsGone (p : Page) (v : Word) (s : State) : Word := reg s (Reg.INT_STATUS p) &&& v &&& ~~~(standingInts s p)

/-- The registers that a W1C write of INT_STATUS leaves. -/
def intsCleared (p : Page) (v : Word) (s : State) : State :=
  let t := setReg (Reg.INT_STATUS p) (reg s (Reg.INT_STATUS p) &&& ~~~(intsGone p v s)) s
  if p.kind = .glb then glbCleared (intsGone p v s) t else t

theorem clearInts_eq (p : Page) (v : Word) (s : State) :
    clearInts p v s = if intActive (intsCleared p v s) p then sendInt p (intsCleared p v s) else intsCleared p v s := rfl

section
variable {v : Word}

theorem reg_clearInts (a : Nat) : reg (clearInts p v s) a = reg (intsCleared p v s) a := by
  rw [clearInts_eq]
  split <;> rfl

theorem intsCleared_frame : OnlyRegs (Reg.INT_STATUS p :: glbRecords) s (intsCleared p v s) ∧
    (p.kind ≠ .glb → OnlyRegs [Reg.INT_STATUS p] s (intsCleared p v s)) := by
  unfold intsCleared
  dsimp only
  split
  · next hk =>
    refine ⟨?_, fun h => absurd hk h⟩
    generalize hu : setReg (Reg.INT_STATUS p) (reg s (Reg.INT_STATUS p) &&& ~~~(intsGone p v s)) s = u
    have h1 : OnlyRegs [Reg.INT_STATUS p] s u := hu ▸ (OnlyRegs.refl _ s).setReg _ (by simp)
    obtain ⟨⟨r, rfl⟩, h1⟩ := h1
    obtain ⟨⟨r', h2⟩, h3⟩ := glbCleared_frame (intsGone p v s) { s with regs := r }
    refine ⟨⟨r', h2⟩, fun a ha => ?_⟩
    rw [List.mem_cons, not_or] at ha
    exact (h3 a ha.2).trans (h1 a (by simpa using ha.1))
  · exact ⟨(OnlyRegs.refl _ s).setReg _ (by simp), fun _ => (OnlyRegs.refl _ s).setReg _ (by simp)⟩

theorem reg_intsCleared_header {o : Nat} (ho : o < 0x40) :
    reg (intsCleared p v s) (pageBase p + o) =
      reg (setReg (Reg.INT_STATUS p) (reg s (Reg.INT_STATUS p) &&& ~~~(intsGone p v s)) s) (pageBase p + o) := by
  unfold intsCleared
  dsimp only
  split
  · exact reg_glbCleared_header _ _ _ ho
  · rfl

/-- A bit of INT_STATUS clears where it is written as 1 and its cause has ended (R93). -/
theorem getBit_clearInts {i : Nat} (hi : i < 32) :
    getBit (clearInts p v s) (Reg.INT_STATUS p) i = (getBit s (Reg.INT_STATUS p) i && !(bitOf v i && !bitOf (standingInts s p) i)) := by
  have h : reg (intsCleared p v s) (Reg.INT_STATUS p) = reg s (Reg.INT_STATUS p) &&& ~~~(intsGone p v s) :=
    (reg_intsCleared_header (by decide)).trans (reg_setReg_same _ _ _)
  rw [getBit, reg_clearInts, h, intsGone, bitOf_clear_set _ _ _ hi]
  rfl

/-- One further message leaves where the request is still active (R92). -/
theorem clearInts_out :
    (clearInts p v s).out = if intActive (clearInts p v s) p then .msix (getF s (Reg.INT_ENABLE p) 26 6) :: s.out else s.out := by
  have hact : intActive (clearInts p v s) p = intActive (intsCleared p v s) p := by simp only [intActive, reg_clearInts]
  have hen : getF (intsCleared p v s) (Reg.INT_ENABLE p) 26 6 = getF s (Reg.INT_ENABLE p) 26 6 := by
    unfold getF
    rw [show Reg.INT_ENABLE p = pageBase p + 0x14 from rfl, reg_intsCleared_header (by decide), reg_setReg_other]
    simp [Reg.INT_STATUS]
  have hout : (intsCleared p v s).out = s.out := by
    obtain ⟨⟨⟨r, h⟩, -⟩, -⟩ := intsCleared_frame (p := p) (v := v) (s := s)
    rw [h]
  rw [hact, clearInts_eq]
  split
  · simp only [sendInt, emit_out, hen, hout]
  · exact hout

theorem onlyRegsOut_clearInts {l : List Nat} (h : OnlyRegs l s (intsCleared p v s)) : OnlyRegsOut l s (clearInts p v s) := by
  rw [clearInts_eq]
  split
  · exact h.toOut.emit _
  · exact h.toOut

/-- No cause of GLB lasts, so what is written there as 1 clears. -/
theorem bitOf_intsGone_glb {i : Nat} (hi : i < 32) (hk : p.kind = .glb) (hs : getBit s (Reg.INT_STATUS p) i = true) (hv : bitOf v i = true) :
    bitOf (intsGone p v s) i = true := by
  have hstand : standingInts s p = 0 := by
    unfold standingInts
    rw [hk]
  have hs : (reg s (Reg.INT_STATUS p)).getLsbD i = true := hs
  have hv : v.getLsbD i = true := hv
  rw [intsGone, hstand]
  simp only [bitOf, BitVec.getLsbD_and, BitVec.getLsbD_not, hs, hv, hi, decide_true, Bool.true_and]
  exact congrArg (! ·) BitVec.getLsbD_zero

/-- Clearing a bit of GLB returns the record behind it to zero (R114). -/
theorem clearInts_glb (hk : p.kind = .glb) :
    ∃ t, ∀ a, reg (clearInts p v s) a = reg (glbCleared (intsGone p v s) t) a := by
  refine ⟨setReg (Reg.INT_STATUS p) (reg s (Reg.INT_STATUS p) &&& ~~~(intsGone p v s)) s, fun a => ?_⟩
  rw [reg_clearInts, intsCleared, if_pos hk]

end

/-- Settles O16: a W1C write of the header that reaches its page clears there, bit by bit. -/
theorem w1cClearsOnlyBitsWhoseCauseHasEnded : Obligations.W1cClearsOnlyBitsWhoseCauseHasEnded := by
  unfold Obligations.W1cClearsOnlyBitsWhoseCauseHasEnded
  refine ⟨fun req p v s hp h => ⟨_, exec_w1cWrite_header v (.inl rfl) hp h, ?_⟩,
    fun req p v s hp h => ⟨_, exec_w1cWrite_header v (.inr rfl) hp h, ?_⟩⟩
  · obtain ⟨hall, hint⟩ := intsCleared_frame (p := p) (v := v) (s := s)
    refine ⟨fun i hi => getBit_clearInts hi, clearInts_out, fun hk => onlyRegsOut_clearInts (hint hk), fun hk hs hv => ?_, fun hk hs hv => ?_,
      onlyRegsOut_clearInts hall⟩
    · obtain ⟨t, ht⟩ := clearInts_glb (p := p) (v := v) (s := s) hk
      simp only [w1cAt, if_true, getF, ht]
      exact glbCleared_decode _ t (bitOf_intsGone_glb (by decide) hk hs hv)
    · obtain ⟨t, ht⟩ := clearInts_glb (p := p) (v := v) (s := s) hk
      simp only [w1cAt, if_true, getF, ht]
      exact glbCleared_lock _ t (bitOf_intsGone_glb (by decide) hk hs hv)
  · refine ⟨fun i hi => ?_, (OnlyRegs.refl _ s).setReg _ (by simp)⟩
    show bitOf (reg (clearFaults p v s) _) i = _
    rw [clearFaults, reg_setReg_same, bitOf_clear _ _ _ hi]
    rfl

end Sys2Proof.Machine
end

section
/-! PROOF. Sparse maps put together from parts: what they read as. -/

namespace Sys2Proof.Machine

open Sys2Proof

/-! ### Maps put together from parts -/

section
variable {α : Type}

/-- A lookup asks only for the default of its own key. -/
theorem SMap.get_congr {d d' : Nat → α} (m : SMap α) {k : Nat} (h : d k = d' k) : SMap.get d m k = SMap.get d' m k := by
  induction m with
  | nil => exact h
  | cons e r ih => simp only [SMap.get, ih]

/-- What the front of a map does not list is looked up behind it. -/
theorem SMap.get_append (d : Nat → α) (m n : SMap α) (k : Nat) : SMap.get d (m ++ n) k = SMap.get (fun j => SMap.get d n j) m k := by
  induction m with
  | nil => rfl
  | cons e r ih => simp only [List.cons_append, SMap.get, ih]

theorem SMap.get_of_notListed (d : Nat → α) {m : SMap α} {k : Nat} (h : ∀ e ∈ m, e.1 ≠ k) : SMap.get d m k = d k :=
  SMap.get_eq_default fun e he hk => absurd hk (h e he)

theorem SMap.get_slice (d : Nat → α) (m : SMap α) (lo n k : Nat) :
    SMap.get d (SMap.slice m lo n) k = if lo ≤ k ∧ k < lo + n then SMap.get d m k else d k := by
  simp [SMap.slice, SMap.get_keep]

theorem SMap.mem_slice {m : SMap α} {lo n : Nat} {e : Nat × α} (h : e ∈ SMap.slice m lo n) : lo ≤ e.1 ∧ e.1 < lo + n := by
  simpa using (List.mem_filter.1 h).2

end

/-- Words put over others leave the keys that they do not list. -/
theorem SMap.get_foldl_set_other (d : Nat → Word) (l : SMap Word) {m : SMap Word} {k : Nat} (h : ∀ e ∈ l, e.1 ≠ k) :
    SMap.get d (l.foldl (fun m e => SMap.set d m e.1 e.2) m) k = SMap.get d m k := by
  induction l generalizing m with
  | nil => rfl
  | cons e r ih =>
    exact (ih fun x hx => h x (List.mem_cons_of_mem _ hx)).trans (SMap.get_set_other _ _ _ (h e List.mem_cons_self))

/-- Words of rising keys put over others are looked up first. -/
theorem SMap.get_foldl_set_rising (d : Nat → Word) {l : SMap Word} {b : Nat} (hl : SMap.rising b l = true) (m : SMap Word) (k : Nat) :
    SMap.get d (l.foldl (fun m e => SMap.set d m e.1 e.2) m) k = SMap.get (fun j => SMap.get d m j) l k := by
  induction l generalizing m b with
  | nil => rfl
  | cons e r ih =>
    simp only [SMap.rising, Bool.and_eq_true] at hl
    by_cases hk : e.1 = k
    · have hr : ∀ x ∈ r, x.1 ≠ k := fun x hx => by
        have := SMap.le_key_of_rising hl.2 x hx
        omega
      simp only [List.foldl_cons, SMap.get, if_pos hk]
      rw [SMap.get_foldl_set_other d r hr, hk, SMap.get_set_same]
    · simp only [List.foldl_cons, SMap.get, if_neg hk]
      rw [ih hl.2]
      exact SMap.get_congr r (SMap.get_set_other _ _ _ hk)

/-- A map with a range replaced reads as the replacement there. -/
theorem SMap.get_replaceRange_in (d : Nat → Word) (m new : SMap Word) {lo n k : Nat} (h1 : lo ≤ k) (h2 : k < lo + n) :
    SMap.get d (replaceRange lo n new m) k = SMap.get d new k := by
  rw [replaceRange, List.append_assoc, SMap.get_append, SMap.get_keep, if_neg (by simpa using h1), SMap.get_append]
  exact SMap.get_congr new (by rw [SMap.get_keep, if_neg (by simpa using h2)])

/-- and as before elsewhere. -/
theorem SMap.get_replaceRange_out (d : Nat → Word) (m : SMap Word) {new : SMap Word} {lo n k : Nat}
    (hnew : ∀ e ∈ new, lo ≤ e.1 ∧ e.1 < lo + n) (h : k < lo ∨ lo + n ≤ k) :
    SMap.get d (replaceRange lo n new m) k = SMap.get d m k := by
  have hno : ∀ e ∈ new, e.1 ≠ k := fun e he => by
    have := hnew e he
    omega
  rw [replaceRange, List.append_assoc, SMap.get_append, SMap.get_keep]
  by_cases hlo : k < lo
  · rw [if_pos (by simpa using hlo)]
    refine SMap.get_congr m ?_
    rw [SMap.get_append, SMap.get_of_notListed _ hno, SMap.get_keep, if_neg (by simpa using (by omega : k < lo + n))]
  · rw [if_neg (by simpa using hlo), SMap.get_append, SMap.get_of_notListed _ hno, SMap.get_keep, if_pos (by simpa using (by omega : lo + n ≤ k))]

end Sys2Proof.Machine
end

section
/-! PROOF. What a block reset keeps of a page's header, over a register store in canonical form (R90, R109). -/

namespace Sys2Proof.Machine

open Sys2Proof

/-- The function that `mapRange` applies to an entry. -/
def inRange (lo n : Nat) (f : Nat → Word → Word) (e : Nat × Word) : Nat × Word :=
  if lo ≤ e.1 && e.1 < lo + n then (e.1, f e.1 e.2) else e

theorem mapRange_eq (lo n : Nat) (f : Nat → Word → Word) (m : SMap Word) :
    mapRange lo n f m = (m.map (inRange lo n f)).filter fun e => !decide (e.2 = resetWord e.1) := rfl

theorem inRange_fst (lo n : Nat) (f : Nat → Word → Word) (e : Nat × Word) : (inRange lo n f e).1 = e.1 := by
  unfold inRange
  split <;> rfl

theorem rising_mapRange {lo n b : Nat} {f : Nat → Word → Word} {m : SMap Word} (h : SMap.rising b m = true) :
    SMap.rising b (mapRange lo n f m) = true :=
  SMap.rising_filter _ (SMap.rising_map _ (inRange_fst lo n f) h)

/-- A word of a range under a function that leaves its reset value. -/
theorem get_mapRange {lo n b : Nat} {f : Nat → Word → Word} {m : SMap Word} {a : Nat} (h : SMap.rising b m = true)
    (hf : f a (resetWord a) = resetWord a) :
    SMap.get resetWord (mapRange lo n f m) a = (inRange lo n f (a, SMap.get resetWord m a)).2 := by
  have hreset : (inRange lo n f (a, resetWord a)).2 = resetWord a := by
    unfold inRange
    split
    · exact hf
    · rfl
  induction m generalizing b with
  | nil => exact hreset.symm
  | cons e r ih =>
    obtain ⟨k, v⟩ := e
    simp only [SMap.rising, Bool.and_eq_true] at h
    have hkey := inRange_fst lo n f (k, v)
    rw [mapRange_eq, List.map_cons, List.filter_cons, ← mapRange_eq]
    by_cases hk : k = a
    · subst hk
      have hno : ∀ x ∈ mapRange lo n f r, x.1 ≠ k := fun x hx => by
        have := SMap.le_key_of_rising (rising_mapRange h.2) x hx
        omega
      have hrest := SMap.get_of_notListed resetWord hno
      simp only [SMap.get, if_true]
      split
      · simp only [SMap.get, hkey, if_true]
      · next hz =>
        have hz : (inRange lo n f (k, v)).2 = resetWord (inRange lo n f (k, v)).1 := by simpa only [Bool.not_eq_true', decide_eq_false_iff_not, not_not] using hz
        rw [hrest, hz, hkey]
    · have htail := ih h.2
      simp only [SMap.get, if_neg hk]
      split
      · simp only [SMap.get, hkey, if_neg hk, htail]
      · exact htail

/-! ### The header of a page (R86, R90) -/

/-- No header word is shadowed. -/
theorem isShadowed_header {v : Variant} {p : Page} (hp : p.present v = true) {o : Nat} (ho : o < 0x40) : isShadowed (pageBase p + o) = false := by
  have hrows : ∀ d ∈ headerRegs, d.acc ≠ .rws := by decide
  unfold isShadowed
  rw [regAt_page hp (header_lt_pageSize p (by omega)), pageReg, if_pos ho]
  cases hr : findIn headerRegs o with
  | none => rfl
  | some d => simpa using hrows d (findIn_some hr).1

/-- The shadows of a range that take the active values leave every other word, in canonical form. -/
theorem reg_shadowFromActive {lo n b a : Nat} {s : State} (h : SMap.rising b s.regs = true) (ha : isShadowed a = false) :
    reg (shadowFromActive lo n s) a = reg s a := by
  have hno : ∀ e ∈ SMap.keep isShadowed (SMap.slice s.active lo n), e.1 ≠ a := fun e he hea => by
    have := (List.mem_filter.1 he).2
    rw [hea, ha] at this
    cases this
  refine (SMap.get_foldl_set_other resetWord _ hno).trans ?_
  rw [get_mapRange h (by simp [ha])]
  unfold inRange
  split
  · simp only [ha, Bool.false_eq_true, if_false]
    rfl
  · rfl

theorem resetKeep_resetWord (p : Page) (a : Nat) : resetKeep p a (resetWord a) = resetWord a := by
  unfold resetKeep
  rw [← BitVec.and_or_distrib_left, BitVec.or_not_self, BitVec.and_allOnes]

/-- A header word stands in a page's range where it is that page's. -/
theorem header_in_range_iff {v : Variant} {p q : Page} {o : Nat} (hp : p.present v = true) (hq : q.present v = true) (ho : o < 0x40) :
    (pageBase p ≤ pageBase q + o ∧ pageBase q + o < pageBase p + pageSize p) ↔ p = q := by
  have hsize := header_lt_pageSize q (o := o) (by omega)
  constructor
  · rintro ⟨hlo, hhi⟩
    have h1 := decodeAddr_page hp (o := pageBase q + o - pageBase p) (by omega)
    rw [show pageBase p + (pageBase q + o - pageBase p) = pageBase q + o by omega, decodeAddr_page hq hsize] at h1
    exact (Target.page.inj h1).1.symm
  · rintro rfl
    omega

/-- A page's header word but SHADOW_STATUS after a block reset of a page: under the bits that are kept in its own page, as before elsewhere. -/
theorem reg_resetPageRegs_header {v : Variant} {p q : Page} {s : State} {o : Nat} (hs : Registers.wf s.regs = true) (hp : p.present v = true)
    (hq : q.present v = true) (ho : o < 0x40) (h20 : o ≠ 0x20) :
    reg (resetPageRegs p s) (pageBase q + o) =
      if p = q then resetKeep p (pageBase q + o) (reg s (pageBase q + o)) else reg s (pageBase q + o) := by
  have hrise := (SMap.wf_iff.1 hs).1
  have hshadow : isShadowed (pageBase q + o) = false := isShadowed_header hq ho
  have hstatus : Reg.SHADOW_STATUS p ≠ pageBase q + o := by
    have hbp := pageBase_mod p
    have hbq := pageBase_mod q
    unfold Reg.SHADOW_STATUS
    omega
  have hmap : SMap.get resetWord (mapRange (pageBase p) (pageSize p) (resetKeep p) s.regs) (pageBase q + o) =
      if p = q then resetKeep p (pageBase q + o) (reg s (pageBase q + o)) else reg s (pageBase q + o) := by
    rw [get_mapRange hrise (resetKeep_resetWord _ _), inRange]
    simp only [Bool.and_eq_true, decide_eq_true_eq, header_in_range_iff hp hq ho]
    split <;> rfl
  unfold resetPageRegs
  extract_lets b n bus s1 s2
  have h1 : SMap.rising 0 s1.regs = true := rising_mapRange hrise
  have h2 : reg s2 (pageBase q + o) = reg s1 (pageBase q + o) := by
    simp only [s2]
    split
    · exact reg_shadowFromActive h1 hshadow
    · exact reg_shadowFromActive h1 hshadow
    · rfl
  refine Eq.trans ?_ (h2.trans hmap)
  split
  · exact reg_setB_other _ _ _ hstatus
  · rfl

/-- Under its own mask a merge shows the bits kept. -/
theorem merge_under_mask (x y k : Word) : ((x &&& k) ||| (y &&& ~~~k)) &&& k = x &&& k := by
  ext i hi
  simp only [BitVec.getElem_and, BitVec.getElem_or, BitVec.getElem_not]
  cases k[i] <;> simp

/-- What R109 asks of a block reset, and what the model answers over a canonical store: every PAGE_LOCK stands. -/
theorem pageLock_resetPageRegs_of_canonical {p q : Page} {s : State} (hs : Registers.wf s.regs = true) (hp : p.present .pe2560 = true)
    (hq : q.present .pe2560 = true) : reg (resetPageRegs p s) (Reg.PAGE_LOCK q) &&& 3 = reg s (Reg.PAGE_LOCK q) &&& 3 := by
  refine (congrArg (· &&& 3) (reg_resetPageRegs_header (o := 0x28) hs hp hq (by decide) (by decide))).trans ?_
  split
  · next h =>
    subst h
    have hkept : word (keptBits p (pageBase p + 0x28 - pageBase p)) = 3 := by
      rw [Nat.add_sub_cancel_left]
      rfl
    rw [resetKeep, hkept]
    exact merge_under_mask _ _ 3
  · rfl

/-- What R90 asks of ENABLE in a block reset, over a canonical store: it stands. -/
theorem enabled_resetPageRegs_of_canonical {v : Variant} {p : Page} {s : State} (hs : Registers.wf s.regs = true) (hp : p.present v = true) :
    enabled (resetPageRegs p s) p = enabled s p := by
  refine (congrArg (bitOf · 0) (reg_resetPageRegs_header (o := 0x08) hs hp hp (by decide) (by decide))).trans ?_
  have hkept : word (keptBits p (pageBase p + 0x08 - pageBase p)) = 9 := by
    rw [Nat.add_sub_cancel_left]
    rfl
  rw [if_pos rfl, resetKeep, hkept]
  simp [bitOf, enabled, getBit, Reg.CTRL]

end Sys2Proof.Machine
end

section
/-! PROOF. Where the statements on the block's start, on its reset and on PAGE_LOCK fail. -/

namespace Sys2Proof.Machine

open Sys2Proof

/-! ### A start that ends puts an open span on record (R89, R331 to R338) -/

/-- HW_0 while it starts, with a span of its time away from the scan still open: its shut-down ended the scan at time 0. -/
def hwStarting : State := { State.reset with
  bus := { State.reset.bus with phase := [(pageBase ⟨.hw, 0⟩, .starting)] }
  wellSpans := [(288, [⟨.idle, 0, none⟩])] }

/-- The start of HW_0 completes: the open span ends, since the well scans again. -/
theorem wellSpans_hwStarting :
    (after (exec (.blockStartComplete ⟨.hw, 0⟩) hwStarting) hwStarting).wellSpans = [(288, [⟨.idle, 0, some 0⟩])] := by decide +kernel

/-- Refutes O13, by its clause on the end of a start: it excepts RING, TW, PW and MAC from changing nothing but STATUS, and not HW, whose
time away from the scan goes on record at that moment. -/
theorem not_enableDuringShutdownIsPending : ¬ Obligations.EnableDuringShutdownIsPending := by
  unfold Obligations.EnableDuringShutdownIsPending
  rintro ⟨-, -, -, -, hend, -⟩
  obtain ⟨-, -, hstart, -⟩ := hend ⟨.hw, 0⟩ hwStarting rfl (by decide) (by simp)
  obtain ⟨t, ht, -, -, -, hframe⟩ := hstart rfl
  obtain ⟨⟨r, hr⟩, -⟩ := hframe (by decide)
  have hspan := wellSpans_hwStarting
  rw [ht] at hspan
  have hkept : t.wellSpans = hwStarting.wellSpans := by rw [hr]
  exact absurd (hkept.symm.trans hspan) (by decide)

/-! ### Words listed twice (R90, R109)

A block reset takes the words that stand at their reset value out of the register store, so that a word of a canonical store reads as the
reset left it. Where a store lists a word twice, the entry behind then shows. -/

/-- EPOCH while its block reset waits, with CTRL listed twice: the word in front, the one that is read, has ENABLE 0. -/
def twiceControlled : State := { State.reset with
  regs := [(Reg.CTRL epochPage, 2), (Reg.CTRL epochPage, 1)]
  epochReset := true
  bus := { State.reset.bus with phase := [(pageBase epochPage, .resetting)] } }

theorem enabled_twiceControlled : enabled twiceControlled epochPage = false ∧
    enabled (after (exec (.blockResetComplete epochPage) twiceControlled) twiceControlled) epochPage = true := by decide +kernel

/-- Refutes O14, by its clause on the end of a reset: the clause speaks of every state, and the reset of EPOCH keeps ENABLE only where CTRL is
listed once (`enabled_resetPageRegs_of_canonical`). `twiceControlled` reads ENABLE as 0; the reset drops the word in front, whose ENABLE is at its
reset value, and ENABLE then reads as 1. -/
theorem not_softResetBlockResetAndItsEnd : ¬ Obligations.SoftResetBlockResetAndItsEnd := by
  unfold Obligations.SoftResetBlockResetAndItsEnd
  rintro ⟨-, -, -, -, -, -, hend⟩
  obtain ⟨t, ht, -, hkept, -⟩ := (hend epochPage twiceControlled rfl rfl).2 (.inr (by decide))
  obtain ⟨hoff, hon⟩ := enabled_twiceControlled
  rw [ht] at hon
  exact Bool.false_ne_true ((hkept.trans hoff).symm.trans hon)

/-- TIME's PAGE_LOCK listed twice: the word in front, the one that is read, is 0, its reset word. -/
def twiceLocked : State := { State.reset with regs := [(Reg.PAGE_LOCK timePage, 0), (Reg.PAGE_LOCK timePage, 1)] }

/-- Refutes O18, by its clause on the block reset: the clause speaks of every state, and the reset keeps a PAGE_LOCK only where it is listed
once (`pageLock_resetPageRegs_of_canonical`). `twiceLocked` is unlocked, and its block reset leaves TIME locked. -/
theorem not_pageLockNeedsItsKeyAndSticks : ¬ Obligations.PageLockNeedsItsKeyAndSticks := by
  unfold Obligations.PageLockNeedsItsKeyAndSticks
  rintro ⟨-, hreset, -⟩
  exact absurd (hreset timePage timePage twiceLocked rfl rfl) (by decide +kernel)

end Sys2Proof.Machine
end

section
/-! PROOF. SHADOW_CTRL: COMMIT, COMMIT_AT_EPOCH and DISCARD (R103 to R106). -/

namespace Sys2Proof.Machine

open Sys2Proof

variable {req : Requester} {p : Page} {s : State}

/-! ### The captured words (R103) -/

theorem get_shadowWords {a : Nat} (ha : isShadowed a = true) (h1 : (shadowRange p).1 ≤ a) (h2 : a < (shadowRange p).1 + (shadowRange p).2) :
    SMap.get resetWord (shadowWords p s) a = reg s a := by
  rw [shadowWords, SMap.get_keep, if_pos ha, SMap.get_slice, if_pos ⟨h1, h2⟩]
  rfl

theorem mem_shadowWords {e : Nat × Word} (h : e ∈ shadowWords p s) : (shadowRange p).1 ≤ e.1 ∧ e.1 < (shadowRange p).1 + (shadowRange p).2 :=
  SMap.mem_slice (List.mem_filter.1 h).1

/-! ### Commands that only touch SHADOW_STATUS -/

theorem exec_commit (h : WriteReaches req (Reg.SHADOW_CTRL p) s) : exec (.commit req p) s = .next (commitWrite p s) :=
  congrArg _ (hostWrite_reaches _ h)

theorem exec_commitAtEpoch (h : WriteReaches req (Reg.SHADOW_CTRL p) s) : exec (.commitAtEpoch req p) s = .next (armWrite p s) :=
  congrArg _ (hostWrite_reaches _ h)

theorem exec_discard (h : WriteReaches req (Reg.SHADOW_CTRL p) s) : exec (.discard req p) s = .next (discardWrite p s) :=
  congrArg _ (hostWrite_reaches _ h)

/-- COMMIT during a column commit is refused (R106). -/
theorem commitWrite_applying (h : applying s p = true) :
    getBit (commitWrite p s) (Reg.SHADOW_STATUS p) 3 = true ∧ armed (commitWrite p s) p = armed s p ∧ dirty (commitWrite p s) p = dirty s p ∧
      OnlyRegs [Reg.SHADOW_STATUS p] s (commitWrite p s) := by
  rw [commitWrite, if_pos h]
  exact ⟨getBit_setB_same _ _ _ _ (by decide), getBit_setB_beside _ _ _ _ _ (by decide) (by decide),
    getBit_setB_beside _ _ _ _ _ (by decide) (by decide), (OnlyRegs.refl _ s).setB _ _ (by simp)⟩

/-- What COMMIT clears in SHADOW_STATUS before it captures (R106). -/
def disarmed (p : Page) (s : State) : State :=
  setB (Reg.SHADOW_STATUS p) 4 false (setB (Reg.SHADOW_STATUS p) 1 false (setB (Reg.SHADOW_STATUS p) 3 false s))

theorem disarmed_bits : armed (disarmed p s) p = false ∧ getBit (disarmed p s) (Reg.SHADOW_STATUS p) 3 = false ∧
    getBit (disarmed p s) (Reg.SHADOW_STATUS p) 4 = false ∧ dirty (disarmed p s) p = dirty s p := by
  simp [disarmed, armed, dirty, getBit_setB_same, getBit_setB_beside]

theorem disarmed_frame : OnlyRegs [Reg.SHADOW_STATUS p] s (disarmed p s) :=
  (((OnlyRegs.refl _ s).setB _ _ (by simp)).setB _ _ (by simp)).setB _ _ (by simp)

theorem commitWrite_captures (h : applying s p = false) : commitWrite p s = captureNow p (disarmed p s) := by
  rw [commitWrite, if_neg (by simp [h])]
  rfl

/-- COMMIT with DIRTY 0 captures nothing (R106). -/
theorem commitWrite_clean (h : applying s p = false) (hd : dirty s p = false) : commitWrite p s = disarmed p s := by
  obtain ⟨-, -, -, hdirty⟩ := disarmed_bits (p := p) (s := s)
  rw [commitWrite_captures h, captureNow, hdirty, hd]
  rfl

theorem armWrite_sets : armed (armWrite p s) p = true ∧ getBit (armWrite p s) (Reg.SHADOW_STATUS p) 3 = false ∧
    dirty (armWrite p s) p = dirty s p ∧ OnlyRegs [Reg.SHADOW_STATUS p] s (armWrite p s) := by
  refine ⟨?_, ?_, ?_, ((OnlyRegs.refl _ s).setB _ _ (by simp)).setB _ _ (by simp)⟩ <;>
    simp [armWrite, armed, dirty, getBit_setB_same, getBit_setB_beside]

/-! ### COMMIT that captures (R103, R105) -/

theorem disarmed_applying : applying (disarmed p s) p = applying s p := by
  simp [disarmed, applying, getBit_setB_beside]

theorem commitWrite_col (h : applying s p = false) (hd : dirty s p = true) (hk : p.kind = .col) :
    commitWrite p s = captureCol p.inst (disarmed p s) := by
  obtain ⟨-, -, -, hdirty⟩ := disarmed_bits (p := p) (s := s)
  rw [commitWrite_captures h, captureNow, hdirty, hd, hk]
  rfl

theorem commitWrite_page (h : applying s p = false) (hd : dirty s p = true) (hk : p.kind ≠ .col) :
    commitWrite p s = applyPage p (disarmed p s) := by
  obtain ⟨-, -, -, hdirty⟩ := disarmed_bits (p := p) (s := s)
  rw [commitWrite_captures h, captureNow, hdirty, hd]
  simp only [Bool.not_true, Bool.false_eq_true, if_false]

/-- A column's captured words and its cells held, with nothing shown yet. -/
def holdCommit (c : Nat) (s : State) : State :=
  { s with colCommit := SMap.set (fun _ => none) s.colCommit c (some { words := shadowWords (colPage c) s, cells := colCells c }) }

theorem reg_holdCommit (c : Nat) (s : State) (a : Nat) : reg (holdCommit c s) a = reg s a := rfl

theorem captureCol_eq (c : Nat) (s : State) :
    captureCol c s = refreshStatus (colPage c)
      (setB (Reg.SHADOW_STATUS (colPage c)) 2 true (setB (Reg.SHADOW_STATUS (colPage c)) 0 false (holdCommit c s))) := rfl

theorem captureCol_active (c : Nat) (s : State) : (captureCol c s).active = s.active := rfl

theorem captureCol_colCommit (c : Nat) (s : State) : (captureCol c s).colCommit = (holdCommit c s).colCommit := rfl

theorem captureCol_colCommit_get (c : Nat) (s : State) :
    SMap.get (fun _ => none) (captureCol c s).colCommit c = some { words := shadowWords (colPage c) s, cells := colCells c } := by
  rw [captureCol_colCommit, holdCommit, SMap.get_set_same]

theorem captureCol_frame (c : Nat) (s : State) :
    OnlyRegs [Reg.SHADOW_STATUS (colPage c), Reg.STATUS (colPage c)] (holdCommit c s) (captureCol c s) := by
  rw [captureCol_eq]
  exact (((((OnlyRegs.refl _ _).setB _ _ (by simp)).setB _ _ (by simp)).setB _ _ (by simp)).setB _ _ (by simp)).setB _ _ (by simp)

/-- A column's capture holds its words and its cells, and shows APPLYING (R33, R103). -/
theorem captureCol_shows (c : Nat) (s : State) :
    dirty (captureCol c s) (colPage c) = false ∧ applying (captureCol c s) (colPage c) = true ∧
      armed (captureCol c s) (colPage c) = armed s (colPage c) := by
  have hne : Reg.STATUS (colPage c) ≠ Reg.SHADOW_STATUS (colPage c) := by simp [Reg.STATUS, Reg.SHADOW_STATUS]
  have hreg := reg_refreshStatus_other (colPage c)
    (setB (Reg.SHADOW_STATUS (colPage c)) 2 true (setB (Reg.SHADOW_STATUS (colPage c)) 0 false (holdCommit c s))) hne
  have hbit := fun i => congrArg (bitOf · i) hreg
  rw [captureCol_eq]
  refine ⟨(hbit 0).trans ?_, (hbit 2).trans (getBit_setB_same _ _ _ _ (by decide)), (hbit 1).trans ?_⟩
  · exact (getBit_setB_beside _ _ _ _ _ (by decide) (by decide)).trans (getBit_setB_same _ _ _ _ (by decide))
  · exact (getBit_setB_beside _ _ _ _ _ (by decide) (by decide)).trans (getBit_setB_beside _ _ _ _ _ (by decide) (by decide))

/-- The words of a page in the active copy, DIRTY cleared and GEN moved on (R103, R105). -/
def activated (p : Page) (s : State) : State :=
  wrapF (Reg.GEN p) 0 16 (setB (Reg.SHADOW_STATUS p) 0 false
    { s with active := replaceRange (shadowRange p).1 (shadowRange p).2 (shadowWords p s) s.active })

/-- A commit of VERDICT shows what the new plans give in VRD_PLAN_BAD and VRD_MON_DUP, and changes nothing else. -/
theorem verdictCommitted_frame (s : State) :
    (∃ r, verdictCommitted s = { s with regs := r }) ∧ ∀ a, a < Reg.VRD_PLAN_BAD → reg (verdictCommitted s) a = reg s a := by
  unfold verdictCommitted
  dsimp only
  refine forEach_keeps (fun t => (∃ r, t = { s with regs := r }) ∧ ∀ a, a < Reg.VRD_PLAN_BAD → reg t a = reg s a) _ _ ?_ ?_
  · rintro i - t ⟨⟨r, rfl⟩, hlow⟩
    refine ⟨⟨_, rfl⟩, fun a ha => ?_⟩
    rw [reg_setReg_other, hlow a ha]
    simp only [Reg.VRD_MON_DUP, Reg.VRD_PLAN_BAD] at ha ⊢
    omega
  · exact ⟨⟨_, rfl⟩, fun a ha => reg_setReg_other _ _ (by omega)⟩

/-- A commit of POLICE_n changes nothing beyond what its ports hold. -/
theorem policeCommitted_frame (n : Nat) (before s : State) : ∃ q, policeCommitted n before s = { s with ports := q } := by
  unfold policeCommitted
  refine forEach_keeps (fun t => ∃ q, t = { s with ports := q }) _ _ ?_ ⟨s.ports, rfl⟩
  rintro i - t ⟨q, rfl⟩
  split
  · exact ⟨_, rfl⟩
  · exact ⟨q, rfl⟩

/-- What a commit of a page does beyond that: VERDICT shows what the new plans give, and a policer starts anew. -/
theorem applyPage_cases (p : Page) (s : State) :
    applyPage p s = activated p s ∨ (p.kind = .verdict ∧ applyPage p s = verdictCommitted (activated p s)) ∨
      applyPage p s = policeCommitted p.inst s (activated p s) := by
  unfold applyPage
  dsimp only
  split
  · next hk => exact .inr (.inl ⟨hk, rfl⟩)
  · exact .inr (.inr rfl)
  · exact .inl rfl

/-- No header word changes by it, no active word and no byte. -/
theorem applyPage_activated (p : Page) (s : State) :
    (applyPage p s).active = (activated p s).active ∧ SameBytes s (applyPage p s) ∧
      ∀ o, o < 0x40 → reg (applyPage p s) (pageBase p + o) = reg (activated p s) (pageBase p + o) := by
  obtain h | ⟨hk, h⟩ | h := applyPage_cases p s
  · rw [h]
    exact ⟨rfl, ⟨fun _ => rfl, fun _ => rfl⟩, fun _ _ => rfl⟩
  · obtain ⟨⟨r, hr⟩, hlow⟩ := verdictCommitted_frame (activated p s)
    rw [h]
    refine ⟨by rw [hr], ⟨fun _ => by rw [hr]; rfl, fun _ => by rw [hr]; rfl⟩, fun o ho => hlow _ ?_⟩
    simp only [pageBase, hk, Reg.VRD_PLAN_BAD]
    omega
  · obtain ⟨q, hq⟩ := policeCommitted_frame p.inst s (activated p s)
    rw [h, hq]
    exact ⟨rfl, ⟨fun _ => rfl, fun _ => rfl⟩, fun _ _ => rfl⟩

/-- A page's words come into the active copy at once (R103). -/
theorem applyPage_shows (p : Page) (s : State) :
    dirty (applyPage p s) p = false ∧ armed (applyPage p s) p = armed s p ∧
      getBit (applyPage p s) (Reg.SHADOW_STATUS p) 4 = getBit s (Reg.SHADOW_STATUS p) 4 ∧
      getBit (applyPage p s) (Reg.SHADOW_STATUS p) 3 = getBit s (Reg.SHADOW_STATUS p) 3 ∧
      getF (applyPage p s) (Reg.GEN p) 0 16 = (getF s (Reg.GEN p) 0 16 + 1) % 2 ^ 16 := by
  obtain ⟨-, -, hheader⟩ := applyPage_activated p s
  have hne : Reg.GEN p ≠ Reg.SHADOW_STATUS p := by simp [Reg.GEN, Reg.SHADOW_STATUS]
  have hbit : ∀ i, getBit (applyPage p s) (Reg.SHADOW_STATUS p) i = getBit (setB (Reg.SHADOW_STATUS p) 0 false s) (Reg.SHADOW_STATUS p) i :=
    fun i => congrArg (bitOf · i) ((hheader 0x20 (by decide)).trans (reg_setF_other _ _ _ _ hne))
  refine ⟨?_, ?_, ?_, ?_, ?_⟩
  · exact (hbit 0).trans (getBit_setB_same _ _ _ _ (by decide))
  · exact (hbit 1).trans (getBit_setB_beside _ _ _ _ _ (by decide) (by decide))
  · exact (hbit 4).trans (getBit_setB_beside _ _ _ _ _ (by decide) (by decide))
  · exact (hbit 3).trans (getBit_setB_beside _ _ _ _ _ (by decide) (by decide))
  · have hgen := hheader 0x24 (by decide)
    refine (congrArg (fld · 0 16) hgen).trans ((getF_setF_same _ _ _ _ _ (by decide)).trans ?_)
    exact congrArg (fun w => (fld w 0 16 + 1) % 2 ^ 16) (reg_setB_other _ _ _ hne.symm)

/-! ### DISCARD (R106) -/

/-- The words that DISCARD returns the shadow of a page to: those being applied where a column commit is under way, and the active ones. -/
def discardSource (p : Page) (s : State) : SMap Word :=
  match SMap.get (fun _ => none) s.colCommit p.inst with
  | some v => if p.kind = .col then v.words else s.active
  | none => s.active

/-- The register store with the shadowed words of a page taken from another. -/
def shadowFrom (p : Page) (src : SMap Word) (s : State) : SMap Word :=
  (SMap.slice src (shadowRange p).1 (shadowRange p).2).foldl (fun m e => SMap.set resetWord m e.1 e.2)
    (SMap.keep (fun k => !((shadowRange p).1 ≤ k && k < (shadowRange p).1 + (shadowRange p).2 && isShadowed k)) s.regs)

theorem discardWrite_eq (p : Page) (s : State) :
    discardWrite p s = setB (Reg.SHADOW_STATUS p) 4 false (setB (Reg.SHADOW_STATUS p) 3 false (setB (Reg.SHADOW_STATUS p) 1 false
      (setB (Reg.SHADOW_STATUS p) 0 false { s with regs := shadowFrom p (discardSource p s) s }))) := rfl

theorem reg_discardWrite {a : Nat} (h : a ≠ Reg.SHADOW_STATUS p) :
    reg (discardWrite p s) a = SMap.get resetWord (shadowFrom p (discardSource p s) s) a := by
  rw [discardWrite_eq, reg_setB_other _ _ _ h.symm, reg_setB_other _ _ _ h.symm, reg_setB_other _ _ _ h.symm, reg_setB_other _ _ _ h.symm]
  rfl

theorem discardWrite_frame : ∃ r, discardWrite p s = { s with regs := r } := by
  rw [discardWrite_eq]
  exact (((((OnlyRegs.refl [Reg.SHADOW_STATUS p] { s with regs := shadowFrom p (discardSource p s) s }).setB _ _ (by simp)).setB _ _
    (by simp)).setB _ _ (by simp)).setB _ _ (by simp)).1

theorem discardWrite_shows : dirty (discardWrite p s) p = false ∧ armed (discardWrite p s) p = false ∧
    getBit (discardWrite p s) (Reg.SHADOW_STATUS p) 4 = false := by
  simp [discardWrite_eq, armed, dirty, getBit_setB_same, getBit_setB_beside]

/-- A shadowed word of the page is the one of the source, in canonical form. -/
theorem get_shadowFrom_in {src : SMap Word} (hw : Registers.wf src = true) {a : Nat} (ha : isShadowed a = true) (h1 : (shadowRange p).1 ≤ a)
    (h2 : a < (shadowRange p).1 + (shadowRange p).2) : SMap.get resetWord (shadowFrom p src s) a = SMap.get resetWord src a := by
  have hrise : SMap.rising 0 (SMap.slice src (shadowRange p).1 (shadowRange p).2) = true := SMap.rising_filter _ (SMap.wf_iff.1 hw).1
  rw [shadowFrom, SMap.get_foldl_set_rising _ hrise, SMap.get_slice, if_pos ⟨h1, h2⟩]
  exact SMap.get_congr src (by rw [SMap.get_keep, if_neg (by simp [ha, h1, h2])])

/-- A word outside the page's shadow stands. -/
theorem get_shadowFrom_out (src : SMap Word) {a : Nat} (h : a < (shadowRange p).1 ∨ (shadowRange p).1 + (shadowRange p).2 ≤ a) :
    SMap.get resetWord (shadowFrom p src s) a = reg s a := by
  have hno : ∀ e ∈ SMap.slice src (shadowRange p).1 (shadowRange p).2, e.1 ≠ a := fun e he => by
    have := SMap.mem_slice he
    omega
  rw [shadowFrom, SMap.get_foldl_set_other _ _ hno, SMap.get_keep, if_pos]
  · rfl
  · simp only [Bool.not_eq_true', Bool.and_eq_false_iff, decide_eq_false_iff_not]
    omega

/-! ### What the three commands come to (R103 to R106) -/

theorem disarmed_keeps : (disarmed p s).active = s.active ∧ (disarmed p s).colCommit = s.colCommit ∧ SameBytes s (disarmed p s) :=
  ⟨rfl, rfl, disarmed_frame.toOut.sameBytes⟩

theorem reg_disarmed {a : Nat} (h : a ≠ Reg.SHADOW_STATUS p) : reg (disarmed p s) a = reg s a := disarmed_frame.2 a (by simpa using h)

theorem ne_shadowStatus (hp : p.present s.variant = true) {a : Nat} (ha : isShadowed a = true) : a ≠ Reg.SHADOW_STATUS p := by
  rintro rfl
  exact Bool.false_ne_true ((isShadowed_header hp (by decide)).symm.trans ha)

/-- COMMIT of a page other than a column. -/
theorem commitWrite_page_does (hp : p.present s.variant = true) (h : applying s p = false) (hd : dirty s p = true) (hk : p.kind ≠ .col) :
    dirty (commitWrite p s) p = false ∧ armed (commitWrite p s) p = false ∧ getBit (commitWrite p s) (Reg.SHADOW_STATUS p) 4 = false ∧
      getBit (commitWrite p s) (Reg.SHADOW_STATUS p) 3 = false ∧
      getF (commitWrite p s) (Reg.GEN p) 0 16 = (getF s (Reg.GEN p) 0 16 + 1) % 2 ^ 16 ∧
      (∀ a, isShadowed a = true → (shadowRange p).1 ≤ a → a < (shadowRange p).1 + (shadowRange p).2 → act (commitWrite p s) a = reg s a) ∧
      (∀ a, a < (shadowRange p).1 ∨ (shadowRange p).1 + (shadowRange p).2 ≤ a → act (commitWrite p s) a = act s a) ∧
      SameBytes s (commitWrite p s) := by
  obtain ⟨harmed, hrefused, hdeferred, -⟩ := disarmed_bits (p := p) (s := s)
  obtain ⟨hdirty, harmed', hdeferred', hrefused', hgen⟩ := applyPage_shows p (disarmed p s)
  obtain ⟨hact, ⟨hmem, hdram⟩, -⟩ := applyPage_activated p (disarmed p s)
  obtain ⟨-, -, hmem', hdram'⟩ := disarmed_keeps (p := p) (s := s)
  have hne : Reg.GEN p ≠ Reg.SHADOW_STATUS p := by simp [Reg.GEN, Reg.SHADOW_STATUS]
  rw [commitWrite_page h hd hk]
  refine ⟨hdirty, harmed'.trans harmed, hdeferred'.trans hdeferred, hrefused'.trans hrefused, ?_, fun a ha h1 h2 => ?_, fun a ha => ?_,
    fun a => (hmem a).trans (hmem' a), fun a => (hdram a).trans (hdram' a)⟩
  · rw [hgen, getF, reg_disarmed hne]
    rfl
  · rw [act, hact]
    refine (SMap.get_replaceRange_in _ _ _ h1 h2).trans ?_
    rw [get_shadowWords ha h1 h2, reg_disarmed (ne_shadowStatus hp ha)]
  · rw [act, hact]
    exact SMap.get_replaceRange_out _ _ (fun e he => mem_shadowWords he) ha

/-- COMMIT of a column. -/
theorem commitWrite_col_does {c : Nat} (hp : (colPage c).present s.variant = true) (h : applying s (colPage c) = false)
    (hd : dirty s (colPage c) = true) :
    dirty (commitWrite (colPage c) s) (colPage c) = false ∧ applying (commitWrite (colPage c) s) (colPage c) = true ∧
      armed (commitWrite (colPage c) s) (colPage c) = false ∧ (commitWrite (colPage c) s).active = s.active ∧
      (∃ v, SMap.get (fun _ => none) (commitWrite (colPage c) s).colCommit c = some v ∧ v.cells = colCells c ∧
        ∀ a, isShadowed a = true → (shadowRange (colPage c)).1 ≤ a → a < (shadowRange (colPage c)).1 + (shadowRange (colPage c)).2 →
          SMap.get resetWord v.words a = reg s a) ∧
      OnlyRegs [Reg.SHADOW_STATUS (colPage c), Reg.STATUS (colPage c)] { s with colCommit := (commitWrite (colPage c) s).colCommit }
        (commitWrite (colPage c) s) := by
  obtain ⟨harmed, -, -, -⟩ := disarmed_bits (p := colPage c) (s := s)
  obtain ⟨hdirty, happlying, harmed'⟩ := captureCol_shows c (disarmed (colPage c) s)
  have hcol : commitWrite (colPage c) s = captureCol c (disarmed (colPage c) s) := commitWrite_col h hd rfl
  rw [hcol]
  have hact := (captureCol_active c (disarmed (colPage c) s)).trans disarmed_keeps.1
  have hheld := captureCol_colCommit_get c (disarmed (colPage c) s)
  refine ⟨hdirty, happlying, harmed'.trans harmed, hact, ⟨_, hheld, rfl, fun a ha h1 h2 => ?_⟩, ?_⟩
  · rw [get_shadowWords ha h1 h2, reg_disarmed (ne_shadowStatus hp ha)]
  · obtain ⟨⟨r, hr⟩, hrest⟩ := captureCol_frame c (disarmed (colPage c) s)
    obtain ⟨⟨r', hr'⟩, -⟩ := disarmed_frame (p := colPage c) (s := s)
    refine ⟨⟨r, ?_⟩, fun a ha => ?_⟩
    · rw [captureCol_colCommit]
      refine hr.trans ?_
      unfold holdCommit
      rw [hr']
    · show reg _ a = reg s a
      rw [hrest a ha, reg_holdCommit]
      exact reg_disarmed (fun e => ha (by simp [e]))

/-- DISCARD. -/
theorem discardWrite_returns {a : Nat} (hp : p.present s.variant = true) (ha : isShadowed a = true) (h1 : (shadowRange p).1 ≤ a)
    (h2 : a < (shadowRange p).1 + (shadowRange p).2) (hw : Registers.wf (discardSource p s) = true) :
    reg (discardWrite p s) a = SMap.get resetWord (discardSource p s) a :=
  (reg_discardWrite (ne_shadowStatus hp ha)).trans (get_shadowFrom_in hw ha h1 h2)

theorem discardSource_active (h : p.kind ≠ .col ∨ SMap.get (fun _ => none) s.colCommit p.inst = none) : discardSource p s = s.active := by
  unfold discardSource
  obtain hk | hn := h
  · split
    · exact if_neg hk
    · rfl
  · rw [hn]

theorem discardSource_applying {v : ColCommit} (hk : p.kind = .col) (h : SMap.get (fun _ => none) s.colCommit p.inst = some v) :
    discardSource p s = v.words := by
  unfold discardSource
  rw [h]
  exact if_pos hk

end Sys2Proof.Machine
end

section
/-! PROOF. A cell's boundary brings the captured entries of its slots into effect (R33, R105): what a committed entry does to its slot leaves
the active copy, the commits in progress and every page's GEN as they are. -/

namespace Sys2Proof.Machine

open Sys2Proof

/-- The active copy, the column commits in progress and the words at the place of GEN in a page are as before. -/
structure KeepsCommits (s t : State) : Prop where
  active : t.active = s.active
  colCommit : t.colCommit = s.colCommit
  gen : ∀ a, a % 64 = 0x24 → reg t a = reg s a

namespace KeepsCommits

variable {s t : State}

theorem refl (s : State) : KeepsCommits s s := ⟨rfl, rfl, fun _ _ => rfl⟩

/-! ### Through the operations on the state -/

theorem setReg (h : KeepsCommits s t) {a : Nat} (v : Word) (ha : a % 64 ≠ 0x24) : KeepsCommits s (setReg a v t) :=
  ⟨h.active, h.colCommit, fun b hb => (reg_setReg_other _ _ (by omega)).trans (h.gen b hb)⟩

theorem setF (h : KeepsCommits s t) {a : Nat} (lo w v : Nat) (ha : a % 64 ≠ 0x24) : KeepsCommits s (setF a lo w v t) := h.setReg _ ha

theorem setB (h : KeepsCommits s t) {a : Nat} (i : Nat) (b : Bool) (ha : a % 64 ≠ 0x24) : KeepsCommits s (setB a i b t) := h.setReg _ ha

theorem setInt (h : KeepsCommits s t) (p : Page) (i : Nat) : KeepsCommits s (setInt p i t) := by
  have ha : Reg.INT_STATUS p % 64 ≠ 0x24 := by
    have := pageBase_mod p
    unfold Reg.INT_STATUS
    omega
  have hb := h.setB i true ha
  unfold Machine.setInt intEdge
  split
  · exact ⟨hb.active, hb.colCommit, hb.gen⟩
  · exact hb

theorem ite (c : Prop) [Decidable c] {u v : State} (hu : KeepsCommits s u) (hv : KeepsCommits s v) : KeepsCommits s (if c then u else v) := by
  split
  · exact hu
  · exact hv

theorem whenB (h : KeepsCommits s t) (b : Bool) {f : State → State} (hf : KeepsCommits s (f t)) : KeepsCommits s (whenB b f t) := by
  cases b
  · exact h
  · exact hf

theorem forEach {α : Type} (h : KeepsCommits s t) (l : List α) (f : α → State → State)
    (hf : ∀ x ∈ l, ∀ u, KeepsCommits s u → KeepsCommits s (f x u)) : KeepsCommits s (forEach l f t) := forEach_keeps _ f l hf h

theorem setChannel (h : KeepsCommits s t) (n : Nat) (ch : EoChannel) : KeepsCommits s (setChannel n ch t) := ⟨h.active, h.colCommit, h.gen⟩

theorem setHeater (h : KeepsCommits s t) (n : Nat) (x : Heater) : KeepsCommits s (setHeater n x t) := ⟨h.active, h.colCommit, h.gen⟩

theorem setCell (h : KeepsCommits s t) (n : Nat) (c : LoopCell) : KeepsCommits s (setCell n c t) := ⟨h.active, h.colCommit, h.gen⟩

theorem emit (h : KeepsCommits s t) (e : Emission) : KeepsCommits s (emit e t) := ⟨h.active, h.colCommit, h.gen⟩

/-! ### Through what a channel plays (R199, R215) -/

theorem countClips (h : KeepsCommits s t) (n k : Nat) : KeepsCommits s (countClips n k t) := by
  unfold Machine.countClips
  split
  · exact h
  · exact ((h.setF _ _ _ (by unfold Reg.EO_COL_COUNT_A; omega)).setChannel _ _).setInt _ _

theorem setStreamState (h : KeepsCommits s t) (n v : Nat) : KeepsCommits s (setStreamState n v t) :=
  (h.setF _ _ _ (by unfold Reg.SIPH_STATUS; omega)).setB _ _ (by decide)

theorem streamEnds (h : KeepsCommits s t) (n k : Nat) : KeepsCommits s (streamEnds n k t) := by
  have ha : Reg.SIPH_STATUS n % 64 ≠ 0x24 := by unfold Reg.SIPH_STATUS; omega
  unfold Machine.streamEnds
  split
  · exact h
  · exact ((h.setF _ _ _ ha).setF _ _ _ ha).countClips _ _

theorem abandonStream (h : KeepsCommits s t) (n : Nat) (preempt : Bool) : KeepsCommits s (abandonStream n preempt t) := by
  unfold Machine.abandonStream
  split
  · exact h
  · next m _ =>
    have h1 := (h.streamEnds m (streamedBy t m t.time.uptime)).setStreamState m 0
    dsimp only
    split
    · exact (h1.setB _ _ (by unfold Reg.SIPH_STATUS; omega)).setInt _ _
    · exact h1

theorem chainCut (h : KeepsCommits s t) (n : Nat) : KeepsCommits s (chainCut n t) :=
  ((h.countClips _ _).setF _ _ _ (by unfold Reg.EO_COL_COUNT_C; omega)).setInt _ _

theorem dropPending (h : KeepsCommits s t) (n : Nat) : KeepsCommits s (dropPending n t) := by
  unfold Machine.dropPending
  split
  · exact ((h.setChannel _ _).setF _ _ _ (by unfold Reg.EO_COL_COUNT_A; omega)).setInt _ _
  · exact h

theorem abandon (h : KeepsCommits s t) (n : Nat) : KeepsCommits s (abandon n t) := by
  have h1 := (h.dropPending n).abandonStream n false
  unfold Machine.abandon
  dsimp only
  split
  · exact h1.chainCut n
  · exact h1

theorem eoPark (h : KeepsCommits s t) (forced : Bool) (n : Nat) : KeepsCommits s (eoPark forced n t) := (h.abandon n).setChannel _ _

theorem followLevel (h : KeepsCommits s t) (n : Nat) : KeepsCommits s (followLevel n t) := by
  unfold Machine.followLevel
  refine ite _ h ?_
  split <;> exact h.setChannel _ _

/-! ### Through what its driver stage and its loop hold (R35, R247, R258, R262, R268, R294, R301, R358) -/

theorem noteClip (h : KeepsCommits s t) (n : Nat) : KeepsCommits s (noteClip n t) :=
  (h.setHeater _ _).whenB _ ((h.setHeater _ _).setF _ _ _ (by unfold Reg.HTR_COUNT_A; omega))

theorem presetCode (h : KeepsCommits s t) (n code : Nat) : KeepsCommits s (presetCode n code t) := (h.setHeater _ _).noteClip _

theorem presetSlot (h : KeepsCommits s t) (n : Nat) : KeepsCommits s (presetSlot n t) := h.setCell _ _

theorem leaveLoop (h : KeepsCommits s t) (n : Nat) : KeepsCommits s (leaveLoop n t) := (h.setCell _ _).setCell _ _

theorem ditherFrom (h : KeepsCommits s t) (n : Nat) : KeepsCommits s (ditherFrom n t) := ⟨h.active, h.colCommit, h.gen⟩

theorem ncoChange (h : KeepsCommits s t) (before : State) (n : Nat) : KeepsCommits s (ncoChange before n t) :=
  ite _ h ⟨h.active, h.colCommit, h.gen⟩

theorem showMeasBad (h : KeepsCommits s t) (n : Nat) : KeepsCommits s (showMeasBad n t) := h.setB _ _ (by unfold Reg.LOOP_SLOT_STATUS; omega)

/-- What a committed entry does to its slot. -/
theorem slotEffects (atEpoch : Bool) (before : State) (n : Nat) (s : State) : KeepsCommits s (slotEffects atEpoch before n s) := by
  unfold Machine.slotEffects
  extract_lets r old ch a c c1 s1 spanChanged s2 s3 s4
  have h : KeepsCommits s s := refl s
  have h1 : KeepsCommits s s1 :=
    ite _ (ite _ (h.eoPark _ _) (ite _ (h.setChannel _ _) h))
      (ite _ (ite _ (h.setChannel _ _) (h.setChannel _ _)) (ite _ h (h.followLevel _)))
  have h2 : KeepsCommits s s2 := ite _ (h1.presetCode _ _) (ite _ (h1.presetCode _ _) (ite _ (h1.noteClip _) h1))
  have h3 : KeepsCommits s s3 :=
    ite _ (h2.forEach _ _ fun _ _ _ hu => hu.presetSlot _) (ite _ (h2.presetSlot _) (ite _ (h2.leaveLoop _) h2))
  have h4 : KeepsCommits s s4 := ite _ (h3.ditherFrom _) h3
  exact (h4.ncoChange _ _).showMeasBad _

/-! ### Through the ring and the loads (R165, R302, R303, R421) -/

theorem stampLanes (h : KeepsCommits s t) (before : State) : KeepsCommits s (stampLanes before t) := by
  refine h.forEach _ _ fun l _ u hu => ?_
  split
  · exact ⟨hu.active, hu.colCommit, hu.gen⟩
  · exact hu

theorem hopSend (h : KeepsCommits s t) (kind count hopClass : Nat) (forwarded : Bool) (ls : List Nat) (hop : Nat) :
    KeepsCommits s (hopSend kind count hopClass forwarded ls hop t) := by
  unfold Machine.hopSend
  refine stampLanes ?_ _
  exact ⟨h.active, h.colCommit, h.gen⟩

theorem ringSend (h : KeepsCommits s t) (kind mask : Nat) (content : List Nat) : KeepsCommits s (ringSend kind mask content t) := by
  unfold Machine.ringSend
  extract_lets m dests hops count
  exact ite _ h ((h.forEach _ _ fun _ _ _ hu => hu.hopSend _ _ _ _ _ _).emit _)

theorem reportRole (h : KeepsCommits s t) (before : State) (n : Nat) : KeepsCommits s (reportRole before n t) :=
  ite _ h (h.ringSend _ _ _)

theorem refreshLoad (h : KeepsCommits s t) (cell : Nat) : KeepsCommits s (refreshLoad cell t) := by
  have hload : ∀ k, Reg.PE_LOAD k % 64 ≠ 0x24 := fun k => by unfold Reg.PE_LOAD; omega
  exact ((h.setReg _ (by unfold Reg.CELL_COST; omega)).setReg _ (hload _)).setReg _ (hload _)

theorem refreshStatus (h : KeepsCommits s t) (p : Page) : KeepsCommits s (refreshStatus p t) := by
  have ha : Reg.STATUS p % 64 ≠ 0x24 := by
    have := pageBase_mod p
    unfold Reg.STATUS
    omega
  exact ((h.setB _ _ ha).setB _ _ ha).setB _ _ ha

end KeepsCommits

/-! ### A cell's boundary (R33, R105) -/

variable {s : State}

/-- A slot's captured entry in the active copy, before it takes effect. -/
def enterSlot (words : SMap Word) (n : Nat) (s : State) : State :=
  { s with active := replaceRange (Reg.SLOT_CFG n) 64 (SMap.slice words (Reg.SLOT_CFG n) 64) s.active }

theorem applySlot_keeps (atEpoch : Bool) (words : SMap Word) (n : Nat) (s : State) :
    KeepsCommits (enterSlot words n s) (applySlot atEpoch words n s) :=
  (KeepsCommits.slotEffects atEpoch s n (enterSlot words n s)).reportRole s n

/-- The active copy takes the 64 bytes of the slot's entry from the captured words, and nothing else. -/
theorem act_applySlot (atEpoch : Bool) (words : SMap Word) (n : Nat) (s : State) (a : Nat) :
    act (applySlot atEpoch words n s) a =
      if Reg.SLOT_CFG n ≤ a ∧ a < Reg.SLOT_CFG n + 64 then SMap.get resetWord words a else act s a := by
  rw [act, (applySlot_keeps atEpoch words n s).active, enterSlot]
  split
  · next h => rw [SMap.get_replaceRange_in _ _ _ h.1 h.2, SMap.get_slice, if_pos h]
  · exact SMap.get_replaceRange_out _ _ (fun e he => SMap.mem_slice he) (by omega)

/-- The same over several slots. -/
theorem forEach_applySlot (atEpoch : Bool) (words : SMap Word) (l : List Nat) (s : State) :
    (forEach l (applySlot atEpoch words) s).colCommit = s.colCommit ∧
      (∀ a, a % 64 = 0x24 → reg (forEach l (applySlot atEpoch words) s) a = reg s a) ∧
      (∀ n k, n ∈ l → k < 16 → act (forEach l (applySlot atEpoch words) s) (Reg.SLOT_CFG n + 4 * k) = SMap.get resetWord words (Reg.SLOT_CFG n + 4 * k)) ∧
      (∀ n k, n ∉ l → k < 16 → act (forEach l (applySlot atEpoch words) s) (Reg.SLOT_CFG n + 4 * k) = act s (Reg.SLOT_CFG n + 4 * k)) := by
  induction l generalizing s with
  | nil => exact ⟨rfl, fun _ _ => rfl, fun n k hn => absurd hn List.not_mem_nil, fun _ _ _ _ => rfl⟩
  | cons m r ih =>
    obtain ⟨hcol, hgen, hin, hout⟩ := ih (applySlot atEpoch words m s)
    have hkeep := applySlot_keeps atEpoch words m s
    have hplace : ∀ n k, k < 16 → (Reg.SLOT_CFG m ≤ Reg.SLOT_CFG n + 4 * k ∧ Reg.SLOT_CFG n + 4 * k < Reg.SLOT_CFG m + 64 ↔ n = m) := by
      intro n k hk
      unfold Reg.SLOT_CFG
      omega
    refine ⟨hcol.trans hkeep.colCommit, fun a ha => (hgen a ha).trans (hkeep.gen a ha), fun n k hn hk => ?_, fun n k hn hk => ?_⟩
    · by_cases hr : n ∈ r
      · exact hin n k hr hk
      · obtain rfl := (List.mem_cons.1 hn).resolve_right hr
        exact (hout n k hr hk).trans ((act_applySlot _ _ _ _ _).trans (if_pos ((hplace n k hk).2 rfl)))
    · rw [List.mem_cons, not_or] at hn
      exact (hout n k hn.2 hk).trans ((act_applySlot _ _ _ _ _).trans (if_neg (mt (hplace n k hk).1 hn.1)))

theorem mem_cellSlots {cell n : Nat} : n ∈ cellSlots cell ↔ n / 4 = cell := by
  simp only [cellSlots, List.mem_map, List.mem_range]
  constructor
  · rintro ⟨i, hi, rfl⟩
    omega
  · intro h
    exact ⟨n % 4, Nat.mod_lt _ (by decide), by omega⟩

/-- The column commit with a cell taken off those that are to follow. -/
def cellLeft (cell : Nat) (v : ColCommit) (s : State) : State :=
  { s with colCommit := SMap.set (fun _ => none) s.colCommit (cell / 64) (some { v with cells := v.cells.erase cell }) }

/-- After a cell has followed: the cell is off the list, its slots have their words, and its load shows. -/
def cellFollows (cell : Nat) (v : ColCommit) (s : State) : State :=
  refreshLoad cell (forEach (cellSlots cell) (applySlot false v.words) (cellLeft cell v s))

theorem cellFollows_does (cell : Nat) (v : ColCommit) (s : State) :
    (∀ n k, n / 4 = cell → k < 16 → act (cellFollows cell v s) (Reg.SLOT_CFG n + 4 * k) = SMap.get resetWord v.words (Reg.SLOT_CFG n + 4 * k)) ∧
      (∀ n k, n / 4 ≠ cell → k < 16 → act (cellFollows cell v s) (Reg.SLOT_CFG n + 4 * k) = act s (Reg.SLOT_CFG n + 4 * k)) ∧
      SMap.get (fun _ => none) (cellFollows cell v s).colCommit (cell / 64) = some { v with cells := v.cells.erase cell } ∧
      ∀ a, a % 64 = 0x24 → reg (cellFollows cell v s) a = reg s a := by
  obtain ⟨hcol, hgen, hin, hout⟩ := forEach_applySlot false v.words (cellSlots cell) (cellLeft cell v s)
  have hload := (KeepsCommits.refl (forEach (cellSlots cell) (applySlot false v.words) (cellLeft cell v s))).refreshLoad cell
  have hact : ∀ a, act (cellFollows cell v s) a = act (forEach (cellSlots cell) (applySlot false v.words) (cellLeft cell v s)) a :=
    fun a => congrArg (SMap.get resetWord · a) hload.active
  refine ⟨fun n k hn hk => ?_, fun n k hn hk => ?_, ?_, fun a ha => (hload.gen a ha).trans (hgen a ha)⟩
  · exact (hact _).trans (hin n k (mem_cellSlots.2 hn) hk)
  · exact (hact _).trans (hout n k (mt mem_cellSlots.1 hn) hk)
  · rw [cellFollows, hload.colCommit, hcol, cellLeft, SMap.get_set_same]

theorem exec_slotCommitTakesEffect {cell : Fin 640} {v : ColCommit} (h : SMap.get (fun _ => none) s.colCommit (cell.val / 64) = some v)
    (hc : cell.val ∈ v.cells) :
    exec (.slotCommitTakesEffect cell) s =
      .next (if v.cells.erase cell.val = [] then colCommitDone (cell.val / 64) (cellFollows cell.val v s) else cellFollows cell.val v s) := by
  show execSlotCommitTakesEffect cell s = _
  unfold execSlotCommitTakesEffect
  dsimp only
  rw [h]
  simp only [List.contains_iff_mem.2 hc, if_true, List.isEmpty_iff]
  rfl

/-- A column commit that has taken effect in every cell ends, and GEN moves on (R105). -/
theorem colCommitDone_ends (c : Nat) (s : State) :
    SMap.get (fun _ => none) (colCommitDone c s).colCommit c = none ∧ applying (colCommitDone c s) (colPage c) = false ∧
      getF (colCommitDone c s) (Reg.GEN (colPage c)) 0 16 = (getF s (Reg.GEN (colPage c)) 0 16 + 1) % 2 ^ 16 ∧
      (colCommitDone c s).active = s.active := by
  have h1 : Reg.STATUS (colPage c) ≠ Reg.GEN (colPage c) ∧ Reg.STATUS (colPage c) ≠ Reg.SHADOW_STATUS (colPage c) ∧
      Reg.GEN (colPage c) ≠ Reg.SHADOW_STATUS (colPage c) := by simp [Reg.STATUS, Reg.GEN, Reg.SHADOW_STATUS]
  obtain ⟨hgen, hshadow, hne⟩ := h1
  refine ⟨?_, ?_, ?_, rfl⟩
  · show SMap.get (fun _ => none) (SMap.set (fun _ => none) s.colCommit c none) c = none
    exact SMap.get_set_same _ _ _ _
  · unfold colCommitDone applying getBit wrapF
    rw [reg_refreshStatus_other _ _ hshadow, reg_setF_other _ _ _ _ hne]
    exact getBit_setB_same _ _ _ _ (by decide)
  · unfold colCommitDone getF
    rw [reg_refreshStatus_other _ _ hgen]
    refine (getF_setF_same _ _ _ _ _ (by decide)).trans ?_
    exact congrArg (fun w => (fld w 0 16 + 1) % 2 ^ 16) (reg_setB_other _ _ _ hne.symm)

/-- At its loop-cycle boundary a cell takes its captured words, and the last one ends the commit (R33, R105). -/
theorem slotCommit_takesEffect {cell : Fin 640} {v : ColCommit} (h : SMap.get (fun _ => none) s.colCommit (cell.val / 64) = some v)
    (hc : cell.val ∈ v.cells) :
    ∃ t, exec (.slotCommitTakesEffect cell) s = .next t ∧
      (∀ n k, n / 4 = cell.val → k < 16 → act t (Reg.SLOT_CFG n + 4 * k) = SMap.get resetWord v.words (Reg.SLOT_CFG n + 4 * k)) ∧
      (∀ n k, n / 4 ≠ cell.val → k < 16 → act t (Reg.SLOT_CFG n + 4 * k) = act s (Reg.SLOT_CFG n + 4 * k)) ∧
      (v.cells.erase cell.val = [] →
        SMap.get (fun _ => none) t.colCommit (cell.val / 64) = none ∧ applying t (colPage (cell.val / 64)) = false ∧
        getF t (Reg.GEN (colPage (cell.val / 64))) 0 16 = (getF s (Reg.GEN (colPage (cell.val / 64))) 0 16 + 1) % 2 ^ 16) ∧
      (v.cells.erase cell.val ≠ [] →
        SMap.get (fun _ => none) t.colCommit (cell.val / 64) = some { v with cells := v.cells.erase cell.val } ∧
        reg t (Reg.GEN (colPage (cell.val / 64))) = reg s (Reg.GEN (colPage (cell.val / 64)))) := by
  obtain ⟨hin, hout, hcol, hgen⟩ := cellFollows_does cell.val v s
  have hgen := hgen (Reg.GEN (colPage (cell.val / 64))) (by simp only [Reg.GEN, colPage, pageBase]; omega)
  refine ⟨_, exec_slotCommitTakesEffect h hc, ?_⟩
  by_cases hlast : v.cells.erase cell.val = []
  · obtain ⟨hnone, hshown, hmoved, hact⟩ := colCommitDone_ends (cell.val / 64) (cellFollows cell.val v s)
    have hact : ∀ a, act (colCommitDone (cell.val / 64) (cellFollows cell.val v s)) a = act (cellFollows cell.val v s) a :=
      fun a => congrArg (SMap.get resetWord · a) hact
    rw [if_pos hlast]
    refine ⟨fun n k hn hk => (hact _).trans (hin n k hn hk), fun n k hn hk => (hact _).trans (hout n k hn hk), fun _ => ⟨hnone, hshown, ?_⟩,
      fun h => absurd hlast h⟩
    rw [hmoved, getF, hgen]
    rfl
  · rw [if_neg hlast]
    exact ⟨hin, hout, fun h => absurd h hlast, fun _ => ⟨hcol, hgen⟩⟩

/-- Settles O17, command by command: what each does to SHADOW_STATUS, to the captured words, and at a cell's boundary to the active copy. -/
theorem shadowCommandsFollowTheCommitTable : Obligations.ShadowCommandsFollowTheCommitTable := by
  unfold Obligations.ShadowCommandsFollowTheCommitTable
  refine ⟨fun req p s hp h ha hd hk => ?_, fun req p s hp h ha hd => ?_, fun req p s hp h ha hd hk => ?_, fun req p s hp h ha => ?_,
    fun req p s hp h => ⟨_, exec_commitAtEpoch h, armWrite_sets.1, armWrite_sets.2.1, armWrite_sets.2.2.1, armWrite_sets.2.2.2⟩,
    fun req p s hp h => ?_, fun cell s v h hc => slotCommit_takesEffect h hc⟩
  · exact ⟨_, exec_commit h, commitWrite_page_does hp ha hd hk⟩
  · obtain ⟨harmed, hrefused, -, hdirty⟩ := disarmed_bits (p := p) (s := s)
    refine ⟨_, exec_commit h, ?_⟩
    rw [commitWrite_clean ha hd]
    exact ⟨hdirty.trans hd, harmed, hrefused, disarmed_frame⟩
  · obtain ⟨k, c⟩ := p
    obtain rfl : k = .col := hk
    exact ⟨_, exec_commit h, commitWrite_col_does hp ha hd⟩
  · exact ⟨_, exec_commit h, commitWrite_applying ha⟩
  · obtain ⟨hdirty, harmed, hdeferred⟩ := discardWrite_shows (p := p) (s := s)
    refine ⟨_, exec_discard h, hdirty, harmed, hdeferred, fun hsrc a ha h1 h2 hw => ?_, fun v hk hv hw a ha h1 h2 => ?_, fun a hne hout => ?_,
      discardWrite_frame⟩
    · have hsrc := discardSource_active hsrc
      rw [discardWrite_returns hp ha h1 h2 (by rw [hsrc]; exact hw), hsrc]
      rfl
    · have hsrc := discardSource_applying hk hv
      rw [discardWrite_returns hp ha h1 h2 (by rw [hsrc]; exact hw), hsrc]
    · exact (reg_discardWrite hne).trans (get_shadowFrom_out _ hout)

end Sys2Proof.Machine
end

section
/-! PROOF. What an operation leaves alone of what priming and parking watch: the words of the GLB, PWR, CLK, HEAT and FLT pages beyond
their headers, which wells are lost, and, of the outputs, which cells close their loops and what every channel does. -/

namespace Sys2Proof.Machine

open Sys2Proof

/-- An epoch with a serial stands in the list without having been applied. -/
def Unapplied (s : State) (i : Nat) : Prop := ∃ e ∈ s.epochs, e.id = i ∧ e.applied = false

/-- The watched words are as before, of GLB_PRIME_STATUS the stage, and so are the lost wells, the path's record and the clock; where `outputs`
is set, so are HELD, the cells in AUTO and the state of every channel. No epoch becomes an unapplied one. -/
structure Steady (outputs : Bool) (s t : State) : Prop where
  word : ∀ a, a < 0x5000 → 0x40 ≤ a % 0x1000 → a ≠ Reg.GLB_PRIME_STATUS → reg t a = reg s a
  stage : stage t = stage s
  lost : ∀ w, w < 304 → wellLost t w = wellLost s w
  prime : t.prime = s.prime
  time : t.time = s.time
  variant : t.variant = s.variant
  bias : t.biasOn = s.biasOn
  held : outputs = true → getBit t Reg.GLB_PRIME_STATUS 4 = getBit s Reg.GLB_PRIME_STATUS 4
  auto : outputs = true → ∀ m, cellAuto t m = cellAuto s m
  seq : outputs = true → ∀ n, (channel t n).state = (channel s n).state
  unapplied : ∀ i, Unapplied t i → Unapplied s i

/-- An address at which no watched word, WELL_STATUS or CELL_STATUS stands. -/
abbrev Unwatched (a : Nat) : Prop :=
  (0x5000 ≤ a ∨ a % 0x1000 < 0x40) ∧
    (a < 0x100000 ∨ (0x200000 ≤ a ∧ a < 0x280000) ∨ (0x2B0000 ≤ a ∧ a < 0x1800000) ∨ (a % 0x1000 ≠ 4 ∧ a % 0x1000 ≠ 0x44))

theorem wellBase_place (w : Nat) : wellBase w % 0x1000 = 0 ∧ 0x100000 ≤ wellBase w := by unfold wellBase; split <;> omega

theorem wellStatus_place {w : Nat} (h : w < 304) :
    Reg.WELL_STATUS w % 0x1000 = 0x44 ∧ 0x100000 ≤ Reg.WELL_STATUS w ∧ Reg.WELL_STATUS w < 0x2B0000 ∧
      (Reg.WELL_STATUS w < 0x200000 ∨ 0x280000 ≤ Reg.WELL_STATUS w) := by
  unfold Reg.WELL_STATUS wellBase
  split <;> omega

theorem wellBase_inj {v w : Nat} (h : wellBase v = wellBase w) : v = w := by
  unfold wellBase at h
  split at h <;> split at h <;> omega

/-- A register of a well's page, WELL_STATUS apart. -/
theorem unwatched_well (w : Nat) {o : Nat} (ho : o < 0x1000) (h4 : o ≠ 4) (h44 : o ≠ 0x44) : Unwatched (wellBase w + o) := by
  have := wellBase_place w
  unfold Unwatched
  omega

/-- A register of a page's header, PAGE_REV apart. -/
theorem unwatched_header (p : Page) {o : Nat} (ho : o < 0x40) (h4 : o ≠ 4) : Unwatched (pageBase p + o) := by
  have := pageBase_mod p
  unfold Unwatched
  omega

namespace Steady

variable {b : Bool} {s t u : State}

theorem refl (b : Bool) (s : State) : Steady b s s :=
  ⟨fun _ _ _ _ => rfl, rfl, fun _ _ => rfl, rfl, rfl, rfl, rfl, fun _ => rfl, fun _ _ => rfl, fun _ _ => rfl, fun _ h => h⟩

theorem trans (h : Steady b s t) (g : Steady b t u) : Steady b s u where
  word a h1 h2 h3 := (g.word a h1 h2 h3).trans (h.word a h1 h2 h3)
  stage := g.stage.trans h.stage
  lost w hw := (g.lost w hw).trans (h.lost w hw)
  prime := g.prime.trans h.prime
  time := g.time.trans h.time
  variant := g.variant.trans h.variant
  bias := g.bias.trans h.bias
  held hb := (g.held hb).trans (h.held hb)
  auto hb m := (g.auto hb m).trans (h.auto hb m)
  seq hb n := (g.seq hb n).trans (h.seq hb n)
  unapplied i hi := h.unapplied i (g.unapplied i hi)

/-! ### Through the operations on the state -/

/-- The registers are as before, with what else is watched but the channels and the epochs. -/
theorem of_regs (hr : u.regs = t.regs) (hp : u.prime = t.prime) (ht : u.time = t.time) (hv : u.variant = t.variant) (hb : u.biasOn = t.biasOn)
    (hs : b = true → ∀ n, (channel u n).state = (channel t n).state) (he : ∀ i, Unapplied u i → Unapplied t i) : Steady b t u := by
  have hr : ∀ a, reg u a = reg t a := fun a => by rw [reg, hr, reg]
  refine ⟨fun a _ _ _ => hr a, ?_, fun w _ => ?_, hp, ht, hv, hb, fun _ => ?_, fun _ m => ?_, hs, he⟩
  · rw [Machine.stage, getF, hr, Machine.stage, getF]
  · rw [wellLost, getBit, hr, wellLost, getBit]
  · rw [getBit, hr, getBit]
  · rw [cellAuto, getBit, hr, cellAuto, getBit]

/-- What stands beside the registers, the channels, the epochs, the clock and the record of the path is not watched. -/
theorem beside (h : Steady b s t) (e : (u.regs, u.prime, u.time, u.variant, u.biasOn, u.eo, u.epochs) =
    (t.regs, t.prime, t.time, t.variant, t.biasOn, t.eo, t.epochs)) : Steady b s u := by
  simp only [Prod.mk.injEq] at e
  obtain ⟨hregs, hprime, htime, hvariant, hbias, heo, hepochs⟩ := e
  refine h.trans (of_regs hregs hprime htime hvariant hbias (fun _ n => by rw [channel, heo, channel]) fun i hi => ?_)
  rwa [Unapplied, hepochs] at hi

/-- A write of a word that keeps what is watched of it. -/
theorem setReg_of (h : Steady b s t) {a : Nat} {v : Word} (hw : 0x5000 ≤ a ∨ a % 0x1000 < 0x40 ∨ a = Reg.GLB_PRIME_STATUS)
    (hs : a = Reg.GLB_PRIME_STATUS → fld v 0 4 = Machine.stage t ∧ (b = true → bitOf v 4 = getBit t Reg.GLB_PRIME_STATUS 4))
    (hl : ∀ w, w < 304 → a = Reg.WELL_STATUS w → bitOf v 4 = wellLost t w)
    (hc : b = true → ∀ m, a = Reg.CELL_STATUS m → bitOf v 0 = cellAuto t m) : Steady b s (setReg a v t) := by
  have hread : ∀ c i x, (a = c → bitOf v i = x) → getBit t c i = x → getBit (Machine.setReg a v t) c i = x := fun c i x h1 h2 => by
    unfold getBit
    rw [reg_setReg]
    split
    · next e => exact h1 e
    · exact h2
  refine h.trans ⟨fun c h1 h2 h3 => reg_setReg_other _ _ (by rintro rfl; omega), ?_, fun w hlt => hread _ _ _ (hl w hlt) rfl, rfl, rfl, rfl, rfl,
    fun hb => hread _ _ _ (fun e => (hs e).2 hb) rfl, fun hb m => hread _ _ _ (hc hb m) rfl, fun _ _ => rfl, fun _ hi => hi⟩
  rw [Machine.stage, getF, reg_setReg]
  split
  · next e => exact (hs e).1
  · rfl

theorem setReg (h : Steady b s t) {a : Nat} (v : Word) (ha : Unwatched a) : Steady b s (setReg a v t) := by
  have hg : Reg.GLB_PRIME_STATUS = 0x104 := rfl
  have hm : ∀ m, Reg.CELL_STATUS m = 0x1800000 + 0x1000 * m + 4 := fun _ => rfl
  unfold Unwatched at ha
  refine h.setReg_of (by omega) (fun e => ?_) (fun w hw e => ?_) (fun _ m e => ?_)
  · omega
  · have := wellStatus_place hw
    omega
  · have := hm m
    omega

theorem setF (h : Steady b s t) {a : Nat} (lo w v : Nat) (ha : Unwatched a) : Steady b s (setF a lo w v t) := h.setReg _ ha

theorem setB (h : Steady b s t) {a : Nat} (i : Nat) (v : Bool) (ha : Unwatched a) : Steady b s (setB a i v t) := h.setReg _ ha

theorem bumpF (h : Steady b s t) {a : Nat} (lo w : Nat) (ha : Unwatched a) : Steady b s (bumpF a lo w t) := h.setReg _ ha

theorem wrapF (h : Steady b s t) {a : Nat} (lo w : Nat) (ha : Unwatched a) : Steady b s (wrapF a lo w t) := h.setReg _ ha

theorem addF (h : Steady b s t) {a : Nat} (lo w k : Nat) (ha : Unwatched a) : Steady b s (addF a lo w k t) := h.setReg _ ha

theorem setReg64 (h : Steady b s t) {a : Nat} (n : Nat) (ha : Unwatched a) (ha4 : Unwatched (a + 4)) : Steady b s (setReg64 a n t) :=
  (h.setReg _ ha).setReg _ ha4

/-- A field of WELL_STATUS beside LOST. -/
theorem setWellStatus (h : Steady b s t) (w : Nat) {lo n : Nat} (v : Nat) (hf : 4 < lo ∨ lo + n ≤ 4) :
    Steady b s (Machine.setF (Reg.WELL_STATUS w) lo n v t) := by
  have hb := wellBase_place w
  have ha : Reg.WELL_STATUS w = wellBase w + 0x44 := rfl
  refine h.setReg_of (by omega) (fun e => ?_) (fun x _ e => ?_) (fun _ m e => ?_)
  · unfold Reg.GLB_PRIME_STATUS at e
    omega
  · rw [bitOf_setFld_other _ _ _ _ _ hf (by decide), e]
    rfl
  · unfold Reg.CELL_STATUS at e
    omega

/-- A bit of CELL_STATUS beside AUTO, which counts where the outputs do. -/
theorem setCellStatus (h : Steady b s t) (m : Nat) {i : Nat} (v : Bool) (hi : b = true → 0 < i) :
    Steady b s (Machine.setB (Reg.CELL_STATUS m) i v t) := by
  have ha : Reg.CELL_STATUS m = 0x1800000 + 0x1000 * m + 4 := rfl
  refine h.setReg_of (by omega) (fun e => ?_) (fun w hw e => ?_) (fun hb n e => ?_)
  · unfold Reg.GLB_PRIME_STATUS at e
    omega
  · have := wellStatus_place hw
    omega
  · rw [bitOf_setFld_other _ _ _ _ _ (.inl (hi hb)) (by decide), e]
    rfl

/-- A field of GLB_PRIME_STATUS beside the stage and HELD. -/
theorem setPrimeStatus (h : Steady b s t) {lo n : Nat} (v : Nat) (hf : 4 < lo) : Steady b s (Machine.setF Reg.GLB_PRIME_STATUS lo n v t) := by
  refine h.setReg_of (.inr (.inr rfl)) (fun _ => ⟨?_, fun _ => bitOf_setFld_other _ _ _ _ _ (.inl hf) (by decide)⟩) (fun w hw e => ?_) (fun _ m e => ?_)
  · exact fld_setFld_other _ _ _ _ _ _ (.inl (by omega)) (by decide)
  · have := wellStatus_place hw
    unfold Reg.GLB_PRIME_STATUS at e
    omega
  · unfold Reg.GLB_PRIME_STATUS Reg.CELL_STATUS at e
    omega

theorem ite (c : Prop) [Decidable c] (ht : Steady b s t) (hu : Steady b s u) : Steady b s (if c then t else u) := by
  split
  · exact ht
  · exact hu

theorem whenB (h : Steady b s t) (c : Bool) {f : State → State} (hf : Steady b s (f t)) : Steady b s (whenB c f t) := by
  cases c
  · exact h
  · exact hf

theorem forEach {α : Type} (h : Steady b s t) (l : List α) (f : α → State → State)
    (hf : ∀ x ∈ l, ∀ u, Steady b s u → Steady b s (f x u)) : Steady b s (forEach l f t) := forEach_keeps _ f l hf h

theorem setInt (h : Steady b s t) (p : Page) (i : Nat) : Steady b s (setInt p i t) := by
  have hb := h.setB (a := Reg.INT_STATUS p) i true (unwatched_header p (by decide) (by decide))
  unfold Machine.setInt intEdge
  exact ite _ (hb.beside rfl) hb

theorem setFault (h : Steady b s t) (p : Page) (i : Nat) : Steady b s (setFault p i t) := by
  have hb := h.setB (a := Reg.FAULT_STATUS p) i true (unwatched_header p (by decide) (by decide))
  unfold Machine.setFault
  refine ite _ h ?_
  split
  · exact hb.beside rfl
  · exact hb

theorem refreshStatus (h : Steady b s t) (p : Page) : Steady b s (refreshStatus p t) := by
  have ha : Unwatched (Reg.STATUS p) := unwatched_header p (by decide) (by decide)
  exact ((h.setB _ _ ha).setB _ _ ha).setB _ _ ha

theorem setPhase (h : Steady b s t) (p : Page) (f : Phase) : Steady b s (setPhase p f t) := by
  refine refreshStatus ?_ p
  exact h.beside rfl

theorem enablePage (h : Steady b s t) (p : Page) : Steady b s (enablePage p t) := by
  have hb := h.setB (a := Reg.CTRL p) 0 true (unwatched_header p (by decide) (by decide))
  exact ite _ (hb.setPhase _ _) hb

/-- The list of epochs changes, and no epoch becomes an unapplied one. -/
theorem setEpochs (h : Steady b s t) {l : List Epoch} (hl : ∀ e ∈ l, e.applied = false → Unapplied t e.id) :
    Steady b s { t with epochs := l } := by
  refine h.trans (of_regs rfl rfl rfl rfl rfl (fun _ _ => rfl) ?_)
  rintro i ⟨e, he, rfl, ha⟩
  exact hl e he ha

/-! ### Through an event's publication (R517 to R528) -/

theorem taskLost (h : Steady b s t) {n : Nat} (hn : n < 384) : Steady b s (taskLost n t) := by
  have ha : Unwatched (Reg.EVT_TASK_STAT (n / 2)) := by unfold Unwatched Reg.EVT_TASK_STAT; omega
  exact ((h.bumpF _ _ ha).setF _ _ _ ha).setInt _ _

theorem deliverLater (h : Steady b s t) (c gen : Nat) {n : Nat} (hn : n < 384) : Steady b s (deliverLater c gen n t) := by
  unfold Machine.deliverLater
  refine ite _ (taskLost ?_ hn) (h.beside rfl)
  exact h.beside rfl

theorem carry (h : Steady b s t) (producer : Option Nat) (c gen : Nat) : Steady b s (carry producer c gen t) := by
  have ha : Unwatched Reg.EVT_COLLIDE := by decide
  have he : ∀ e, Steady b s { t with evt := e } := fun e => h.beside rfl
  unfold Machine.carry
  dsimp only
  split
  · exact ite _ (he _) ((ite _ (he _) ((he _).bumpF _ _ ha)).setF _ _ _ ha)
  · exact (he _).forEach _ _ fun n hn u hu => hu.deliverLater _ _ (List.mem_range.1 (List.mem_of_mem_filter hn))

theorem publish (h : Steady b s t) (producer gen : Nat) : Steady b s (publish producer gen t) := by
  have ha : Unwatched Reg.EVT_LOOP_INFO := by decide
  unfold Machine.publish
  refine ite _ h ?_
  split
  · exact h
  · exact ite _ ((((h.setF _ _ _ ha).setF _ _ _ ha).bumpF _ _ ha).setInt _ _ |>.setFault _ _) (h.carry _ _ _)

/-! ### Through a well's bookkeeping (R333, R336, R347, R353) -/

theorem refreshWell (h : Steady b s t) (w : Nat) : Steady b s (refreshWell w t) := by
  unfold Machine.refreshWell
  extract_lets a mismatch s1 s2
  have h0 : Steady b s (noteSpan w t) := by
    unfold noteSpan
    exact ite _ h (h.beside rfl)
  have h1 : Steady b s s1 := ((h0.setWellStatus w _ (by decide)).setWellStatus w _ (by decide)).setWellStatus w _ (by decide)
  have h2 : Steady b s s2 := h1.setB _ _ (unwatched_header _ (by decide) (by decide))
  refine h2.forEach _ _ fun i hi u hu => ?_
  have hi : i < 16 := by
    have := List.mem_range.1 hi
    unfold wellInputs at this
    split at this
    · exact this
    · split at this <;> omega
  have ha : Unwatched (Reg.CH_STATUS w i) := by
    have := unwatched_well w (o := 0x404 + 16 * i) (by omega) (by omega) (by omega)
    rwa [← Nat.add_assoc] at this
  exact (hu.setB _ _ ha).setB _ _ ha

theorem refreshWells (h : Steady b s t) (w : Nat) : Steady b s (refreshWells w t) :=
  ite _ (h.refreshWell w) (ite _ ((h.refreshWell w).refreshWell _) (h.refreshWell w))

theorem endPin (h : Steady b s t) (w : Nat) : Steady b s (endPin w t) := by
  refine refreshWells ?_ w
  unfold calLater
  split <;> exact h.beside rfl

theorem endPins (h : Steady b s t) : Steady b s (endPins t) := by
  refine forEach ?_ _ _ fun w _ u hu => hu.endPin w
  exact h.beside rfl

theorem endBinding (h : Steady b s t) (j : Nat) : Steady b s (endBinding j t) := by
  have ha : Unwatched (Reg.ILV_STATUS (2 * j)) := unwatched_well _ (by decide) (by decide) (by decide)
  unfold Machine.endBinding
  split
  · exact h
  · extract_lets s1
    have hb : Steady b s { t with binding := SMap.set (fun _ => none) t.binding j none } := h.beside rfl
    have h0 : Steady b s (setBinding j none t) := hb.setF _ _ _ ha
    have h1 : Steady b s s1 := (h0.refreshWell _).refreshWell _
    exact ite _ (((h1.wrapF _ _ ha).setInt _ _).publish _ _) h1

theorem abortCal (h : Steady b s t) (w : Nat) : Steady b s (abortCal w t) := by
  have ha : Unwatched (Reg.CAL_STATUS w) := unwatched_well _ (by decide) (by decide) (by decide)
  have hf : Steady b s (setCalRun w none (Machine.setInt (wellPage w) 1 (Machine.setB (Reg.CAL_STATUS w) 4 true t))) :=
    ((h.setB _ _ ha).setInt _ _).beside rfl
  exact ite _ (((hf.setB _ _ ha).refreshWells _).publish _ _) h

theorem quietWell (h : Steady b s t) (w : Nat) : Steady b s (quietWell w t) :=
  ((ite _ (h.endBinding _) h).endPin w).abortCal _

/-! ### Through what a channel plays (R199, R215) -/

/-- A channel changes beside its state, which counts where the outputs do. -/
theorem setChannel (h : Steady b s t) {n : Nat} {ch : EoChannel} (hch : b = true → ch.state = (channel t n).state) :
    Steady b s (setChannel n ch t) := by
  refine h.trans (of_regs rfl rfl rfl rfl rfl (fun hb m => ?_) fun _ hi => hi)
  unfold channel Machine.setChannel
  rw [SMap.get_set]
  split
  · next e => subst e; exact hch hb
  · rfl

theorem countClips (h : Steady b s t) (n k : Nat) : Steady b s (countClips n k t) := by
  have hc := h.addF (a := Reg.EO_COL_COUNT_A (n / 256)) 0 16 k (by unfold Unwatched Reg.EO_COL_COUNT_A; omega)
  exact ite _ h ((hc.setChannel (ch := { channel t n with clipped := true }) fun _ => by simp [channel]).setInt _ _)

theorem dropPending (h : Steady b s t) (n : Nat) : Steady b s (dropPending n t) := by
  have hc : Steady b s (Machine.setChannel n { channel t n with jump := none } t) := h.setChannel fun _ => rfl
  exact ite _ ((hc.bumpF _ _ (by unfold Unwatched Reg.EO_COL_COUNT_A; omega)).setInt _ _) h

theorem abandonStream (h : Steady b s t) (n : Nat) : Steady b s (abandonStream n false t) := by
  unfold Machine.abandonStream
  split
  · exact h
  · next m hm =>
    have hm : m < 32 := List.mem_range.1 (List.mem_of_find?_eq_some hm)
    have ha : Unwatched (Reg.SIPH_STATUS m) := by unfold Unwatched Reg.SIPH_STATUS; omega
    have he : Steady b s (streamEnds m (streamedBy t m t.time.uptime) t) :=
      ite _ h (((h.setF _ _ _ ha).setF _ _ _ ha).countClips _ _)
    exact (he.setF _ _ _ ha).setB _ _ (by decide)

theorem abandon (h : Steady b s t) (n : Nat) : Steady b s (abandon n t) := by
  have h1 := (h.dropPending n).abandonStream n
  exact ite _ (((h1.countClips _ _).bumpF _ _ (by unfold Unwatched Reg.EO_COL_COUNT_C; omega)).setInt _ _) h1

/-! ### Through a slot's driver stage (R141, R241, R258) -/

theorem htrPark (h : Steady b s t) {n : Nat} (hn : n < 2560) : Steady b s (htrPark n t) := by
  have hheater : ∀ {u : State} (x : Heater), Steady b s u → Steady b s (setHeater n x u) := fun _ hu => hu.beside rfl
  have hpreset : ∀ {u : State} (c : Nat), Steady b s u → Steady b s (presetCode n c u) := fun c hu =>
    whenB (hheater _ (hheater _ hu)) _ ((hheater _ (hheater _ hu)).bumpF _ _ (by unfold Unwatched Reg.HTR_COUNT_A; omega))
  have h0 := hheater { heater t n with held := none, taken := parkCode t n } h
  have h2 := (ite (driven t n = true) (hpreset (parkCode (setHeater n { heater t n with held := none, taken := parkCode t n } t) n) h0) h0).setReg
    (a := Reg.HTR_ACC (n / 256) (n % 256)) 0 (by unfold Unwatched Reg.HTR_ACC; omega)
  exact h2.beside rfl

/-! ### Through a cell's loop (R246, R267, R294) -/

theorem showComparing (h : Steady b s t) {m : Nat} (hm : m < 640) : Steady b s (showComparing m t) :=
  h.setB _ _ (by unfold Unwatched claimState Reg.CLAIM_STATE; omega)

theorem injEnd (h : Steady b s t) (aborted : Bool) (m : Nat) : Steady b s (injEnd aborted m t) := by
  have ha : Unwatched (Reg.INJ_STATUS m) := by unfold Unwatched Reg.INJ_STATUS; omega
  have hc : ∀ {u : State} (c : LoopCell), Steady b s u → Steady b s (setCell m c u) := fun _ hu => hu.beside rfl
  exact ite _ (((hc _ ((h.setB _ _ ha).setB _ _ ha)).setCellStatus m _ fun _ => by decide).setInt _ _) h

/-- The cell's loop opens where its AUTO has been cleared. -/
theorem leaveAuto (h : Steady b s (Machine.setB (Reg.CELL_STATUS m) 0 false t)) (hm : m < 640) : Steady b s (leaveAuto m t) := by
  refine injEnd (showComparing (forEach h _ _ fun n _ u hu => hu.setB _ _ ?_) hm) _ _
  unfold Unwatched Reg.LOOP_SLOT_STATUS
  omega

theorem markStale (h : Steady b s t) (v : Bool) (n : Nat) : Steady b s (markStale v n t) := by
  have hs : ∀ p, Unwatched (Reg.STATUS p) := fun p => unwatched_header p (by decide) (by decide)
  have h1 : Steady b s (Machine.setB (Reg.LOOP_SLOT_STATUS n) 1 v t) := h.setB _ _ (by unfold Unwatched Reg.LOOP_SLOT_STATUS; omega)
  exact ((h1.setCellStatus _ _ fun _ => by omega).setB _ _ (hs _)).setB _ _ (hs _)

end Steady

end Sys2Proof.Machine
end

section
/-! PROOF. CLEAR_N and test sessions (R126, R139 to R141, R614): every output goes to park, and the epoch unit empties. -/

namespace Sys2Proof.Machine

open Sys2Proof

/-- What an operation over a list establishes for each element, where no element's turn undoes another's. -/
theorem forEach_establishes {α : Type} (P : α → State → Prop) (f : α → State → State) (l : List α)
    (hset : ∀ x ∈ l, ∀ t, P x (f x t)) (hkeep : ∀ x ∈ l, ∀ y ∈ l, ∀ t, P x t → P x (f y t)) (s : State) :
    ∀ x ∈ l, P x (forEach l f s) := by
  induction l generalizing s with
  | nil => exact fun x hx => absurd hx List.not_mem_nil
  | cons z r ih =>
    have hr : ∀ {x}, x ∈ r → x ∈ z :: r := List.mem_cons_of_mem z
    intro x hx
    by_cases hxr : x ∈ r
    · exact ih (fun x hx => hset x (hr hx)) (fun x hx y hy => hkeep x (hr hx) y (hr hy)) (f z s) x hxr
    · obtain rfl := (List.mem_cons.1 hx).resolve_right hxr
      exact forEach_keeps (P x) f r (fun y hy t => hkeep x hx y (hr hy) t) (hset x hx s)

/-! ### The epoch unit empties (R140) -/

namespace Steady

variable {b : Bool} {s t : State}

theorem modEpoch (h : Steady b s t) (id : Nat) {f : Epoch → Epoch} (hf : ∀ e, (f e).id = e.id ∧ (f e).applied = e.applied) :
    Steady b s (modEpoch id f t) := by
  refine h.setEpochs fun e he ha => ?_
  obtain ⟨x, hx, rfl⟩ := List.mem_map.1 he
  have hx' : (if x.id == id then f x else x).id = x.id ∧ (if x.id == id then f x else x).applied = x.applied := by
    split
    · exact hf x
    · exact ⟨rfl, rfl⟩
  exact ⟨x, hx, hx'.1.symm, hx'.2.symm.trans ha⟩

theorem showRoute (h : Steady b s t) : Steady b s (showRoute t) := h.setF _ _ _ (by decide)

theorem removeEpoch (h : Steady b s t) (id : Nat) : Steady b s (removeEpoch id t) :=
  (h.setEpochs fun e he ha => ⟨e, List.mem_of_mem_filter he, rfl, ha⟩).setF _ _ _ (by decide)

theorem takeNumber (h : Steady b s t) (id n : Nat) : Steady b s (takeNumber id n t) := by
  have h1 := h.modEpoch id (f := fun e => { e with num := some n }) fun _ => ⟨rfl, rfl⟩
  exact ite _ ((h1.setReg64 _ (by decide) (by decide)).setB _ _ (by decide)) h1

theorem startJob (h : Steady b s t) : Steady b s (startJob t) := by
  unfold Machine.startJob
  refine ite _ h.showRoute ?_
  split
  · next e _ =>
    have hj : Steady b s { t with jobStart := t.time.uptime } := h.beside rfl
    exact Steady.showRoute (Steady.modEpoch hj _ fun _ => ⟨rfl, rfl⟩)
  · split
    · next p _ =>
      have hp : ∀ q n, Steady b s { t with preparation := q, jobStart := n } := fun _ _ => h.beside rfl
      exact ite _ (hp _ _).showRoute h.showRoute
    · exact h.showRoute

theorem schedEnd (h : Steady b s t) : Steady b s (schedEnd t) := by
  have hs : ∀ {u : State} (c : Option Schedule), Steady b s u → Steady b s { u with schedule := c } := fun _ hu => hu.beside rfl
  have hf : Steady b s (foldCycles t) := by
    unfold foldCycles
    split
    · exact h
    · exact (hs _ h).setReg64 _ (by decide) (by decide)
  exact ((hs _ hf).setB _ _ (by decide)).setB _ _ (by decide)

theorem schedCheck (h : Steady b s t) : Steady b s (schedCheck t) := by
  unfold Machine.schedCheck
  split
  · exact h
  · split
    · exact ite _ h.schedEnd h
    · exact h

end Steady

variable {s t : State}

/-- The epoch is taken out of the list, if it stands there, and what follows is beside the list. -/
theorem dropEpoch_removes (b : Bool) (status id : Nat) (s : State) :
    Steady b s (dropEpoch status id s) ∧ ¬ Unapplied (dropEpoch status id s) id := by
  unfold dropEpoch
  split
  · next hn =>
    refine ⟨.refl b s, ?_⟩
    rintro ⟨e, he, rfl, -⟩
    simpa using List.find?_eq_none.1 hn e he
  · next e _ =>
    extract_lets s1 e1 s2 r s3 s4 s5 s6
    have hn : Steady b s (nextNumber s).2 := (Steady.refl b s).beside rfl
    have h1 : Steady b s s1 := .ite _ (.refl b s) (hn.takeNumber _ _)
    have h3 : Steady b s2 s3 := (Steady.refl b s2).beside rfl
    have h5 : Steady b s2 s5 := by
      unfold s5
      split
      · exact ((h3.setInt _ _).publish _ _).setFault _ _
      · exact (h3.setInt _ _).publish _ _
    have h6 : Steady b s2 (schedCheck (startJob s6)) :=
      (Steady.ite _ ((h5.addF _ _ _ (by decide)).setInt _ _) h5).startJob.schedCheck
    refine ⟨(h1.removeEpoch id).trans h6, fun hu => ?_⟩
    obtain ⟨x, hx, hid, -⟩ := h6.unapplied id hu
    simp [s2, removeEpoch, showQueue, hid] at hx

theorem Steady.dropEpoch {b : Bool} (h : Steady b s t) (status id : Nat) : Steady b s (dropEpoch status id t) :=
  h.trans (dropEpoch_removes b status id t).1

/-- No epoch is left unapplied, and the outputs stand. -/
theorem clearEpochs_empties (status : Nat) (s : State) : Steady true s (clearEpochs status s) ∧ ∀ i, ¬ Unapplied (clearEpochs status s) i := by
  unfold clearEpochs
  extract_lets s1 ids judged s2
  have hd : ∀ {u : State}, Steady true s u → ∀ l, Steady true s (forEach l (dropEpoch status) u) := fun hu l =>
    hu.forEach l _ fun i _ v hv => hv.dropEpoch status i
  have h1 : Steady true s s1 := .ite _ (.ite _ (hd (.refl _ s) _).schedEnd (.refl _ s)) (.refl _ s)
  have hv : Steady true s1 { s1 with verdict := none } := (Steady.refl _ s1).beside rfl
  have h2 : Steady true s1 s2 := .ite _ hv.endPins (.refl _ s1)
  have h3 : Steady true s2 (forEach ids (dropEpoch status) s2) :=
    (Steady.refl _ s2).forEach _ _ fun i _ u hu => hu.dropEpoch status i
  have hgone : ∀ i ∈ ids, ¬ Unapplied (forEach ids (dropEpoch status) s2) i :=
    forEach_establishes (fun i t => ¬ Unapplied t i) _ ids (fun i _ t => (dropEpoch_removes true status i t).2)
      (fun i _ j _ t ht hu => ht ((dropEpoch_removes true status j t).1.unapplied i hu)) s2
  refine ⟨((h1.trans h2).trans h3).beside rfl, fun i hi => hgone i ?_ hi⟩
  obtain ⟨e, he, rfl, ha⟩ := h2.unapplied i (h3.unapplied i hi)
  exact List.mem_map_of_mem (List.mem_filter.2 ⟨he, by simp [ha]⟩)

/-! ### The outputs go to park (R139, R141) -/

theorem slots_le (v : Variant) : v.slots ≤ 2560 := by cases v <;> decide

theorem cells_le (v : Variant) : v.cells ≤ 640 := by cases v <;> decide

theorem seq_eoPark (forced : Bool) (n m : Nat) (s : State) :
    (channel (eoPark forced n s) m).state = if n = m then .parked else (channel s m).state := by
  have h := ((Steady.refl true s).abandon n).seq rfl m
  unfold eoPark channel setChannel
  rw [SMap.get_set]
  split
  · rfl
  · exact h

/-- The cell's AUTO clears, and the outputs stand otherwise. -/
theorem forceManual_opens {m : Nat} (hm : m < 640) (s : State) :
    (∀ n, (channel (forceManual m s) n).state = (channel s n).state) ∧
      ∀ k, cellAuto (forceManual m s) k = (cellAuto s k && decide (m ≠ k)) := by
  have hc : Steady true s (setB (Reg.CELL_CTRL m) 0 false s) :=
    (Steady.refl true s).setB _ _ (by unfold Unwatched Reg.CELL_CTRL; omega)
  have h := Steady.leaveAuto (.refl true (setB (Reg.CELL_STATUS m) 0 false (setB (Reg.CELL_CTRL m) 0 false s))) hm
  refine ⟨fun n => (h.seq rfl n).trans (by simp [channel]), fun k => (h.auto rfl k).trans ?_⟩
  by_cases hk : m = k
  · subst hk
    simpa [cellAuto] using getBit_setB_same _ _ 0 false (by decide)
  · rw [cellAuto, getBit_setB_other _ _ _ _ (by unfold Reg.CELL_STATUS; omega)]
    simpa [hk, cellAuto] using hc.auto rfl k

/-- Letting held outputs go leaves the channels and the cells in AUTO as they are. -/
theorem dropHeld_stands (s : State) :
    (∀ n, (channel (dropHeld s) n).state = (channel s n).state) ∧ ∀ m, cellAuto (dropHeld s) m = cellAuto s m := by
  unfold dropHeld
  extract_lets held free
  have h : Steady true s (forEach held free s) := (Steady.refl true s).forEach _ _ fun m _ u hu => by
    have hc : Steady true s (setCell m { loopCell u m with firstDue := false } u) := hu.beside rfl
    exact hc.forEach _ _ fun n _ v hv => .ite _ hv (hv.markStale _ _)
  refine ⟨h.seq rfl, fun m => ?_⟩
  rw [cellAuto, getBit_setB_other _ _ _ _ (by unfold Reg.GLB_PRIME_STATUS Reg.CELL_STATUS; omega)]
  exact h.auto rfl m

theorem parkOutputs_parks (s : State) :
    (∀ n, n < s.variant.slots → (channel (parkOutputs s) n).state = .parked) ∧ ∀ m, m < s.variant.cells → cellAuto (parkOutputs s) m = false := by
  unfold parkOutputs
  extract_lets s1
  obtain ⟨hseq, hauto⟩ := dropHeld_stands (forEach (allCells s) forceManual s1)
  have hcell : ∀ m ∈ allCells s, m < 640 := fun m hm => Nat.lt_of_lt_of_le (List.mem_range.1 hm) (cells_le _)
  have hslots : ∀ n ∈ allSlots s, (channel s1 n).state = .parked := by
    refine forEach_establishes (fun n t => (channel t n).state = .parked) _ _ (fun n hn t => ?_) (fun n hn k hk t ht => ?_) s
    · exact (seq_eoPark _ _ _ _).trans (if_pos rfl)
    · have hh := ((Steady.refl true t).htrPark (Nat.lt_of_lt_of_le (List.mem_range.1 hk) (slots_le _))).seq rfl n
      rw [seq_eoPark, hh, ht, ite_self]
  have hcells : ∀ m ∈ allCells s, cellAuto (forEach (allCells s) forceManual s1) m = false :=
    forEach_establishes (fun m t => cellAuto t m = false) _ _ (fun m hm t => by simp [(forceManual_opens (hcell m hm) t).2])
      (fun m _ k hk t ht => by simp [(forceManual_opens (hcell k hk) t).2, ht]) s1
  refine ⟨fun n hn => (hseq n).trans ?_, fun m hm => (hauto m).trans (hcells m (List.mem_range.2 hm))⟩
  exact forEach_keeps (fun t => (channel t n).state = .parked) _ _
    (fun m hm t ht => ((forceManual_opens (hcell m hm) t).1 n).trans ht) (hslots n (List.mem_range.2 hn))

/-- What CLEAR_N falling does to the outputs and to the epoch unit. -/
theorem clearActs_parks (s : State) :
    (clearActs s).submission = none ∧ (∀ e ∈ (clearActs s).epochs, e.applied = true) ∧
      (∀ n, n < s.variant.slots → (channel (clearActs s) n).state = .parked) ∧ (∀ m, m < s.variant.cells → cellAuto (clearActs s) m = false) := by
  obtain ⟨hseq, hauto⟩ := parkOutputs_parks s
  obtain ⟨hsteady, hgone⟩ := clearEpochs_empties 5 (parkOutputs s)
  refine ⟨rfl, fun e he => ?_, fun n hn => (hsteady.seq rfl n).trans (hseq n hn), fun m hm => (hsteady.auto rfl m).trans (hauto m hm)⟩
  exact Bool.of_not_eq_false fun ha => hgone e.id ⟨e, he, rfl, ha⟩

/-! ### The commands -/

/-- The session's flag and the pin of the TAP are beside the conditions of R126. -/
theorem governed_session (flag trst : Bool) (s : State) :
    governed (setB Reg.WH_DEBUG 3 flag { s with pins := { s.pins with trstN := trst } }) = governed s := by
  have h : stage (setB Reg.WH_DEBUG 3 flag { s with pins := { s.pins with trstN := trst } }) = stage s :=
    getF_setF_other _ _ _ _ _ _ (by decide)
  rw [governed, h]
  rfl

theorem exec_testSessionStart {ieee : Bool} (hc : s.time.counting = true) (hs : testSession s = false)
    (hi : ieee = true → getBit s Reg.WH_DEBUG 2 = true) :
    exec (.testSessionStart ieee) s = .next
      (if governed s then setB Reg.WH_DEBUG 3 true { s with pins := { s.pins with trstN := true } }
      else if s.pins.lockout then clearEpochs 5 (setB Reg.WH_DEBUG 3 true { s with pins := { s.pins with trstN := true } })
      else clearActs (setB Reg.WH_DEBUG 3 true { s with pins := { s.pins with trstN := true } })) := by
  have hopen : (!s.time.counting || testSession s || (ieee && !getBit s Reg.WH_DEBUG 2)) = false := by
    cases ieee
    · simp [hc, hs]
    · simp [hc, hs, hi rfl]
  refine congrArg Host.Outcome.next ((if_neg (by simp [hopen])).trans ?_)
  dsimp only
  rw [governed_session]
  rfl

/-- Settles O23, from what CLEAR_N falling does to the outputs and what each command comes to under the conditions of R126. -/
theorem clearNAndTestSessionsParkTheOutputs : Obligations.ClearNAndTestSessionsParkTheOutputs := by
  unfold Obligations.ClearNAndTestSessionsParkTheOutputs
  refine ⟨fun s hp => ⟨fun hg => ?_, fun hg => ⟨?_, ?_⟩⟩, clearActs_parks, fun s hp => ?_, fun ieee s hc hs hi => ?_⟩
  · exact congrArg Host.Outcome.next ((if_neg (by simp [hp])).trans (if_pos hg))
  · exact congrArg Host.Outcome.next ((if_neg (by simp [hp])).trans (if_neg (by simp [hg])))
  · simp [parkForced]
  · exact congrArg Host.Outcome.next (if_neg (by simp [hp]))
  · rw [exec_testSessionStart hc hs hi]
    exact ⟨fun hg => by rw [if_pos hg], fun hg hl => by rw [if_neg (by simp [hg]), if_pos hl],
      fun hg hl => by rw [if_neg (by simp [hg]), if_neg (by simp [hl])]⟩

end Sys2Proof.Machine
end

section
/-! PROOF. The stages of priming (R117 to R149): what entering and leaving them leaves alone, and the stage that follows. -/

namespace Sys2Proof.Machine

open Sys2Proof

theorem pumps_le (v : Variant) : v.pumps ≤ 128 := by cases v <;> decide

/-! ### The pumps and the cells of P5 (R131, R133, R294, R309, R311) -/

namespace Steady

variable {b : Bool} {s t : State}

theorem failCode (h : Steady b s t) (code st : Nat) : Steady b s (failCode code st t) :=
  ite _ ((h.setPrimeStatus _ (by decide)).setPrimeStatus _ (by decide)) h

theorem setPump (h : Steady b s t) (k : Nat) (p : Pump) : Steady b s (setPump k p t) := h.beside rfl

theorem setCell (h : Steady b s t) (m : Nat) (c : LoopCell) : Steady b s (setCell m c t) := h.beside rfl

theorem setTwinStatus (h : Steady b s t) (k lo w v : Nat) : Steady b s (Machine.setF (Reg.TWIN_STATUS k) lo w v t) :=
  h.setF _ _ _ (by unfold Unwatched Reg.TWIN_STATUS; omega)

theorem setStatus (h : Steady b s t) (p : Page) (i : Nat) (v : Bool) : Steady b s (Machine.setB (Reg.STATUS p) i v t) :=
  h.setB _ _ (unwatched_header p (by decide) (by decide))

theorem refreshPair (h : Steady b s t) {k : Nat} (hk : k < 128) : Steady b s (refreshPair k t) := by
  have hshow : ∀ {u : State} (j : Nat), Steady b s u → Steady b s (showPump j u) := fun j hu =>
    (((hu.setTwinStatus _ _ _ _).setTwinStatus _ _ _ _).setTwinStatus _ _ _ _).setStatus _ _ _
  have hclaims : ∀ {u : State} (c : Nat), Steady b s u → Steady b s (showClaims c u) := fun c hu =>
    hu.setReg _ (by unfold Unwatched Reg.CLAIM_COL_STATUS; omega)
  refine hclaims _ (hclaims _ ((hshow _ (hshow _ h)).forEach _ _ fun m hm u hu => hu.showComparing ?_))
  obtain ⟨j, hj, rfl⟩ := List.mem_map.1 hm
  have := List.mem_range.1 hj
  omega

theorem primePump (h : Steady b s t) (k : Nat) : Steady b s (primePump k t) := by
  have he : Steady b s (Machine.setB (Reg.CTRL (pumpPage k)) 0 true t) := h.setB _ _ (unwatched_header _ (by decide) (by decide))
  have hv := he.setReg (a := Reg.PE_KERNEL_VER k) (pump t k).kernel (by unfold Unwatched Reg.PE_KERNEL_VER; omega)
  have hr : ∀ {u : State}, Steady b s u → Steady b s (reloadPump k u) := fun hu => hu.beside rfl
  exact (((hr hv).setPump k _).setTwinStatus k _ _ _).setPhase _ _

theorem forceManual (h : Steady false s t) {m : Nat} (hm : m < 640) : Steady false s (forceManual m t) := by
  have hc : Steady false s (Machine.setB (Reg.CELL_CTRL m) 0 false t) := h.setB _ _ (by unfold Unwatched Reg.CELL_CTRL; omega)
  exact (hc.setCellStatus m _ (by decide)).leaveAuto hm

theorem primeCell (h : Steady false s t) {m : Nat} (hm : m < 640) : Steady false s (primeCell m t) := by
  have hc : ∀ {u : State} (side v : Nat), Steady false s u → Steady false s (setClaim m side v u) := fun side v hu =>
    hu.setF _ _ _ (by unfold Unwatched Reg.CLAIM; omega)
  have h1 := fun c => (hc 0 2 (hc 1 1 (h.setCell m c))).setReg (a := claimState m) 0 (by unfold Unwatched claimState Reg.CLAIM_STATE; omega)
  exact ite _ (h1 _) ((h1 _).forceManual hm)

/-- Every slot's channel goes to park; what they do is not watched. -/
theorem parkSlot (h : Steady false s t) (forced : Bool) {n : Nat} (hn : n < 2560) : Steady false s (eoPark forced n (Machine.htrPark n t)) :=
  ((h.htrPark hn).abandon n).setChannel nofun

end Steady

variable {s t : State}

/-- P5's work, after the stage has changed. -/
theorem enterP5_steady (s : State) : Steady false (setStage 5 s) (enterP5 s) := by
  unfold enterP5
  extract_lets s1 pins s2 s3 s4 s5
  have h1 : Steady false s1 s1 := .refl _ _
  have h2 : Steady false s1 s2 := by
    have hp : ∀ q, Steady false s1 { s1 with pins := q } := fun q => h1.beside rfl
    refine .ite _ ((hp _).forEach _ _ fun n hn u hu => hu.parkSlot _ ?_) h1
    exact Nat.lt_of_lt_of_le (List.mem_range.1 hn) (slots_le _)
  have h3 : Steady false s1 s3 := h2.forEach _ _ fun p _ u hu => hu.enablePage p
  have ho : ∀ o n l, Steady false s1 { s3 with loopOrigin := o, ncoOrigin := n, nco := l } := fun o n l => h3.beside rfl
  have h4 : Steady false s1 s4 := (ho _ _ _).forEach _ _ fun k _ u hu => hu.primePump k
  have h5 : Steady false s1 s5 := h4.forEach _ _ fun m hm u hu =>
    hu.primeCell (Nat.lt_of_lt_of_le (List.mem_range.1 hm) (cells_le _))
  exact h5.forEach _ _ fun k hk u hu => hu.refreshPair (Nat.lt_of_lt_of_le (List.mem_range.1 hk) (pumps_le _))

/-! ### The stage -/

theorem stage_setStage {n : Nat} (hn : n < 16) (s : State) : stage (setStage n s) = n :=
  (getF_setF_same _ _ _ _ _ (by decide)).trans (Nat.mod_eq_of_lt hn)

theorem reg_setStage_other (n : Nat) (s : State) {a : Nat} (h : Reg.GLB_PRIME_STATUS ≠ a) : reg (setStage n s) a = reg s a :=
  reg_setF_other _ _ _ _ h

theorem stage_of_reg (h : reg t Reg.GLB_PRIME_STATUS = reg s Reg.GLB_PRIME_STATUS) : stage t = stage s := by rw [stage, getF, h, stage, getF]

theorem stage_setB_other (s : State) {a : Nat} (i : Nat) (v : Bool) (h : a ≠ Reg.GLB_PRIME_STATUS) : stage (setB a i v s) = stage s :=
  stage_of_reg (reg_setB_other _ _ _ h)

theorem stage_setFault (p : Page) (i : Nat) (s : State) : stage (setFault p i s) = stage s :=
  ((Steady.refl true s).setFault p i).stage

/-! ### The exit from P4 (R145) -/

theorem applyCal_prime (s : State) : (applyCal s).prime = { s.prime with calStaged := [] } := by
  have h : (forEach s.prime.calStaged (fun e t => match e.2 with | some v => setReg e.1 v t | none => t) s).prime = s.prime :=
    forEach_keeps (fun t => t.prime = s.prime) _ _ (fun e _ t ht => by split <;> exact ht) rfl
  exact congrArg (fun q : Prime => { q with calStaged := [] }) h

theorem exitP4_enters (s : State) : stage (exitP4 s) = 5 ∧ (exitP4 s).prime.waiting = false := by
  have hp5 : ∀ u : State, stage (enterP5 u) = 5 ∧ (enterP5 u).prime.waiting = u.prime.waiting := fun u =>
    ⟨(enterP5_steady u).stage.trans (stage_setStage (by decide) u), congrArg Prime.waiting (enterP5_steady u).prime⟩
  unfold exitP4
  dsimp only
  split
  · obtain ⟨hst, hw⟩ := hp5 (applyCal _)
    exact ⟨hst, hw.trans (congrArg Prime.waiting (applyCal_prime _))⟩
  · exact hp5 _

end Sys2Proof.Machine
end

section
/-! PROOF. Entry into P1, P3 and P4 (R118, R122, R143, R328). -/

namespace Sys2Proof.Machine

open Sys2Proof

variable {s t : State}

theorem Steady.showWh {b : Bool} (h : Steady b s t) : Steady b s (showWh t) :=
  (((((((h.setB _ _ (by decide)).setB _ _ (by decide)).setF _ _ _ (by decide)).setReg _ (by decide)).setReg _ (by decide)).setReg _
    (by decide)).setReg _ (by decide))

theorem Steady.reserveBlock {b : Bool} (h : Steady b s t) : Steady b s (reserveBlock t) := by
  have hw : ∀ f, Steady b s (modWh f t) := fun f => h.beside rfl
  exact .ite _ (hw _) ((hw _).setFault _ _)

/-- The path's record as P1 finds it. -/
def primeStart (s : State) : State :=
  modPrime (fun q => { q with started := s.time.uptime, waiting := false, calDone := false, calHost := false }) s

/-- P1's entry, after the stage has changed. -/
theorem enterP1_steady (s : State) : Steady true (setStage 1 (primeStart s)) (enterP1 s) := by
  unfold enterP1
  extract_lets s1 s2 s3 s4
  have h2 : Steady true s1 s2 := (Steady.refl true s1).forEach _ _ fun p _ u hu => hu.setPhase p .running
  have h3 : Steady true s1 s3 := h2.forEach _ _ fun k _ u hu => hu.enablePage ⟨k, 0⟩
  have h4 : Steady true s1 s4 := (h3.setF _ _ _ (by decide)).setReg _ (by decide)
  exact (Steady.ite _ h4.reserveBlock h4).showWh

theorem stage_enterP1 (s : State) : stage (enterP1 s) = 1 :=
  (enterP1_steady s).stage.trans (stage_setStage (by decide) _)

theorem stage_modPrime (f : Prime → Prime) (s : State) : stage (modPrime f s) = stage s := rfl

theorem stage_clockPrime (s : State) : stage (clockPrime s) = stage s := by
  unfold clockPrime
  extract_lets clock s1
  have h := (((Steady.refl true s1).setB (a := Reg.TIME_STATUS) 0 false (by decide)).setB (a := Reg.TIME_STATUS) 1 false (by decide)).setF
    (a := Reg.TIME_STATUS) 16 16 0 (by decide)
  exact (h.setReg64 (a := Reg.TIME_INCR_LO) (2 * 2 ^ 32) (by decide) (by decide)).stage

/-- P3's entry ends with the stage that it began with. -/
theorem stage_enterP3 (s : State) : stage (enterP3 s) = 3 := by
  have h3 : stage (setStage 3 s) = 3 := stage_setStage (by decide) s
  unfold enterP3
  extract_lets s1 use xref t1 t2 s2
  have h1 : stage t1 = 3 := by
    unfold t1
    rw [stage_setB_other _ _ _ (by decide), stage_setB_other _ _ _ (by decide), stage_setB_other _ _ _ (by decide)]
    exact h3
  have h2 : stage t2 = 3 := (stage_modPrime _ t1).trans h1
  have hs2 : stage s2 = 3 := by
    unfold s2
    split
    · split
      · exact h3
      · exact (stage_clockPrime s1).trans h3
    · refine (stage_clockPrime _).trans ?_
      split
      · exact ((Steady.refl true t2).failCode 5 3).stage.trans h2
      · exact h2
  exact (((Steady.refl true s2).enablePage timePage).enablePage evtPage).stage.trans hs2

/-- The calibration record is staged beside the low registers. -/
theorem loadCalRecord_keeps (s : State) : (loadCalRecord s).biasOn = s.biasOn ∧ ∀ a, a < 0x5000 → reg (loadCalRecord s) a = reg s a := by
  unfold loadCalRecord
  split
  · exact ⟨rfl, fun _ _ => rfl⟩
  · refine forEach_keeps (fun t => t.biasOn = s.biasOn ∧ ∀ a, a < 0x5000 → reg t a = reg s a) _ _ (fun e _ t ht => ?_) ⟨rfl, fun _ _ => rfl⟩
    obtain ⟨hbias, hreg⟩ := ht
    unfold loadCalEntry
    split
    · exact ⟨hbias, hreg⟩
    · exact ⟨hbias, fun a ha => (reg_bumpF_other _ _ _ (by unfold Reg.WH_COUNTS; omega)).trans (hreg a ha)⟩

/-- P4's entry: the stage follows, the clocks' word stands, and the wells bias their pads. -/
theorem enterP4_enters (s : State) :
    stage (enterP4 s) = 4 ∧ (enterP4 s).biasOn = true ∧ reg (enterP4 s) Reg.CLK_SRC_STATUS = reg s Reg.CLK_SRC_STATUS := by
  unfold enterP4
  extract_lets s1 s2 s3
  have h1 : stage s1 = 4 := stage_setStage (by decide) _
  have hclk : reg s1 Reg.CLK_SRC_STATUS = reg s Reg.CLK_SRC_STATUS := reg_setStage_other _ _ (by decide)
  have h2 : Steady true s1 s2 := (Steady.refl true s1).forEach _ _ fun p _ u hu => hu.enablePage p
  have hb : Steady true _ s3 := (Steady.refl true { s2 with biasOn := true, wellSpans := [], wellOrigin := none, published := [], settleFrom := [] }).forEach
    (allWells s2) _ fun w _ u hu => hu.refreshWell w
  have h3 : stage s3 = 4 ∧ s3.biasOn = true ∧ reg s3 Reg.CLK_SRC_STATUS = reg s Reg.CLK_SRC_STATUS :=
    ⟨hb.stage.trans (h2.stage.trans h1), hb.bias,
      (hb.word _ (by decide) (by decide) (by decide)).trans ((h2.word _ (by decide) (by decide) (by decide)).trans hclk)⟩
  obtain ⟨hstage, hbias, hreg⟩ := h3
  obtain ⟨kbias, kreg⟩ := loadCalRecord_keeps s3
  split
  · exact ⟨(stage_of_reg (kreg _ (by decide))).trans hstage, kbias.trans hbias, (kreg _ (by decide)).trans hreg⟩
  · exact ⟨hstage, hbias, hreg⟩

end Sys2Proof.Machine
end

section
/-! PROOF. The end of P4 (R118, R143, R145, R354, R557): wells that fail bring-up are lost, calibration words take effect, and P5 or the host
wait follows, or THERMAL_DOWN where a quarter of the die goes unwatched. -/

namespace Sys2Proof.Machine

open Sys2Proof

variable {s t : State}

/-! ### Where calibration words stand (R598) -/

theorem calMask_page {v : Variant} {a : Nat} (h : calMask v a ≠ none) :
    ∃ p o d, decodeFull a = .page p o ∧ pageReg p o = some d ∧ d.cal = true := by
  unfold calMask at h
  split at h
  · next p o hp =>
    split at h
    · next d hd =>
      refine ⟨p, o, d, decodeFull_of_decodeAddr hp nofun, hd, ?_⟩
      by_contra hc
      exact h (if_neg hc)
    · exact absurd rfl h
  · exact absurd rfl h

/-- No row of a map is a calibration word's. -/
def uncalibrated (l : List RegDef) : Bool := l.all fun d => !d.cal

theorem not_cal_of_findIn {l : List RegDef} (hl : uncalibrated l = true) {o : Nat} {d : RegDef} (h : findIn l o = some d) : d.cal = false := by
  simpa using List.all_eq_true.1 hl d (List.mem_of_find?_eq_some h)

theorem lowPages_uncalibrated : ∀ q < 5, uncalibrated (blockRegs ⟨(lowPages[q]?).getD .glb, 0⟩) = true := by decide

/-- WELL_STATUS is no calibration word. -/
theorem wellStatus_uncalibrated (w : Nat) : ((pageReg (wellPage w) 0x44).map RegDef.cal).getD false = false := by
  have hrow : ∀ l ∈ [wellRegs, wellRegs ++ ilvRegs, wellRegs ++ plausRegs ++ pilotRegs, hwRegs], ((findIn l 0x44).map RegDef.cal).getD false = false := by
    decide
  refine hrow (blockRegs (wellPage w)) ?_
  unfold wellPage
  split
  · simp only [blockRegs]
    split <;> simp
  · split
    · simp only [blockRegs]
      split <;> simp
    · simp [blockRegs]

/-- A calibration word stands where nothing is watched. -/
theorem unwatched_of_calMask {v : Variant} {a : Nat} (h : calMask v a ≠ none) : Unwatched a := by
  obtain ⟨p, o, d, hp, hd, hcal⟩ := calMask_page h
  have hheader : ¬ o < 0x40 := fun ho => by
    rw [pageReg, if_pos ho] at hd
    simp [not_cal_of_findIn (by decide) hd] at hcal
  have hwell : ∀ w, w < 304 → a = wellBase w + a % 0x1000 → Unwatched a := fun w hw ha => by
    have hdec := hp.symm.trans ((congrArg decodeFull ha).trans (decodeFull_well hw (Nat.mod_lt a (by decide))))
    obtain ⟨rfl, rfl⟩ := Target.page.inj hdec
    rw [ha]
    refine unwatched_well w (Nat.mod_lt a (by decide)) (by omega) fun h44 => ?_
    have hno := wellStatus_uncalibrated w
    rw [← h44, hd] at hno
    exact absurd (hcal.symm.trans hno) nofun
  have hend : a < 0x3A0000 := Nat.lt_of_not_le fun hge => decodeFull_ne_page hge p o hp
  by_cases hlow : a < 0x5000
  · exfalso
    have hdec : decodeFull a = .page ⟨(lowPages[a / 0x1000]?).getD .glb, 0⟩ (a % 0x1000) := if_pos (by omega)
    obtain ⟨rfl, rfl⟩ := Target.page.inj (hp.symm.trans hdec)
    rw [pageReg, if_neg hheader] at hd
    simp [not_cal_of_findIn (lowPages_uncalibrated _ (by omega)) hd] at hcal
  by_cases hw1 : 0x100000 ≤ a ∧ a < 0x200000
  · exact hwell ((a - 0x100000) / 0x1000) (by omega) (by rw [wellBase, if_pos (by omega)]; omega)
  by_cases hw2 : 0x280000 ≤ a ∧ a < 0x2B0000
  · exact hwell ((a - 0x280000) / 0x1000 + 256) (by omega) (by rw [wellBase, if_neg (by omega)]; omega)
  unfold Unwatched
  omega

/-! ### Which sensors and wells a quarter of the die is watched by (R557) -/

theorem dieUnwatched_iff (s : State) :
    dieUnwatched s = true ↔ ∃ q < 4, wellLost s (298 + q) = true ∨ ∀ i < 16, sensorFaulty s (16 * q + i) = true := by
  simp [dieUnwatched]

theorem dieUnwatched_congr (hf : ∀ n, n < 64 → sensorFaulty t n = sensorFaulty s n) (hl : ∀ q < 4, wellLost t (298 + q) = wellLost s (298 + q)) :
    dieUnwatched t = dieUnwatched s := by
  rw [Bool.eq_iff_iff, dieUnwatched_iff, dieUnwatched_iff]
  refine exists_congr fun q => and_congr_right fun hq => ?_
  rw [hl q hq]
  refine or_congr_right (forall_congr' fun i => imp_congr_right fun hi => ?_)
  rw [hf _ (by omega)]

theorem sensorWord_die {n : Nat} (hn : n < 64) : sensorWord n = 0x3400 + 4 * n := if_pos hn

/-- Of what P4's end may do to the wells: those of a list are lost, and nothing else that is watched changes. -/
structure LosesWells (l : List Nat) (s t : State) : Prop where
  stage : stage t = stage s
  prime : t.prime = s.prime
  variant : t.variant = s.variant
  faulty : ∀ n, n < 64 → sensorFaulty t n = sensorFaulty s n
  lost : ∀ w, w < 304 → wellLost t w = (decide (w ∈ l) || wellLost s w)

theorem Steady.sensorFaulty {b : Bool} (h : Steady b s t) {n : Nat} (hn : n < 64) : sensorFaulty t n = sensorFaulty s n := by
  have hw := sensorWord_die hn
  unfold Machine.sensorFaulty getBit
  rw [h.word _ (by omega) (by omega) (by unfold Reg.GLB_PRIME_STATUS; omega)]

theorem Steady.losesNone {b : Bool} (h : Steady b s t) : LosesWells [] s t :=
  ⟨h.stage, h.prime, h.variant, fun _ hn => h.sensorFaulty hn, fun w hw => by simpa using h.lost w hw⟩

namespace LosesWells

variable {l m : List Nat} {u : State}

theorem trans (h : LosesWells l s t) (g : LosesWells m t u) : LosesWells (m ++ l) s u :=
  ⟨g.stage.trans h.stage, g.prime.trans h.prime, g.variant.trans h.variant, fun n hn => (g.faulty n hn).trans (h.faulty n hn),
    fun w hw => by simp [g.lost w hw, h.lost w hw, Bool.or_assoc]⟩

/-- A quarter of the die stays watched where its well is none of those lost. -/
theorem watched (h : LosesWells l s t) (hl : ∀ w ∈ l, w < 298 ∨ 301 < w) : dieUnwatched t = dieUnwatched s := by
  refine dieUnwatched_congr h.faulty fun q hq => ?_
  have hno : 298 + q ∉ l := fun hm => by
    have := hl _ hm
    omega
  simpa [hno] using h.lost (298 + q) (by omega)

theorem unwatched (h : LosesWells l s t) {w : Nat} (hw : w ∈ l) (h1 : 298 ≤ w) (h2 : w ≤ 301) : dieUnwatched t = true := by
  refine (dieUnwatched_iff t).2 ⟨w - 298, by omega, .inl ?_⟩
  rw [Nat.add_sub_of_le h1]
  simp [h.lost w (by omega), hw]

end LosesWells

theorem Steady.dieUnwatched {b : Bool} (h : Steady b s t) : dieUnwatched t = dieUnwatched s := h.losesNone.watched nofun

/-- A well that is lost: LOST sets in its WELL_STATUS (R354). -/
theorem loseWell_loses {w : Nat} (hw : w < 304) (s : State) :
    LosesWells [w] s (setB (Reg.STATUS (wellPage w)) 5 true (loseWell w false s)) := by
  have hq : Steady true s (quietWell w s) := (Steady.refl true s).quietWell w
  have hr : ∀ u, Steady true u (setB (Reg.STATUS (wellPage w)) 5 true (refreshWells w (setFault (wellPage w) 1 u))) := fun u =>
    (((Steady.refl true u).setFault _ _).refreshWells w).setStatus _ _ _
  have hset : LosesWells [w] (quietWell w s) (setB (Reg.WELL_STATUS w) 4 true (quietWell w s)) := by
    obtain ⟨h44, hlo, -, -⟩ := wellStatus_place hw
    refine ⟨stage_setB_other _ _ _ (by unfold Reg.GLB_PRIME_STATUS; omega), rfl, rfl, fun n hn => ?_, fun v hv => ?_⟩
    · have hn := sensorWord_die hn
      exact getBit_setB_other _ _ _ _ (by omega)
    · by_cases hvw : v = w
      · subst hvw
        simpa [wellLost] using getBit_setB_same _ _ 4 true (by decide)
      · have hne : Reg.WELL_STATUS w ≠ Reg.WELL_STATUS v := fun e => hvw (wellBase_inj (Nat.add_right_cancel e)).symm
        simpa [wellLost, hvw] using getBit_setB_other (quietWell w s) 4 4 true hne
  exact (hq.losesNone.trans hset).trans (hr _).losesNone

/-- The wells of a list, lost one after the other. -/
theorem forEach_loses (l : List Nat) (hl : ∀ w ∈ l, w < 304) (s : State) :
    LosesWells l.reverse s (forEach l (fun w t => setB (Reg.STATUS (wellPage w)) 5 true (loseWell w false t)) s) := by
  induction l generalizing s with
  | nil => exact (Steady.refl true s).losesNone
  | cons w r ih =>
    rw [List.reverse_cons]
    exact (loseWell_loses (hl w List.mem_cons_self) s).trans (ih (fun v hv => hl v (List.mem_cons_of_mem _ hv)) _)

/-! ### The exit from P4, and P4_COMPLETE -/

theorem dieUnwatched_modPrime (f : Prime → Prime) (s : State) : dieUnwatched (modPrime f s) = dieUnwatched s := rfl

theorem dieUnwatched_setStage (n : Nat) (s : State) : dieUnwatched (setStage n s) = dieUnwatched s := by
  refine dieUnwatched_congr (fun i hi => ?_) fun q hq => ?_ <;> refine congrArg (bitOf · _) (reg_setStage_other _ _ ?_)
  · have := sensorWord_die hi
    unfold Reg.GLB_PRIME_STATUS
    omega
  · have := wellStatus_place (w := 298 + q) (by omega)
    unfold Reg.GLB_PRIME_STATUS
    omega

/-- Calibration words that take effect are beside what is watched. -/
theorem dieUnwatched_applyCal (hcal : ∀ e ∈ s.prime.calStaged, calMask s.variant e.1 ≠ none) : dieUnwatched (applyCal s) = dieUnwatched s := by
  unfold applyCal
  rw [dieUnwatched_modPrime]
  refine Steady.dieUnwatched (b := true) ((Steady.refl true s).forEach _ _ fun e he u hu => ?_)
  split
  · exact hu.setReg _ (unwatched_of_calMask (hcal e he))
  · exact hu

theorem dieUnwatched_exitP4 (hcal : ∀ e ∈ s.prime.calStaged, calMask s.variant e.1 ≠ none) : dieUnwatched (exitP4 s) = dieUnwatched s := by
  have h5 : ∀ u, dieUnwatched (enterP5 u) = dieUnwatched u := fun u => (enterP5_steady u).dieUnwatched.trans (dieUnwatched_setStage 5 u)
  unfold exitP4
  extract_lets s1 flash got s2
  have h1 : dieUnwatched s1 = dieUnwatched s := dieUnwatched_modPrime _ s
  split
  · have hb : Steady true s1 (setB Reg.GLB_PRIME_STATUS 7 (!got) (setB Reg.GLB_PRIME_STATUS 6 flash (setB Reg.GLB_PRIME_STATUS 5 got s1))) :=
      (((Steady.refl true s1).setPrimeStatus _ (by decide)).setPrimeStatus _ (by decide)).setPrimeStatus _ (by decide)
    have h2 : dieUnwatched s2 = _ := dieUnwatched_applyCal hcal
    exact (h5 s2).trans (h2.trans (hb.dieUnwatched.trans h1))
  · exact (h5 s1).trans h1

/-- The wells that fail bring-up and that the part has (R354). -/
def failedWells (failed : List (Fin 304)) (s : State) : List Nat := (failed.map Fin.val).filter fun w => (wellPage w).present s.variant

/-- What P4's end comes to: the failed wells are lost, and the host wait or P5 follows. -/
theorem p4Complete_ends (failed : List (Fin 304)) (hs : stage s = 4) (hw : s.prime.waiting = false) :
    ∃ t, LosesWells (failedWells failed s).reverse s t ∧
      p4Complete failed s = if calWait t then modPrime (fun q => { q with waiting := true }) t else exitP4 t := by
  unfold p4Complete
  rw [if_pos (by simp [hs, hw])]
  extract_lets bad up s1 s2 lose s3
  refine ⟨s3, ?_, rfl⟩
  have h1 : Steady true s s1 := (Steady.refl true s).forEach _ _ fun p _ u hu => .ite _ (hu.setPhase _ _) hu
  have h2 : Steady true s s2 := h1.forEach _ _ fun w _ u hu => hu.refreshWells w
  have hf : Steady true s (if bad.isEmpty then s2 else failCode 8 4 s2) := .ite _ h2 (h2.failCode 8 4)
  have h3 := forEach_loses (failedWells failed s) (fun w hw => ?_) (if bad.isEmpty then s2 else failCode 8 4 s2)
  · rw [← List.append_nil (failedWells failed s).reverse]
    exact hf.losesNone.trans h3
  · obtain ⟨x, -, rfl⟩ := List.mem_map.1 (List.mem_of_mem_filter hw)
    exact x.isLt

theorem p4Complete_enters (failed : List (Fin 304)) (hs : stage s = 4) (hw : s.prime.waiting = false) :
    (stage (p4Complete failed s) = 4 ∧ (p4Complete failed s).prime.waiting = true) ∨
      (stage (p4Complete failed s) = 5 ∧ (p4Complete failed s).prime.waiting = false) := by
  obtain ⟨t, ht, he⟩ := p4Complete_ends failed hs hw
  rw [he]
  split
  · exact .inl ⟨ht.stage.trans hs, rfl⟩
  · exact .inr (exitP4_enters t)

theorem dieUnwatched_p4Complete (failed : List (Fin 304)) (hs : stage s = 4) (hw : s.prime.waiting = false)
    (hcal : ∀ e ∈ s.prime.calStaged, calMask s.variant e.1 ≠ none) :
    ∃ t, LosesWells (failedWells failed s).reverse s t ∧ dieUnwatched (p4Complete failed s) = dieUnwatched t := by
  obtain ⟨t, ht, he⟩ := p4Complete_ends failed hs hw
  refine ⟨t, ht, ?_⟩
  rw [he]
  split
  · exact dieUnwatched_modPrime _ t
  · exact dieUnwatched_exitP4 (by rwa [ht.prime, ht.variant])

/-- A shutdown leads to THERMAL_DOWN (R564, R565). -/
theorem stage_thermalShutdown (bit sensor : Nat) (temp : Option Int) (s : State) : stage (thermalShutdown bit sensor temp s) = 0xF := by
  unfold thermalShutdown
  split
  · assumption
  · extract_lets s1 s2 s3 s4 capt s5 s6 heat s7 pins s8 low s9 s10
    have h7 : stage s7 = 0xF := stage_setStage (by decide) _
    clear_value s7
    have h8 : stage s8 = 0xF := (stage_of_reg (s := s7) rfl).trans h7
    clear_value s8
    have h9 : stage s9 = 0xF := by
      unfold s9
      split
      · rw [stage_setFault, stage_setB_other _ _ _ (by decide)]
        exact (stage_of_reg (s := s8) rfl).trans h8
      · exact h8
    clear_value s9
    have h10 : stage s10 = 0xF := (stage_setFault _ _ s9).trans h9
    clear_value s10
    split
    · rw [stage_setFault, stage_setB_other _ _ _ (by decide), h10]
    · exact h10

end Sys2Proof.Machine
end

section
/-! PROOF. The end of P5 and of P6 (R118, R122, R149, R309, R432), and priming's stages in their order. -/

namespace Sys2Proof.Machine

open Sys2Proof

variable {s t : State}

/-! ### Pages that priming enables (R122) -/

theorem reg_enablePage_other (p : Page) (s : State) {a : Nat} (hc : Reg.CTRL p ≠ a) (hs : Reg.STATUS p ≠ a) :
    reg (enablePage p s) a = reg s a := by
  unfold enablePage
  dsimp only
  split
  · rw [reg_setPhase_other _ _ _ hs, reg_setB_other _ _ _ hc]
  · rw [reg_setB_other _ _ _ hc]

theorem ctrl_ne_status (p q : Page) : Reg.STATUS p ≠ Reg.CTRL q := by
  have := pageBase_mod p
  have := pageBase_mod q
  unfold Reg.STATUS Reg.CTRL
  omega

theorem enabled_enablePage (p : Page) (s : State) : enabled (enablePage p s) p = true := by
  have h : enabled (setB (Reg.CTRL p) 0 true s) p = true := getBit_setB_same _ _ _ _ (by decide)
  unfold enablePage
  dsimp only
  split
  · rw [enabled, getBit, reg_setPhase_other _ _ _ (ctrl_ne_status p p)]
    exact h
  · exact h

theorem enabled_enablePage_other (p : Page) {q : Page} (s : State) (h : pageBase p ≠ pageBase q) : enabled (enablePage p s) q = enabled s q := by
  have hc : Reg.CTRL p ≠ Reg.CTRL q := fun e => h (Nat.add_right_cancel e)
  rw [enabled, getBit, reg_enablePage_other p s hc (ctrl_ne_status p q), enabled, getBit]

theorem enablePage_dramSize (p : Page) (s : State) : (enablePage p s).dramSize = s.dramSize := by
  unfold enablePage
  dsimp only
  split <;> rfl

/-! ### Pumps lost at the end of P5 (R309, R313) -/

theorem resetPageRegs_clock (p : Page) (s : State) : (resetPageRegs p s).time = s.time ∧ (resetPageRegs p s).prime = s.prime := by
  unfold resetPageRegs
  dsimp only
  split <;> split <;> exact ⟨rfl, rfl⟩

theorem Steady.passCells {b : Bool} (h : Steady b s t) (k : Nat) (park : Bool) : Steady b s (passCells k park t) := by
  have horphan : ∀ {u : State} (m : Nat), Steady b s u → Steady b s (orphanNext park m u) := fun m hu => ite _ hu (hu.setCell _ _)
  have hd : Steady b s (dropPermits k park t) := h.forEach _ _ fun m _ u hu => ite _ (hu.setCell _ _) (horphan m (hu.setCell _ _))
  exact ite _ (hd.forEach _ _ fun m _ u hu => hu.setCell _ _) (hd.forEach _ _ fun m _ u hu => horphan m hu)

theorem Steady.refreshCommit {b : Bool} (h : Steady b s t) {k : Nat} (hk : k < 128) : Steady b s (refreshCommit k t) := by
  have ha : Unwatched (Reg.LOOP_TABLE_STATUS k) := by unfold Unwatched Reg.LOOP_TABLE_STATUS; omega
  have hg : Unwatched (Reg.GEN (pumpPage k)) := unwatched_header _ (by decide) (by decide)
  unfold Machine.refreshCommit
  extract_lets mask a was s1 s2
  have h1 : Steady b s s1 := (((h.setStatus _ _ _).setB _ _ ha).setF _ _ _ ha).refreshStatus _
  have h2 : Steady b s s2 := ite _ (h1.wrapF _ _ hg) h1
  exact ite _ (h2.setInt _ _) h1

/-- The loss of a pump takes no time, and is beside the path's record. -/
theorem pumpLost_clock {k : Nat} (hk : k < 128) (cause : Nat) (s : State) :
    (pumpLost k cause s).time = s.time ∧ (pumpLost k cause s).prime = s.prime := by
  unfold pumpLost
  extract_lets losses p pump s1 s2 s3 failed s4 s5 s6 s7
  have h1 : Steady false s s1 := ((Steady.refl false s).setTwinStatus _ _ _ _).setPump _ _
  have h2 : Steady false s s2 := h1.passCells _ _
  obtain ⟨htime, hprime⟩ : s3.time = s2.time ∧ s3.prime = s2.prime := resetPageRegs_clock p s2
  have h4 : Steady false s3 s4 := (((Steady.refl false s3).setTwinStatus _ _ _ _).setTwinStatus _ _ _ _).setTwinStatus _ _ _ _
  have h6 : Steady false s3 s6 := ((h4.setPhase _ _).setFault _ _).setInt _ _
  have h7 : Steady false s3 s7 := h6.whenB _ (h6.setFault _ _)
  have hend : Steady false s3 (refreshPair k (setInt (pumpPage (twin k)) 10 (refreshCommit k s7))) :=
    ((h7.refreshCommit hk).setInt _ _).refreshPair hk
  exact ⟨hend.time.trans (htime.trans h2.time), hend.prime.trans (hprime.trans h2.prime)⟩

/-- So do the losses of a list of pumps, each counted in its HEALTH_TEST. -/
theorem forEach_pumpLost_clock {l : List Nat} (hl : ∀ k ∈ l, k < 128) (s : State) :
    (forEach l (fun k t => bumpF (Reg.HEALTH_TEST k) 16 8 (pumpLost k 3 t)) s).time = s.time ∧
      (forEach l (fun k t => bumpF (Reg.HEALTH_TEST k) 16 8 (pumpLost k 3 t)) s).prime = s.prime := by
  refine forEach_keeps (fun t => t.time = s.time ∧ t.prime = s.prime) _ l (fun k hk t ht => ?_) ⟨rfl, rfl⟩
  obtain ⟨htime, hprime⟩ := pumpLost_clock (hl k hk) 3 t
  rw [bumpF_time, bumpF_prime]
  exact ⟨htime.trans ht.1, hprime.trans ht.2⟩

theorem primeMs_of_clock (h : t.time = s.time ∧ t.prime = s.prime) : primeMs t = primeMs s := by rw [primeMs, h.1, h.2, primeMs]

theorem primeMs_lt (s : State) : primeMs s < 2 ^ 16 := by
  have : primeMs s ≤ 0xFFFF := Nat.min_le_left _ _
  omega

/-! ### The commands -/

theorem exec_p5Complete_leads (failed : List (Fin 128)) (hs : stage s = 5) :
    ∃ t, exec (.p5Complete failed) s = .next t ∧ stage t = 6 ∧ getF t Reg.GLB_PRIME_MS 0 16 = primeMs s := by
  refine ⟨_, congrArg Host.Outcome.next (if_pos hs), ?_⟩
  extract_lets bad s1 s2 s3 u
  have hms : primeMs s1 = primeMs s := by
    have hf : Steady true s (if bad.isEmpty then s else failCode 9 5 s) := .ite _ (.refl _ _) ((Steady.refl true s).failCode 9 5)
    have hbad : ∀ k ∈ bad, k < 128 := fun k hk => by
      obtain ⟨x, -, rfl⟩ := List.mem_map.1 (List.mem_of_mem_filter hk)
      exact x.isLt
    obtain ⟨htime, hprime⟩ := forEach_pumpLost_clock hbad (if bad.isEmpty then s else failCode 9 5 s)
    exact primeMs_of_clock ⟨htime.trans hf.time, hprime.trans hf.prime⟩
  have h2 : stage s2 = 6 ∧ getF s2 Reg.GLB_PRIME_MS 0 16 = primeMs s := by
    refine ⟨stage_setStage (by decide) _, ?_⟩
    rw [getF, reg_setStage_other _ _ (by decide), ← getF, getF_setF_same _ _ _ _ _ (by decide), hms, Nat.mod_eq_of_lt (primeMs_lt s)]
  have h3 : Steady true s2 s3 := (Steady.refl true s2).enablePage _
  have hend : Steady true s2 (if standAlone s3 then setF Reg.RING_STATUS 2 2 u.pins.pos u else trainLanes (setPhase ringPage .running s3)) := by
    refine .ite _ ((((((h3.setB _ _ (by decide)).setF _ _ _ (by decide)).setB _ _ (by decide)).setB _ _ (by decide))).setF _ _ _ (by decide)) ?_
    refine (h3.setPhase _ _).forEach _ _ fun l hl v hv => .ite _ (hv.setF _ _ _ ?_) hv
    have := List.mem_range.1 hl
    unfold Unwatched Reg.RING_LANE
    omega
  refine ⟨hend.stage.trans h2.1, ?_⟩
  rw [getF, hend.word _ (by decide) (by decide) (by decide)]
  exact h2.2

/-- P6's end without the bit that shows the ring left out. -/
theorem exec_p6Complete_leads (hs : stage s = 6) :
    ∃ t, exec .p6Complete s = .next t ∧ stage t = 7 ∧ getF t Reg.GLB_PRIME_MS 16 16 = primeMs s ∧
      enabled t epochPage = true ∧ enabled t routePage = true ∧ enabled t verdictPage = true ∧
      (standAlone s = false → joinState s ≠ 2 → getBit t Reg.GLB_PRIME_STATUS 8 = true) ∧
      (standAlone s = true ∨ joinState s = 2 → getBit t Reg.GLB_PRIME_STATUS 8 = getBit s Reg.GLB_PRIME_STATUS 8) := by
  refine ⟨_, congrArg Host.Outcome.next (if_pos hs), ?_⟩
  extract_lets out s1 s2
  have hms : primeMs s1 = primeMs s := by
    have hf : Steady true s (setB Reg.GLB_PRIME_STATUS 8 true (failCode 0xA 6 s)) :=
      ((Steady.refl true s).failCode _ _).setPrimeStatus _ (by decide)
    have h1 : Steady true s s1 := .ite _ (hf.beside rfl) (.refl _ s)
    exact primeMs_of_clock ⟨h1.time, h1.prime⟩
  have hms2 : getF s2 Reg.GLB_PRIME_MS 16 16 = primeMs s := by
    rw [getF, reg_setStage_other _ _ (by decide), ← getF, getF_setF_same _ _ _ _ _ (by decide), hms, Nat.mod_eq_of_lt (primeMs_lt s)]
  have hbit2 : getBit s2 Reg.GLB_PRIME_STATUS 8 = getBit s1 Reg.GLB_PRIME_STATUS 8 := by
    have h1 : getBit s2 Reg.GLB_PRIME_STATUS 8 = getBit (setF Reg.GLB_PRIME_MS 16 16 (primeMs s1) s1) Reg.GLB_PRIME_STATUS 8 :=
      (congrArg (bitOf · 8) (reg_setF_same _ _ _ _ _)).trans (bitOf_setFld_other _ _ _ _ _ (.inr (by decide)) (by decide))
    rw [h1, getBit, reg_setF_other _ _ _ _ (by decide), getBit]
  have h3 : Steady true s2 (enablePage verdictPage (enablePage routePage (enablePage epochPage s2))) :=
    (((Steady.refl true s2).enablePage _).enablePage _).enablePage _
  have hreg : reg (enablePage verdictPage (enablePage routePage (enablePage epochPage s2))) Reg.GLB_PRIME_STATUS = reg s2 Reg.GLB_PRIME_STATUS := by
    rw [reg_enablePage_other _ _ (by decide) (by decide), reg_enablePage_other _ _ (by decide) (by decide),
      reg_enablePage_other _ _ (by decide) (by decide)]
  have hbit : getBit (enablePage verdictPage (enablePage routePage (enablePage epochPage s2))) Reg.GLB_PRIME_STATUS 8 =
      getBit s1 Reg.GLB_PRIME_STATUS 8 := by
    rw [getBit, hreg, ← getBit, hbit2]
  refine ⟨h3.stage.trans (stage_setStage (by decide) _), ?_, ?_, ?_, enabled_enablePage _ _, fun ha hj => hbit.trans ?_, fun ha => hbit.trans ?_⟩
  · rw [getF, h3.word _ (by decide) (by decide) (by decide)]
    exact hms2
  · rw [enabled_enablePage_other _ _ (by decide), enabled_enablePage_other _ _ (by decide), enabled_enablePage]
  · rw [enabled_enablePage_other _ _ (by decide), enabled_enablePage]
  · have hout : out = true := by simp [out, ha, hj]
    rw [show s1 = _ from if_pos hout, getBit, reg_sendRaise]
    exact getBit_setB_same _ _ _ _ (by decide)
  · have hout : out = false := by rcases ha with ha | ha <;> simp [out, ha]
    rw [show s1 = s from if_neg (by simp [hout])]

theorem exec_dramTrainingComplete_trained {ch : Fin 4} (bytes : BitVec 40) (h3 : 3 ≤ stage s) (h7 : stage s ≤ 7)
    (he : enabled s ⟨.ddr, ch.val⟩ = false) :
    ∃ t, exec (.dramTrainingComplete ch true bytes) s = .next t ∧ t.dramSize = s.dramSize + bytes.toNat ∧
      enabled t ⟨.ddr, ch.val⟩ = true ∧ SameRegsBut [Reg.CTRL ⟨.ddr, ch.val⟩, Reg.STATUS ⟨.ddr, ch.val⟩] s t := by
  have hgo : ¬ (stage s < 3 || 7 < stage s || enabled s ⟨.ddr, ch.val⟩) = true := by simp [he]; omega
  refine ⟨enablePage ⟨.ddr, ch.val⟩ { s with dramSize := s.dramSize + bytes.toNat }, congrArg Host.Outcome.next (if_neg hgo),
    enablePage_dramSize _ _, enabled_enablePage _ _, fun a ha => ?_⟩
  simp only [List.mem_cons, List.not_mem_nil, or_false, not_or] at ha
  exact reg_enablePage_other _ _ (Ne.symm ha.1) (Ne.symm ha.2)

/-- The end of P4's work, a watched die apart and a well of it lost. -/
theorem exec_p4Complete_leads (failed : List (Fin 304)) (hs : stage s = 4) (hw : s.prime.waiting = false)
    (hcal : ∀ e ∈ s.prime.calStaged, calMask s.variant e.1 ≠ none) :
    ∃ t, exec (.p4Complete failed) s = .next t ∧
      (dieUnwatched s = false → (∀ w ∈ failed, w.val < 298 ∨ 301 < w.val) →
        (stage t = 4 ∧ t.prime.waiting = true) ∨ (stage t = 5 ∧ t.prime.waiting = false)) ∧
      ((∃ w ∈ failed, 298 ≤ w.val ∧ w.val ≤ 301) → stage t = 0xF) := by
  refine ⟨unwatched (p4Complete failed s), congrArg Host.Outcome.next (if_pos hs), fun hdie hfailed => ?_, ?_⟩
  · obtain ⟨t, ht, he⟩ := dieUnwatched_p4Complete failed hs hw hcal
    have hwatched : dieUnwatched (p4Complete failed s) = false := by
      rw [he, ht.watched fun w hw => ?_, hdie]
      obtain ⟨x, hx, rfl⟩ := List.mem_map.1 (List.mem_of_mem_filter (List.mem_reverse.1 hw))
      exact hfailed x hx
    rw [unwatched, if_neg (by simp [hwatched])]
    exact p4Complete_enters failed hs hw
  · rintro ⟨w, hwf, h1, h2⟩
    obtain ⟨t, ht, he⟩ := dieUnwatched_p4Complete failed hs hw hcal
    have hpresent : (wellPage w.val).present s.variant = true := by
      rw [wellPage, if_neg (by omega), if_neg (by omega)]
      exact decide_eq_true (p := w.val - 288 < 16) (by omega)
    have hlost : w.val ∈ (failedWells failed s).reverse :=
      List.mem_reverse.2 (List.mem_filter.2 ⟨List.mem_map_of_mem hwf, hpresent⟩)
    have hun : dieUnwatched (p4Complete failed s) = true := he.trans (ht.unwatched hlost h1 h2)
    rw [unwatched, if_pos hun]
    exact stage_thermalShutdown _ _ _ _

theorem exec_calDoneWrite {req : Requester} (h : WriteReaches req Reg.GLB_CAL_DONE s) : exec (.calDoneWrite req) s = .next (calDoneWrite s) :=
  congrArg Host.Outcome.next (hostWrite_reaches calDoneWrite h)

/-- Settles O20, stage by stage. -/
theorem primingPassesItsStagesInOrder : Obligations.PrimingPassesItsStagesInOrder := by
  unfold Obligations.PrimingPassesItsStagesInOrder
  refine ⟨fun clkref xref s hc hp hr => ?_, fun s hs hc => ?_, fun a b s hs hb => ?_, fun s hs => ?_,
    fun failed s hs hw hcal => exec_p4Complete_leads failed hs hw hcal, fun req s hs hk hreach => ?_, fun s hs hw => ?_,
    fun failed s hs => exec_p5Complete_leads failed hs, fun s hs => exec_p6Complete_leads hs,
    fun ch bytes s h3 h7 he => exec_dramTrainingComplete_trained bytes h3 h7 he⟩
  · have hgo : ¬ (s.time.counting || !s.pins.pwrgood || !s.pins.resetN) = true := by simp [hc, hp, hr]
    refine ⟨_, congrArg Host.Outcome.next (if_neg hgo), ?_, ?_, stage_enterP1 _⟩
    · exact congrArg Clock.counting (enterP1_steady _).time
    · exact congrArg Clock.uptime (enterP1_steady _).time
  · refine ⟨setStage 2 s, congrArg Host.Outcome.next (if_pos (by simp [hs, hc])), stage_setStage (by decide) s, ?_⟩
    exact (OnlyRegs.refl _ _).setF _ _ _ (by decide)
  · refine ⟨enterP3 (bootFlash a b s).1, congrArg Host.Outcome.next ((if_pos hs).trans ?_), stage_enterP3 _⟩
    generalize bootFlash a b s = r at hb ⊢
    obtain ⟨t, ok⟩ := r
    obtain rfl : ok = true := hb
    rfl
  · refine ⟨_, congrArg Host.Outcome.next (if_pos hs), ?_⟩
    extract_lets on lock
    obtain ⟨hstage, hbias, hreg⟩ := enterP4_enters (setB Reg.CLK_SRC_STATUS 7 true
      (setB Reg.CLK_SRC_STATUS 5 (getBit s Reg.CLK_SRC_STATUS 0) (setB Reg.CLK_SRC_STATUS 2 lock s)))
    refine ⟨hstage, ?_, hbias⟩
    rw [getBit, hreg]
    exact getBit_setB_same _ _ _ _ (by decide)
  · have hgo : (stage s = 4 && coldKind s) = true := by simp [hs, hk]
    refine ⟨calDoneWrite s, exec_calDoneWrite hreach, fun hw => ?_, fun hw => ?_⟩
    · rw [show calDoneWrite s = _ from (if_pos hgo).trans (if_pos hw)]
      exact exitP4_enters _
    · exact (if_pos hgo).trans (if_neg (by simp [modPrime, hw]))
  · refine ⟨exitP4 s, congrArg Host.Outcome.next (if_pos (by simp [hs, hw])), exitP4_enters s⟩

end Sys2Proof.Machine
end

section
/-! PROOF. Warm and clock resets (R126 to R131, R135, R614): when they take effect, and what is gone then. -/

namespace Sys2Proof.Machine

open Sys2Proof

variable {s t : State}

/-! ### What is gone (R129, R131) -/

/-- The epochs, the schedule, the capture streams, the reports to come, the ports' queues, and whether a warm reset is requested. -/
def inHand (s : State) : List Epoch × Option Schedule × SMap CaptStream × List Report × PortState × Bool :=
  (s.epochs, s.schedule, s.streams, s.reports, s.ports, s.warmRequested)

@[simp] theorem inHand_setReg (a : Nat) (v : Word) (s : State) : inHand (setReg a v s) = inHand s := rfl
@[simp] theorem inHand_setF (a lo w v : Nat) (s : State) : inHand (setF a lo w v s) = inHand s := rfl
@[simp] theorem inHand_setB (a i : Nat) (v : Bool) (s : State) : inHand (setB a i v s) = inHand s := rfl
@[simp] theorem inHand_setPhase (p : Page) (f : Phase) (s : State) : inHand (setPhase p f s) = inHand s := rfl
@[simp] theorem inHand_showWh (s : State) : inHand (showWh s) = inHand s := by simp [showWh]

@[simp] theorem inHand_markStale (v : Bool) (n : Nat) (s : State) : inHand (markStale v n s) = inHand s := by
  simp [markStale, refreshPumpStale, setStale, refreshStale]

@[simp] theorem inHand_enablePage (p : Page) (s : State) : inHand (enablePage p s) = inHand s := by
  unfold enablePage
  dsimp only
  split <;> rfl

@[simp] theorem inHand_reserveBlock (s : State) : inHand (reserveBlock s) = inHand s := by
  unfold reserveBlock
  split
  · rfl
  · obtain ⟨r, f, h⟩ := setFault_frame whPage 2 (modWh (fun w => { w with block := none }) s)
    rw [h]
    rfl

theorem inHand_forEach {α : Type} (l : List α) {f : α → State → State} (hf : ∀ x t, inHand (f x t) = inHand t) (s : State) :
    inHand (forEach l f s) = inHand s := forEach_keeps (fun t => inHand t = inHand s) f l (fun x _ t ht => (hf x t).trans ht) rfl

/-- P1's entry leaves what is in hand. -/
theorem inHand_enterP1 (s : State) : inHand (enterP1 s) = inHand s := by
  unfold enterP1
  extract_lets s1 s2 s3 s4
  have h2 : inHand s2 = inHand s := inHand_forEach _ (fun p t => inHand_setPhase p _ t) s1
  have h3 : inHand s3 = inHand s := (inHand_forEach _ (fun k t => inHand_enablePage ⟨k, 0⟩ t) s2).trans h2
  have h4 : inHand s4 = inHand s := by simpa [s4] using h3
  rw [inHand_showWh]
  split
  · rw [inHand_reserveBlock, h4]
  · exact h4

/-- A warm state keeps nothing in hand. -/
theorem inHand_warmState (s : State) : inHand (warmState s) = ([], none, [], [], State.reset.ports, false) := by
  unfold warmState inHand
  rfl

/-! ### A reset takes effect -/

theorem getBit_setReg_or (a i m : Nat) (hm : (word m).getLsbD i = true) (s : State) : getBit (setReg a (reg s a ||| word m) s) a i = true := by
  simp [getBit, bitOf, hm]

/-- The state that a reset leaves as P1 begins: HELD says whether columns are held, and their outputs are stale. -/
theorem warmTake_begins (kind : PathKind) (parkAll : Bool) (s : State) :
    ∃ (held : List Nat) (u : State), (kind ≠ .warm ∨ parkAll = true → held = []) ∧ inHand u = ([], none, [], [], State.reset.ports, false) ∧
      (kind = .warm → getBit u Reg.GLB_RESET_CAUSE 2 = true) ∧ (kind = .clock → getBit u Reg.GLB_RESET_CAUSE 4 = true) ∧
      getBit u Reg.GLB_PRIME_STATUS 4 = (!held.isEmpty) ∧
      warmTake kind parkAll s = forEach held (fun c t => forEach (colSlots c) (markStale true) t) (enterP1 u) := by
  unfold warmTake
  extract_lets cols drive may held copying s1 s2 s3 s4 s5 path s6 cause s7 s8 mark
  have h5 : inHand s5 = ([], none, [], [], State.reset.ports, false) := inHand_warmState _
  have hparked : kind ≠ .warm ∨ parkAll = true → held = [] := by
    rintro (h | h) <;> simp [held, may, h]
  have hcause : ∀ i, (word cause).getLsbD i = true → getBit s7 Reg.GLB_RESET_CAUSE i = true := fun i hi => getBit_setReg_or _ _ _ hi _
  have hwarm : kind = .warm → (word cause).getLsbD 2 = true := by
    rintro rfl
    cases hh : held.isEmpty <;> simp [cause, hh] <;> rfl
  have hclock : kind = .clock → (word cause).getLsbD 4 = true := by
    rintro rfl
    rw [show cause = 0x10 from if_pos (by decide)]
    decide
  have h7 : inHand s7 = inHand s5 := rfl
  clear_value s7 cause
  have h8 : inHand s8 = inHand s7 := by cases hc : copying <;> simp [s8, hc]
  have hreg : reg s8 Reg.GLB_RESET_CAUSE = reg s7 Reg.GLB_RESET_CAUSE := by
    cases hc : copying <;> simp [s8, hc, reg_setB_other _ _ _ (show Reg.GLB_PRIME_STATUS ≠ Reg.GLB_RESET_CAUSE by decide),
      reg_setB_other _ _ _ (show Reg.CEN_STATUS ≠ Reg.GLB_RESET_CAUSE by decide)]
  have hheld : getBit s8 Reg.GLB_PRIME_STATUS 4 = (!held.isEmpty) := by
    have h := getBit_setB_same s7 Reg.GLB_PRIME_STATUS 4 (!held.isEmpty) (by decide)
    cases hc : copying
    · simpa [s8, hc] using h
    · simpa [s8, hc, getBit_setB_other _ _ _ _ (show Reg.CEN_STATUS ≠ Reg.GLB_PRIME_STATUS by decide)] using h
  refine ⟨held, s8, hparked, h8.trans (h7.trans h5), fun hk => ?_, fun hk => ?_, hheld, rfl⟩
  · rw [getBit, hreg]
    exact hcause 2 (hwarm hk)
  · rw [getBit, hreg]
    exact hcause 4 (hclock hk)

theorem held_setStage (n : Nat) (s : State) : getBit (setStage n s) Reg.GLB_PRIME_STATUS 4 = getBit s Reg.GLB_PRIME_STATUS 4 :=
  (congrArg (bitOf · 4) (reg_setF_same _ _ _ _ _)).trans (bitOf_setFld_other _ _ _ _ _ (.inr (by decide)) (by decide))

/-- Where a warm or clock reset leads: into P1, with its cause, and with nothing in hand. -/
theorem warmTake_leads (kind : PathKind) (parkAll : Bool) (s : State) :
    stage (warmTake kind parkAll s) = 1 ∧ inHand (warmTake kind parkAll s) = ([], none, [], [], State.reset.ports, false) ∧
      (kind = .warm → getBit (warmTake kind parkAll s) Reg.GLB_RESET_CAUSE 2 = true) ∧
      (kind = .clock → getBit (warmTake kind parkAll s) Reg.GLB_RESET_CAUSE 4 = true) ∧
      (parkAll = true → getBit (warmTake kind parkAll s) Reg.GLB_PRIME_STATUS 4 = false) := by
  obtain ⟨held, u, hparked, hhand, hwarm, hclock, hheld, he⟩ := warmTake_begins kind parkAll s
  have hcol : ∀ c t, inHand (forEach (colSlots c) (markStale true) t) = inHand t := fun c t => inHand_forEach _ (inHand_markStale true) t
  have hmark : Steady true (enterP1 u) (warmTake kind parkAll s) := he ▸ (Steady.refl true (enterP1 u)).forEach _ _ fun c _ t ht =>
    ht.forEach _ _ fun n _ v hv => hv.markStale true n
  have hend : Steady true (setStage 1 (primeStart u)) (warmTake kind parkAll s) := (enterP1_steady u).trans hmark
  have hcause : ∀ i, getBit (warmTake kind parkAll s) Reg.GLB_RESET_CAUSE i = getBit u Reg.GLB_RESET_CAUSE i := fun i => by
    rw [getBit, hend.word _ (by decide) (by decide) (by decide), reg_setStage_other _ _ (by decide)]
    rfl
  refine ⟨hmark.stage.trans (stage_enterP1 u), ?_, fun hk => (hcause 2).trans (hwarm hk), fun hk => (hcause 4).trans (hclock hk), fun hp => ?_⟩
  · rw [he, inHand_forEach _ hcol, inHand_enterP1, hhand]
  · rw [hend.held rfl, show getBit (setStage 1 (primeStart u)) Reg.GLB_PRIME_STATUS 4 = getBit u Reg.GLB_PRIME_STATUS 4 from held_setStage 1 (primeStart u)]
    exact hheld.trans (by simp [hparked (.inr hp)])

/-! ### The commands -/

theorem warmRequest_takes {req : Requester} (hr : req = 0 ∨ req = 1) (hf : stage s ≠ 0xF)
    (he : stage s = 0xE → getF s Reg.GLB_PRIME_STATUS 16 8 = 3) (hw : s.warmRequested = false) (hn : warmRuns s = false) :
    (∀ e, committedEpoch s = some e → warmRequest req s = { s with warmRequested := true }) ∧
      (committedEpoch s = none → warmRequest req s = warmTake .warm false s) := by
  have hgo : ¬ (!(req == 0 || req == 1) || stage s = 0xF || (stage s = 0xE && getF s Reg.GLB_PRIME_STATUS 16 8 ≠ 3) ||
      s.warmRequested || warmRuns s) = true := by
    rcases hr with rfl | rfl <;> simpa [hf, hw, hn] using he
  exact ⟨fun e h => (if_neg hgo).trans (by rw [h]), fun h => (if_neg hgo).trans (by rw [h])⟩

theorem exec_warmResetTakesEffect (hw : s.warmRequested = true) :
    (∀ e, committedEpoch s = some e → exec .warmResetTakesEffect s = .next (warmTake .warm false (advanceTo (e.t + 900) s))) ∧
      (committedEpoch s = none → exec .warmResetTakesEffect s = .next (warmTake .warm false s)) := by
  have hgo : ¬ (!s.warmRequested) = true := by simp [hw]
  exact ⟨fun e h => congrArg Host.Outcome.next ((if_neg hgo).trans (by rw [h])),
    fun h => congrArg Host.Outcome.next ((if_neg hgo).trans (by rw [h]))⟩

theorem clockReset_takes (hg : governed s = false) (hp : s.prime.path = .clock → 7 ≤ stage s) : clockReset s = warmTake .clock true s :=
  if_neg (by simpa [hg] using hp)

theorem exec_testSessionEnd (ht : testSession s = true) :
    exec .testSessionEnd s = .next (if governed s then setB Reg.WH_DEBUG 3 false { s with pins := { s.pins with trstN := false } }
      else warmTake .warm true (setB Reg.WH_DEBUG 3 false { s with pins := { s.pins with trstN := false } })) := by
  refine congrArg Host.Outcome.next ((if_neg (by simp [ht])).trans ?_)
  dsimp only
  rw [governed_session]

/-- Settles O22, from where a reset that takes effect leads and what each command comes to. -/
theorem warmResetWaitsForTheCommittedEpoch : Obligations.WarmResetWaitsForTheCommittedEpoch := by
  unfold Obligations.WarmResetWaitsForTheCommittedEpoch
  refine ⟨fun kind parkAll s _ => ?_, fun req s hr hreach hf he hw hn => ?_, fun s hw => ?_, fun req s hreach hg hp => ?_, fun s ht => ?_⟩
  · obtain ⟨hstage, hhand, hwarm, hclock, hheld⟩ := warmTake_leads kind parkAll s
    simp only [inHand, Prod.mk.injEq] at hhand
    obtain ⟨hepochs, hschedule, hstreams, hreports, hports, hrequested⟩ := hhand
    exact ⟨hstage, hwarm, hclock, hheld, hepochs, hschedule, hstreams, hreports, congrArg PortState.queues hports, hrequested⟩
  · have hx : exec (.warmReset req) s = .next (warmRequest req s) :=
      congrArg Host.Outcome.next (hostWrite_reaches (warmRequest req) hreach)
    obtain ⟨hmark, htake⟩ := warmRequest_takes hr hf he hw hn
    exact ⟨fun e h => by rw [hx, hmark e h], fun h => by rw [hx, htake h]⟩
  · exact exec_warmResetTakesEffect hw
  · exact congrArg Host.Outcome.next ((hostWrite_reaches clockReset hreach).trans (clockReset_takes hg hp))
  · rw [exec_testSessionEnd ht]
    exact ⟨fun hg => by rw [if_neg (by simp [hg])], fun hg => by rw [if_pos hg]⟩

end Sys2Proof.Machine
end

section
/-! PROOF. The start-up failures (R146), and the values that a later GLB_CAL_DONE supplies. -/

namespace Sys2Proof.Machine

open Sys2Proof

/-- An operational device whose staged values hold one for GLB_PRIME_STATUS, which is no calibration value (R122). -/
def misstaged : State := { State.reset with
  regs := [(Reg.GLB_PRIME_STATUS, 0x87)]
  time := { State.reset.time with counting := true }
  prime := { State.reset.prime with calStaged := [(Reg.GLB_PRIME_STATUS, some 0)] } }

theorem misstaged_operates : stage misstaged = 7 ∧ getBit misstaged Reg.GLB_PRIME_STATUS 7 = true := by decide

theorem misstaged_reaches : WriteReaches 2 Reg.GLB_CAL_DONE misstaged := by decide

theorem stage_calDoneWrite_misstaged : stage (calDoneWrite misstaged) = 0 := by decide

/-- Refutes O21: its last clause asks that GLB_CAL_DONE keep the stage whatever is staged. The clause holds back nothing of what may stand
among the staged values, as O20 does, and the value staged for GLB_PRIME_STATUS in `misstaged` takes the stage from 7 to 0. -/
theorem not_startupFailuresRecordTheFirstCode : ¬ Obligations.StartupFailuresRecordTheFirstCode := by
  unfold Obligations.StartupFailuresRecordTheFirstCode
  rintro ⟨-, -, -, -, -, -, -, -, hcal⟩
  obtain ⟨hstage, hmissing⟩ := misstaged_operates
  obtain ⟨t, ht, -, -, hkeeps⟩ := hcal 2 misstaged (by rw [hstage]; decide) (by rw [hstage]) hmissing misstaged_reaches
  rw [exec_calDoneWrite misstaged_reaches] at ht
  obtain rfl : calDoneWrite misstaged = t := by simpa using ht
  rw [stage_calDoneWrite_misstaged, hstage] at hkeeps
  exact absurd hkeeps (by decide)

end Sys2Proof.Machine
end

section
/-! PROOF. The inner operations of the epoch unit (R160, R168, R173, R181, R520): what they leave of the registers, the bytes and the
schedule, and what a drop does to the list of epochs and to the reports. -/

namespace Sys2Proof.Machine

open Sys2Proof

/-! ### The next job (R168) -/

/-- The start of the next job changes BUSY and JOB, the epochs' jobs and the preparation. -/
theorem startJob_frame (s : State) :
    (∃ r e p j, startJob s = { s with regs := r, epochs := e, preparation := p, jobStart := j }) ∧
      SameRegsBut [Reg.ROUTE_STATUS] s (startJob s) := by
  have hshow : ∀ u : State, u.regs = s.regs → SameRegsBut [Reg.ROUTE_STATUS] s (showRoute u) := fun u hu a ha => by
    rw [showRoute, reg_setF_other _ _ _ _ (by simpa [eq_comm] using ha), reg, hu, reg]
  unfold startJob
  split
  · exact ⟨⟨_, _, _, _, rfl⟩, hshow _ rfl⟩
  · split
    · exact ⟨⟨_, _, _, _, rfl⟩, hshow _ rfl⟩
    · split
      · split
        · exact ⟨⟨_, _, _, _, rfl⟩, hshow _ rfl⟩
        · exact ⟨⟨_, _, _, _, rfl⟩, hshow _ rfl⟩
      · exact ⟨⟨_, _, _, _, rfl⟩, hshow _ rfl⟩

/-! ### What the unit's own work leaves alone -/

/-- An address in the EPOCH, ROUTE or EVT page. -/
abbrev EpochArea (a : Nat) : Prop := (0xB000 ≤ a ∧ a < 0xD000) ∨ (0x5000 ≤ a ∧ a < 0x6000)

/-- A register of those pages beside EPOCH_RESULT and SCHED_CTRL, of which some bits are watched. -/
abbrev EpochReg (a : Nat) : Prop := EpochArea a ∧ a ≠ Reg.EPOCH_RESULT ∧ a ≠ Reg.SCHED_CTRL

/-- Registers of those pages change, and what leaves the device, events and faults on their way: interrupts, faults and events of the unit. -/
def Signals (s t : State) : Prop :=
  (∃ r o v f, t = { s with regs := r, out := o, evt := v, flt := f }) ∧ ∀ a, ¬ EpochReg a → reg t a = reg s a

namespace Signals

variable {s t : State}

theorem refl (s : State) : Signals s s := ⟨⟨_, _, _, _, rfl⟩, fun _ _ => rfl⟩

theorem setReg (h : Signals s t) {a : Nat} (v : Word) (ha : EpochReg a) : Signals s (setReg a v t) := by
  obtain ⟨⟨r, o, e, f, rfl⟩, hr⟩ := h
  refine ⟨⟨_, _, _, _, rfl⟩, fun b hb => (reg_setReg_other _ _ ?_).trans (hr b hb)⟩
  rintro rfl
  exact hb ha

/-- What has left, the events and the faults are not watched. -/
theorem beside (h : Signals s t) (o : List Emission) (e : EvtState) (f : FltState) : Signals s { t with out := o, evt := e, flt := f } := by
  obtain ⟨⟨r, o', e', f', rfl⟩, hr⟩ := h
  exact ⟨⟨_, _, _, _, rfl⟩, hr⟩

theorem ite (c : Prop) [Decidable c] {u v : State} (hu : Signals s u) (hv : Signals s v) : Signals s (if c then u else v) := by
  split
  · exact hu
  · exact hv

theorem setInt (h : Signals s t) {p : Page} (i : Nat) (hp : p = epochPage ∨ p = evtPage) : Signals s (setInt p i t) := by
  have hb : Signals s (setB (Reg.INT_STATUS p) i true t) := h.setReg _ (by obtain rfl | rfl := hp <;> decide)
  unfold Machine.setInt intEdge
  exact .ite _ (hb.beside _ _ _) hb

theorem setFault (h : Signals s t) {p : Page} (i : Nat) (hp : p = epochPage ∨ p = evtPage) : Signals s (setFault p i t) := by
  have hb : Signals s (setB (Reg.FAULT_STATUS p) i true t) := h.setReg _ (by obtain rfl | rfl := hp <;> decide)
  unfold Machine.setFault
  refine .ite _ h ?_
  split
  · exact hb.beside _ _ _
  · exact hb

theorem taskLost (h : Signals s t) {n : Nat} (hn : n < 384) : Signals s (taskLost n t) := by
  have ha : EpochReg (Reg.EVT_TASK_STAT (n / 2)) := by
    unfold EpochReg EpochArea Reg.EVT_TASK_STAT Reg.EPOCH_RESULT Reg.SCHED_CTRL
    omega
  exact ((h.setReg _ ha).setReg _ ha).setInt _ (.inr rfl)

theorem deliverLater (h : Signals s t) (c gen : Nat) {n : Nat} (hn : n < 384) : Signals s (deliverLater c gen n t) := by
  unfold Machine.deliverLater
  refine .ite _ (taskLost ?_ hn) (h.beside _ _ _)
  exact h.beside _ _ _

theorem carry (h : Signals s t) (producer : Option Nat) (c gen : Nat) : Signals s (carry producer c gen t) := by
  have ha : EpochReg Reg.EVT_COLLIDE := by decide
  have he : ∀ e, Signals s { t with evt := e } := fun e => h.beside _ e _
  unfold Machine.carry
  dsimp only
  split
  · exact .ite _ (he _) ((ite _ (he _) ((he _).setReg _ ha)).setReg _ ha)
  · exact forEach_keeps (Signals s) _ _ (fun n hn u hu => hu.deliverLater _ _ (List.mem_range.1 (List.mem_of_mem_filter hn))) (he _)

theorem publish (h : Signals s t) (producer gen : Nat) : Signals s (publish producer gen t) := by
  have ha : EpochReg Reg.EVT_LOOP_INFO := by decide
  unfold Machine.publish
  refine .ite _ h ?_
  split
  · exact h
  · exact .ite _ ((((h.setReg _ ha).setReg _ ha).setReg _ ha).setInt _ (.inr rfl) |>.setFault _ (.inr rfl)) (h.carry _ _ _)

end Signals

/-- What the epoch unit does as it numbers, places, routes and drops epochs: the bytes, the registers of other pages, the next serial and
the submission are as before, of EPOCH_RESULT all but T_FIXED and NUM_FIXED; no bank becomes pending, the schedule stands or ends, and no report is lost. -/
structure EpochWork (s t : State) : Prop where
  mem : t.mem = s.mem
  dram : t.dram = s.dram ∧ t.dramGen = s.dramGen
  off : ∀ a, ¬ EpochArea a → reg t a = reg s a
  result : ∀ i, i < 32 → i ≠ 3 → i ≠ 4 → getBit t Reg.EPOCH_RESULT i = getBit s Reg.EPOCH_RESULT i
  pending : bankPending s = false → bankPending t = false
  schedule : t.schedule = s.schedule ∨ t.schedule = none
  serial : t.epochSerial = s.epochSerial
  submission : t.submission = s.submission
  reports : ∀ r ∈ s.reports, r ∈ t.reports

namespace EpochWork

variable {s t u : State} {l : List Nat}

theorem refl (s : State) : EpochWork s s :=
  ⟨rfl, ⟨rfl, rfl⟩, fun _ _ => rfl, fun _ _ _ _ => rfl, id, .inl rfl, rfl, rfl, fun _ => id⟩

theorem trans (h : EpochWork s t) (g : EpochWork t u) : EpochWork s u where
  mem := g.mem.trans h.mem
  dram := ⟨g.dram.1.trans h.dram.1, g.dram.2.trans h.dram.2⟩
  off a ha := (g.off a ha).trans (h.off a ha)
  result i h1 h3 h4 := (g.result i h1 h3 h4).trans (h.result i h1 h3 h4)
  pending hs := g.pending (h.pending hs)
  schedule := g.schedule.elim (fun e => h.schedule.imp e.trans e.trans) .inr
  serial := g.serial.trans h.serial
  submission := g.submission.trans h.submission
  reports r hr := g.reports r (h.reports r hr)

theorem sameBytes (h : EpochWork s t) : SameBytes s t := by
  refine ⟨fun a => ?_, fun a => ?_⟩
  · rw [memByte, h.mem, memByte]
  · rw [dramByte, h.dram.1, h.dram.2, dramByte]

theorem sameRegsOff (h : EpochWork s t) : SameRegsOff [epochPage, routePage, evtPage] s t := by
  intro a ha
  refine h.off a fun harea => ?_
  have he := ha epochPage (by simp)
  have hr := ha routePage (by simp)
  have hv := ha evtPage (by simp)
  simp only [pageBase, pageSize, epochPage, routePage, evtPage] at he hr hv
  omega

/-- Registers of the pages change beside EPOCH_RESULT and SCHED_CTRL, and what is watched besides does not. -/
theorem only (h : EpochWork s t) (hr : ∀ a, ¬ EpochReg a → reg u a = reg t a)
    (e : (u.mem, u.dram, u.dramGen, u.epochSerial, u.submission, u.schedule, u.reports) =
      (t.mem, t.dram, t.dramGen, t.epochSerial, t.submission, t.schedule, t.reports)) :
    EpochWork s u := by
  simp only [Prod.mk.injEq] at e
  obtain ⟨hmem, hdram, hgen, hserial, hsubmission, hsched, hreports⟩ := e
  have hresult : reg u Reg.EPOCH_RESULT = reg t Reg.EPOCH_RESULT := hr _ (by decide)
  have hctrl : reg u Reg.SCHED_CTRL = reg t Reg.SCHED_CTRL := hr _ (by decide)
  refine h.trans ⟨hmem, ⟨hdram, hgen⟩, fun a ha => hr a fun hm => ha hm.1, fun i _ _ _ => ?_, fun hp => ?_, .inl hsched, hserial, hsubmission,
    fun r => (hreports ▸ id)⟩
  · rw [getBit, hresult, getBit]
  · rwa [bankPending, getBit, hctrl]

/-- What stands beside the registers, the bytes, the serial, the submission, the schedule and the reports is not watched. -/
theorem beside (h : EpochWork s t) (e : (u.regs, u.mem, u.dram, u.dramGen, u.epochSerial, u.submission, u.schedule, u.reports) =
    (t.regs, t.mem, t.dram, t.dramGen, t.epochSerial, t.submission, t.schedule, t.reports)) : EpochWork s u := by
  rw [Prod.mk.injEq] at e
  exact h.only (fun a _ => by rw [reg, e.1, reg]) e.2

theorem signals (h : EpochWork s t) (g : Signals t u) : EpochWork s u := by
  obtain ⟨⟨r, o, e, f, rfl⟩, hr⟩ := g
  exact h.only hr rfl

theorem setReg (h : EpochWork s t) {a : Nat} (v : Word) (ha : EpochReg a) : EpochWork s (setReg a v t) :=
  h.signals ((Signals.refl t).setReg v ha)

theorem setF (h : EpochWork s t) {a : Nat} (lo w v : Nat) (ha : EpochReg a) : EpochWork s (setF a lo w v t) := h.setReg _ ha

theorem setB (h : EpochWork s t) {a : Nat} (i : Nat) (b : Bool) (ha : EpochReg a) : EpochWork s (setB a i b t) := h.setReg _ ha

theorem bumpF (h : EpochWork s t) {a : Nat} (lo w : Nat) (ha : EpochReg a) : EpochWork s (bumpF a lo w t) := h.setReg _ ha

theorem addF (h : EpochWork s t) {a : Nat} (lo w k : Nat) (ha : EpochReg a) : EpochWork s (addF a lo w k t) := h.setReg _ ha

theorem setReg64 (h : EpochWork s t) {a : Nat} (n : Nat) (ha : EpochReg a) (ha4 : EpochReg (a + 4)) : EpochWork s (setReg64 a n t) :=
  (h.setReg _ ha).setReg _ ha4

/-- T_FIXED and NUM_FIXED are not watched. -/
theorem setFixed (h : EpochWork s t) {i : Nat} (b : Bool) (hi : i = 3 ∨ i = 4) : EpochWork s (Machine.setB Reg.EPOCH_RESULT i b t) := by
  refine h.trans ⟨rfl, ⟨rfl, rfl⟩, fun a ha => reg_setB_other _ _ _ ?_, fun j hj h3 h4 => ?_, fun hp => ?_, .inl rfl, rfl, rfl, fun _ => id⟩
  · rintro rfl
    exact ha (by decide)
  · exact getBit_setB_beside _ _ _ _ _ (by omega) hj
  · rwa [bankPending, getBit_setB_other _ _ _ _ (by decide)]

/-- RUNNING and PENDING_BANK clear. -/
theorem clearSched (h : EpochWork s t) {i : Nat} (hi : i < 32) : EpochWork s (Machine.setB Reg.SCHED_CTRL i false t) := by
  refine h.trans ⟨rfl, ⟨rfl, rfl⟩, fun a ha => reg_setB_other _ _ _ ?_, fun j _ _ _ => ?_, fun hp => ?_, .inl rfl, rfl, rfl, fun _ => id⟩
  · rintro rfl
    exact ha (by decide)
  · exact getBit_setB_other _ _ _ _ (by decide)
  · by_cases h9 : i = 9
    · subst h9
      exact getBit_setB_same _ _ _ _ (by decide)
    · rwa [bankPending, getBit_setB_beside _ _ _ _ _ h9 (by decide)]

theorem ite (c : Prop) [Decidable c] {u v : State} (hu : EpochWork s u) (hv : EpochWork s v) : EpochWork s (if c then u else v) := by
  split
  · exact hu
  · exact hv

theorem forEach {α : Type} (h : EpochWork s t) (l : List α) (f : α → State → State)
    (hf : ∀ x ∈ l, ∀ u, EpochWork s u → EpochWork s (f x u)) : EpochWork s (forEach l f t) := forEach_keeps (EpochWork s) f l hf h

/-! ### Through numbering, routing and the schedule's end -/

theorem modEpoch (h : EpochWork s t) (id : Nat) (f : Epoch → Epoch) : EpochWork s (modEpoch id f t) := h.beside rfl

theorem showQueue (h : EpochWork s t) : EpochWork s (showQueue t) := h.setF _ _ _ (by decide)

theorem showRoute (h : EpochWork s t) : EpochWork s (showRoute t) := h.setF _ _ _ (by decide)

theorem removeEpoch (h : EpochWork s t) (id : Nat) : EpochWork s (removeEpoch id t) := showQueue (h.beside rfl)

theorem takeNumber (h : EpochWork s t) (id n : Nat) : EpochWork s (takeNumber id n t) :=
  .ite _ (((h.modEpoch id _).setReg64 _ (by decide) (by decide)).setFixed true (.inr rfl)) (h.modEpoch id _)

theorem takeNext (h : EpochWork s t) (id : Nat) : EpochWork s (Machine.takeNumber id (nextNumber t).1 (nextNumber t).2) := by
  have hn : EpochWork s (nextNumber t).2 := h.beside rfl
  exact hn.takeNumber _ _

theorem startJob (h : EpochWork s t) : EpochWork s (startJob t) := by
  obtain ⟨⟨r, e, p, j, hx⟩, hr⟩ := startJob_frame t
  refine h.only (fun a ha => hr a ?_) (by rw [hx])
  rw [List.mem_singleton]
  rintro rfl
  exact ha (by decide)

/-- The schedule ends (R181). -/
theorem schedEnd (h : EpochWork s t) : EpochWork s (schedEnd t) := by
  have hn : EpochWork s { t with schedule := none } :=
    h.trans ⟨rfl, ⟨rfl, rfl⟩, fun _ _ => rfl, fun _ _ _ _ => rfl, id, .inr rfl, rfl, rfl, fun _ => id⟩
  unfold Machine.schedEnd foldCycles
  split
  · exact (hn.clearSched (by decide)).clearSched (by decide)
  · exact ((hn.setReg64 _ (by decide) (by decide)).clearSched (by decide)).clearSched (by decide)

theorem schedCheck (h : EpochWork s t) : EpochWork s (schedCheck t) := by
  unfold Machine.schedCheck
  split
  · exact h
  · split
    · exact .ite _ h.schedEnd h
    · exact h

/-- A report joins those to come. -/
theorem addReport (h : EpochWork s t) (r : Report) : EpochWork s { t with reports := t.reports ++ [r] } :=
  h.trans ⟨rfl, ⟨rfl, rfl⟩, fun _ _ => rfl, fun _ _ _ _ => rfl, id, .inl rfl, rfl, rfl, fun _ => List.mem_append_left _⟩

end EpochWork

/-! ### An epoch apart from its number and its routing -/

/-- An epoch without what numbering and routing write: its number, its job and the job's result. -/
def Epoch.core (e : Epoch) : Epoch := { e with num := none, job := .none, result := none }

/-- The list of epochs without what numbering and routing write. -/
def cores (s : State) : List Epoch := s.epochs.map Epoch.core

variable {s t : State}

theorem mem_cores {c : Epoch} : c ∈ cores s ↔ ∃ e ∈ s.epochs, e.core = c := List.mem_map

theorem cores_modEpoch {f : Epoch → Epoch} (hf : ∀ e, (f e).core = e.core) (id : Nat) (s : State) : cores (modEpoch id f s) = cores s := by
  unfold cores modEpoch
  rw [List.map_map]
  refine List.map_congr_left fun e _ => ?_
  simp only [Function.comp_apply]
  split
  · exact hf e
  · rfl

@[simp] theorem cores_takeNumber (id n : Nat) (s : State) : cores (takeNumber id n s) = cores s := by
  have h : cores (modEpoch id (fun e => { e with num := some n }) s) = cores s := by exact cores_modEpoch (fun e => by rfl) id s
  unfold takeNumber
  dsimp only
  split
  · exact h
  · exact h

@[simp] theorem cores_startJob (s : State) : cores (startJob s) = cores s := by
  unfold startJob
  split
  · rfl
  · split
    · refine cores_modEpoch (fun e => ?_) _ _; rfl
    · split
      · split <;> rfl
      · rfl

theorem cores_removeEpoch (id : Nat) (s : State) : cores (removeEpoch id s) = (cores s).filter fun c => c.id != id := by
  unfold cores
  rw [List.filter_map]
  rfl

theorem epochs_schedEnd (s : State) : (schedEnd s).epochs = s.epochs := by
  unfold schedEnd foldCycles
  split <;> rfl

theorem epochs_schedCheck (s : State) : (schedCheck s).epochs = s.epochs := by
  unfold schedCheck
  split
  · rfl
  · split
    · split
      · exact epochs_schedEnd s
      · rfl
    · rfl

theorem Signals.epochs (h : Signals s t) : t.epochs = s.epochs := by
  obtain ⟨⟨_, _, _, _, rfl⟩, -⟩ := h
  rfl

theorem cores_congr (h : t.epochs = s.epochs) : cores t = cores s := by rw [cores, h, cores]

/-- A lookup by serial sees no number and no routing. -/
theorem find_cores (id : Nat) (s : State) :
    (cores s).find? (fun c => c.id == id) = (s.epochs.find? fun e => e.id == id).map Epoch.core := by
  unfold cores
  rw [List.find?_map]
  rfl

/-! ### Drops (R173, R180, R183, R185) -/

/-- A report of a dropped epoch: its status, and the tag and the preset of the epoch. -/
def Reported (status : Nat) (c : Epoch) (s : State) : Prop := ∃ r ∈ s.reports, r.status = status ∧ r.tag = c.tag ∧ r.preset = c.preset

theorem Reported.mono {status : Nat} {c : Epoch} (h : Reported status c s) (g : EpochWork s t) : Reported status c t := by
  obtain ⟨r, hr, hshow⟩ := h
  exact ⟨r, g.reports r hr, hshow⟩

/-- A drop is the unit's own work, takes the epoch out of the list and reports it. -/
theorem dropEpoch_does (status id : Nat) (s : State) :
    EpochWork s (dropEpoch status id s) ∧ cores (dropEpoch status id s) = (cores s).filter (fun c => c.id != id) ∧
      ∀ c, (cores s).find? (fun c => c.id == id) = some c → Reported status c (dropEpoch status id s) := by
  rw [find_cores]
  unfold dropEpoch
  split
  · next hn =>
    refine ⟨.refl s, (List.filter_eq_self.2 fun c hc => ?_).symm, by simp [hn]⟩
    obtain ⟨e, he, rfl⟩ := mem_cores.1 hc
    simpa [Epoch.core] using List.find?_eq_none.1 hn e he
  · next e he =>
    extract_lets s1 e1 s2 r s3 s4 s5 s6
    have h1 : EpochWork s s1 := .ite _ (.refl s) ((EpochWork.refl s).takeNext id)
    have hc1 : cores s1 = cores s := by
      unfold s1
      split
      · rfl
      · exact cores_takeNumber _ _ _
    have he1 : e1.core = e.core := by
      have hf := find_cores id s1
      rw [hc1, find_cores, he] at hf
      obtain ⟨x, hx, hcore⟩ := Option.map_eq_some_iff.1 hf.symm
      unfold e1
      rw [hx]
      exact hcore
    have h3 : EpochWork s s3 := (h1.removeEpoch id).addReport _
    have h4 : Signals s3 s4 := ((Signals.refl s3).setInt 2 (.inl rfl)).publish 6 0
    have h5 : Signals s3 s5 := by
      unfold s5
      split
      · exact h4.setFault _ (.inl rfl)
      · exact h4
    have h6 : Signals s3 s6 := .ite _ ((h5.setReg _ (by decide)).setInt 5 (.inl rfl)) h5
    have hlast : EpochWork s3 (schedCheck (startJob s6)) := ((EpochWork.refl s3).signals h6).startJob.schedCheck
    refine ⟨h3.trans hlast, ?_, fun c hc => ?_⟩
    · rw [cores_congr (epochs_schedCheck _), cores_startJob, cores_congr h6.epochs, ← hc1]
      exact cores_removeEpoch id s1
    · rw [he] at hc
      obtain rfl := Option.some.inj hc
      have htag := congrArg Epoch.tag he1
      have hpreset := congrArg Epoch.preset he1
      exact Reported.mono ⟨_, List.mem_append_right _ (List.mem_singleton_self _), rfl, htag, hpreset⟩ hlast

/-- Where no two epochs carry one serial, a serial finds its epoch. -/
theorem find_of_distinct {l : List Epoch} {c : Epoch} (hd : (l.map Epoch.id).Nodup) (hc : c ∈ l) :
    l.find? (fun x => x.id == c.id) = some c := by
  obtain ⟨x, hx⟩ := Option.isSome_iff_exists.1 (List.find?_isSome (p := fun x : Epoch => x.id == c.id).2 ⟨c, hc, beq_self_eq_true c.id⟩)
  have hid : x.id = c.id := by simpa using List.find?_some hx
  rw [hx, List.inj_on_of_nodup_map hd (List.mem_of_find?_eq_some hx) hc hid]

/-- Drops by a list of serials. -/
theorem dropEpochs_do (status : Nat) (l : List Nat) (s : State) :
    EpochWork s (forEach l (dropEpoch status) s) ∧ cores (forEach l (dropEpoch status) s) = (cores s).filter (fun c => c.id ∉ l) ∧
      (((cores s).map Epoch.id).Nodup → ∀ c ∈ cores s, c.id ∈ l → Reported status c (forEach l (dropEpoch status) s)) := by
  induction l generalizing s with
  | nil => exact ⟨.refl s, by simp, by simp⟩
  | cons i l ih =>
    obtain ⟨hwork, hcores, hreport⟩ := dropEpoch_does status i s
    obtain ⟨ihwork, ihcores, ihreport⟩ := ih (dropEpoch status i s)
    rw [forEach_cons]
    refine ⟨hwork.trans ihwork, ?_, fun hd c hc hi => ?_⟩
    · rw [ihcores, hcores, List.filter_filter]
      refine List.filter_congr fun c _ => ?_
      by_cases hci : c.id = i <;> simp [hci]
    · by_cases hci : c.id = i
      · exact (hreport c (hci ▸ find_of_distinct hd hc)).mono ihwork
      · have hmem : c ∈ cores (dropEpoch status i s) := by
          rw [hcores]
          exact List.mem_filter.2 ⟨hc, by simpa using hci⟩
        refine ihreport ?_ c hmem (by simpa [hci] using hi)
        rw [hcores]
        exact hd.sublist (List.filter_sublist.map _)

/-- Which epochs a drop takes: those that pass a test of what numbering and routing do not write, and have not committed. -/
theorem dropAll_does (status : Nat) {f : Epoch → Bool} (hf : ∀ e, f e.core = f e) (s : State) :
    EpochWork s (dropAll status f s) ∧ (∀ e ∈ (dropAll status f s).epochs, e.phase = .queued → f e = false) ∧
      (EpochsDistinct s → ∀ e ∈ s.epochs, e.phase = .queued → f e = true → Reported status e (dropAll status f s)) := by
  obtain ⟨hwork, hcores, hreport⟩ := dropEpochs_do status ((s.epochs.filter fun e => e.phase == .queued && f e).map Epoch.id) s
  refine ⟨hwork, fun e he hq => ?_, fun hd e he hq hfe => ?_⟩
  · have hmem : e.core ∈ cores (dropAll status f s) := mem_cores.2 ⟨e, he, rfl⟩
    rw [dropAll, hcores, List.mem_filter, decide_eq_true_eq] at hmem
    obtain ⟨hmem, hnot⟩ := hmem
    obtain ⟨x, hx, hcore⟩ := mem_cores.1 hmem
    have hphase := congrArg Epoch.phase hcore
    have hid := congrArg Epoch.id hcore
    have hfx : f x = f e := by rw [← hf, hcore, hf]
    have hxq : x.phase = .queued := hphase.trans hq
    refine Bool.eq_false_of_not_eq_true fun hfe => hnot (List.mem_map.2 ⟨x, List.mem_filter.2 ⟨hx, ?_⟩, hid⟩)
    simp [hxq, hfx, hfe]
  · have hids : (cores s).map Epoch.id = s.epochs.map Epoch.id := by
      rw [cores, List.map_map]
      rfl
    refine hreport (by rw [hids]; exact hd.1) e.core (mem_cores.2 ⟨e, he, rfl⟩) ?_
    exact List.mem_map.2 ⟨e, List.mem_filter.2 ⟨he, by simp [hq, hfe]⟩, rfl⟩

end Sys2Proof.Machine
end

section
/-! PROOF. The commands of the rotating schedule (R175, R177, R178, R181, R636). -/

namespace Sys2Proof.Machine

open Sys2Proof

/-! ### The grid of slot instants (R175) -/

section
variable {s : State} {b : Nat}

theorem bankDwells_length (s : State) (b : Nat) : (bankDwells s b).length = bankLen s b := by simp [bankDwells]

theorem bankOffset_zero (s : State) (b : Nat) : bankOffset s b 0 = 0 := rfl

theorem bankOffset_mono {i j : Nat} (h : i ≤ j) : bankOffset s b i ≤ bankOffset s b j := by
  have hsplit := List.sum_take_add_sum_drop ((bankDwells s b).take j) i
  rw [List.take_take, Nat.min_eq_left h] at hsplit
  exact Nat.le.intro hsplit

/-- Every slot begins within the cycle, since no dwell is zero. -/
theorem bankOffset_lt_cycle (hd : ∀ d ∈ bankDwells s b, 10000 ≤ d) {j : Nat} (hj : j < bankLen s b) : bankOffset s b j < bankCycle s b := by
  have hlt : j < (bankDwells s b).length := by rwa [bankDwells_length]
  have hsplit := List.sum_take_add_sum_drop (bankDwells s b) j
  rw [List.drop_eq_getElem_cons hlt, List.sum_cons] at hsplit
  have := hd _ (List.getElem_mem hlt)
  unfold bankOffset bankCycle
  omega

/-- An instant from the base on is on the grid where it lies on a slot's offset from a start of a cycle. -/
theorem onGrid_iff {base t : Nat} (ht : base ≤ t) :
    onGrid s b base t = true ↔ bankCycle s b ≠ 0 ∧ ∃ j, j < bankLen s b ∧ (t - base) % bankCycle s b = bankOffset s b j := by
  have hcast : ((t : Int) - base) % (bankCycle s b : Nat) = ((t - base) % bankCycle s b : Nat) := by
    rw [← Int.natCast_sub ht]
    rfl
  simp only [onGrid, hcast, Bool.and_eq_true, bne_iff_ne, List.any_eq_true, List.mem_range, beq_iff_eq, Int.natCast_inj]

/-- The instant of the first slot from `t` on, in the cycle that begins at `start`, or at that cycle's end. -/
theorem firstSlot_cases {base t start : Nat} (hstart : start = base + (t - base) / bankCycle s b * bankCycle s b) (hc : bankCycle s b ≠ 0) :
    (∃ j, j < bankLen s b ∧ (∀ i, i < j → bankOffset s b i < t - start) ∧ t - start ≤ bankOffset s b j ∧
        (firstSlot s b base t).2.2 = start + bankOffset s b j) ∨
      ((∀ i, i < bankLen s b → bankOffset s b i < t - start) ∧ (firstSlot s b base t).2.2 = start + bankCycle s b) := by
  unfold firstSlot bankSlotFrom
  simp only [hc, if_false, ← hstart]
  split
  · next j hj =>
    rw [List.find?_range_eq_some] at hj
    obtain ⟨hle, hmem, hbefore⟩ := hj
    exact .inl ⟨j, by simpa using hmem, fun i hi => by simpa only [Bool.not_eq_true', decide_eq_false_iff_not, Nat.not_le] using hbefore i hi, by simpa using hle, rfl⟩
  · next hj =>
    rw [List.find?_range_eq_none] at hj
    exact .inr ⟨fun i hi => by simpa only [Bool.not_eq_true', decide_eq_false_iff_not, Nat.not_le] using hj i hi, rfl⟩

/-- The first slot at or after an instant lies on the grid, and no slot between the instant and it does (R177). -/
theorem firstSlot_first (hlen : bankLen s b ≠ 0) (hd : ∀ d ∈ bankDwells s b, 10000 ≤ d) (base t : Nat) :
    t ≤ (firstSlot s b base t).2.2 ∧ onGrid s b base (firstSlot s b base t).2.2 = true ∧
      ∀ u, onGrid s b base u = true → base ≤ u → u < (firstSlot s b base t).2.2 → u < t := by
  have hlt := fun j (hj : j < bankLen s b) => bankOffset_lt_cycle hd hj
  have hpos : 0 < bankCycle s b := (Nat.zero_le _).trans_lt (hlt 0 (by omega))
  have hne : bankCycle s b ≠ 0 := by omega
  obtain ⟨start, hstart⟩ : ∃ start, start = base + (t - base) / bankCycle s b * bankCycle s b := ⟨_, rfl⟩
  have hx := Nat.div_add_mod' (t - base) (bankCycle s b)
  have hxlt := Nat.mod_lt (t - base) hpos
  /- A slot of the grid from `t` on, before the next cycle: it lies in the cycle of `start`. -/
  have hcycle : ∀ u, onGrid s b base u = true → base ≤ u → u < start + bankCycle s b → t ≤ u →
      ∃ i, i < bankLen s b ∧ u = start + bankOffset s b i := by
    intro u hu hbase hub htu
    obtain ⟨-, i, hi, hmod⟩ := (onGrid_iff hbase).1 hu
    have hquot : (u - base) / bankCycle s b = (t - base) / bankCycle s b := by
      refine le_antisymm (Nat.lt_succ_iff.1 ((Nat.div_lt_iff_lt_mul hpos).2 ?_)) (Nat.div_le_div_right (by omega))
      rw [Nat.succ_mul]
      omega
    have hsplit := Nat.div_add_mod' (u - base) (bankCycle s b)
    rw [hquot, hmod] at hsplit
    exact ⟨i, hi, by omega⟩
  rcases firstSlot_cases hstart hne with ⟨j, hj, hbefore, hat, hf⟩ | ⟨hbefore, hf⟩ <;> rw [hf]
  · refine ⟨by omega, (onGrid_iff (by omega)).2 ⟨hne, j, hj, ?_⟩, fun u hu hbase hlast => ?_⟩
    · rw [show start + bankOffset s b j - base = bankOffset s b j + (t - base) / bankCycle s b * bankCycle s b by omega,
        Nat.add_mul_mod_self_right, Nat.mod_eq_of_lt (hlt j hj)]
    · by_contra htu
      obtain ⟨i, -, rfl⟩ := hcycle u hu hbase (by have := hlt j hj; omega) (by omega)
      rcases Nat.lt_or_ge i j with hij | hij
      · have := hbefore i hij
        omega
      · have := bankOffset_mono (s := s) (b := b) hij
        omega
  · refine ⟨by omega, (onGrid_iff (by omega)).2 ⟨hne, 0, by omega, ?_⟩, fun u hu hbase hlast => ?_⟩
    · rw [show start + bankCycle s b - base = ((t - base) / bankCycle s b + 1) * bankCycle s b by rw [Nat.succ_mul]; omega,
        Nat.mul_mod_left, bankOffset_zero]
    · by_contra htu
      obtain ⟨i, hi, rfl⟩ := hcycle u hu hbase hlast (by omega)
      have := hbefore i hi
      omega

end

/-! ### START and SWITCH_BANK (R177, R178) -/

variable {req : Requester} {s : State}

/-- What a bank is refused for (R177). -/
theorem bankRefused_iff (b : Nat) :
    bankRefused s b = true ↔ epochQueue s ≠ [] ∨ bankLen s b = 0 ∨ (∃ d ∈ bankDwells s b, d < 10000) ∨
      getF s Reg.SCHED_LEAD 0 13 < 50 ∨ 5000 < getF s Reg.SCHED_LEAD 0 13 := by
  simp only [bankRefused, leadOk, Bool.or_eq_true, Bool.not_eq_true', List.isEmpty_eq_false_iff, decide_eq_true_eq, List.any_eq_true,
    Bool.and_eq_false_iff, decide_eq_false_iff_not, Nat.not_le, or_assoc]

/-- A refused command sets START_REFUSED and does nothing else. -/
theorem schedRefused_shows (s : State) :
    getBit (setB Reg.SCHED_CTRL 10 true s) Reg.SCHED_CTRL 10 = true ∧ schedRunning (setB Reg.SCHED_CTRL 10 true s) = schedRunning s ∧
      bankPending (setB Reg.SCHED_CTRL 10 true s) = bankPending s ∧ OnlyRegs [Reg.SCHED_CTRL] s (setB Reg.SCHED_CTRL 10 true s) :=
  ⟨getBit_setB_same _ _ _ _ (by decide), getBit_setB_beside _ _ _ _ _ (by decide) (by decide),
    getBit_setB_beside _ _ _ _ _ (by decide) (by decide), (OnlyRegs.refl _ s).setB _ _ (by simp)⟩

theorem schedStart_refused (h : schedRunning s = true ∨ bankRefused s (activeBankOf s) = true ∨ throttle s 2 = true) :
    schedStart s = setB Reg.SCHED_CTRL 10 true s := by
  unfold schedStart
  exact if_pos (by simpa [or_assoc] using h)

/-- The schedule that START begins: its first slot is the first of the grid that lies far enough ahead. -/
def startedSchedule (s : State) : Schedule :=
  let f := firstSlot s (activeBankOf s) (reg64 s Reg.SCHED_BASE_LO / 4 * 4) (ptpNow s + slotLead s)
  { base := f.1, next := f.2.1, at_ := f.2.2, first := f.2.2, stopAt := none, switchAt := none, ends := [] }

theorem schedStart_starts (hr : schedRunning s = false) (hb : bankRefused s (activeBankOf s) = false) (ht : throttle s 2 = false) :
    schedStart s = setB Reg.SCHED_CTRL 8 true (setB Reg.SCHED_CTRL 10 false { s with schedule := some (startedSchedule s) }) := by
  unfold schedStart
  exact if_neg (by simp [hr, hb, ht])

theorem start_acts (hr : schedRunning s = false) (hb : bankRefused s (activeBankOf s) = false) (ht : throttle s 2 = false) :
    schedRunning (schedStart s) = true ∧ getBit (schedStart s) Reg.SCHED_CTRL 10 = false ∧ (schedStart s).schedule = some (startedSchedule s) ∧
      OnlyRegs [Reg.SCHED_CTRL] { s with schedule := (schedStart s).schedule } (schedStart s) := by
  rw [schedStart_starts hr hb ht]
  refine ⟨getBit_setB_same _ _ _ _ (by decide), ?_, rfl, ((OnlyRegs.refl _ _).setB _ _ (by simp)).setB _ _ (by simp)⟩
  rw [getBit_setB_beside _ _ _ _ _ (by decide) (by decide), getBit_setB_same _ _ _ _ (by decide)]

theorem schedSwitch_refused
    (h : s.schedule = none ∨ bankPending s = true ∨ (∃ c e, s.schedule = some c ∧ c.stopAt = some e) ∨ bankRefused s (1 - activeBankOf s) = true) :
    schedSwitch s = setB Reg.SCHED_CTRL 10 true s := by
  unfold schedSwitch
  split
  · rfl
  · next c hc =>
    refine if_pos ?_
    rcases h with h | h | ⟨c', e, hc', he⟩ | h
    · simp [hc] at h
    · simp [h]
    · obtain rfl := Option.some.inj (hc.symm.trans hc')
      simp [he]
    · simp [h]

/-- The state in which SWITCH_BANK has made the other bank pending. -/
def switchPending (s : State) : State := setB Reg.SCHED_CTRL 9 true (setB Reg.SCHED_CTRL 10 false s)

theorem schedSwitch_pends {c : Schedule} (hc : s.schedule = some c) (he : c.stopAt = none) (hp : bankPending s = false)
    (hb : bankRefused s (1 - activeBankOf s) = false) :
    schedSwitch s = if c.next = 0 then { switchPending s with schedule := some { c with switchAt := some c.at_, base := c.at_ } }
      else switchPending s := by
  unfold schedSwitch
  rw [hc]
  exact if_neg (by simp [he, hp, hb])

theorem switchPending_shows (s : State) :
    bankPending (switchPending s) = true ∧ getBit (switchPending s) Reg.SCHED_CTRL 10 = false ∧
      activeBankOf (switchPending s) = activeBankOf s := by
  unfold switchPending
  refine ⟨getBit_setB_same _ _ _ _ (by decide), ?_, ?_⟩
  · rw [getBit_setB_beside _ _ _ _ _ (by decide) (by decide), getBit_setB_same _ _ _ _ (by decide)]
  · unfold activeBankOf
    rw [setB, getF_setF_beside _ _ _ _ _ _ _ (by decide) (by decide), setB, getF_setF_beside _ _ _ _ _ _ _ (by decide) (by decide)]

theorem switchPending_only (s : State) : OnlyRegs [Reg.SCHED_CTRL] s (switchPending s) :=
  ((OnlyRegs.refl _ s).setB 10 false (by simp)).setB 9 true (by simp)

@[simp] theorem switchPending_schedule (s : State) : (switchPending s).schedule = s.schedule := by
  rw [switchPending, setB, setF_schedule, setB, setF_schedule]

theorem OnlyRegs.setSchedule {l : List Nat} {s t : State} (h : OnlyRegs l s t) (c : Option Schedule) :
    OnlyRegs l { s with schedule := c } { t with schedule := c } := by
  obtain ⟨⟨r, rfl⟩, hregs⟩ := h
  exact ⟨⟨r, rfl⟩, hregs⟩

theorem switchBank_acts {c : Schedule} (hc : s.schedule = some c) (he : c.stopAt = none) (hp : bankPending s = false)
    (hb : bankRefused s (1 - activeBankOf s) = false) :
    bankPending (schedSwitch s) = true ∧ getBit (schedSwitch s) Reg.SCHED_CTRL 10 = false ∧ activeBankOf (schedSwitch s) = activeBankOf s ∧
      (c.next = 0 → (schedSwitch s).schedule = some { c with switchAt := some c.at_, base := c.at_ }) ∧
      (c.next ≠ 0 → (schedSwitch s).schedule = s.schedule) ∧
      OnlyRegs [Reg.SCHED_CTRL] { s with schedule := (schedSwitch s).schedule } (schedSwitch s) := by
  obtain ⟨hpend, hclear, hbank⟩ := switchPending_shows s
  have honly := switchPending_only s
  have hsched := switchPending_schedule s
  rw [schedSwitch_pends hc he hp hb]
  generalize switchPending s = u at *
  split
  · next h0 => exact ⟨hpend, hclear, hbank, fun _ => rfl, fun h => absurd h0 h, honly.setSchedule _⟩
  · next h0 => exact ⟨hpend, hclear, hbank, fun h => absurd h h0, fun _ => hsched, hsched ▸ honly⟩

/-! ### STOP and STOP_AT_CYCLE_END (R181) -/

theorem schedEnd_ends (s : State) : (schedEnd s).schedule = none ∧ schedRunning (schedEnd s) = false ∧ bankPending (schedEnd s) = false := by
  unfold schedEnd schedRunning bankPending
  refine ⟨rfl, ?_, getBit_setB_same _ _ _ _ (by decide)⟩
  rw [getBit_setB_beside _ _ _ _ _ (by decide) (by decide), getBit_setB_same _ _ _ _ (by decide)]

/-- STOP ends the schedule and drops its uncommitted slots (R181). -/
theorem schedStop_stops (hr : schedRunning s = true) (hd : EpochsDistinct s) :
    (schedStop s).schedule = none ∧ schedRunning (schedStop s) = false ∧ bankPending (schedStop s) = false ∧
      (∀ e ∈ (schedStop s).epochs, e.scheduled = true → e.phase ≠ .queued) ∧
      (∀ e ∈ s.epochs, e.scheduled = true → e.phase = .queued → ∃ r ∈ (schedStop s).reports, r.status = 4 ∧ r.tag = e.tag) ∧
      SameBytes s (schedStop s) ∧ SameRegsOff [epochPage, routePage, evtPage] s (schedStop s) := by
  obtain ⟨hwork, hleft, hreport⟩ := dropAll_does 4 (f := Epoch.scheduled) (fun _ => rfl) s
  have hend := (EpochWork.refl (dropAll 4 Epoch.scheduled s)).schedEnd
  obtain ⟨hsched, hrun, hpend⟩ := schedEnd_ends (dropAll 4 Epoch.scheduled s)
  have hx : schedStop s = schedEnd (dropAll 4 Epoch.scheduled s) := if_pos hr
  rw [hx]
  refine ⟨hsched, hrun, hpend, fun e he hs hq => ?_, fun e he hs hq => ?_, (hwork.trans hend).sameBytes, (hwork.trans hend).sameRegsOff⟩
  · rw [epochs_schedEnd] at he
    simp [hleft e he hq] at hs
  · obtain ⟨r, hr, hstatus, htag, -⟩ := (hreport hd e he hq hs).mono hend
    exact ⟨r, hr, hstatus, htag⟩

/-- The schedule with an end: no bank is to take over, and no cycle ends after it. -/
def Schedule.endingAt (stop : Nat) (c : Schedule) : Schedule :=
  { c with stopAt := some stop, switchAt := none, ends := c.ends.filter fun e => e ≤ stop }

/-- A scheduled epoch at or after an instant. -/
def scheduledFrom (stop : Nat) (e : Epoch) : Bool := e.scheduled && decide (stop ≤ e.t)

/-- STOP_AT_CYCLE_END clears PENDING_BANK, sets the end and drops what lies from it on; the schedule may end with that. -/
theorem schedStopAtEnd_eq {c : Schedule} (hc : s.schedule = some c) (he : c.stopAt = none) :
    ∃ stop, schedStopAtEnd s = schedCheck (dropAll 4 (scheduledFrom stop)
      (setB Reg.SCHED_CTRL 9 false { s with schedule := some (c.endingAt stop) })) := by
  unfold schedStopAtEnd
  rw [hc]
  exact ⟨_, if_neg (by simp [he])⟩

theorem stopAtCycleEnd_acts {c : Schedule} (hc : s.schedule = some c) (he : c.stopAt = none) :
    ∃ stop, bankPending (schedStopAtEnd s) = false ∧
      ((schedStopAtEnd s).schedule = none ∨
        ∃ c', (schedStopAtEnd s).schedule = some c' ∧ c'.stopAt = some stop ∧ c'.switchAt = none ∧ c'.at_ = c.at_) ∧
      (∀ e ∈ (schedStopAtEnd s).epochs, e.scheduled = true → e.phase = .queued → e.t < stop) ∧ SameBytes s (schedStopAtEnd s) ∧
      SameRegsOff [epochPage, routePage, evtPage] s (schedStopAtEnd s) := by
  obtain ⟨stop, hx⟩ := schedStopAtEnd_eq hc he
  have hpend : bankPending (setB Reg.SCHED_CTRL 9 false { s with schedule := some (c.endingAt stop) }) = false :=
    getBit_setB_same _ _ _ _ (by decide)
  have hset : EpochWork { s with schedule := some (c.endingAt stop) } (setB Reg.SCHED_CTRL 9 false { s with schedule := some (c.endingAt stop) }) :=
    (EpochWork.refl _).clearSched (by decide)
  obtain ⟨hwork, hleft, -⟩ := dropAll_does 4 (f := scheduledFrom stop) (fun _ => rfl)
    (setB Reg.SCHED_CTRL 9 false { s with schedule := some (c.endingAt stop) })
  have hcheck := hwork.schedCheck
  rw [hx]
  refine ⟨stop, hcheck.pending hpend, ?_, fun e he hs hq => ?_, (hset.trans hcheck).sameBytes, (hset.trans hcheck).sameRegsOff⟩
  · exact hcheck.schedule.elim (fun h => .inr ⟨_, h, rfl, rfl, rfl⟩) .inl
  · rw [epochs_schedCheck] at he
    have hnot := hleft e he hq
    simpa [scheduledFrom, hs] using hnot

/-! ### The commands -/

theorem exec_start (h : WriteReaches req Reg.SCHED_CTRL s) : exec (.start req) s = .next (schedStart s) :=
  congrArg Host.Outcome.next (hostWrite_reaches _ h)

theorem exec_stop (h : WriteReaches req Reg.SCHED_CTRL s) : exec (.stop req) s = .next (schedStop s) :=
  congrArg Host.Outcome.next (hostWrite_reaches _ h)

theorem exec_stopAtCycleEnd (h : WriteReaches req Reg.SCHED_CTRL s) : exec (.stopAtCycleEnd req) s = .next (schedStopAtEnd s) :=
  congrArg Host.Outcome.next (hostWrite_reaches _ h)

theorem exec_switchBank (h : WriteReaches req Reg.SCHED_CTRL s) : exec (.switchBank req) s = .next (schedSwitch s) :=
  congrArg Host.Outcome.next (hostWrite_reaches _ h)

/-- Settles O26, command by command. -/
theorem scheduleCommandsActOrAreRefused : Obligations.ScheduleCommandsActOrAreRefused := by
  unfold Obligations.ScheduleCommandsActOrAreRefused
  refine ⟨fun req s h => ⟨fun hbad => ?_, fun hr hq hlen hd hlo hhi ht => ?_⟩,
    fun req s h hr hd => ⟨_, exec_stop h, schedStop_stops hr hd⟩,
    fun req s c h hc he _ => ?_, fun req s h => ⟨fun hbad => ?_, fun c hc he hp hb => ⟨_, exec_switchBank h, switchBank_acts hc he hp hb⟩⟩⟩
  · have hx : schedStart s = setB Reg.SCHED_CTRL 10 true s := 
      schedStart_refused (by rw [bankRefused_iff]; simpa only [or_assoc] using hbad)
    obtain ⟨hset, hrun, -, honly⟩ := schedRefused_shows s
    exact ⟨_, (exec_start h).trans (congrArg _ hx), hset, hrun, honly⟩
  · have hb : bankRefused s (activeBankOf s) = false := by
      rw [← Bool.not_eq_true, bankRefused_iff]
      rintro (h | h | ⟨d, hmem, hlt⟩ | h | h)
      · exact h hq
      · exact hlen h
      · exact absurd (hd d hmem) (by omega)
      · omega
      · omega
    obtain ⟨hrun, hclear, hsched, honly⟩ := start_acts hr hb ht
    obtain ⟨hfar, hgrid, hfirst⟩ := firstSlot_first hlen hd (reg64 s Reg.SCHED_BASE_LO / 4 * 4) (ptpNow s + slotLead s)
    exact ⟨_, startedSchedule s, exec_start h, hrun, hclear, hsched, rfl, rfl, hfar, hgrid, hfirst, honly⟩
  · obtain ⟨stop, hacts⟩ := stopAtCycleEnd_acts hc he
    exact ⟨_, stop, exec_stopAtCycleEnd h, hacts⟩
  · have hx : schedSwitch s = setB Reg.SCHED_CTRL 10 true s := schedSwitch_refused (by rw [bankRefused_iff]; tauto)
    obtain ⟨hset, -, hpend, honly⟩ := schedRefused_shows s
    exact ⟨_, (exec_switchBank h).trans (congrArg _ hx), hset, hpend, honly⟩

end Sys2Proof.Machine
end

section
/-! PROOF. Submissions (R151 to R160, R184): the checks in their order, the rejection and the acceptance of a descriptor, and the flush. -/

namespace Sys2Proof.Machine

open Sys2Proof

/-! ### Words from numbers -/

theorem fld_word (n lo w : Nat) (h : lo + w ≤ 32) : fld (word n) lo w = n / 2 ^ lo % 2 ^ w := by
  apply Nat.eq_of_testBit_eq
  intro i
  unfold fld word
  simp only [BitVec.toNat_ofNat, Nat.testBit_mod_two_pow, Nat.testBit_div_two_pow]
  by_cases hi : i < w
  · simp [hi, show i + lo < 32 by omega]
  · simp [hi]

theorem bitOf_word (n : Nat) {i : Nat} (h : i < 32) : bitOf (word n) i = decide (n / 2 ^ i % 2 = 1) := by
  unfold bitOf word
  rw [BitVec.getLsbD_ofNat, Nat.testBit_eq_decide_div_mod_eq]
  simp [h]

theorem fld_lt (x : Word) (lo w : Nat) : fld x lo w < 2 ^ w := Nat.mod_lt _ (Nat.two_pow_pos w)

theorem b2n_le (b : Bool) : b2n b ≤ 1 := by cases b <;> decide

/-! ### What EPOCH_RESULT shows (R184) -/

/-- EPOCH_RESULT shows a decision: PENDING 0, ACCEPTED, CODE and TAG. -/
def Decided (code tag : Nat) (s : State) : Prop :=
  getBit s Reg.EPOCH_RESULT 0 = false ∧ getF s Reg.EPOCH_RESULT 16 16 = tag ∧ getBit s Reg.EPOCH_RESULT 1 = decide (code = 0) ∧
    getF s Reg.EPOCH_RESULT 8 8 = code

variable {s t : State} {code tag : Nat}

/-- The unit's own work keeps the decision shown. -/
theorem Decided.after_work (h : Decided code tag s) (g : EpochWork s t) : Decided code tag t := by
  obtain ⟨hpending, htag, hok, hcode⟩ := h
  have hfield : ∀ lo w, 5 ≤ lo → lo + w ≤ 32 → getF t Reg.EPOCH_RESULT lo w = getF s Reg.EPOCH_RESULT lo w := fun lo w h5 h32 =>
    fld_eq_of_bits fun i h1 h2 => g.result i (by omega) (by omega) (by omega)
  exact ⟨(g.result 0 (by decide) (by decide) (by decide)).trans hpending, (hfield _ _ (by decide) (by decide)).trans htag,
    (g.result 1 (by decide) (by decide) (by decide)).trans hok, (hfield _ _ (by decide) (by decide)).trans hcode⟩

theorem decided_accepted (late : Bool) (ht : tag < 2 ^ 16) (s : State) :
    Decided 0 tag (setReg Reg.EPOCH_RESULT (word (2 + 4 * b2n late + 2 ^ 16 * tag)) s) := by
  have hl := b2n_le late
  unfold Decided getBit getF
  rw [reg_setReg_same, bitOf_word _ (by decide), bitOf_word _ (by decide), fld_word _ _ _ (by decide), fld_word _ _ _ (by decide)]
  refine ⟨decide_eq_false (by omega), by omega, decide_eq_true (by omega), by omega⟩

theorem decided_rejected {fixed : Nat} (hf : fixed < 4) (h0 : code ≠ 0) (hc : code < 256) (ht : tag < 2 ^ 16) (s : State) :
    Decided code tag (setReg Reg.EPOCH_RESULT (word (2 ^ 3 * fixed + 2 ^ 8 * code + 2 ^ 16 * tag)) s) := by
  unfold Decided getBit getF
  rw [reg_setReg_same, bitOf_word _ (by decide), bitOf_word _ (by decide), fld_word _ _ _ (by decide), fld_word _ _ _ (by decide),
    decide_eq_false h0]
  refine ⟨decide_eq_false (by omega), by omega, decide_eq_false (by omega), by omega⟩

/-! ### Rejection -/

/-- The rejection without EPOCH_BAD_PERM. -/
def rejected (code : Nat) (d : List Word) (s : State) : State :=
  bumpF Reg.EPOCH_QUEUE_STATUS 16 16 (setReg Reg.EPOCH_RESULT
    (word (2 ^ 3 * getF s Reg.EPOCH_RESULT 3 2 + 2 ^ 8 * code + 2 ^ 16 * fld (descWord d 3) 16 16)) s)

theorem rejectEpoch_cases (code : Nat) (d : List Word) (s : State) :
    rejectEpoch code d s = rejected code d s ∨ ∃ v, rejectEpoch code d s = setReg Reg.EPOCH_BAD_PERM v (rejected code d s) := by
  unfold rejectEpoch
  dsimp only
  split
  · split
    · exact .inr ⟨_, rfl⟩
    · exact .inl rfl
  · exact .inl rfl

/-- A rejection shows the code and counts, and changes only the EPOCH page (R184). -/
theorem rejectEpoch_shows {code : Nat} (h0 : code ≠ 0) (hc : code < 256) (d : List Word) (s : State) :
    Decided code (fld (descWord d 3) 16 16) (rejectEpoch code d s) ∧
      getF (rejectEpoch code d s) Reg.EPOCH_QUEUE_STATUS 16 16 = satInc 16 (getF s Reg.EPOCH_QUEUE_STATUS 16 16) ∧
      OnlyRegs [Reg.EPOCH_RESULT, Reg.EPOCH_QUEUE_STATUS, Reg.EPOCH_BAD_PERM, Reg.INT_STATUS epochPage] s (rejectEpoch code d s) := by
  have hdec : Decided code (fld (descWord d 3) 16 16) (rejected code d s) :=
    (decided_rejected (fld_lt _ _ _) h0 hc (fld_lt _ _ _) s).after_work ((EpochWork.refl _).setF _ _ _ (by decide))
  have hcount : getF (rejected code d s) Reg.EPOCH_QUEUE_STATUS 16 16 = satInc 16 (getF s Reg.EPOCH_QUEUE_STATUS 16 16) := by
    rw [rejected, getF_bumpF_same _ _ _ _ (by decide), getF, reg_setReg_other _ _ (by decide), getF]
  have honly : OnlyRegs [Reg.EPOCH_RESULT, Reg.EPOCH_QUEUE_STATUS, Reg.EPOCH_BAD_PERM, Reg.INT_STATUS epochPage] s (rejected code d s) :=
    ((OnlyRegs.refl _ s).setReg _ (by simp)).bumpF _ _ (by simp)
  rcases rejectEpoch_cases code d s with h | ⟨v, h⟩ <;> rw [h]
  · exact ⟨hdec, hcount, honly⟩
  · exact ⟨hdec.after_work ((EpochWork.refl _).setReg v (by decide)), by rwa [getF, reg_setReg_other _ _ (by decide)], honly.setReg v (by simp)⟩

/-! ### Acceptance -/

/-- A queued epoch with a serial and a descriptor stands in the list. -/
def Waits (i : Nat) (d : List Word) (s : State) : Prop := ∃ e ∈ s.epochs, e.id = i ∧ e.desc = d ∧ e.phase = .queued

theorem mem_insertEpoch {x e : Epoch} {l : List Epoch} : x ∈ insertEpoch e l ↔ x = e ∨ x ∈ l := by
  induction l with
  | nil => simp [insertEpoch]
  | cons y r ih =>
    unfold insertEpoch
    split
    · simp
    · simp [ih, or_left_comm]

theorem mem_foldl_insertEpoch {x : Epoch} {m l : List Epoch} : x ∈ m.foldl (fun l e => insertEpoch e l) l ↔ x ∈ m ∨ x ∈ l := by
  induction m generalizing l with
  | nil => simp
  | cons e r ih => simp [ih, mem_insertEpoch, or_assoc, or_left_comm]

/-- The epochs with a serial are overrides of their slot. -/
def overriding (i : Nat) (s : State) : State := showQueue (modEpoch i (fun e => { e with scheduled := true, override := true }) s)

/-- An override takes a number of its own, or none yet, where its slot has not been generated; otherwise the slot's epoch leaves the list, and the
override takes its number where it has one (R160, R179). -/
theorem placeOverride_cases (i x : Nat) (s : State) :
    placeOverride i x s = overriding i s ∨
      placeOverride i x s = takeNumber i (nextNumber (overriding i s)).1 (nextNumber (overriding i s)).2 ∨
      ∃ j, j ≠ i ∧ (placeOverride i x s = startJob (removeEpoch j (overriding i s)) ∨
        ∃ n, placeOverride i x s = takeNumber i n (startJob (removeEpoch j (overriding i s)))) := by
  unfold placeOverride
  dsimp only
  split
  · split
    · split
      · exact .inr (.inl rfl)
      · exact .inl rfl
    · exact .inl rfl
  · next e he =>
    have hfound := List.find?_some he
    simp only [Bool.and_eq_true, bne_iff_ne] at hfound
    obtain ⟨⟨⟨-, hne⟩, -⟩, -⟩ := hfound
    refine .inr (.inr ⟨e.id, hne, ?_⟩)
    split
    · exact .inr ⟨_, rfl⟩
    · exact .inl rfl

/-- The unit works on, and an accepted epoch waits. -/
structure Accepting (i : Nat) (d : List Word) (s t : State) : Prop where
  work : EpochWork s t
  waits : Waits i d t

namespace Accepting

variable {i : Nat} {d : List Word} {u : State}

theorem ite (c : Prop) [Decidable c] {u v : State} (hu : Accepting i d s u) (hv : Accepting i d s v) :
    Accepting i d s (if c then u else v) := by
  split
  · exact hu
  · exact hv

theorem of_epochs (h : Accepting i d s t) (g : EpochWork s u) (e : u.epochs = t.epochs) : Accepting i d s u :=
  ⟨g, by unfold Waits; rw [e]; exact h.waits⟩

/-- Numbering and routing leave the epoch waiting. -/
theorem of_cores (h : Accepting i d s t) (g : EpochWork s u) (e : cores u = cores t) : Accepting i d s u := by
  obtain ⟨x, hx, hid, hdesc, hphase⟩ := h.waits
  have hmem : x.core ∈ cores u := e ▸ mem_cores.2 ⟨x, hx, rfl⟩
  obtain ⟨y, hy, hcore⟩ := mem_cores.1 hmem
  have hyid := congrArg Epoch.id hcore
  have hydesc := congrArg Epoch.desc hcore
  have hyphase := congrArg Epoch.phase hcore
  exact ⟨g, y, hy, hyid.trans hid, hydesc.trans hdesc, hyphase.trans hphase⟩

/-- A change of epochs' other fields leaves the epoch waiting. -/
theorem mapEpochs (h : Accepting i d s t) (f : Epoch → Epoch) (hf : ∀ e, (f e).id = e.id ∧ (f e).desc = e.desc ∧ (f e).phase = e.phase) :
    Accepting i d s { t with epochs := t.epochs.map f } := by
  obtain ⟨x, hx, hid, hdesc, hphase⟩ := h.waits
  obtain ⟨hfid, hfdesc, hfphase⟩ := hf x
  exact ⟨h.work.beside rfl, f x, List.mem_map_of_mem hx, hfid.trans hid, hfdesc.trans hdesc, hfphase.trans hphase⟩

theorem takeNext (h : Accepting i d s t) : Accepting i d s (takeNumber i (nextNumber t).1 (nextNumber t).2) :=
  h.of_cores (h.work.takeNext i) (cores_takeNumber _ _ _)

/-- Another epoch leaves the list. -/
theorem removeEpoch (h : Accepting i d s t) {j : Nat} (hj : j ≠ i) : Accepting i d s (removeEpoch j t) := by
  obtain ⟨x, hx, hid, hrest⟩ := h.waits
  exact ⟨h.work.removeEpoch _, x, List.mem_filter.2 ⟨hx, by simpa [hid] using hj.symm⟩, hid, hrest⟩

theorem startJob (h : Accepting i d s t) : Accepting i d s (startJob t) := h.of_cores h.work.startJob (cores_startJob t)

theorem newRoutedEpoch (h : Accepting i d s t) : Accepting i d s (newRoutedEpoch t) := by
  unfold Machine.newRoutedEpoch
  refine .ite _ (h.mapEpochs _ fun e => ?_) ?_
  · split
    · exact ⟨rfl, rfl, rfl⟩
    · exact ⟨rfl, rfl, rfl⟩
  · split
    · exact startJob (.ite _ (h.of_epochs (h.work.beside rfl) rfl) h)
    · exact h.startJob

theorem fixInstant (h : Accepting i d s t) (x : Nat) : Accepting i d s (fixInstant i x t) := by
  unfold Machine.fixInstant
  extract_lets short moved mine s1
  have h1 : Accepting i d s s1 := by
    have hmap := h.mapEpochs (fun e => if e.id == i then { e with t := x, fixed := true, noticeShort := short e } else e) fun e => by
      split
      · exact ⟨rfl, rfl, rfl⟩
      · exact ⟨rfl, rfl, rfl⟩
    obtain ⟨e, he, hid, hrest⟩ := hmap.waits
    exact ⟨h.work.beside rfl, e, mem_foldl_insertEpoch.2 (.inl (List.mem_filter.2 ⟨he, by simp [hid]⟩)), hid, hrest⟩
  refine .ite _ (h1.of_epochs ?_ rfl) h1
  exact (h1.work.setReg64 _ (by decide) (by decide)).setFixed true (.inl rfl)

theorem placeOverride (h : Accepting i d s t) (x : Nat) : Accepting i d s (placeOverride i x t) := by
  have hmap := h.mapEpochs (fun e => if e.id == i then { e with scheduled := true, override := true } else e) fun e => by
    split
    · exact ⟨rfl, rfl, rfl⟩
    · exact ⟨rfl, rfl, rfl⟩
  have h1 : Accepting i d s (overriding i t) := hmap.of_epochs hmap.work.showQueue rfl
  rcases placeOverride_cases i x t with hx | hx | ⟨j, hj, hx | ⟨n, hx⟩⟩ <;> rw [hx]
  · exact h1
  · exact h1.takeNext
  · exact (h1.removeEpoch hj).startJob
  · have h2 := (h1.removeEpoch hj).startJob
    exact h2.of_cores (h2.work.takeNumber _ _) (cores_takeNumber _ _ _)

theorem fixLate (h : Accepting i d s t) (r : Nat) : Accepting i d s (fixLate i r t) := by
  unfold Machine.fixLate
  dsimp only
  split
  · exact (h.fixInstant _).placeOverride _
  · exact .ite _ (h.fixInstant _).takeNext (h.fixInstant _)

end Accepting

/-- What EPOCH_RESULT shows as an epoch joins the list. -/
def joined (x : Submission) (s : State) : State :=
  setReg Reg.EPOCH_RESULT (word (2 + 4 * b2n (descLate s x) + 2 ^ 16 * fld (descWord x.desc 3) 16 16))
    { addEpoch (newEpoch s x.desc (descLate s x) x.accepted) s with resultOf := some s.epochSerial }

/-- An accepted descriptor's epoch waits under the next serial (R157, R159, R160). -/
theorem acceptEpoch_accepts (x : Submission) (s : State) : Accepting s.epochSerial x.desc (joined x s) (acceptEpoch x s) := by
  unfold acceptEpoch
  extract_lets late e added s1 s2 s3 s4 s5
  have h1 : Accepting s.epochSerial x.desc (joined x s) (joined x s) :=
    ⟨.refl _, e, mem_insertEpoch.2 (.inl rfl), rfl, rfl, rfl⟩
  have h2 : Accepting s.epochSerial x.desc (joined x s) s2 := 
    h1.of_epochs (h1.work.setReg64 (a := Reg.EPOCH_RESULT_T_LO) e.t (by decide) (by decide)) rfl
  have h3 : Accepting s.epochSerial x.desc (joined x s) s3 := .ite _ h2 h2.takeNext
  have h4 : Accepting s.epochSerial x.desc (joined x s) s4 := .ite _ h3.newRoutedEpoch h3
  have h5 : Accepting s.epochSerial x.desc (joined x s) s5 := h4.fixInstant _
  exact .ite _ (.ite _ (h5.placeOverride _) h5) (.ite _ (h4.fixLate _) h4)

/-! ### The checks of R156 in their order -/

section
variable {x : Submission}

/-- The unit takes no epoch, whatever the descriptor says. -/
def unready (s : State) : Bool :=
  !getBit s (Reg.STATUS epochPage) 0 || parkForced s || getBit s Reg.GLB_PRIME_STATUS 7 || getBit s Reg.GLB_PRIME_STATUS 8 || s.warmRequested || netK s = 0

/-- The lead is out of range, or the inline list is misaligned or ends beyond the window. -/
def misplaced (s : State) (x : Submission) : Bool :=
  !leadOk (fld (descWord x.desc 3) 0 13) ||
    (descInline x.desc && (fld (descWord x.desc 4) 0 24 % 64 != 0 || 0x1000000 < fld (descWord x.desc 4) 0 24 + 2 * 2 ^ netK s))

/-- The inline list names an output twice or beyond the network. -/
def offends (s : State) (x : Submission) : Bool := descInline x.desc && (permFault (2 ^ netK s) 0 [] (inlineEntries s x.desc)).isSome

/-- The checks of the queue's room, of the instant and of the schedule. -/
def queueCheck (s : State) (x : Submission) : Nat :=
  if 16 ≤ (epochQueue s).length then 0x01
  else if descLate s x && !bitOf (descWord x.desc 2) 9 then 0x02
  else if (epochQueue s).any (fun e => descT x.desc < e.t) || (descLate s x && !(epochQueue s).isEmpty) then 0x04
  else if !descLate s x && !schedRunning s && (s.epochPrev.any fun p => descT x.desc < p + 10000) then 0x03
  else if !descLate s x && schedRunning s && !slotInstant s (descT x.desc) then 0x0B
  else 0

theorem descT_mod (d : List Word) : descT d % 4 = fld (descWord d 0) 0 2 := by
  unfold descT join64 fld
  omega

theorem checkSubmission_follower (hu : unready s = false) (hl : isLeader s = false) : checkSubmission s x = 0x0A := by
  unfold checkSubmission
  exact (if_neg (by simpa [unready] using hu)).trans (if_pos (by simp [hl]))

/-- What the checks come to on a ready leader. -/
theorem checkSubmission_leader (hu : unready s = false) (hl : isLeader s = true) (hh : s.handedOff = false) :
    checkSubmission s x =
      if misplaced s x then 0x06 else if descT x.desc % 4 ≠ 0 then 0x05 else if !presetValid s (fld (descWord x.desc 2) 0 6) then 0x07
      else if offends s x then 0x08 else queueCheck s x := by
  rw [descT_mod]
  unfold checkSubmission
  refine (if_neg (by simpa [unready] using hu)).trans ((if_neg (by simp [hl, hh])).trans ?_)
  simp only [bne_iff_ne]
  rfl

/-- Every code fits its field. -/
theorem checkSubmission_lt (s : State) (x : Submission) : checkSubmission s x < 256 := by
  have hite : ∀ (c : Prop) [Decidable c] (a b : Nat), a < 256 → b < 256 → (if c then a else b) < 256 := fun c _ a b ha hb => by
    split
    · exact ha
    · exact hb
  unfold checkSubmission
  iterate 11 refine hite _ _ _ (by decide) ?_
  decide

theorem misplaced_iff :
    misplaced s x = true ↔ fld (descWord x.desc 3) 0 13 < 50 ∨ 5000 < fld (descWord x.desc 3) 0 13 ∨
      (descInline x.desc = true ∧ (fld (descWord x.desc 4) 0 24 % 64 ≠ 0 ∨ 0x1000000 < fld (descWord x.desc 4) 0 24 + 2 * 2 ^ netK s)) := by
  simp only [misplaced, leadOk, Bool.or_eq_true, Bool.not_eq_true', Bool.and_eq_false_iff, Bool.and_eq_true, decide_eq_false_iff_not,
    decide_eq_true_eq, Nat.not_le, bne_iff_ne, or_assoc]

theorem offends_iff :
    offends s x = true ↔ descInline x.desc = true ∧ permFault (2 ^ netK s) 0 [] (inlineEntries s x.desc) ≠ none := by
  simp only [offends, Bool.and_eq_true, Option.isSome_iff_ne_none]

theorem queueCheck_full (h : 16 ≤ (epochQueue s).length) : queueCheck s x = 0x01 := if_pos h

theorem queueCheck_late (hq : (epochQueue s).length < 16) (hl : descLate s x = true) (h9 : bitOf (descWord x.desc 2) 9 = false) :
    queueCheck s x = 0x02 := by
  simp [queueCheck, hq, hl, h9]

section
variable (hq : (epochQueue s).length < 16) (hok : descLate s x = true → bitOf (descWord x.desc 2) 9 = true)
include hq hok

theorem queueCheck_order (h : (∃ e ∈ epochQueue s, descT x.desc < e.t) ∨ (descLate s x = true ∧ epochQueue s ≠ [])) :
    queueCheck s x = 0x04 := by
  unfold queueCheck
  rw [if_neg (by omega), if_neg (by simpa using hok), if_pos (by simpa using h)]

variable (ho : ∀ e ∈ epochQueue s, e.t ≤ descT x.desc) (he : descLate s x = true → epochQueue s = [])
include ho he

/-- What is left of the checks for an epoch in the order of instants. -/
theorem queueCheck_inOrder :
    queueCheck s x =
      if !descLate s x && !schedRunning s && (s.epochPrev.any fun p => descT x.desc < p + 10000) then 0x03
      else if !descLate s x && schedRunning s && !slotInstant s (descT x.desc) then 0x0B
      else 0 := by
  unfold queueCheck
  rw [if_neg (by omega), if_neg (by simpa using hok), if_neg ?_]
  simpa using And.intro ho he

theorem queueCheck_lateTaken (hl : descLate s x = true) : queueCheck s x = 0 := by
  rw [queueCheck_inOrder hq hok ho he]
  simp [hl]

theorem queueCheck_close (hl : descLate s x = false) (hr : schedRunning s = false) (h : ∃ p, s.epochPrev = some p ∧ descT x.desc < p + 10000) :
    queueCheck s x = 0x03 := by
  obtain ⟨p, hp, hlt⟩ := h
  rw [queueCheck_inOrder hq hok ho he]
  simp [hl, hr, hp, hlt]

theorem queueCheck_apart (hl : descLate s x = false) (hr : schedRunning s = false) (h : ∀ p, s.epochPrev = some p → p + 10000 ≤ descT x.desc) :
    queueCheck s x = 0 := by
  have hclose : (s.epochPrev.any fun p => descT x.desc < p + 10000) = false := by
    cases hp : s.epochPrev with
    | none => rfl
    | some p => simpa using h p hp
  rw [queueCheck_inOrder hq hok ho he]
  simp [hl, hr, hclose]

theorem queueCheck_slot (hl : descLate s x = false) (hr : schedRunning s = true) :
    queueCheck s x = if slotInstant s (descT x.desc) then 0 else 0x0B := by
  rw [queueCheck_inOrder hq hok ho he]
  cases slotInstant s (descT x.desc) <;> simp [hl, hr]

end

end

/-! ### The commands -/

variable {req : Requester}

/-- EPOCH_SUBMIT while no submission is pending (R155). -/
theorem epochSubmit_takes (h : WriteReaches req Reg.EPOCH_SUBMIT s) (hn : s.submission = none) :
    ∃ t, exec (.epochSubmit req) s = .next t ∧
      t.submission = some { desc := (List.range 8).map fun k => reg s (Reg.EPOCH_DESC k), accepted := ptpNow s } ∧
      getBit t Reg.EPOCH_RESULT 0 = true ∧ OnlyRegs [Reg.EPOCH_RESULT] { s with submission := t.submission } t :=
  ⟨_, congrArg Host.Outcome.next ((hostWrite_reaches _ h).trans (if_neg (by simp [hn]))), rfl, getBit_setB_same _ _ _ _ (by decide),
    (OnlyRegs.refl _ _).setB _ _ (by simp)⟩

/-- EPOCH_SUBMIT while PENDING is 1 (R155). -/
theorem epochSubmit_ignored (h : WriteReaches req Reg.EPOCH_SUBMIT s) (hn : s.submission ≠ none) :
    ∃ t, exec (.epochSubmit req) s = .next t ∧ getBit t (Reg.INT_STATUS epochPage) 3 = true ∧ OnlyRegsOut [Reg.INT_STATUS epochPage] s t :=
  ⟨_, congrArg Host.Outcome.next ((hostWrite_reaches _ h).trans (if_pos (Option.isSome_iff_ne_none.2 hn))), getBit_setInt _ _ _ (by decide),
    (OnlyRegsOut.refl _ s).setInt _ _ (by simp)⟩

theorem exec_epochChecksComplete {x : Submission} (h : s.submission = some x) :
    exec .epochChecksComplete s = .next (setInt epochPage 0
      (if checkSubmission { s with submission := none } x = 0 then acceptEpoch x { s with submission := none }
      else rejectEpoch (checkSubmission { s with submission := none } x) x.desc { s with submission := none })) := by
  show execEpochChecksComplete s = _
  simp only [execEpochChecksComplete, h]

/-- A rejected submission: its code shows, and only the EPOCH page changes (R184). -/
theorem epochChecks_reject {x : Submission} (h : s.submission = some x) {code : Nat} (hc : checkSubmission { s with submission := none } x = code)
    (h0 : code ≠ 0) :
    ∃ t, exec .epochChecksComplete s = .next t ∧ Decided code (fld (descWord x.desc 3) 16 16) t ∧ getBit t (Reg.INT_STATUS epochPage) 0 = true ∧
      getF t Reg.EPOCH_QUEUE_STATUS 16 16 = satInc 16 (getF s Reg.EPOCH_QUEUE_STATUS 16 16) ∧
      OnlyRegsOut [Reg.EPOCH_RESULT, Reg.EPOCH_QUEUE_STATUS, Reg.EPOCH_BAD_PERM, Reg.INT_STATUS epochPage] { s with submission := none } t := by
  have hlt : code < 256 := hc ▸ checkSubmission_lt _ _
  obtain ⟨hdec, hcount, honly⟩ := rejectEpoch_shows h0 hlt x.desc { s with submission := none }
  rw [exec_epochChecksComplete h, hc, if_neg h0]
  refine ⟨_, rfl, hdec.after_work ((EpochWork.refl _).signals ((Signals.refl _).setInt 0 (.inl rfl))), getBit_setInt _ _ _ (by decide), ?_,
    honly.toOut.setInt _ _ (by simp)⟩
  rwa [getF, reg_setInt_other _ _ _ (by decide)]

/-- An accepted submission: its epoch waits under the next serial (R157, R159, R184). -/
theorem epochChecks_accept {x : Submission} (h : s.submission = some x) (hc : checkSubmission { s with submission := none } x = 0) :
    ∃ t, exec .epochChecksComplete s = .next t ∧ Decided 0 (fld (descWord x.desc 3) 16 16) t ∧ getBit t (Reg.INT_STATUS epochPage) 0 = true ∧
      t.submission = none ∧ SameBytes s t ∧ t.epochSerial = s.epochSerial + 1 ∧ Waits s.epochSerial x.desc t := by
  obtain ⟨hwork, hwaits⟩ := acceptEpoch_accepts x { s with submission := none }
  have hset := Signals.setInt (.refl (acceptEpoch x { s with submission := none })) (p := epochPage) 0 (.inl rfl)
  have hall := hwork.signals hset
  rw [exec_epochChecksComplete h, if_pos hc]
  refine ⟨_, rfl, (decided_accepted _ (fld_lt _ _ _) _).after_work hall, getBit_setInt _ _ _ (by decide), hall.submission, hall.sameBytes,
    hall.serial, ?_⟩
  unfold Waits
  rw [hset.epochs]
  exact hwaits

/-- A flush leaves no queued epoch and reports each of them (R184). -/
theorem epochQueueFlush_flushes (h : WriteReaches req Reg.EPOCH_QUEUE_FLUSH s) (hd : EpochsDistinct s) :
    ∃ t, exec (.epochQueueFlush req) s = .next t ∧ epochQueue t = [] ∧
      (∀ e ∈ epochQueue s, ∃ r ∈ t.reports, r.status = 4 ∧ r.tag = e.tag ∧ r.preset = e.preset) ∧
      SameBytes s t ∧ SameRegsOff [epochPage, routePage, evtPage] s t := by
  obtain ⟨hwork, hleft, hreport⟩ := dropAll_does 4 (f := Epoch.queued) (fun _ => rfl) s
  have hphase : ∀ e : Epoch, e.queued = true → e.phase = .queued := fun e he => by
    simp only [Epoch.queued, Bool.and_eq_true, beq_iff_eq] at he
    exact he.1.1
  refine ⟨_, congrArg Host.Outcome.next (hostWrite_reaches _ h), List.filter_eq_nil_iff.2 fun e he hq => ?_, fun e he => ?_, hwork.sameBytes,
    hwork.sameRegsOff⟩
  · rw [hleft e he (hphase e hq)] at hq
    cases hq
  · obtain ⟨hmem, hq⟩ := List.mem_filter.1 he
    exact hreport hd e hmem (hphase e hq) hq

/-- Settles O25: the submission, its decision by the checks in their order, and the flush. -/
theorem submissionsAreTakenDecidedAndFlushed : Obligations.SubmissionsAreTakenDecidedAndFlushed := by
  unfold Obligations.SubmissionsAreTakenDecidedAndFlushed
  refine ⟨fun req s h => ⟨epochSubmit_takes h, epochSubmit_ignored h⟩, fun s x h => ?_, fun s x h0 hp h7 h8 hw hk => ?_,
    fun req s h hd => epochQueueFlush_flushes h hd⟩
  · by_cases hc : checkSubmission { s with submission := none } x = 0
    · obtain ⟨t, ht, ⟨hpending, htag, hok, hcode⟩, hint, hsub, hbytes, hserial, hwaits⟩ := epochChecks_accept h hc
      rw [hc]
      exact ⟨t, ht, hsub, hint, hpending, htag, hok, hcode, hbytes, fun h => absurd rfl h, fun _ => ⟨hserial, hwaits⟩⟩
    · obtain ⟨t, ht, ⟨hpending, htag, hok, hcode⟩, hint, hcount, honly⟩ := epochChecks_reject h rfl hc
      have hsub : t.submission = none := by
        obtain ⟨⟨r, o, rfl⟩, -⟩ := honly
        rfl
      exact ⟨t, ht, hsub, hint, hpending, htag, hok, hcode, honly.sameBytes, fun _ => ⟨hcount, honly⟩, fun h => absurd h hc⟩
  · have hu : unready s = false := by simp [unready, h0, hp, h7, h8, hw, hk]
    refine ⟨checkSubmission_follower hu, fun hl hh => ?_⟩
    rw [checkSubmission_leader hu hl hh]
    refine ⟨fun h => if_pos (misplaced_iff.2 (by tauto)), fun h1 h2 => if_pos (misplaced_iff.2 (by tauto)), fun hlo hhi hinline => ?_⟩
    have hplace : misplaced s x = false := by
      rw [← Bool.not_eq_true, misplaced_iff]
      rintro (h | h | ⟨h, h' | h'⟩)
      · omega
      · omega
      · exact h' (hinline h).1
      · have := (hinline h).2
        omega
    rw [hplace, if_neg Bool.false_ne_true]
    refine ⟨fun hT => if_pos hT, fun hT hv => ?_, fun hT hv => ?_⟩
    · rw [if_neg (by simpa using hT), hv]
      rfl
    · rw [if_neg (by simpa using hT), hv, Bool.not_true, if_neg Bool.false_ne_true]
      refine ⟨fun h1 h2 => if_pos (offends_iff.2 ⟨h1, h2⟩), fun hgood => ?_⟩
      rw [if_neg (by rw [offends_iff]; exact fun h => h.2 (hgood h.1))]
      refine ⟨queueCheck_full, queueCheck_late, fun hq hok => ⟨queueCheck_order hq hok, fun ho he => ⟨queueCheck_lateTaken hq hok ho he,
        fun hl hr => ⟨queueCheck_close hq hok ho he hl hr, queueCheck_apart hq hok ho he hl hr⟩, fun hl hr => ?_⟩⟩⟩
      rw [queueCheck_slot hq hok ho he hl hr]
      exact ⟨fun h => if_pos h, fun h => if_neg (by simp [h])⟩

end Sys2Proof.Machine
end

section
/-! PROOF. The schedule's slots: a slot dropped while the unit takes no epoch can still touch a queued epoch that bears its number (R160, R168, R176). -/

namespace Sys2Proof.Machine

open Sys2Proof

/-- A queued epoch that bears the number 1 already and whose routing waits for the route unit. -/
def numberedEpoch : Epoch :=
  { newEpoch State.reset [0, 0, 0, word 200] false 0 with num := some 1, t := 1000000, fixed := true, routed := true, job := .waiting }

/-- A device that takes no new epoch (a warm reset waits), with a running schedule and `numberedEpoch` in its queue, whose counter of
epoch numbers stands at 0. -/
def numberedDevice : State := { State.reset with
  regs := [(Reg.SCHED_CTRL, 0x100), (Reg.SCHED_LEN, 1)]
  epochs := [numberedEpoch]
  epochSerial := 2
  warmRequested := true
  schedule := some { base := 0, next := 0, at_ := 2000000, first := 0, stopAt := none, switchAt := none, ends := [] } }

/-- What `exec` leaves of the epochs of `numberedDevice`: the serial, the number and the route job of each. -/
def numberedAfter : List (Nat × Option Nat × RouteJob) :=
  match exec .schedSlotGenerate numberedDevice with
  | .next t => t.epochs.map fun e => (e.id, e.num, e.job)
  | _ => []

/-- The slot's epoch is dropped, and its end starts the route unit on the epoch that waits. -/
theorem numberedAfter_eq : numberedAfter = [(1, some 1, .running)] := by decide

/-- No epoch of `numberedDevice` is in the route unit. -/
theorem numberedDevice_waits : ∀ e ∈ numberedDevice.epochs, e.job = .waiting := by
  intro e he
  rw [List.mem_singleton.mp he]
  rfl

/-- Refutes O27: where the unit takes no new epoch, the drop of the slot's epoch frees the route unit (R168), which then starts on
`numberedEpoch`: an epoch with the slot's own number stands in the list and is not one of those that stood there before. -/
theorem not_scheduleSlotsTakeTheirNumbersAndBanks : ¬ Obligations.ScheduleSlotsTakeTheirNumbersAndBanks := by
  unfold Obligations.ScheduleSlotsTakeTheirNumbersAndBanks
  rintro ⟨slot, -⟩
  have noOverride : ∀ e ∈ numberedDevice.epochs, e.override = true → e.t = 2000000 → e.phase = .queued → e.num ≠ none := by
    intro e he hover
    rw [List.mem_singleton.mp he] at hover
    cases hover
  obtain ⟨t, ht, -, -, -, -, barred, -⟩ := slot numberedDevice _ rfl (fun _ h => by cases h) (by decide)
  obtain ⟨untouched, -⟩ := barred (by decide) noOverride
  have after : t.epochs.map (fun e => (e.id, e.num, e.job)) = [(1, some 1, .running)] := by
    rw [← numberedAfter_eq, numberedAfter, ht]
  have mem : ((1, some 1, .running) : Nat × Option Nat × RouteJob) ∈ t.epochs.map fun e => (e.id, e.num, e.job) := by
    rw [after]; exact List.mem_singleton_self _
  obtain ⟨e, he, hfields⟩ := List.mem_map.mp mem
  obtain ⟨-, hnum, hjob⟩ : e.id = 1 ∧ e.num = some 1 ∧ e.job = .running := by simpa using hfields
  rcases untouched e he with hne | hin
  · exact hne hnum
  · rw [numberedDevice_waits e hin] at hjob
    cases hjob

end Sys2Proof.Machine
end

section
/-! PROOF. The preset store (R164, R169 to R171, R634): its bytes, PREPARE and INVALIDATE, the end of a preparation, the map and the port marks. -/

namespace Sys2Proof.Machine

open Sys2Proof

/-! ### The bytes of the store (R169) -/

/-- A number read depends on its bytes alone. -/
theorem readMem_congr {s t : State} {a n : Nat} (h : ∀ i, i < n → memByte t (a + i) = memByte s (a + i)) : readMem t a n = readMem s a n :=
  congrArg ofBytes (List.map_congr_left fun i hi => h i (List.mem_range.1 hi))

/-- What a preset shows depends on the bytes of the windows alone. -/
theorem presetValid_congr {s t : State} (h : t.mem = s.mem) (n : Nat) : presetValid t n = presetValid s n := by
  unfold presetValid presetStatus readMem memByte
  rw [h]

theorem presetGen_congr {s t : State} (h : t.mem = s.mem) (n : Nat) : presetGen t n = presetGen s n := by
  unfold presetGen readMem memByte
  rw [h]

theorem memByte_congr {s t : State} (h : t.mem = s.mem) (a : Nat) : memByte t a = memByte s a := by rw [memByte, h, memByte]

theorem reg_congr {s t : State} (h : t.regs = s.regs) (a : Nat) : reg t a = reg s a := by rw [reg, h, reg]

/-- A number written reads back from as many of its bytes as hold it. -/
theorem readMem_writeMem_toBytes (s : State) (a : Nat) {j k n : Nat} (hj : j ≤ k) (h : n < 256 ^ j) :
    readMem (writeMem a (toBytes k n) s) a j = n := by
  have bytes : (List.range j).map (fun i => memByte (writeMem a (toBytes k n) s) (a + i)) = toBytes j n :=
    List.ext_getElem (by simp) fun i hi hk => by
      have hij : i < j := by simpa using hi
      have hik : i < (toBytes k n).length := by simpa using hij.trans_le hj
      rw [List.getElem_map, List.getElem_range, memByte_writeMem_at _ s a i hik, toBytes_getElem, toBytes_getElem]
  rw [readMem, bytes, ofBytes_toBytes j n h]

/-- Bytes written from an offset of a preset on leave the bytes below it. -/
theorem memByte_writeMem_below {n o o' : Nat} (h : o < o') (bs : List Byte) (s : State) :
    memByte (writeMem (presetAt n o') bs s) (presetAt n o) = memByte s (presetAt n o) :=
  memByte_writeMem _ _ _ _ (.inl (by unfold presetAt; omega))

/-- Writing PRESET_STATUS changes its four bytes alone. -/
theorem memByte_setPresetStatus (n : Nat) (w : Word) (s : State) {a : Nat} (h : a < presetAt n 0xF000 ∨ presetAt n 0xF004 ≤ a) :
    memByte (setPresetStatus n w s) a = memByte s a :=
  memByte_writeMem _ _ _ _ (by simpa [presetAt] using h)

/-- An address beside the four bytes of PRESET_STATUS lies below or above them. -/
theorem presetStatus_bytes {n a : Nat} (h : a ∉ (List.range 4).map (fun i => presetAt n 0xF000 + i)) :
    a < presetAt n 0xF000 ∨ presetAt n 0xF004 ≤ a := by
  by_contra hin
  exact h (List.mem_map.2 ⟨a - presetAt n 0xF000, List.mem_range.2 (by unfold presetAt at *; omega), by omega⟩)

theorem setPresetStatus_frame (n : Nat) (w : Word) (s : State) : ∃ m, setPresetStatus n w s = { s with mem := m } := writeMem_frame _ _ _

@[simp] theorem presetStatus_setPresetStatus (n : Nat) (w : Word) (s : State) : presetStatus (setPresetStatus n w s) n = w := by
  rw [presetStatus, setPresetStatus, readMem_writeMem_toBytes _ _ le_rfl w.isLt]
  exact (BitVec.ofNat_toNat 32 w).trans (BitVec.setWidth_eq w)

theorem presetStatus_setPresetStatus_other {m n : Nat} (h : m ≠ n) (w : Word) (s : State) :
    presetStatus (setPresetStatus n w s) m = presetStatus s m :=
  congrArg word (readMem_congr fun i hi => memByte_setPresetStatus n w s (by unfold presetAt; omega))

@[simp] theorem presetGen_setPresetStatus (m n : Nat) (w : Word) (s : State) : presetGen (setPresetStatus n w s) m = presetGen s m :=
  readMem_congr fun i hi => memByte_setPresetStatus n w s (by unfold presetAt; omega)

/-! ### VALID clears (R164, R171) -/

theorem presetValid_clearPreset (n : Nat) (s : State) : presetValid (clearPreset n s) n = false := by
  rw [presetValid, clearPreset, presetStatus_setPresetStatus]
  exact bitOf_setFld_one _ 0 false (by decide)

/-- The clear of one preset's VALID sets that of no other. -/
theorem clearPreset_keeps_invalid {n : Nat} {s : State} (h : presetValid s n = false) (m : Nat) : presetValid (clearPreset m s) n = false := by
  by_cases hm : n = m
  · rw [hm, presetValid_clearPreset]
  · rw [presetValid, clearPreset, presetStatus_setPresetStatus_other hm, ← presetValid, h]

theorem clearPreset_frame (n : Nat) (s : State) : ∃ m, clearPreset n s = { s with mem := m } := setPresetStatus_frame _ _ _

theorem clearPreset_regs (n : Nat) (s : State) : (clearPreset n s).regs = s.regs := by
  obtain ⟨m, hm⟩ := clearPreset_frame n s
  rw [hm]

/-- The clear of every preset leaves none valid. -/
theorem clearPresets_invalid (s : State) {n : Nat} (h : n < 64) : presetValid (forEach (List.range 64) clearPreset s) n = false :=
  forEach_establishes (fun n t => presetValid t n = false) clearPreset _ (fun n _ t => presetValid_clearPreset n t)
    (fun _ _ m _ _ ht => clearPreset_keeps_invalid ht m) s n (List.mem_range.2 h)

theorem clearPresets_regs (s : State) : (forEach (List.range 64) clearPreset s).regs = s.regs :=
  forEach_keeps (fun t => t.regs = s.regs) clearPreset _ (fun n _ t ht => (clearPreset_regs n t).trans ht) rfl

/-! ### Messages of the ring (R422 to R427) -/

/-- An operation over a list whose every turn changes the ring alone changes the ring alone. -/
theorem forEach_ring {α : Type} {f : α → State → State} (hf : ∀ x t, ∃ r, f x t = { t with ring := r }) (l : List α) (s : State) :
    ∃ r, forEach l f s = { s with ring := r } :=
  forEach_keeps (fun t => ∃ r, t = { s with ring := r }) f l (fun x _ t ht => by
    obtain ⟨r, rfl⟩ := ht
    obtain ⟨q, hq⟩ := hf x { s with ring := r }
    exact ⟨q, hq⟩) ⟨s.ring, rfl⟩

theorem hopSend_frame (kind count hopClass : Nat) (forwarded : Bool) (ls : List Nat) (h : Nat) (s : State) :
    ∃ r, hopSend kind count hopClass forwarded ls h s = { s with ring := r } := by
  refine forEach_ring (fun l t => ?_) _ { s with ring := _ }
  split
  · exact ⟨_, rfl⟩
  · exact ⟨_, rfl⟩

/-- A message changes the lanes and what has left the device. -/
theorem ringSend_frame (kind mask : Nat) (content : List Nat) (s : State) :
    ∃ r o, ringSend kind mask content s = { s with ring := r, out := o } := by
  unfold ringSend
  extract_lets m dests hops count
  split
  · exact ⟨_, _, rfl⟩
  · obtain ⟨r, hr⟩ := forEach_ring (fun h t => hopSend_frame kind count 1 false (openLanes s h) h t) hops s
    rw [hr]
    exact ⟨_, _, rfl⟩

/-! ### ROUTE_PRESET_RESULT and ROUTE_PRESET_IGNORED (R170, R634) -/

theorem presetResult_only (pending ok : Bool) (reason n : Nat) (s : State) :
    OnlyRegs [Reg.ROUTE_PRESET_RESULT] s (presetResult pending ok reason n s) :=
  (OnlyRegs.refl _ s).setReg _ (List.mem_singleton_self _)

@[simp] theorem reg_presetResult (pending ok : Bool) (reason n : Nat) (s : State) :
    reg (presetResult pending ok reason n s) Reg.ROUTE_PRESET_RESULT = word (b2n pending + 2 * b2n ok + 4 * reason + 2 ^ 8 * n) :=
  reg_setReg_same ..

theorem presetResult_mem (pending ok : Bool) (reason n : Nat) (s : State) : (presetResult pending ok reason n s).mem = s.mem := rfl

@[simp] theorem presetStatus_presetResult (pending ok : Bool) (reason n m : Nat) (s : State) :
    presetStatus (presetResult pending ok reason n s) m = presetStatus s m := rfl

@[simp] theorem presetGen_presetResult (pending ok : Bool) (reason n m : Nat) (s : State) :
    presetGen (presetResult pending ok reason n s) m = presetGen s m := rfl

theorem getBit_presetResult_pending (pending ok : Bool) (reason n : Nat) (s : State) :
    getBit (presetResult pending ok reason n s) Reg.ROUTE_PRESET_RESULT 0 = pending := by
  have hbit : (b2n pending + 2 * b2n ok + 4 * reason + 2 ^ 8 * n) / 2 ^ 0 % 2 = b2n pending := by
    have := b2n_le pending
    omega
  rw [getBit, reg_presetResult, bitOf_word _ (by decide), hbit]
  cases pending <;> rfl

theorem getBit_presetResult_ok (pending ok : Bool) (reason n : Nat) (s : State) :
    getBit (presetResult pending ok reason n s) Reg.ROUTE_PRESET_RESULT 1 = ok := by
  have hbit : (b2n pending + 2 * b2n ok + 4 * reason + 2 ^ 8 * n) / 2 ^ 1 % 2 = b2n ok := by
    have := b2n_le pending
    have := b2n_le ok
    omega
  rw [getBit, reg_presetResult, bitOf_word _ (by decide), hbit]
  cases ok <;> rfl

/-- A refusal or a failure shows its reason. -/
theorem presetResult_refuses (reason n : Nat) (s : State) :
    reg (presetResult false false reason n s) Reg.ROUTE_PRESET_RESULT = word (4 * reason + 2 ^ 8 * n) := by
  rw [reg_presetResult, b2n, if_neg Bool.false_ne_true, Nat.mul_zero, Nat.zero_add]

/-- An ignored command changes ROUTE_PRESET_IGNORED alone: one more, and the preset. -/
theorem presetIgnored_does (n : Nat) (s : State) :
    getF (presetIgnored n s) Reg.ROUTE_PRESET_IGNORED 0 16 = satInc 16 (getF s Reg.ROUTE_PRESET_IGNORED 0 16) % 2 ^ 16 ∧
      getF (presetIgnored n s) Reg.ROUTE_PRESET_IGNORED 16 6 = n % 2 ^ 6 ∧ OnlyRegs [Reg.ROUTE_PRESET_IGNORED] s (presetIgnored n s) := by
  refine ⟨?_, getF_setF_same _ _ _ _ _ (by decide), ((OnlyRegs.refl _ s).bumpF 0 16 (by simp)).setF 16 6 n (by simp)⟩
  rw [presetIgnored, getF_setF_beside _ _ _ _ _ _ _ (by decide) (by decide), bumpF, getF_setF_same _ _ _ _ _ (by decide)]

/-! ### The commands (R170, R171, R634) -/

section Commands

variable {req : Requester} {n : Nat} {s : State}

theorem exec_prepare (i : Fin 64) (h : WriteReaches req Reg.ROUTE_PRESET_CMD s) : exec (.prepare req i) s = .next (presetCommand i true false s) :=
  congrArg Host.Outcome.next (hostWrite_reaches _ h)

theorem exec_invalidate (i : Fin 64) (h : WriteReaches req Reg.ROUTE_PRESET_CMD s) :
    exec (.invalidate req i) s = .next (presetCommand i false true s) :=
  congrArg Host.Outcome.next (hostWrite_reaches _ h)

theorem presetCommand_pending (h : s.preparation ≠ none) {prepare invalidate : Bool} (hc : (prepare || invalidate) = true) :
    presetCommand n prepare invalidate s = presetIgnored n s := by
  rw [presetCommand, if_neg (by cases prepare <;> simp_all), if_pos (Option.isSome_iff_ne_none.2 h)]

theorem presetCommand_prepare (h : s.preparation = none) : presetCommand n true false s = preparePreset n s := by
  rw [presetCommand, h]; rfl

theorem presetCommand_invalidate (h : s.preparation = none) : presetCommand n false true s = (invalidatePreset n s).2 := by
  rw [presetCommand, h]; rfl

/-- The start of the next job leaves the preset of the preparation as it was. -/
theorem startJob_preset (s : State) : (startJob s).preparation.map Preparation.preset = s.preparation.map Preparation.preset := by
  unfold startJob
  split
  · rfl
  · split
    · rfl
    · split
      next p hp =>
        split
        · rw [hp]; rfl
        · rfl
      next => rfl

theorem preparePreset_follower (h : isLeader s = false) : preparePreset n s = presetResult false false 3 n s := by
  rw [preparePreset, h]; rfl

theorem preparePreset_noNet (h : isLeader s = true) (hk : netK s = 0) : preparePreset n s = presetResult false false 4 n s := by
  rw [preparePreset, h, if_neg (by decide), if_pos hk]

theorem preparePreset_starts (h : isLeader s = true) (hk : netK s ≠ 0) :
    ∃ p, p.preset = n ∧ preparePreset n s = startJob { presetResult true false 0 n s with preparation := some p } := by
  rw [preparePreset, h, if_neg (by decide), if_neg hk]
  exact ⟨_, rfl, rfl⟩

/-- PREPARE on a leader with a network: PENDING, and a preparation of the preset that waits for the route unit or has it. -/
theorem preparePreset_leader (h : isLeader s = true) (hk : netK s ≠ 0) :
    reg (preparePreset n s) Reg.ROUTE_PRESET_RESULT = word (1 + 2 ^ 8 * n) ∧ (∃ p, (preparePreset n s).preparation = some p ∧ p.preset = n) ∧
      SameBytes s (preparePreset n s) ∧ SameRegsBut [Reg.ROUTE_PRESET_RESULT, Reg.ROUTE_STATUS] s (preparePreset n s) := by
  obtain ⟨p, hp, heq⟩ := preparePreset_starts (n := n) h hk
  rw [heq]
  obtain ⟨⟨r, e, q, j, hframe⟩, hregs⟩ := startJob_frame { presetResult true false 0 n s with preparation := some p }
  have hpreset := startJob_preset { presetResult true false 0 n s with preparation := some p }
  refine ⟨?_, ?_, ?_, fun a ha => ?_⟩
  · exact (hregs _ (by decide)).trans (reg_presetResult true false 0 n s)
  · exact Option.map_eq_some_iff.1 (hpreset.trans (congrArg some hp))
  · rw [hframe]
    exact ⟨fun _ => rfl, fun _ => rfl⟩
  · obtain ⟨hresult, hstatus⟩ : a ∉ [Reg.ROUTE_PRESET_RESULT] ∧ a ∉ [Reg.ROUTE_STATUS] := by simpa using ha
    exact (hregs a hstatus).trans ((presetResult_only true false 0 n s).2 a hresult)

theorem invalidatePreset_inUse (h : queueRef s n = true ∨ schedRef s n = true) : (invalidatePreset n s).2 = presetResult false false 2 n s := by
  rw [invalidatePreset, if_pos (by simpa using h)]

/-- INVALIDATE of a preset that nothing names clears its VALID and shows OK; the message to the others touches no byte and no register. -/
theorem invalidatePreset_free (hq : queueRef s n = false) (hr : schedRef s n = false) :
    (invalidatePreset n s).2.mem = (clearPreset n s).mem ∧
      (invalidatePreset n s).2.regs = (presetResult false true 0 n (clearPreset n s)).regs := by
  rw [invalidatePreset, if_neg (by simp [hq, hr])]
  rw [← presetResult_mem false true 0 n (clearPreset n s)]
  generalize presetResult false true 0 n (clearPreset n s) = u
  obtain ⟨r, o, hsend⟩ := ringSend_frame 0x24 (otherMembers s) [n] u
  dsimp only
  rw [hsend]
  exact ⟨rfl, rfl⟩

end Commands

/-! ### The end of a preparation (R170) -/

section Completion

variable {n : Nat} {s : State}

/-- What a store writes: bytes from offset 0x1000 and from 0x1400 on and path entries, then PRESET_GEN, the digest and PRESET_STATUS. -/
theorem storePreset_writes (n gen : Nat) (cells : List StagedCell) (s : State) :
    ∃ states levels digest u, u.mem = (writeMem (presetAt n 0x1400) levels (writeMem (presetAt n 0x1000) states s)).mem ∧
      (∃ r m, u = { s with regs := r, mem := m }) ∧
      storePreset n gen cells s = setPresetStatus n (word (1 + 2 ^ 16 * netK s))
        (writeMem (presetAt n 0xF010) digest (writeMem (presetAt n 0xF004) (toBytes 4 (gen % 65536)) u)) := by
  unfold storePreset
  extract_lets levels s1 s2 s3 s4
  have frame1 : ∃ m, s1 = { s with mem := m } := by
    obtain ⟨m, hm⟩ := writeMem_frame ((stateBytes cells).take (32 * s.variant.columns)) (presetAt n 0x1000) s
    obtain ⟨m', hm'⟩ := writeMem_frame levels.flatten (presetAt n 0x1400) (writeMem (presetAt n 0x1000) ((stateBytes cells).take (32 * s.variant.columns)) s)
    exact ⟨m', hm'.trans (by rw [hm])⟩
  have frame3 : ∃ r, s3 = { s1 with regs := r } :=
    forEach_keeps (fun t => ∃ r, t = { s1 with regs := r }) _ _ (fun c _ t ht => by
      obtain ⟨r, rfl⟩ := ht
      exact ⟨_, rfl⟩) ⟨_, rfl⟩
  obtain ⟨r, h3⟩ := frame3
  obtain ⟨m, h1⟩ := frame1
  refine ⟨(stateBytes cells).take (32 * s.variant.columns), levels.flatten, _, s3, ?_, ⟨r, m, ?_⟩, rfl⟩
  · rw [h3]
  · rw [h3, h1]

theorem storePreset_frame (n gen : Nat) (cells : List StagedCell) (s : State) :
    ∃ r m, storePreset n gen cells s = { s with regs := r, mem := m } := by
  obtain ⟨states, levels, digest, u, -, ⟨r, m, rfl⟩, hstore⟩ := storePreset_writes n gen cells s
  obtain ⟨m1, h1⟩ := writeMem_frame (toBytes 4 (gen % 65536)) (presetAt n 0xF004) { s with regs := r, mem := m }
  obtain ⟨m2, h2⟩ := writeMem_frame digest (presetAt n 0xF010) { s with regs := r, mem := m1 }
  obtain ⟨m3, h3⟩ := setPresetStatus_frame n (word (1 + 2 ^ 16 * netK s)) { s with regs := r, mem := m2 }
  exact ⟨r, m3, by rw [hstore, h1, h2, h3]⟩

/-- A stored preset is VALID, with the generation given, and its host tables stand. -/
theorem storePreset_does (n gen : Nat) (cells : List StagedCell) (s : State) :
    presetValid (storePreset n gen cells s) n = true ∧ presetGen (storePreset n gen cells s) n = gen % 65536 ∧
      ∀ o, o < 0x1000 → memByte (storePreset n gen cells s) (presetAt n o) = memByte s (presetAt n o) := by
  obtain ⟨states, levels, digest, u, hu, -, hstore⟩ := storePreset_writes n gen cells s
  rw [hstore]
  refine ⟨?_, ?_, fun o ho => ?_⟩
  · rw [presetValid, presetStatus_setPresetStatus, bitOf_word _ (by decide)]
    exact decide_eq_true (by omega)
  · rw [presetGen_setPresetStatus]
    have beside : ∀ t : State, presetGen (writeMem (presetAt n 0xF010) digest t) n = presetGen t n := fun t =>
      readMem_congr fun i hi => memByte_writeMem _ _ _ _ (.inl (by unfold presetAt; omega))
    rw [beside, presetGen, readMem_writeMem_toBytes _ _ (by decide) (by omega)]
  · have below : ∀ {o'}, 0x1000 ≤ o' → o < o' := fun h => ho.trans_le h
    rw [setPresetStatus, memByte_writeMem_below (below (by decide)), memByte_writeMem_below (below (by decide)),
      memByte_writeMem_below (below (by decide)), memByte_congr hu, memByte_writeMem_below (below (by decide)),
      memByte_writeMem_below (below (by decide))]

/-- What a preparation of preset `n` that fails leaves: VALID 0, the reason in PRESET_STATUS and in ROUTE_PRESET_RESULT. -/
def failPreset (reason n : Nat) (s : State) : State := presetResult false false reason n (setPresetStatus n (word (2 ^ 24 * reason)) s)

theorem failPreset_frame (reason n : Nat) (s : State) :
    OnlyRegs [Reg.ROUTE_PRESET_RESULT] { s with mem := (failPreset reason n s).mem } (failPreset reason n s) := by
  obtain ⟨m, hm⟩ := setPresetStatus_frame n (word (2 ^ 24 * reason)) s
  rw [failPreset, hm]
  exact presetResult_only false false reason n { s with mem := m }

theorem failPreset_regs (reason n : Nat) (s : State) : SameRegsBut [Reg.ROUTE_PRESET_RESULT] s (failPreset reason n s) :=
  (failPreset_frame reason n s).2

theorem failPreset_preparation (reason n : Nat) (s : State) : (failPreset reason n s).preparation = s.preparation := by
  obtain ⟨⟨r, hr⟩, -⟩ := failPreset_frame reason n s
  rw [hr]

/-- A failed preset is not VALID and shows the reason; its generation stands. -/
theorem failPreset_does {reason : Nat} (h : reason < 16) (n : Nat) (s : State) :
    presetValid (failPreset reason n s) n = false ∧ fld (presetStatus (failPreset reason n s) n) 24 8 = reason ∧
      presetGen (failPreset reason n s) n = presetGen s n ∧ getF (failPreset reason n s) Reg.ROUTE_PRESET_RESULT 2 4 = reason := by
  have status : presetStatus (failPreset reason n s) n = word (2 ^ 24 * reason) := by
    rw [failPreset, presetStatus_presetResult, presetStatus_setPresetStatus]
  refine ⟨?_, ?_, ?_, ?_⟩
  · rw [presetValid, status, bitOf_word _ (by decide)]
    exact decide_eq_false (by omega)
  · rw [status, fld_word _ _ _ (by decide)]
    omega
  · rw [failPreset, presetGen_presetResult, presetGen_setPresetStatus]
  · rw [getF, failPreset, presetResult_refuses, fld_word _ _ _ (by decide)]
    omega

variable {p : Preparation} {r : RouteResult}

theorem exec_preparation_failed (hp : s.preparation = some p) (hjob : p.job = .done) (hr : p.result = some r) (hb : p.badPerm = none)
    (h : r.reason ≠ 0) : exec .presetPreparationComplete s = .next (failPreset 1 p.preset { s with preparation := none }) := by
  refine congrArg Host.Outcome.next ?_
  simp only [hp, hjob, hb, hr, bne_self_eq_false, Bool.false_eq_true, if_false, bne_iff_ne, ne_eq, h, not_false_eq_true, if_true]
  rfl

theorem recordRouteFail_mem (input kind reason slot pos : Nat) (s : State) : (recordRouteFail input kind reason slot pos s).mem = s.mem := rfl

theorem recordRouteFail_preparation (input kind reason slot pos : Nat) (s : State) :
    (recordRouteFail input kind reason slot pos s).preparation = s.preparation := rfl

/-- An offending port table is recorded in ROUTE_FAIL before the preset fails with reason 5. -/
theorem exec_preparation_badPerm {b : Nat × Nat} (hp : s.preparation = some p) (hjob : p.job = .done) (hb : p.badPerm = some b) :
    ∃ u, exec .presetPreparationComplete s = .next (failPreset 5 p.preset u) ∧ u.mem = s.mem ∧ u.preparation = none ∧
      reg u Reg.ROUTE_FAIL = word (b.1 % 2 ^ 11 + 2 ^ 11 * b.2 + 2 ^ 12 * 5) ∧ SameRegsBut [Reg.ROUTE_FAIL] s u := by
  refine ⟨recordRouteFail b.1 b.2 5 0 0 { s with preparation := none }, congrArg Host.Outcome.next ?_,
    recordRouteFail_mem .., recordRouteFail_preparation .., ?_, fun a ha => ?_⟩
  · simp only [hp, hjob, hb, bne_self_eq_false, Bool.false_eq_true, if_false]
    rfl
  · rw [recordRouteFail, reg_setReg_same, Nat.mul_zero, Nat.mul_zero]; rfl
  · exact reg_setReg_other _ _ (by simpa [eq_comm] using ha)

/-- The messages to the other members change the lanes and what has left the device. -/
theorem ringSends_frame (kind : Nat) (mask : Nat → Nat) (content : Nat → State → List Nat) (l : List Nat) (s : State) :
    ∃ ring out, forEach l (fun q t => ringSend kind (mask q) (content q t) t) s = { s with ring := ring, out := out } :=
  forEach_keeps (fun t => ∃ ring out, t = { s with ring := ring, out := out }) _ l (fun q _ t ht => by
    obtain ⟨ring, out, rfl⟩ := ht
    obtain ⟨ring', out', hsend⟩ := ringSend_frame kind (mask q) (content q { s with ring := ring, out := out }) { s with ring := ring, out := out }
    exact ⟨ring', out', hsend⟩) ⟨_, _, rfl⟩

/-- What a preparation of preset `n` that ends with a routing leaves: the preset stored, the other members told, OK. -/
def prepared (n gen : Nat) (cells : List StagedCell) (others : List Nat) (content : Nat → State → List Nat) (s : State) : State :=
  presetResult false true 0 n (forEach others (fun q t => ringSend 0x41 (2 ^ q) (content q t) t) (storePreset n gen cells s))

theorem prepared_frame (n gen : Nat) (cells : List StagedCell) (others : List Nat) (content : Nat → State → List Nat) (s : State) :
    (prepared n gen cells others content s).mem = (storePreset n gen cells s).mem ∧
      (prepared n gen cells others content s).preparation = s.preparation ∧ (prepared n gen cells others content s).epochs = s.epochs := by
  obtain ⟨r, m, hstore⟩ := storePreset_frame n gen cells s
  unfold prepared
  rw [hstore]
  obtain ⟨ring, out, hsend⟩ := ringSends_frame 0x41 (2 ^ ·) content others { s with regs := r, mem := m }
  rw [hsend]
  exact ⟨rfl, rfl, rfl⟩

theorem exec_preparation_stored (hp : s.preparation = some p) (hjob : p.job = .done) (hr : p.result = some r) (hb : p.badPerm = none)
    (h : r.reason = 0) :
    ∃ cells others content, exec .presetPreparationComplete s =
      .next (prepared p.preset (presetGen s p.preset + 1) cells others content { s with preparation := none }) := by
  change ∃ cells others content, execPresetPreparationComplete s = _
  unfold execPresetPreparationComplete prepared
  simp only [hp, hjob, hb, hr, bne_self_eq_false, Bool.false_eq_true, if_false, h]
  exact ⟨_, _, _, rfl⟩

end Completion

/-! ### The map and the port marks (R164, R189) -/

section Map

variable {req : Requester} {s : State}

/-- A write of the map reaches `mapWrite` at its address. -/
theorem exec_routeMapWrite {a : Nat} (v : Word) (ha : a = Reg.ROUTE_NET ∨ ∃ q, q < 19 ∧ a = Reg.ROUTE_STAGE_MAP q) (h : WriteReaches req a s) :
    exec (.routeMapWrite req (BitVec.ofNat 28 a) v) s = .next (mapWrite a v s) := by
  have hmap : a = Reg.ROUTE_NET ∨ ((Reg.ROUTE_STAGE_MAP 0 ≤ a ∧ a ≤ Reg.ROUTE_STAGE_MAP 18) ∧ a % 4 = 0) := by
    obtain rfl | ⟨q, hq, rfl⟩ := ha
    · exact .inl rfl
    · unfold Reg.ROUTE_STAGE_MAP
      omega
  have haddr : (BitVec.ofNat 28 a).toNat = a := by
    rw [BitVec.toNat_ofNat]
    obtain rfl | ⟨q, hq, rfl⟩ := ha
    · rfl
    · exact Nat.mod_eq_of_lt (by unfold Reg.ROUTE_STAGE_MAP; omega)
  refine congrArg Host.Outcome.next ?_
  rw [haddr, hostWrite_reaches _ h, if_pos (by simpa using hmap)]

theorem mapWrite_busy {a : Nat} {v : Word} (h : enabled s epochPage = true ∨ getBit s (Reg.STATUS epochPage) 1 = true ∨ s.preparation ≠ none) :
    mapWrite a v s = s := by
  rw [mapWrite, if_pos]
  simpa [or_assoc, Option.isSome_iff_ne_none] using h

/-- A write that changes the map while it may, in the bits it has: the word is taken and no preset stays valid. -/
theorem mapWrite_changes {a : Nat} {v : Word} (he : enabled s epochPage = false) (hb : getBit s (Reg.STATUS epochPage) 1 = false)
    (hp : s.preparation = none) (hmask : v &&& word ((regAt a).map RegDef.mask |>.getD 0) = v)
    (hnet : a ≠ Reg.ROUTE_NET ∨ v.toNat = 0 ∨ (4 ≤ v.toNat ∧ v.toNat ≤ 10)) (hv : v ≠ reg s a) :
    reg (mapWrite a v s) a = v ∧ (∀ n, n < 64 → presetValid (mapWrite a v s) n = false) ∧ SameRegsBut [a] s (mapWrite a v s) := by
  have eq : mapWrite a v s = forEach (List.range 64) clearPreset (setReg a v s) := by
    rw [mapWrite, he, hb, hp, if_neg (by decide)]
    simp only [hmask]
    refine if_pos ?_
    have hz : v.toNat = 0 ↔ v = 0 := ⟨fun h => BitVec.eq_of_toNat_eq h, fun h => h ▸ rfl⟩
    rw [hz] at hnet
    simpa [hv, or_assoc] using hnet
  have regs : ∀ b, reg (mapWrite a v s) b = reg (setReg a v s) b := fun b => by
    rw [eq, reg, clearPresets_regs, ← reg]
  refine ⟨by rw [regs, reg_setReg_same], fun n hn => by rw [eq, clearPresets_invalid _ hn], fun b hb => ?_⟩
  rw [regs, reg_setReg_other _ _ (by simpa [eq_comm] using hb)]

/-- The bits that a segment pair of the map and the network have. -/
theorem mask_stageMap : ∀ q, q < 19 → (regAt (Reg.ROUTE_STAGE_MAP q)).map RegDef.mask = some 0x01F301F3 := by decide

theorem mask_net : (regAt Reg.ROUTE_NET).map RegDef.mask = some 0xF := by decide

theorem word_and_net {k : Nat} (hk : k ≤ 10) : word k &&& word 0xF = word k := by
  interval_cases k <;> rfl

theorem exec_routePortMark (port : BitVec 10) (h : WriteReaches req Reg.ROUTE_PORT_MARK s) :
    exec (.routePortMark req port) s = .next (markPort port.toNat s) :=
  congrArg Host.Outcome.next (hostWrite_reaches _ h)

/-- A port mark sets its one bit. -/
theorem portMarked_markPort (p : Nat) (s : State) : portMarked (markPort p s) p = true := getBit_setB_same _ _ _ _ (by omega)

theorem portMarked_markPort_other {p q : Nat} (h : q ≠ p) (s : State) : portMarked (markPort p s) q = portMarked s q := by
  by_cases hword : p / 32 = q / 32
  · rw [portMarked, markPort, hword, getBit_setB_beside _ _ _ _ _ (by omega) (by omega), portMarked]
  · exact getBit_setB_other _ _ _ _ (by unfold Reg.ROUTE_PORT_FAILED; omega)

end Map

/-- Settles O28: the commands and the end of a preparation case by case as they act, with the store's bytes read back after the writes. -/
theorem presetsArePreparedAndInvalidated : Obligations.PresetsArePreparedAndInvalidated := by
  unfold Obligations.PresetsArePreparedAndInvalidated
  refine ⟨fun req n s hw hp => ?ignored, fun req n s hw hp => ⟨fun hl hk => ?prepare, fun hl => ?follower, fun hl hk => ?noNet, fun huse => ?inUse, fun hq hr => ?free⟩,
    fun s p r hp hjob hn hr hb => ⟨fun h => ?stored, fun h => ?failed⟩, fun s p b hp hjob hn hb h1 h2 => ?badPerm,
    fun req q v s hq hw => ⟨fun busy => ?mapBusy, fun he hb hp hmask hv => ?mapTaken⟩, fun req k s hw hk => ⟨fun busy => ?netBusy, fun he hb hp hv => ?netTaken⟩,
    fun req port s hw => ?mark⟩
  case ignored =>
    obtain ⟨count, preset, only⟩ := presetIgnored_does n s
    refine ⟨presetIgnored n s, ?_, ?_, ?_, ?_, only⟩
    · rw [exec_prepare n hw, presetCommand_pending hp rfl]
    · rw [exec_invalidate n hw, presetCommand_pending hp rfl]
    · rw [count, Nat.mod_eq_of_lt (satInc_lt ..)]
    · exact preset.trans (Nat.mod_eq_of_lt n.isLt)
  case prepare =>
    obtain ⟨result, ⟨p, preparation, preset⟩, bytes, regs⟩ := preparePreset_leader (n := n) hl hk
    exact ⟨_, p, by rw [exec_prepare n hw, presetCommand_prepare hp], result, preparation, preset, bytes, regs⟩
  case follower =>
    exact ⟨_, by rw [exec_prepare n hw, presetCommand_prepare hp, preparePreset_follower hl], presetResult_refuses 3 n s, presetResult_only ..⟩
  case noNet =>
    exact ⟨_, by rw [exec_prepare n hw, presetCommand_prepare hp, preparePreset_noNet hl hk], presetResult_refuses 4 n s, presetResult_only ..⟩
  case inUse =>
    exact ⟨_, by rw [exec_invalidate n hw, presetCommand_invalidate hp, invalidatePreset_inUse huse], presetResult_refuses 2 n s,
      presetResult_only ..⟩
  case free =>
    obtain ⟨mem, regs⟩ := invalidatePreset_free hq hr
    refine ⟨_, by rw [exec_invalidate n hw, presetCommand_invalidate hp], ?_, ?_, fun a ha => ?_, fun a ha => ?_⟩
    · rw [presetValid_congr mem, presetValid_clearPreset]
    · rw [getBit, reg_congr regs, ← getBit, getBit_presetResult_ok]
    · rw [memByte_congr mem]
      exact memByte_setPresetStatus _ _ _ (presetStatus_bytes ha)
    · rw [reg_congr regs, (presetResult_only ..).2 a ha, reg_congr (clearPreset_regs n s)]
  case stored =>
    obtain ⟨cells, others, content, hexec⟩ := exec_preparation_stored hp hjob hr hb h
    obtain ⟨mem, preparation, epochs⟩ := prepared_frame p.preset (presetGen s p.preset + 1) cells others content { s with preparation := none }
    obtain ⟨valid, gen, tables⟩ := storePreset_does p.preset (presetGen s p.preset + 1) cells { s with preparation := none }
    refine ⟨_, hexec, preparation, ?_, ?_, ?_, ?_, epochs, fun o ho => ?_⟩
    · rw [presetValid_congr mem, valid]
    · rw [presetGen_congr mem, gen]
    · exact getBit_presetResult_pending ..
    · exact getBit_presetResult_ok ..
    · rw [memByte_congr mem]
      exact tables o ho
  case failed =>
    obtain ⟨valid, reason, gen, result⟩ := failPreset_does (reason := 1) (by decide) p.preset { s with preparation := none }
    exact ⟨_, exec_preparation_failed hp hjob hr hb h, failPreset_preparation .., valid, reason, gen.trans (presetGen_congr rfl _), result, failPreset_frame ..⟩
  case badPerm =>
    obtain ⟨u, hexec, mem, preparation, recorded, others⟩ := exec_preparation_badPerm hp hjob hb
    obtain ⟨valid, reason, gen, result⟩ := failPreset_does (reason := 5) (by decide) p.preset u
    have fail := failPreset_regs 5 p.preset u
    have shown : ∀ lo w, lo + w ≤ 32 → getF (failPreset 5 p.preset u) Reg.ROUTE_FAIL lo w = (b.1 + 2 ^ 11 * b.2 + 2 ^ 12 * 5) / 2 ^ lo % 2 ^ w :=
      fun lo w hw => by rw [getF, fail _ (by decide), recorded, Nat.mod_eq_of_lt h1, fld_word _ _ _ hw]
    refine ⟨_, hexec, (failPreset_preparation ..).trans preparation, valid, reason, gen.trans (presetGen_congr mem _), result, ?_, ?_, ?_, ?_,
      fun a ha => ?_⟩
    · rw [shown 0 11 (by decide)]; omega
    · rw [shown 11 1 (by decide)]; omega
    · rw [shown 12 3 (by decide)]; omega
    · rw [fail _ (by decide), others _ (by decide)]
    · obtain ⟨hresult, hfail⟩ : a ∉ [Reg.ROUTE_PRESET_RESULT] ∧ a ∉ [Reg.ROUTE_FAIL] := by simpa using ha
      rw [fail a hresult, others a hfail]
  case mapBusy =>
    rw [exec_routeMapWrite v (.inr ⟨q, hq, rfl⟩) hw, mapWrite_busy busy]
  case mapTaken =>
    exact ⟨_, exec_routeMapWrite v (.inr ⟨q, hq, rfl⟩) hw, mapWrite_changes he hb hp (by rw [mask_stageMap q hq]; exact hmask)
      (.inl (by unfold Reg.ROUTE_STAGE_MAP Reg.ROUTE_NET; omega)) hv⟩
  case netBusy =>
    rw [exec_routeMapWrite _ (.inl rfl) hw, mapWrite_busy busy]
  case netTaken =>
    have small : (word k).toNat = k := Nat.mod_eq_of_lt (by omega)
    exact ⟨_, exec_routeMapWrite _ (.inl rfl) hw, mapWrite_changes he hb hp (by rw [mask_net]; exact word_and_net (by omega))
      (.inr (by rw [small]; exact hk)) hv⟩
  case mark =>
    exact ⟨_, exec_routePortMark port hw, portMarked_markPort _ s, fun p _ h => portMarked_markPort_other h s,
      (OnlyRegs.refl _ s).setB _ _ (List.mem_singleton_self _)⟩

end Sys2Proof.Machine
end

section
/-! PROOF. The shape library and its directory (R202 to R205, R235): validation, the writes that a valid segment stops, and INVALIDATE. -/

namespace Sys2Proof.Machine

open Sys2Proof

section Directory

variable {req : Requester} {n : Nat} {v : Word} {s : State}

/-! ### A word of the directory -/

/-- Word 0 of an entry as a write stores it: START in its place, VALID 0 (R202). -/
theorem writeDirWord_stores (n : Nat) (v : Word) (s : State) :
    segValid (writeDirWord n 0 v s) n = false ∧ segStart (writeDirWord n 0 v s) n = fld v 0 20 ∧
      segLen (writeDirWord n 0 v s) n = segLen s n ∧ segStep (writeDirWord n 0 v s) n = segStep s n ∧
      OnlyRegs [Reg.SHAPE_DIR (4 * n)] s (writeDirWord n 0 v s) := by
  have hword : dirWord (writeDirWord n 0 v s) n 0 = setFld (v &&& word (shapeDirMask 0)) 31 1 0 := reg_setReg_same _ _ _
  have hnext : dirWord (writeDirWord n 0 v s) n 1 = dirWord s n 1 := reg_setReg_other _ _ (by unfold Reg.SHAPE_DIR; omega)
  have hmask : ∀ i, i < 20 → (word (shapeDirMask 0)).getLsbD i = true := by decide
  refine ⟨?_, ?_, by rw [segLen, hnext, segLen], by rw [segStep, hnext, segStep], (OnlyRegs.refl _ s).setReg _ (List.mem_singleton_self _)⟩
  · rw [segValid, hword]
    exact bitOf_setFld_one _ 31 false (by decide)
  · rw [segStart, hword, fld_setFld_other _ _ _ _ _ _ (by decide) (by decide)]
    exact fld_eq_of_bits fun i _ hi => by simp [bitOf, hmask i (by omega)]

/-! ### Validation (R203) -/

/-- The result of a command on the directory (R235). -/
theorem reg_dirResult (w : Word) (s : State) : reg (setReg Reg.SHAPE_DIR_RESULT w s) Reg.SHAPE_DIR_RESULT = w := reg_setReg_same _ _ _

theorem dirWord_dirResult (w : Word) (s : State) {n : Nat} (k : Nat) : dirWord (setReg Reg.SHAPE_DIR_RESULT w s) n k = dirWord s n k :=
  reg_setReg_other _ _ (by unfold Reg.SHAPE_DIR_RESULT Reg.SHAPE_DIR; omega)

theorem segValid_dirResult (w : Word) (s : State) (n : Nat) : segValid (setReg Reg.SHAPE_DIR_RESULT w s) n = segValid s n := by
  rw [segValid, dirWord_dirResult, segValid]

theorem segStart_dirResult (w : Word) (s : State) (n : Nat) : segStart (setReg Reg.SHAPE_DIR_RESULT w s) n = segStart s n := by
  rw [segStart, dirWord_dirResult, segStart]

/-- VALID written, and the other fields of word 0 as before. -/
theorem setValid_does (n : Nat) (b : Bool) (s : State) :
    segValid (setB (Reg.SHAPE_DIR (4 * n)) 31 b s) n = b ∧ segStart (setB (Reg.SHAPE_DIR (4 * n)) 31 b s) n = segStart s n := by
  have hword : dirWord (setB (Reg.SHAPE_DIR (4 * n)) 31 b s) n 0 = setFld (dirWord s n 0) 31 1 (b2n b) := reg_setB_same _ _ _ _
  constructor
  · rw [segValid, hword]
    exact bitOf_setFld_one _ 31 b (by decide)
  · rw [segStart, hword, fld_setFld_other _ _ _ _ _ _ (by decide) (by decide), segStart]

/-- What a directory command changes: word 0 of the entry, and the result. -/
abbrev dirCommandWords (n : Nat) : List Nat := [Reg.SHAPE_DIR (4 * n), Reg.SHAPE_DIR_RESULT]

theorem OnlyRegs.mono {l m : List Nat} {s t : State} (h : OnlyRegs l s t) (hl : l ⊆ m) : OnlyRegs m s t :=
  ⟨h.1, fun a ha => h.2 a fun hm => ha (hl hm)⟩

theorem writeDirWord_only (n : Nat) (v : Word) (s : State) : OnlyRegs (dirCommandWords n) s (writeDirWord n 0 v s) :=
  (writeDirWord_stores n v s).2.2.2.2.mono (by simp)

/-- A segment in range with a legal step becomes valid. -/
theorem validate_valid (hrange : fld v 0 20 + segLen s n ≤ 1048576) (hlo : 0x400 ≤ segStep s n) (hhi : segStep s n ≤ 0x8000) :
    segValid (validate n v s) n = true ∧ segStart (validate n v s) n = fld v 0 20 ∧
      reg (validate n v s) Reg.SHAPE_DIR_RESULT = word (1 + 2 ^ 16 * n) ∧ OnlyRegs (dirCommandWords n) s (validate n v s) := by
  obtain ⟨-, hstart, hlen, hstep, -⟩ := writeDirWord_stores n v s
  obtain ⟨hset, hkeep⟩ := setValid_does n true (writeDirWord n 0 v s)
  have heq : validate n v s =
      setReg Reg.SHAPE_DIR_RESULT (word (1 + 2 ^ 16 * n)) (setB (Reg.SHAPE_DIR (4 * n)) 31 true (writeDirWord n 0 v s)) := by
    unfold validate
    dsimp only
    rw [hstart, hlen, hstep, if_neg (by omega), if_neg (by simp; omega)]
    rfl
  rw [heq]
  exact ⟨(segValid_dirResult _ _ _).trans hset, (segStart_dirResult _ _ _).trans (hkeep.trans hstart), reg_dirResult _ _,
    ((writeDirWord_only n v s).setB 31 true (by simp)).setReg _ (by simp)⟩

/-- A segment that fails a check stays invalid, with the reason: 2 for the range, whatever the step, or else 3 for the step. -/
theorem validate_fails {reason : Nat} (h : (reason = 2 ∧ 1048576 < fld v 0 20 + segLen s n) ∨
      (reason = 3 ∧ fld v 0 20 + segLen s n ≤ 1048576 ∧ (segStep s n < 0x400 ∨ 0x8000 < segStep s n))) :
    segValid (validate n v s) n = false ∧ reg (validate n v s) Reg.SHAPE_DIR_RESULT = word (2 * reason + 2 ^ 16 * n) ∧
      OnlyRegs (dirCommandWords n) s (validate n v s) := by
  obtain ⟨hinvalid, hstart, hlen, hstep, -⟩ := writeDirWord_stores n v s
  have heq : validate n v s = setReg Reg.SHAPE_DIR_RESULT (word (2 * reason + 2 ^ 16 * n)) (writeDirWord n 0 v s) := by
    unfold validate
    dsimp only
    rw [hstart, hlen, hstep]
    rcases h with ⟨rfl, hout⟩ | ⟨rfl, hin, hbad⟩
    · rw [if_pos (by omega)]
      simp [b2n]
    · rw [if_neg (by omega), if_pos (by simpa using hbad)]
      simp [b2n]
  rw [heq]
  exact ⟨(segValid_dirResult _ _ _).trans hinvalid, reg_dirResult _ _, (writeDirWord_only n v s).setReg _ (by simp)⟩

/-! ### Writes that a valid segment stops (R204) -/

/-- An ignored write changes SHAPE_IGNORED alone: one more, and the segment. -/
theorem shapeIgnored_does (hn : n < 1024) (s : State) :
    getF (shapeIgnored n s) Reg.SHAPE_IGNORED 0 16 = satInc 16 (getF s Reg.SHAPE_IGNORED 0 16) ∧
      getF (shapeIgnored n s) Reg.SHAPE_IGNORED 16 10 = n ∧ OnlyRegs [Reg.SHAPE_IGNORED] s (shapeIgnored n s) := by
  refine ⟨?_, (getF_setF_same _ _ _ _ _ (by decide)).trans (Nat.mod_eq_of_lt hn),
    ((OnlyRegs.refl _ s).bumpF 0 16 (by simp)).setF 16 10 n (by simp)⟩
  rw [shapeIgnored, getF_setF_beside _ _ _ _ _ _ _ (by decide) (by decide), getF_bumpF_same _ _ _ _ (by decide)]

/-- The protecting segment is the lowest valid one whose samples the bytes touch. -/
theorem protector_some {o m k : Nat} (h : protector s o m = some k) :
    k < 1024 ∧ segTouches s o m k = true ∧ ∀ j, j < k → segTouches s o m j = false := by
  obtain ⟨htouch, hmem, hbelow⟩ := List.find?_range_eq_some.1 h
  exact ⟨List.mem_range.1 hmem, htouch, fun j hj => by simpa using hbelow j hj⟩

theorem segValid_of_touches {o m k : Nat} (h : segTouches s o m k = true) : segValid s k = true := by
  simp only [segTouches, Bool.and_eq_true] at h
  exact h.1.1

/-! ### The commands -/

theorem exec_segmentValidate {seg : BitVec 10} (data : Word) (h : WriteReaches req (Reg.SHAPE_DIR (4 * seg.toNat)) s) :
    exec (.segmentValidate req seg data) s = .next (if segValid s seg.toNat then shapeIgnored seg.toNat s
      else if bitOf data 31 then validate seg.toNat data s else writeDirWord seg.toNat 0 data s) :=
  congrArg Host.Outcome.next (hostWrite_reaches _ h)

theorem exec_shapeLibraryWrite {addr : BitVec 28} {size : AccessSize} (data : DWord) (h : WriteReaches req addr.toNat s)
    (hd : decodeFails s addr.toNat size.bytes true = false) :
    exec (.shapeLibraryWrite req addr size data) s = .next (shapeWrite addr.toNat size.bytes data.toNat s) :=
  congrArg Host.Outcome.next (sizedWrite_reaches (shapeWrite addr.toNat size.bytes data.toNat) h hd)

theorem shapeWrite_protected {a m data o k : Nat} (ho : decodeAddr s.variant a = .shape o) (hk : protector s o m = some k) :
    shapeWrite a m data s = shapeIgnored k s := by
  unfold shapeWrite
  rw [ho]
  dsimp only
  rw [hk]

theorem shapeWrite_unprotected {a m data o : Nat} (ho : decodeAddr s.variant a = .shape o) (hk : protector s o m = none) :
    shapeWrite a m data s = writeMem a (toBytes m data) s := by
  unfold shapeWrite
  rw [ho]
  dsimp only
  rw [hk]

theorem exec_shapeDirInvalidate (seg : BitVec 10) (h : WriteReaches req Reg.SHAPE_DIR_CMD s) :
    exec (.shapeDirInvalidate req seg) s = .next (if segReferenced s seg.toNat
      then setReg Reg.SHAPE_DIR_RESULT (word (2 * 1 + 2 ^ 16 * seg.toNat)) s
      else setReg Reg.SHAPE_DIR_RESULT (word (1 + 2 ^ 16 * seg.toNat)) (setB (Reg.SHAPE_DIR (4 * seg.toNat)) 31 false s)) :=
  congrArg Host.Outcome.next (hostWrite_reaches _ h)

end Directory

/-- Settles O32: validation by its checks in their order, the writes that a valid segment stops, and INVALIDATE. -/
theorem segmentsAreValidatedAndProtected : Obligations.SegmentsAreValidatedAndProtected := by
  unfold Obligations.SegmentsAreValidatedAndProtected
  refine ⟨fun req seg data s h => ?_, fun req addr size data o s h ho hd => ?_, fun req seg s h => ?_⟩
  · rw [exec_segmentValidate data h]
    refine ⟨fun hv => ?_, fun hv h31 => ?_, fun hv h31 => ?_⟩
    · rw [if_pos hv]
      exact ⟨_, rfl, shapeIgnored_does seg.isLt s⟩
    · rw [if_neg (by simp [hv]), if_neg (by simp [h31])]
      obtain ⟨hvalid, hstart, -, -, honly⟩ := writeDirWord_stores seg.toNat data s
      exact ⟨_, rfl, hvalid, hstart, honly⟩
    · rw [if_neg (by simp [hv]), if_pos h31]
      exact ⟨fun hrange hlo hhi => ⟨_, rfl, validate_valid hrange hlo hhi⟩, fun hout => ⟨_, rfl, validate_fails (.inl ⟨rfl, hout⟩)⟩,
        fun hin hbad => ⟨_, rfl, validate_fails (.inr ⟨rfl, hin, hbad⟩)⟩⟩
  · rw [exec_shapeLibraryWrite data h hd]
    refine ⟨fun k hk => ?_, fun hk => ?_⟩
    · obtain ⟨hlt, htouch, hbelow⟩ := protector_some hk
      obtain ⟨hcount, hseg, honly⟩ := shapeIgnored_does hlt s
      refine ⟨segValid_of_touches htouch, hbelow, ?_⟩
      rw [shapeWrite_protected ho hk]
      exact ⟨_, rfl, hseg, hcount, honly⟩
    · rw [shapeWrite_unprotected ho hk]
      refine ⟨_, rfl, fun i hi => ?_, fun a ha => ?_, writeMem_frame _ _ s⟩
      · rw [memByte_writeMem_at _ _ _ _ (by simpa using hi), toBytes_getElem]
      · exact memByte_writeMem _ _ _ _ (by simpa using ha)
  · rw [exec_shapeDirInvalidate seg h]
    refine ⟨fun hr => ?_, fun hr => ?_⟩
    · rw [if_pos hr]
      exact ⟨_, rfl, segValid_dirResult _ _ _, reg_dirResult _ _, (OnlyRegs.refl _ s).setReg _ (by simp)⟩
    · rw [if_neg (by simp [hr])]
      obtain ⟨hvalid, hstart⟩ := setValid_does seg.toNat false s
      exact ⟨_, rfl, (segValid_dirResult _ _ _).trans hvalid, (segStart_dirResult _ _ _).trans hstart, reg_dirResult _ _,
        ((OnlyRegs.refl _ s).setB 31 false (by simp)).setReg _ (by simp)⟩

end Sys2Proof.Machine
end

section
/-! PROOF. The sequencer at the end of a play (R199, R211): where the statement on it fails. -/

namespace Sys2Proof.Machine

open Sys2Proof

/-- A channel of column 1 that plays segment 0x820. The directory ends at segment 1,023: what the state reads as that entry's words 1 and
2 are EO_COL_STATUS and EO_COL_COUNT_A of the column, here a step of 1 and 1,023 clipped samples. The segment's one sample is
beyond the limit of R199. -/
def strayPlay : State := { State.reset with
  regs := [(Reg.EO_COL_CFG 1, 0), (Reg.EO_COL_STATUS 1, 0x40000000), (Reg.EO_COL_COUNT_A 1, 1023)]
  mem := [(0x1100000, 0xFF), (0x1100001, 0x7F)]
  eo := [(256, { EoChannel.unused with state := .play, seg := 0x820 })] }

/-- Its play is over: no loop is left, and END of the entry says HALT. -/
theorem strayPlay_halts : (channel strayPlay 256).state = .play ∧ (channel strayPlay 256).jump = none ∧ (channel strayPlay 256).badLink = false ∧
    fld (dirWord strayPlay (channel strayPlay 256).seg 2) 16 8 = 0 ∧ fld (dirWord strayPlay (channel strayPlay 256).seg 2) 10 2 = 0 := by
  decide

/-- The count of the clipped sample makes END say NEXT, and the successor that the word then names is not valid. -/
theorem strayPlay_badLink : ∃ t, exec (.segmentEnd 256) strayPlay = .next t ∧ (channel t 256).badLink = true := ⟨_, rfl, by decide⟩

/-- Refutes O30, by its clause on the end of a play: the clause speaks of every state, and of one whose channel plays a segment beyond the
directory, as in `strayPlay`, the count of clipped samples changes the word that is read as the entry's link before the link applies. -/
theorem not_sequencerFollowsItsStates : ¬ Obligations.SequencerFollowsItsStates := by
  unfold Obligations.SequencerFollowsItsStates
  rintro ⟨-, -, hplay, -⟩
  obtain ⟨hstate, hjump, hbad, hloop, hend⟩ := strayPlay_halts
  obtain ⟨t, ht, -, -, -, -, -, -, hchain, -⟩ := hplay 256 strayPlay hstate
  obtain ⟨-, hlink⟩ := hchain fun j hj => by simp [hjump] at hj
  obtain ⟨-, hkeep, -⟩ := (hlink (hloop.trans_ne (by decide)) (hloop.le.trans (Nat.zero_le _))).1 hend
  obtain ⟨u, hu, hbadLink⟩ := strayPlay_badLink
  obtain rfl : t = u := Host.Outcome.next.inj (ht.symm.trans hu)
  have hfalse : (channel t 256).badLink = false := hkeep.trans hbad
  rw [hbadLink] at hfalse
  exact Bool.noConfusion hfalse

end Sys2Proof.Machine
end

section
/-! PROOF. What the operations on an EO channel do to it, and what they leave alone (R190 to R215). -/

namespace Sys2Proof.Machine

open Sys2Proof

/-! ### A channel read after each elementary update -/

@[simp] theorem channel_setChannel_same (n : Nat) (ch : EoChannel) (s : State) : channel (setChannel n ch s) n = ch :=
  SMap.get_set_same _ _ _ _

theorem channel_setChannel_other {m n : Nat} (h : m ≠ n) (ch : EoChannel) (s : State) : channel (setChannel m ch s) n = channel s n :=
  SMap.get_set_other _ _ _ h

@[simp] theorem channel_setReg (a : Nat) (v : Word) (s : State) (n : Nat) : channel (setReg a v s) n = channel s n := rfl
@[simp] theorem channel_setF (a lo w v : Nat) (s : State) (n : Nat) : channel (setF a lo w v s) n = channel s n := rfl
@[simp] theorem channel_setB (a i : Nat) (b : Bool) (s : State) (n : Nat) : channel (setB a i b s) n = channel s n := rfl
@[simp] theorem channel_bumpF (a lo w : Nat) (s : State) (n : Nat) : channel (bumpF a lo w s) n = channel s n := rfl
@[simp] theorem channel_addF (a lo w k : Nat) (s : State) (n : Nat) : channel (addF a lo w k s) n = channel s n := rfl
@[simp] theorem channel_advanceUptime (t : Nat) (s : State) (n : Nat) : channel (advanceUptime t s) n = channel s n := rfl

/-- An interrupt changes a register, and a message may leave. -/
theorem setInt_frame (p : Page) (i : Nat) (s : State) : ∃ r o, setInt p i s = { s with regs := r, out := o } := by
  obtain ⟨⟨r, o, h⟩, -⟩ := (OnlyRegsOut.refl [Reg.INT_STATUS p] s).setInt p i (List.mem_singleton_self _)
  exact ⟨r, o, h⟩

@[simp] theorem channel_setInt (p : Page) (i : Nat) (s : State) (n : Nat) : channel (setInt p i s) n = channel s n := by
  obtain ⟨r, o, h⟩ := setInt_frame p i s
  rw [h]
  rfl

@[simp] theorem reg_setChannel (n : Nat) (ch : EoChannel) (s : State) (a : Nat) : reg (setChannel n ch s) a = reg s a := rfl
@[simp] theorem getF_setChannel (n : Nat) (ch : EoChannel) (s : State) (a lo w : Nat) : getF (setChannel n ch s) a lo w = getF s a lo w := rfl
@[simp] theorem getBit_setChannel (n : Nat) (ch : EoChannel) (s : State) (a i : Nat) : getBit (setChannel n ch s) a i = getBit s a i := rfl
@[simp] theorem reg_advanceUptime (t : Nat) (s : State) (a : Nat) : reg (advanceUptime t s) a = reg s a := rfl

theorem SameRegsBut.mono {l m : List Nat} {s t : State} (h : SameRegsBut l s t) (hl : l ⊆ m) : SameRegsBut m s t :=
  fun a ha => h a fun hm => ha (hl hm)

theorem SameRegsBut.trans {l : List Nat} {s t u : State} (h : SameRegsBut l s t) (g : SameRegsBut l t u) : SameRegsBut l s u :=
  fun a ha => (g a ha).trans (h a ha)

/-! ### Work on one channel -/

/-- Registers of a list change, one slot's channel, and what has left the device; nothing else does. -/
structure ChannelWork (n : Nat) (l : List Nat) (s t : State) : Prop where
  frame : ∃ r o e, t = { s with regs := r, out := o, eo := e }
  regs : SameRegsBut l s t
  others : OnlyChannel n s t

namespace ChannelWork

variable {n : Nat} {l : List Nat} {s t u : State}

theorem refl (n : Nat) (l : List Nat) (s : State) : ChannelWork n l s s := ⟨⟨_, _, _, rfl⟩, .refl l s, fun _ _ => rfl⟩

theorem trans (h : ChannelWork n l s t) (g : ChannelWork n l t u) : ChannelWork n l s u := by
  obtain ⟨⟨r, o, e, rfl⟩, hregs, hothers⟩ := h
  obtain ⟨⟨r', o', e', rfl⟩, gregs, gothers⟩ := g
  exact ⟨⟨r', o', e', rfl⟩, hregs.trans gregs, fun m hm => (gothers m hm).trans (hothers m hm)⟩

theorem sameBytes (h : ChannelWork n l s t) : SameBytes s t := by
  obtain ⟨⟨r, o, e, rfl⟩, -, -⟩ := h
  exact ⟨fun _ => rfl, fun _ => rfl⟩

theorem setReg (h : ChannelWork n l s t) {a : Nat} (v : Word) (ha : a ∈ l) : ChannelWork n l s (setReg a v t) := by
  obtain ⟨⟨r, o, e, rfl⟩, hregs, hothers⟩ := h
  exact ⟨⟨_, _, _, rfl⟩, hregs.setReg v ha, hothers⟩

theorem setF (h : ChannelWork n l s t) {a : Nat} (lo w v : Nat) (ha : a ∈ l) : ChannelWork n l s (setF a lo w v t) := h.setReg _ ha

theorem setB (h : ChannelWork n l s t) {a : Nat} (i : Nat) (b : Bool) (ha : a ∈ l) : ChannelWork n l s (setB a i b t) := h.setReg _ ha

theorem bumpF (h : ChannelWork n l s t) {a : Nat} (lo w : Nat) (ha : a ∈ l) : ChannelWork n l s (bumpF a lo w t) := h.setReg _ ha

theorem addF (h : ChannelWork n l s t) {a : Nat} (lo w k : Nat) (ha : a ∈ l) : ChannelWork n l s (addF a lo w k t) := h.setReg _ ha

theorem setInt (h : ChannelWork n l s t) {p : Page} (i : Nat) (hp : Reg.INT_STATUS p ∈ l) : ChannelWork n l s (setInt p i t) := by
  obtain ⟨r, o, hframe⟩ := setInt_frame p i t
  have hstep : ChannelWork n l t (Machine.setInt p i t) := ⟨⟨r, o, _, hframe⟩,
    fun a ha => reg_setInt_other p i t fun hpa => ha (hpa ▸ hp), fun m _ => channel_setInt p i t m⟩
  exact h.trans hstep

theorem setChannel (h : ChannelWork n l s t) (ch : EoChannel) : ChannelWork n l s (setChannel n ch t) := by
  obtain ⟨⟨r, o, e, rfl⟩, hregs, hothers⟩ := h
  exact ⟨⟨_, _, _, rfl⟩, hregs, fun m hm => (channel_setChannel_other (Ne.symm hm) ch _).trans (hothers m hm)⟩

theorem ite (c : Prop) [Decidable c] (ht : ChannelWork n l s t) (hu : ChannelWork n l s u) : ChannelWork n l s (if c then t else u) := by
  split
  · exact ht
  · exact hu

theorem mono (h : ChannelWork n l s t) {m : List Nat} (hl : l ⊆ m) : ChannelWork n m s t := ⟨h.frame, h.regs.mono hl, h.others⟩

/-! ### Counters (R199, R206, R212, R215) -/

theorem countClips (h : ChannelWork n l s t) (k : Nat) (hA : Reg.EO_COL_COUNT_A (n / 256) ∈ l) (hI : Reg.INT_STATUS (slotCol n) ∈ l) :
    ChannelWork n l s (countClips n k t) :=
  ite _ h (((h.addF 0 16 k hA).setChannel _).setInt 1 hI)

theorem jumpDropped (h : ChannelWork n l s t) (hA : Reg.EO_COL_COUNT_A (n / 256) ∈ l) (hI : Reg.INT_STATUS (slotCol n) ∈ l) :
    ChannelWork n l s (jumpDropped n t) := (h.bumpF 16 16 hA).setInt 2 hI

theorem groupOverflow (h : ChannelWork n l s t) (hB : Reg.EO_COL_COUNT_B (n / 256) ∈ l) (hI : Reg.INT_STATUS (slotCol n) ∈ l) :
    ChannelWork n l s (groupOverflow n t) := (h.bumpF 16 16 hB).setInt 4 hI

theorem chainCut (h : ChannelWork n l s t) (hA : Reg.EO_COL_COUNT_A (n / 256) ∈ l) (hC : Reg.EO_COL_COUNT_C (n / 256) ∈ l)
    (hI : Reg.INT_STATUS (slotCol n) ∈ l) : ChannelWork n l s (chainCut n t) := ((h.countClips _ hA hI).bumpF 0 16 hC).setInt 5 hI

theorem dropPending (h : ChannelWork n l s t) (hA : Reg.EO_COL_COUNT_A (n / 256) ∈ l) (hI : Reg.INT_STATUS (slotCol n) ∈ l) :
    ChannelWork n l s (dropPending n t) := by
  unfold Machine.dropPending
  exact ite _ ((h.setChannel _).jumpDropped hA hI) h

end ChannelWork

/-- What limited samples change of the channel: CLIPPED. -/
theorem channel_countClips (n k : Nat) (s : State) : ∃ b, channel (countClips n k s) n = { channel s n with clipped := b } := by
  unfold countClips
  split
  · exact ⟨_, rfl⟩
  · exact ⟨true, by simp⟩

@[simp] theorem channel_jumpDropped (n m : Nat) (s : State) : channel (jumpDropped n s) m = channel s m := by
  rw [jumpDropped, channel_setInt, channel_bumpF]

@[simp] theorem channel_groupOverflow (n m : Nat) (s : State) : channel (groupOverflow n s) m = channel s m := by
  rw [groupOverflow, channel_setInt, channel_bumpF]

/-- A dropped request counts one, and raises the column's interrupt. -/
theorem jumpDropped_counts (n : Nat) (s : State) : getBit (jumpDropped n s) (Reg.INT_STATUS (slotCol n)) 2 = true ∧
    getF (jumpDropped n s) (Reg.EO_COL_COUNT_A (n / 256)) 16 16 = satInc 16 (getF s (Reg.EO_COL_COUNT_A (n / 256)) 16 16) := by
  have hne : Reg.INT_STATUS (slotCol n) ≠ Reg.EO_COL_COUNT_A (n / 256) := by
    simp only [Reg.INT_STATUS, slotCol, colPage, pageBase, Reg.EO_COL_COUNT_A]
    omega
  refine ⟨getBit_setInt _ _ _ (by decide), ?_⟩
  rw [getF, jumpDropped, reg_setInt_other _ _ _ hne, ← getF, getF_bumpF_same _ _ _ _ (by decide)]

end Sys2Proof.Machine
end

section
/-! PROOF. Jump requests (R193, R206, R212 to R214): what a request comes to in each state of its channel, and what an event asks of a column. -/

namespace Sys2Proof.Machine

open Sys2Proof

/-! ### The limit of play groups (R206) -/

/-- Whether a channel may begin a segment does not depend on the channel itself. -/
theorem mayBegin_setChannel (n : Nat) (ch : EoChannel) (seg b : Nat) (s : State) :
    mayBegin (setChannel n ch s) n seg b = mayBegin s n seg b := by
  have hleaves : ∀ m, m ≠ n → leavesBy (setChannel n ch s) b m = leavesBy s b m := fun m hm => by
    have hch := channel_setChannel_other (Ne.symm hm) ch s
    have hend : playEnd (setChannel n ch s) m = playEnd s m := by rw [playEnd, hch]; rfl
    rw [leavesBy, hch, hend]
    rfl
  have hgroups : groupsBut (setChannel n ch s) (n / 256) (fun m => m == n || leavesBy (setChannel n ch s) b m) =
      groupsBut s (n / 256) (fun m => m == n || leavesBy s b m) := by
    unfold groupsBut
    congr 1
    funext acc m
    by_cases hm : m = n
    · simp [hm]
    · simp only [hleaves m hm, channel_setChannel_other (Ne.symm hm)]
  rw [mayBegin, hgroups]
  rfl

/-! ### What a request may change -/

/-- The words that a request may change: what its column counts of requests and play groups, and the column's interrupts. -/
abbrev jumpWords (n : Nat) : List Nat :=
  [Reg.EO_COL_COUNT_A (n / 256), Reg.EO_COL_COUNT_B (n / 256), Reg.INT_STATUS (slotCol n)]

/-- Those words change, and the slot's channel, of which FROM and TO stand. -/
structure JumpWork (n : Nat) (s t : State) : Prop extends ChannelWork n (jumpWords n) s t where
  levels : (channel t n).lvlFrom = (channel s n).lvlFrom ∧ (channel t n).lvlTo = (channel s n).lvlTo

namespace JumpWork

variable {n : Nat} {s t : State}

theorem refl (n : Nat) (s : State) : JumpWork n s s := ⟨.refl n _ s, rfl, rfl⟩

theorem setChannel (h : JumpWork n s t) {ch : EoChannel} (hch : ch.lvlFrom = (channel t n).lvlFrom ∧ ch.lvlTo = (channel t n).lvlTo) :
    JumpWork n s (setChannel n ch t) := by
  refine ⟨h.toChannelWork.setChannel ch, ?_⟩
  rw [channel_setChannel_same, hch.1, hch.2]
  exact h.levels

theorem jumpDropped (h : JumpWork n s t) : JumpWork n s (jumpDropped n t) := by
  refine ⟨h.toChannelWork.jumpDropped (by simp) (by simp), ?_⟩
  rw [channel_jumpDropped]
  exact h.levels

theorem groupOverflow (h : JumpWork n s t) : JumpWork n s (groupOverflow n t) := by
  refine ⟨h.toChannelWork.groupOverflow (by simp) (by simp), ?_⟩
  rw [channel_groupOverflow]
  exact h.levels

theorem beginPlay (h : JumpWork n s t) (seg b : Nat) : JumpWork n s (beginPlay n seg b t) := h.setChannel ⟨rfl, rfl⟩

theorem takeJump (h : JumpWork n s t) (target b : Nat) : JumpWork n s (takeJump n target b t) := by
  have hgone : JumpWork n s (Machine.setChannel n { channel t n with jump := none } t) := h.setChannel ⟨rfl, rfl⟩
  unfold Machine.takeJump
  dsimp only
  split
  · exact hgone.beginPlay _ _
  · exact hgone.groupOverflow

theorem jumpNow (h : JumpWork n s t) (target : Nat) (src : JumpSource) : JumpWork n s (jumpNow n target src t) := by
  have htake := h.takeJump target (nextSample t)
  unfold Machine.jumpNow
  generalize Machine.takeJump n target (nextSample t) t = u at htake ⊢
  dsimp only
  split
  · exact htake.setChannel ⟨rfl, rfl⟩
  · exact htake

end JumpWork

/-! ### A request with its target found valid (R193, R213, R214) -/

section Placed

variable {n target : Nat} {src : JumpSource} {s : State}

/-- A request becomes the pending jump where none waits or a lower-ranked one does; of two that meet, one is dropped. -/
def keepJump (n target : Nat) (src : JumpSource) (s : State) : State :=
  match (channel s n).jump with
  | none => setChannel n { channel s n with jump := some ⟨target, src⟩ } s
  | some j =>
    if src.rank > j.source.rank then jumpDropped n (setChannel n { channel s n with jump := some ⟨target, src⟩ } s)
    else jumpDropped n s

theorem keepJump_free (h : (channel s n).jump = none) :
    keepJump n target src s = setChannel n { channel s n with jump := some ⟨target, src⟩ } s := by
  rw [keepJump, h]

theorem keepJump_outranks {j : Jump} (h : (channel s n).jump = some j) (hr : src.rank > j.source.rank) :
    keepJump n target src s = jumpDropped n (setChannel n { channel s n with jump := some ⟨target, src⟩ } s) := by
  rw [keepJump, h]
  exact if_pos hr

theorem keepJump_outranked {j : Jump} (h : (channel s n).jump = some j) (hr : ¬ src.rank > j.source.rank) :
    keepJump n target src s = jumpDropped n s := by
  rw [keepJump, h]
  exact if_neg hr

theorem JumpWork.keepJump (n target : Nat) (src : JumpSource) (s : State) : JumpWork n s (keepJump n target src s) := by
  have hkept : JumpWork n s (Machine.setChannel n { channel s n with jump := some ⟨target, src⟩ } s) := (refl n s).setChannel ⟨rfl, rfl⟩
  unfold Machine.keepJump
  split
  · exact hkept
  · split
    · exact hkept.jumpDropped
    · exact (refl n s).jumpDropped

theorem placeJump_hold (h : (channel s n).state = .hold) :
    placeJump n target src s = setChannel n { channel s n with state := .wake, since := s.time.uptime, jump := some ⟨target, src⟩ } s := by
  unfold placeJump
  extract_lets ch keep
  rw [show ch.state = .hold from h]

theorem placeJump_wake (h : (channel s n).state = .wake) : placeJump n target src s = keepJump n target src s := by
  unfold placeJump
  extract_lets ch keep
  rw [show ch.state = .wake from h]
  rfl

/-- A channel in PLAY that no request of this SHAPE cycle began keeps the request. -/
theorem placeJump_play (h : (channel s n).state = .play) (htook : ∀ x, (channel s n).took = some x → x.1 ≠ shapeCycle s) :
    placeJump n target src s = keepJump n target src s := by
  unfold placeJump
  extract_lets ch keep
  rw [show ch.state = .play from h]
  cases hx : ch.took with
  | none => rfl
  | some x => exact if_pos (by simpa using htook x hx)

/-- A channel that a request of this SHAPE cycle began: the higher-ranked of the two plays. -/
theorem placeJump_tie {first : JumpSource} (h : (channel s n).state = .play) (htook : (channel s n).took = some (shapeCycle s, first)) :
    placeJump n target src s = if src.rank > first.rank then jumpDropped n (jumpNow n target src s) else jumpDropped n s := by
  unfold placeJump
  extract_lets ch keep
  rw [show ch.state = .play from h, show ch.took = some (shapeCycle s, first) from htook]
  exact if_neg (by simp)

theorem placeJump_fast (h : (channel s n).state = .ready ∨ (channel s n).state = .linger) :
    placeJump n target src s = jumpNow n target src s := by
  unfold placeJump
  extract_lets ch keep
  rcases h with h | h
  · rw [show ch.state = .ready from h]
  · rw [show ch.state = .linger from h]

theorem placeJump_off (h : (channel s n).state = .stream ∨ (channel s n).state = .held ∨ (channel s n).state = .parked) :
    placeJump n target src s = jumpDropped n s := by
  unfold placeJump
  extract_lets ch keep
  rcases h with h | h | h
  · rw [show ch.state = .stream from h]
  · rw [show ch.state = .held from h]
  · rw [show ch.state = .parked from h]

/-- A host's request to a channel with a pending jump in PLAY or WAKE is dropped: no source ranks below the host. -/
theorem placeJump_host_waits (h : (channel s n).state = .play ∨ (channel s n).state = .wake) (hj : (channel s n).jump ≠ none) :
    placeJump n target .host s = jumpDropped n s := by
  obtain ⟨j, hj⟩ := Option.ne_none_iff_exists'.1 hj
  have lowest : ∀ r : JumpSource, ¬ JumpSource.host.rank > r.rank := fun r => Nat.not_lt_zero _
  have hkeep : keepJump n target .host s = jumpDropped n s := keepJump_outranked hj (lowest _)
  rcases h with h | h
  · by_cases htook : ∀ x, (channel s n).took = some x → x.1 ≠ shapeCycle s
    · rw [placeJump_play h htook, hkeep]
    · push Not at htook
      obtain ⟨⟨c, first⟩, htook, rfl⟩ := htook
      rw [placeJump_tie h htook, if_neg (lowest _)]
  · rw [placeJump_wake h, hkeep]

theorem JumpWork.placeJump (n target : Nat) (src : JumpSource) (s : State) : JumpWork n s (placeJump n target src s) := by
  have hdrop := (refl n s).jumpDropped
  have hnow := (refl n s).jumpNow target src
  cases hst : (channel s n).state with
  | play =>
    by_cases htook : ∀ x, (channel s n).took = some x → x.1 ≠ shapeCycle s
    · rw [placeJump_play hst htook]
      exact .keepJump n target src s
    · push Not at htook
      obtain ⟨⟨c, first⟩, htook, rfl⟩ := htook
      rw [placeJump_tie hst htook]
      split
      · exact hnow.jumpDropped
      · exact hdrop
  | wake =>
    rw [placeJump_wake hst]
    exact .keepJump n target src s
  | hold =>
    rw [placeJump_hold hst]
    exact (refl n s).setChannel ⟨rfl, rfl⟩
  | ready =>
    rw [placeJump_fast (.inl hst)]
    exact hnow
  | linger =>
    rw [placeJump_fast (.inr hst)]
    exact hnow
  | stream =>
    rw [placeJump_off (.inl hst)]
    exact hdrop
  | held =>
    rw [placeJump_off (.inr (.inl hst))]
    exact hdrop
  | parked =>
    rw [placeJump_off (.inr (.inr hst))]
    exact hdrop

/-- A request that plays at once, where the limit of play groups leaves room. -/
theorem jumpNow_plays (h : mayBegin s n target (nextSample s) = true) :
    (channel (jumpNow n target src s) n).state = .play ∧ (channel (jumpNow n target src s) n).seg = target ∧
      (channel (jumpNow n target src s) n).plays = 0 ∧ (channel (jumpNow n target src s) n).begun = nextSample s := by
  have htake : takeJump n target (nextSample s) s = beginPlay n target (nextSample s) (setChannel n { channel s n with jump := none } s) :=
    if_pos ((mayBegin_setChannel n _ target _ s).trans h)
  have hplay : (channel (takeJump n target (nextSample s) s) n).state = .play ∧ (channel (takeJump n target (nextSample s) s) n).seg = target ∧
      (channel (takeJump n target (nextSample s) s) n).plays = 0 ∧ (channel (takeJump n target (nextSample s) s) n).begun = nextSample s := by
    rw [htake, beginPlay, channel_setChannel_same]
    exact ⟨rfl, rfl, rfl, rfl⟩
  unfold jumpNow
  generalize takeJump n target (nextSample s) s = t at hplay ⊢
  dsimp only
  rw [if_pos (by rw [hplay.1]; rfl), channel_setChannel_same]
  exact hplay

end Placed

/-! ### A request (R212) -/

section Requests

variable {n target q : Nat} {dflt : Bool} {src : JumpSource} {s : State}

/-- Whether a channel takes no requests at all: STREAM, HELD and PARKED, EO calibration, and a reset that holds its outputs. -/
def jumpBarred (s : State) (n : Nat) : Bool :=
  (channel s n).state == .stream || (channel s n).state == .held || (channel s n).state == .parked || underEoCal s n || channelHeld s n

theorem requestJump_barred (h : jumpBarred s n = true) : requestJump n target dflt src s = jumpDropped n s := if_pos h

theorem requestJump_untargeted (h : jumpTarget s n target dflt = none) : requestJump n target dflt src s = jumpDropped n s := by
  unfold requestJump
  dsimp only
  rw [h]
  exact ite_self _

theorem requestJump_invalid (h : jumpTarget s n target dflt = some q) (hv : segValid s q = false) :
    requestJump n target dflt src s = jumpDropped n s := by
  unfold requestJump
  dsimp only
  rw [h]
  dsimp only
  rw [hv, if_neg Bool.false_ne_true]
  exact ite_self _

theorem requestJump_placed (hb : jumpBarred s n = false) (h : jumpTarget s n target dflt = some q) (hv : segValid s q = true) :
    requestJump n target dflt src s = placeJump n q src s := by
  have hpass : requestJump n target dflt src s = _ := if_neg (by rw [← jumpBarred, hb]; exact Bool.false_ne_true)
  rw [hpass, h]
  exact if_pos hv

theorem JumpWork.requestJump (n target : Nat) (dflt : Bool) (src : JumpSource) (s : State) : JumpWork n s (requestJump n target dflt src s) := by
  have hdrop := (refl n s).jumpDropped
  cases hb : jumpBarred s n with
  | true =>
    rw [requestJump_barred hb]
    exact hdrop
  | false =>
    cases ht : jumpTarget s n target dflt with
    | none =>
      rw [requestJump_untargeted ht]
      exact hdrop
    | some q =>
      cases hv : segValid s q with
      | true =>
        rw [requestJump_placed hb ht hv]
        exact .placeJump n q src s
      | false =>
        rw [requestJump_invalid ht hv]
        exact hdrop

theorem jumpTarget_own : jumpTarget s n target false = some target := rfl

theorem jumpTarget_disabled (h : bitOf (dirWord s (channel s n).seg 3) 15 = false) : jumpTarget s n target true = none := by
  unfold jumpTarget
  dsimp only
  rw [h]
  rfl

/-- Where R212 and R213 drop a host's request. -/
theorem requestJump_host_drops
    (h : (channel s n).state = .stream ∨ (channel s n).state = .held ∨ (channel s n).state = .parked ∨ underEoCal s n = true ∨
      channelHeld s n = true ∨ (dflt = false ∧ segValid s target = false) ∨ (dflt = true ∧ bitOf (dirWord s (channel s n).seg 3) 15 = false) ∨
      (((channel s n).state = .play ∨ (channel s n).state = .wake) ∧ (channel s n).jump ≠ none)) :
    requestJump n target dflt .host s = jumpDropped n s := by
  have barred : ∀ hb : jumpBarred s n = true, requestJump n target dflt .host s = jumpDropped n s := fun hb => requestJump_barred hb
  rcases h with h | h | h | h | h | ⟨rfl, hv⟩ | ⟨rfl, h15⟩ | ⟨hst, hj⟩
  · exact barred (by simp [jumpBarred, h])
  · exact barred (by simp [jumpBarred, h])
  · exact barred (by simp [jumpBarred, h])
  · exact barred (by simp [jumpBarred, h])
  · exact barred (by simp [jumpBarred, h])
  · exact requestJump_invalid jumpTarget_own hv
  · exact requestJump_untargeted (jumpTarget_disabled h15)
  · cases hb : jumpBarred s n with
    | true => exact barred hb
    | false =>
      cases ht : jumpTarget s n target dflt with
      | none => exact requestJump_untargeted ht
      | some q =>
        cases hv : segValid s q with
        | true => rw [requestJump_placed hb ht hv, placeJump_host_waits hst hj]
        | false => exact requestJump_invalid ht hv

theorem jumpBarred_eq_false (hc : underEoCal s n = false) (hh : channelHeld s n = false)
    (hs : (channel s n).state ≠ .stream) (hd : (channel s n).state ≠ .held) (hp : (channel s n).state ≠ .parked) : jumpBarred s n = false := by
  simp [jumpBarred, hc, hh, hs, hd, hp]

end Requests

/-! ### An event's requests to a column (R212, R521) -/

section Column

variable {c target : Nat} {dflt : Bool} {src : JumpSource} {l : List Nat} {s t u : State}

/-- What requests to the slots of a list, all of column `c`, may change. -/
structure ColumnWork (c : Nat) (l : List Nat) (s t : State) : Prop where
  frame : ∃ r o e, t = { s with regs := r, out := o, eo := e }
  regs : SameRegsBut (jumpWords (256 * c)) s t
  others : ∀ n, n ∉ l → channel t n = channel s n
  levels : ∀ n, (channel t n).lvlFrom = (channel s n).lvlFrom ∧ (channel t n).lvlTo = (channel s n).lvlTo

theorem jumpWords_column {n : Nat} (h : n / 256 = c) : jumpWords n = jumpWords (256 * c) := by
  have hc : 256 * c / 256 = c := by omega
  rw [jumpWords, slotCol, h, jumpWords, slotCol, hc]

theorem ColumnWork.requestJump (h : ColumnWork c l s t) {n : Nat} (hl : n ∈ l) (hn : n / 256 = c) :
    ColumnWork c l s (requestJump n target dflt src t) := by
  obtain ⟨⟨⟨r', o', e', heq⟩, gregs, gothers⟩, glevels⟩ := JumpWork.requestJump n target dflt src t
  obtain ⟨⟨r, o, e, rfl⟩, hregs, hothers, hlevels⟩ := h
  rw [jumpWords_column hn] at gregs
  refine ⟨⟨r', o', e', heq⟩, hregs.trans gregs, fun m hm => (gothers m fun hmn => hm (hmn ▸ hl)).trans (hothers m hm), fun m => ?_⟩
  by_cases hmn : m = n
  · subst hmn
    exact ⟨glevels.1.trans (hlevels m).1, glevels.2.trans (hlevels m).2⟩
  · rw [gothers m hmn]
    exact hlevels m

/-- Requests to the slots of a list, one after another. -/
def requestJumps (l : List Nat) (target : Nat) (dflt : Bool) (src : JumpSource) (s : State) : State :=
  forEach l (fun n t => requestJump n target dflt src t) s

theorem requestJumps_work (hl : ∀ n ∈ l, n / 256 = c) (s : State) : ColumnWork c l s (requestJumps l target dflt src s) :=
  forEach_keeps (ColumnWork c l s) _ l (fun n hn _ ht => ht.requestJump hn (hl n hn))
    ⟨⟨_, _, _, rfl⟩, .refl _ s, fun _ _ => rfl, fun _ => ⟨rfl, rfl⟩⟩

/-- Each slot of the list meets its own request alone, with its channel as it was. -/
theorem requestJumps_at (hl : ∀ n ∈ l, n / 256 = c) (hd : l.Nodup) {n : Nat} (hn : n ∈ l) (s : State) :
    ∃ k u, ColumnWork c k s u ∧ channel u n = channel s n ∧
      channel (requestJumps l target dflt src s) n = channel (requestJump n target dflt src u) n := by
  obtain ⟨before, after, rfl⟩ := List.append_of_mem hn
  obtain ⟨hbefore, hafter, hdis⟩ := List.nodup_append.1 hd
  have hcol : ∀ k, k ⊆ before ++ n :: after → ∀ m ∈ k, m / 256 = c := fun k hk m hm => hl m (hk hm)
  have hfirst := requestJumps_work (target := target) (dflt := dflt) (src := src) (hcol before (List.subset_append_left _ _)) s
  refine ⟨before, requestJumps before target dflt src s, hfirst, hfirst.others n fun hb => hdis n hb n List.mem_cons_self rfl, ?_⟩
  have hsplit : requestJumps (before ++ n :: after) target dflt src s =
      requestJumps after target dflt src (requestJump n target dflt src (requestJumps before target dflt src s)) :=
    List.foldl_append
  rw [hsplit]
  exact (requestJumps_work (hcol after fun m hm => by simp [hm]) _).others n (List.nodup_cons.1 hafter).1

/-- What the requests of a column leave of what a later one asks. -/
theorem ColumnWork.asks {k : List Nat} (h : ColumnWork c k s u) :
    u.time = s.time ∧ (∀ n, underEoCal u n = underEoCal s n) ∧ (∀ n, channelHeld u n = channelHeld s n) ∧
      ∀ q, q < 1024 → segValid u q = segValid s q := by
  obtain ⟨⟨r, o, e, rfl⟩, hregs, -, -⟩ := h
  refine ⟨rfl, fun _ => rfl, fun _ => rfl, fun q hq => ?_⟩
  rw [segValid, dirWord, hregs, ← dirWord, ← segValid]
  simp only [jumpWords, slotCol, colPage, Reg.INT_STATUS, pageBase, Reg.EO_COL_COUNT_A, Reg.EO_COL_COUNT_B, Reg.SHAPE_DIR,
    List.mem_cons, List.not_mem_nil, or_false]
  omega

theorem mem_eventSlots {n : Nat} (h : n ∈ eventSlots s c) : n / 256 = c := by
  obtain ⟨i, hi, rfl⟩ := List.mem_map.1 (List.mem_filter.1 h).1
  have := List.mem_range.1 hi
  omega

theorem eventSlots_nodup (s : State) (c : Nat) : (eventSlots s c).Nodup :=
  ((List.nodup_map_iff fun a b h => by simpa using h).2 List.nodup_range).filter _

end Column

/-! ### The commands -/

section Commands

variable {s s1 : State} {g : Nat} {col : Fin 10}

theorem exec_eoChJump {req : Requester} {slot : Fin 2560} (target : BitVec 10) (dflt : Bool)
    (h : WriteReaches req (Reg.EO_CH_JUMP (slot.val / 256) (slot.val % 256)) s) :
    exec (.eoChJump req slot target dflt) s = .next (requestJump slot target.toNat dflt .host s) :=
  congrArg Host.Outcome.next (hostWrite_reaches _ h)

theorem takeEvent_frame {n : Nat} (h : takeEvent n s = some (g, s1)) : ∃ e c, s1 = { s with evt := e, time := c } := by
  unfold takeEvent at h
  split at h
  · cases h
  · obtain ⟨-, rfl⟩ := Prod.mk.inj (Option.some.inj h)
    exact ⟨_, _, rfl⟩

theorem taskLost_frame (n : Nat) (s : State) :
    (∃ r o, taskLost n s = { s with regs := r, out := o }) ∧ SameRegsBut [Reg.EVT_TASK_STAT (n / 2), Reg.INT_STATUS evtPage] s (taskLost n s) :=
  (((OnlyRegsOut.refl _ s).bumpF _ _ (by simp)).setF _ _ _ (by simp)).setInt _ _ (by simp)

/-- The state in which an event's requests are made: the event is taken, and what the EVT page counts of a lost one stands beside. -/
theorem eoJump_asks (h : takeEvent col s = some (g, s1)) :
    ∃ u, exec (.eoJump col) s = .next (requestJumps (eventSlots s col) (getF s (Reg.EO_EVT_JUMP col) 0 10) (getBit s (Reg.EO_EVT_JUMP col) 15) .event u) ∧
      (∃ r o, u = { s1 with regs := r, out := o }) ∧ ∀ a, 0x6000 ≤ a → reg u a = reg s a := by
  obtain ⟨e, c, hs1⟩ := takeEvent_frame h
  let u := whenB (parkForced s1 || !(phase s1 (colPage col) == .running)) (taskLost col) s1
  have hu : (∃ r o, u = { s1 with regs := r, out := o }) ∧ SameRegsBut [Reg.EVT_TASK_STAT (col.val / 2), Reg.INT_STATUS evtPage] s1 u := by
    refine whenB_keeps (fun t => (∃ r o, t = { s1 with regs := r, out := o }) ∧ SameRegsBut _ s1 t) _ _ (fun t ht => ?_) ⟨⟨_, _, rfl⟩, .refl _ _⟩
    obtain ⟨⟨r, o, rfl⟩, hregs⟩ := ht
    obtain ⟨⟨r', o', hlost⟩, hlostRegs⟩ := taskLost_frame col { s1 with regs := r, out := o }
    exact ⟨⟨r', o', hlost⟩, hregs.trans hlostRegs⟩
  have hreg : ∀ a, 0x6000 ≤ a → reg u a = reg s a := fun a ha => by
    refine (hu.2 a ?_).trans (by rw [hs1]; rfl)
    have hcol := col.isLt
    simp only [Reg.EVT_TASK_STAT, Reg.INT_STATUS, evtPage, pageBase, List.mem_cons, List.not_mem_nil, or_false]
    omega
  have hslots : eventSlots u col = eventSlots s col :=
    List.filter_congr fun n _ => by rw [getBit, hreg _ (by unfold Reg.EO_EVT_MASK; omega), ← getBit]
  have hword : reg u (Reg.EO_EVT_JUMP col) = reg s (Reg.EO_EVT_JUMP col) := hreg _ (by unfold Reg.EO_EVT_JUMP; omega)
  refine ⟨u, ?_, hu.1, hreg⟩
  have hexec : exec (.eoJump col) s =
      .next (requestJumps (eventSlots u col) (getF u (Reg.EO_EVT_JUMP col) 0 10) (getBit u (Reg.EO_EVT_JUMP col) 15) .event u) := by
    show execEoJump col s = _
    rw [execEoJump, h]
    rfl
  rw [hexec, hslots, getF, getBit, hword]
  rfl

theorem exec_eoColCountClr {req : Requester} (h : WriteReaches req (Reg.EO_COL_COUNT_CLR col) s) :
    exec (.eoColCountClr req col) s = .next (setReg (Reg.EO_COL_COUNT_C col) 0 (setReg (Reg.EO_COL_COUNT_B col) 0 (setReg (Reg.EO_COL_COUNT_A col) 0 s))) :=
  congrArg Host.Outcome.next (hostWrite_reaches _ h)

/-- The clear of a column's counters (R234). -/
theorem eoColCountClr_clears (c : Nat) (s : State) : ∃ t,
    t = setReg (Reg.EO_COL_COUNT_C c) 0 (setReg (Reg.EO_COL_COUNT_B c) 0 (setReg (Reg.EO_COL_COUNT_A c) 0 s)) ∧
      reg t (Reg.EO_COL_COUNT_A c) = 0 ∧ reg t (Reg.EO_COL_COUNT_B c) = 0 ∧ reg t (Reg.EO_COL_COUNT_C c) = 0 ∧
      OnlyRegs [Reg.EO_COL_COUNT_A c, Reg.EO_COL_COUNT_B c, Reg.EO_COL_COUNT_C c] s t := by
  have hAB : Reg.EO_COL_COUNT_B c ≠ Reg.EO_COL_COUNT_A c := by unfold Reg.EO_COL_COUNT_A Reg.EO_COL_COUNT_B; omega
  have hAC : Reg.EO_COL_COUNT_C c ≠ Reg.EO_COL_COUNT_A c := by unfold Reg.EO_COL_COUNT_A Reg.EO_COL_COUNT_C; omega
  have hBC : Reg.EO_COL_COUNT_C c ≠ Reg.EO_COL_COUNT_B c := by unfold Reg.EO_COL_COUNT_B Reg.EO_COL_COUNT_C; omega
  refine ⟨_, rfl, ?_, ?_, reg_setReg_same _ _ _,
    (((OnlyRegs.refl _ s).setReg 0 (by simp)).setReg 0 (by simp)).setReg 0 (by simp)⟩
  · rw [reg_setReg_other _ _ hAC, reg_setReg_other _ _ hAB, reg_setReg_same]
  · rw [reg_setReg_other _ _ hBC, reg_setReg_same]

end Commands

/-- A host's request that R212 and R213 let pass, by the state of the channel (R193, R213, R214). -/
theorem hostJump_takes {n target q : Nat} {dflt : Bool} {s : State} (ht : jumpTarget s n target dflt = some q) (hv : segValid s q = true)
    (hc : underEoCal s n = false) (hh : channelHeld s n = false) :
    ((channel s n).state = .hold → requestJump n target dflt .host s =
      setChannel n { channel s n with state := .wake, since := s.time.uptime, jump := some ⟨q, .host⟩ } s) ∧
    ((channel s n).state = .wake → (channel s n).jump = none → requestJump n target dflt .host s =
      setChannel n { channel s n with jump := some ⟨q, .host⟩ } s) ∧
    ((channel s n).state = .play → (channel s n).jump = none → (∀ x, (channel s n).took = some x → x.1 ≠ shapeCycle s) →
      requestJump n target dflt .host s = setChannel n { channel s n with jump := some ⟨q, .host⟩ } s) ∧
    ((channel s n).state = .ready ∨ (channel s n).state = .linger → requestJump n target dflt .host s = jumpNow n q .host s) := by
  have placed : (channel s n).state ≠ .stream → (channel s n).state ≠ .held → (channel s n).state ≠ .parked →
      requestJump n target dflt .host s = placeJump n q .host s := fun hs hd hp =>
    requestJump_placed (jumpBarred_eq_false hc hh hs hd hp) ht hv
  refine ⟨fun hst => ?_, fun hst hj => ?_, fun hst hj htook => ?_, fun hst => ?_⟩
  · rw [placed (by simp [hst]) (by simp [hst]) (by simp [hst]), placeJump_hold hst]
  · rw [placed (by simp [hst]) (by simp [hst]) (by simp [hst]), placeJump_wake hst, keepJump_free hj]
  · rw [placed (by simp [hst]) (by simp [hst]) (by simp [hst]), placeJump_play hst htook, keepJump_free hj]
  · rcases hst with hst | hst
    · rw [placed (by simp [hst]) (by simp [hst]) (by simp [hst]), placeJump_fast (.inl hst)]
    · rw [placed (by simp [hst]) (by simp [hst]) (by simp [hst]), placeJump_fast (.inr hst)]

/-- An event's request with a target of its own that is valid, to a channel in HOLD or in PLAY: it replaces a waiting host jump (R213). -/
theorem eventJump_takes {n q : Nat} {s : State} (hv : segValid s q = true) (hc : underEoCal s n = false) (hh : channelHeld s n = false) :
    ((channel s n).state = .hold → channel (requestJump n q false .event s) n =
      { channel s n with state := .wake, since := s.time.uptime, jump := some ⟨q, .event⟩ }) ∧
    ((channel s n).state = .play → (∀ x, (channel s n).took = some x → x.1 ≠ shapeCycle s) →
      ((∀ j, (channel s n).jump = some j → j.source = .host) →
        channel (requestJump n q false .event s) n = { channel s n with jump := some ⟨q, .event⟩ }) ∧
      (∀ j, (channel s n).jump = some j → j.source ≠ .host → channel (requestJump n q false .event s) n = channel s n)) := by
  have placed : (channel s n).state ≠ .stream → (channel s n).state ≠ .held → (channel s n).state ≠ .parked →
      requestJump n q false .event s = placeJump n q .event s := fun hs hd hp =>
    requestJump_placed (jumpBarred_eq_false hc hh hs hd hp) jumpTarget_own hv
  refine ⟨fun hst => ?_, fun hst htook => ?_⟩
  · rw [placed (by simp [hst]) (by simp [hst]) (by simp [hst]), placeJump_hold hst, channel_setChannel_same]
  · rw [placed (by simp [hst]) (by simp [hst]) (by simp [hst]), placeJump_play hst htook]
    refine ⟨fun hhost => ?_, fun j hj hsrc => ?_⟩
    · cases hj : (channel s n).jump with
      | none => rw [keepJump_free hj, channel_setChannel_same]
      | some j =>
        rw [keepJump_outranks hj (by rw [hhost j hj]; decide), channel_jumpDropped, channel_setChannel_same]
    · have hrank : ¬ JumpSource.event.rank > j.source.rank := by
        cases hs : j.source with
        | host => exact absurd hs hsrc
        | event => decide
        | verdict => decide
      rw [keepJump_outranked hj hrank, channel_jumpDropped]

/-- Settles O31: a host's request case by case, an event's as the same request made to each slot of the column's mask, and the clear. -/
theorem jumpRequestsAreTakenKeptOrDropped : Obligations.JumpRequestsAreTakenKeptOrDropped := by
  unfold Obligations.JumpRequestsAreTakenKeptOrDropped
  refine ⟨fun req slot target dflt s h => ?_, fun col s s1 g hev => ?_, fun req col s h => ?_⟩
  · obtain ⟨hwork, hlevels⟩ := JumpWork.requestJump slot.val target.toNat dflt .host s
    refine ⟨_, exec_eoChJump target dflt h, hwork.others, hwork.sameBytes, hlevels.1, hlevels.2, hwork.regs, fun hdrop => ?_,
      fun q ht hv hc hh => ?_⟩
    · have hbarred : _ = jumpDropped slot.val s := requestJump_host_drops hdrop
      obtain ⟨hint, hcount⟩ := jumpDropped_counts slot.val s
      rw [hbarred]
      exact ⟨channel_jumpDropped _ _ _, hint, hcount⟩
    · obtain ⟨hhold, hwake, hplay, hfast⟩ := hostJump_takes ht hv hc hh
      refine ⟨fun hst => ?_, fun hst hj => ?_, fun hst hj htook => ?_, fun hst hroom => ?_⟩
      · rw [hhold hst]
        exact ⟨channel_setChannel_same _ _ _, rfl⟩
      · rw [hwake hst hj]
        exact ⟨channel_setChannel_same _ _ _, rfl⟩
      · rw [hplay hst hj htook]
        exact ⟨channel_setChannel_same _ _ _, rfl⟩
      · rw [hfast hst]
        exact jumpNow_plays hroom
  · obtain ⟨e, c, hs1⟩ := takeEvent_frame hev
    obtain ⟨u, hexec, ⟨r, o, hu⟩, hreg⟩ := eoJump_asks hev
    have hcol : ∀ n ∈ eventSlots s col, n / 256 = col.val := fun n hn => mem_eventSlots hn
    have hwork := requestJumps_work (target := getF s (Reg.EO_EVT_JUMP col) 0 10) (dflt := getBit s (Reg.EO_EVT_JUMP col) 15)
      (src := .event) hcol u
    have hsame : ∀ n, channel u n = channel s n := fun n => by rw [hu, hs1]; rfl
    refine ⟨_, hexec, ?_, ?_, fun n hn => (hwork.others n hn).trans (hsame n), fun n _ => ?_, fun hown hv n hn hc hh => ?_⟩
    · obtain ⟨r', o', e', hframe⟩ := hwork.frame
      rw [hframe, hu]
    · obtain ⟨r', o', e', hframe⟩ := hwork.frame
      rw [hframe, hu, hs1]
      exact ⟨fun _ => rfl, fun _ => rfl⟩
    · rw [(hwork.levels n).1, (hwork.levels n).2, hsame n]
      exact ⟨rfl, rfl⟩
    · rw [hown]
      obtain ⟨k, v, hbefore, hch, hat⟩ := requestJumps_at (target := getF s (Reg.EO_EVT_JUMP col) 0 10) (dflt := false) (src := .event)
        hcol (eventSlots_nodup s col) hn u
      obtain ⟨htime, hcal, hheld, hvalid⟩ := hbefore.asks
      have hchannel : channel v n = channel s n := hch.trans (hsame n)
      have hclock : v.time = s1.time := htime.trans (by rw [hu])
      have hsegment : segValid v (getF s (Reg.EO_EVT_JUMP col) 0 10) = true := by
        rw [hvalid (getF s (Reg.EO_EVT_JUMP col) 0 10) (fld_lt _ 0 10), segValid, dirWord, hreg _ (by unfold Reg.SHAPE_DIR; omega)]
        exact hv
      obtain ⟨hhold, hplay⟩ := eventJump_takes hsegment ((hcal n).trans (by rw [hu, hs1]; exact hc)) ((hheld n).trans (by rw [hu, hs1]; exact hh))
      rw [shapeCycle, hclock, ← shapeCycle, hchannel] at hplay
      rw [hclock, hchannel] at hhold
      rw [hat]
      exact ⟨hhold, hplay⟩
  · obtain ⟨t, rfl, hA, hB, hC, honly⟩ := eoColCountClr_clears col s
    exact ⟨_, exec_eoColCountClr h, hA, hB, hC, honly⟩

end Sys2Proof.Machine
end

section
/-! PROOF. Streams of the siphon (R219 to R223, R236): what a stream's work changes, and its commands. -/

namespace Sys2Proof.Machine

open Sys2Proof

/-! ### What a stream's work may change -/

/-- What the playing of stream `n` shows: its SIPH_n_STATUS, and what the columns count. -/
abbrev PlayWord (n a : Nat) : Prop := a = Reg.SIPH_STATUS n ∨ 0x300000 ≤ a

/-- What else its start and its end show: SIPH_ACTIVE, SIPH_UNDERRUNS, the page's interrupts, and the words of an event published. -/
abbrev StreamWord (n a : Nat) : Prop :=
  PlayWord n a ∨ a = Reg.SIPH_ACTIVE ∨ a = Reg.SIPH_UNDERRUNS ∨ a = Reg.INT_STATUS siphonPage ∨ EpochArea a

/-- Registers of a set change, one slot's channel, what has left the device, events, and the generations of streams; time may pass. -/
structure StreamWork (W : Nat → Prop) (slot : Nat) (s t : State) : Prop where
  frame : ∃ r o e c v f g, t = { s with regs := r, out := o, eo := e, time := c, evt := v, flt := f, siphonGen := g }
  regs : ∀ a, ¬ W a → reg t a = reg s a
  others : OnlyChannel slot s t

namespace StreamWork

variable {W : Nat → Prop} {slot : Nat} {s t u : State}

theorem trans (h : StreamWork W slot s t) (g : StreamWork W slot t u) : StreamWork W slot s u := by
  obtain ⟨⟨r, o, e, c, v, f, g, rfl⟩, hregs, hothers⟩ := h
  obtain ⟨⟨r', o', e', c', v', f', g', rfl⟩, gregs, gothers⟩ := g
  exact ⟨⟨r', o', e', c', v', f', g', rfl⟩, fun a ha => (gregs a ha).trans (hregs a ha), fun m hm => (gothers m hm).trans (hothers m hm)⟩

theorem mono {V : Nat → Prop} (h : StreamWork W slot s t) (hV : ∀ a, W a → V a) : StreamWork V slot s t :=
  ⟨h.frame, fun a ha => h.regs a fun hw => ha (hV a hw), h.others⟩

theorem sameBytes (h : StreamWork W slot s t) : SameBytes s t := by
  obtain ⟨⟨r, o, e, c, v, f, g, rfl⟩, -, -⟩ := h
  exact ⟨fun _ => rfl, fun _ => rfl⟩

theorem ofChannel {l : List Nat} (h : ChannelWork slot l s t) (hl : ∀ a ∈ l, W a) : StreamWork W slot s t := by
  obtain ⟨⟨r, o, e, heq⟩, hregs, hothers⟩ := h
  exact ⟨⟨r, o, e, _, _, _, _, heq⟩, fun a ha => hregs a fun hm => ha (hl a hm), hothers⟩

theorem refl (s : State) : StreamWork W slot s s := ofChannel (.refl slot [] s) nofun

theorem setChannel (h : StreamWork W slot s t) (ch : EoChannel) : StreamWork W slot s (setChannel slot ch t) :=
  h.trans (ofChannel ((ChannelWork.refl slot [] t).setChannel ch) nofun)

theorem setReg (h : StreamWork W slot s t) {a : Nat} (v : Word) (ha : W a) : StreamWork W slot s (setReg a v t) :=
  h.trans (ofChannel (l := [a]) ((ChannelWork.refl slot [a] t).setReg v (List.mem_singleton_self a)) fun _ hb => List.mem_singleton.1 hb ▸ ha)

theorem setF (h : StreamWork W slot s t) {a : Nat} (lo w v : Nat) (ha : W a) : StreamWork W slot s (setF a lo w v t) := h.setReg _ ha

theorem setB (h : StreamWork W slot s t) {a : Nat} (i : Nat) (b : Bool) (ha : W a) : StreamWork W slot s (setB a i b t) := h.setReg _ ha

theorem bumpF (h : StreamWork W slot s t) {a : Nat} (lo w : Nat) (ha : W a) : StreamWork W slot s (bumpF a lo w t) := h.setReg _ ha

theorem setInt (h : StreamWork W slot s t) {p : Page} (i : Nat) (hp : W (Reg.INT_STATUS p)) : StreamWork W slot s (setInt p i t) :=
  h.trans (ofChannel (l := [Reg.INT_STATUS p]) ((ChannelWork.refl slot _ t).setInt i (List.mem_singleton_self _))
    fun _ hb => List.mem_singleton.1 hb ▸ hp)

theorem advanceUptime (h : StreamWork W slot s t) (x : Nat) : StreamWork W slot s (advanceUptime x t) :=
  h.trans ⟨⟨_, _, _, _, _, _, _, rfl⟩, fun _ _ => rfl, fun _ _ => rfl⟩

theorem publish (h : StreamWork W slot s t) (producer gen : Nat) (hW : ∀ a, EpochArea a → W a) : StreamWork W slot s (publish producer gen t) := by
  obtain ⟨⟨r, o, v, f, heq⟩, hregs⟩ := (Signals.refl t).publish producer gen
  refine h.trans ⟨⟨r, o, _, _, v, f, _, heq⟩, fun a ha => hregs a fun ⟨harea, _⟩ => ha (hW a harea), fun m _ => ?_⟩
  rw [heq]
  rfl

theorem ite (c : Prop) [Decidable c] (ht : StreamWork W slot s t) (hu : StreamWork W slot s u) : StreamWork W slot s (if c then t else u) := by
  split
  · exact ht
  · exact hu

end StreamWork

section Stream

variable {n slot : Nat} {s t : State}

theorem column_words_high (m : Nat) : 0x300000 ≤ Reg.EO_COL_COUNT_A m ∧ 0x300000 ≤ Reg.EO_COL_COUNT_C m ∧
    0x300000 ≤ Reg.INT_STATUS (slotCol m) := by
  refine ⟨?_, ?_, ?_⟩ <;> simp only [Reg.EO_COL_COUNT_A, Reg.EO_COL_COUNT_C, Reg.INT_STATUS, slotCol, colPage, pageBase] <;> omega

/-- No work of a stream writes any stream's SIPH_n_CFG, nor another stream's SIPH_n_STATUS. -/
theorem not_streamWord {a : Nat} (h : (∃ m, m < 32 ∧ a = Reg.SIPH_CFG m) ∨ ∃ m, m < 32 ∧ m ≠ n ∧ a = Reg.SIPH_STATUS m) : ¬ StreamWord n a := by
  simp only [StreamWord, PlayWord, EpochArea, Reg.SIPH_ACTIVE, Reg.SIPH_UNDERRUNS, Reg.INT_STATUS, siphonPage, pageBase]
  rcases h with ⟨m, hm, rfl⟩ | ⟨m, hm, hne, rfl⟩
  · unfold Reg.SIPH_CFG Reg.SIPH_STATUS
    omega
  · unfold Reg.SIPH_STATUS
    omega

theorem streamSlot_of_work (h : StreamWork (StreamWord n) slot s t) {m : Nat} (hm : m < 32) : streamSlot t m = streamSlot s m := by
  rw [streamSlot, getF, h.regs _ (not_streamWord (.inl ⟨m, hm, rfl⟩)), ← getF, ← streamSlot]

theorem streamState_of_reg {m : Nat} (h : reg t (Reg.SIPH_STATUS m) = reg s (Reg.SIPH_STATUS m)) : streamState t m = streamState s m := by
  rw [streamState, getF, h, ← getF, ← streamState]

theorem StreamWork.ofPlay (h : StreamWork (PlayWord n) slot s t) : StreamWork (StreamWord n) slot s t := h.mono fun _ => .inl

/-! ### STATE and SIPH_ACTIVE (R236) -/

theorem status_ne_active (n : Nat) : Reg.SIPH_STATUS n ≠ Reg.SIPH_ACTIVE := by unfold Reg.SIPH_STATUS Reg.SIPH_ACTIVE; omega

/-- STATE and the stream's bit of SIPH_ACTIVE; the other fields of SIPH_n_STATUS stand. -/
theorem setStreamState_does (hn : n < 32) {v : Nat} (hv : v < 8) (s : State) :
    streamState (setStreamState n v s) n = v ∧ getBit (setStreamState n v s) Reg.SIPH_ACTIVE n = (v == 1 || v == 2 || v == 3) ∧
      (∀ lo w, 3 ≤ lo → lo + w ≤ 32 → getF (setStreamState n v s) (Reg.SIPH_STATUS n) lo w = getF s (Reg.SIPH_STATUS n) lo w) ∧
      OnlyRegs [Reg.SIPH_STATUS n, Reg.SIPH_ACTIVE] s (setStreamState n v s) := by
  have hreg : reg (setStreamState n v s) (Reg.SIPH_STATUS n) = setFld (reg s (Reg.SIPH_STATUS n)) 0 3 v := by
    rw [setStreamState, reg_setB_other _ _ _ (status_ne_active n).symm, reg_setF_same]
  refine ⟨?_, getBit_setB_same _ _ _ _ hn, fun lo w hlo hw => ?_, ((OnlyRegs.refl _ s).setF 0 3 v (by simp)).setB n _ (by simp)⟩
  · rw [streamState, getF, hreg, fld_setFld _ _ _ _ (by decide)]
    exact Nat.mod_eq_of_lt hv
  · rw [getF, hreg, fld_setFld_other _ _ _ _ _ _ (.inr (by omega)) hw, ← getF]

theorem StreamWork.setStreamState (h : StreamWork (StreamWord n) slot s t) (v : Nat) : StreamWork (StreamWord n) slot s (setStreamState n v t) :=
  (h.setF 0 3 v (.inl (.inl rfl))).setB n _ (.inr (.inl rfl))

/-! ### A stream holds its channel (R222, R223) -/

theorem StreamWork.holdStream (h : StreamWork (StreamWord n) (streamSlot t n) s t) (w : Word) :
    StreamWork (StreamWord n) (streamSlot t n) s (holdStream n w t) := (h.setChannel _).setStreamState 4

/-- The channel is HELD at the level, and the stream waits for RELEASE. -/
theorem holdStream_holds (hn : n < 32) (w : Word) (s : State) :
    streamState (holdStream n w s) n = 4 ∧ getBit (holdStream n w s) Reg.SIPH_ACTIVE n = false ∧
      (channel (holdStream n w s) (streamSlot s n)).state = .held ∧ (channel (holdStream n w s) (streamSlot s n)).out = w ∧
      (∀ lo w', 3 ≤ lo → lo + w' ≤ 32 → getF (holdStream n w s) (Reg.SIPH_STATUS n) lo w' = getF s (Reg.SIPH_STATUS n) lo w') ∧
      SameRegsBut [Reg.SIPH_STATUS n, Reg.SIPH_ACTIVE] s (holdStream n w s) := by
  unfold holdStream
  dsimp only
  generalize hch : { channel s (streamSlot s n) with state := .held, heldFast := true, since := s.time.uptime, out := w } = ch
  obtain ⟨hstate, hactive, hfields, -, hregs⟩ := setStreamState_does hn (v := 4) (by decide) (setChannel (streamSlot s n) ch s)
  have hchannel : channel (setStreamState n 4 (setChannel (streamSlot s n) ch s)) (streamSlot s n) = ch := channel_setChannel_same _ _ _
  refine ⟨hstate, hactive, ?_, ?_, hfields, hregs⟩
  · rw [hchannel, ← hch]
  · rw [hchannel, ← hch]

/-- An event published leaves every word of the SIPHON page and every channel. -/
theorem publish_siphon (producer gen : Nat) (s : State) :
    (∀ a, 0xF000 ≤ a → a < 0x10000 → reg (publish producer gen s) a = reg s a) ∧ ∀ m, channel (publish producer gen s) m = channel s m := by
  obtain ⟨⟨r, o, v, f, heq⟩, hregs⟩ := (Signals.refl s).publish producer gen
  refine ⟨fun a hlo hhi => hregs a fun ⟨harea, _⟩ => ?_, fun m => by rw [heq]; rfl⟩
  unfold EpochArea at harea
  omega

theorem siphon_page_words (hn : n < 32) :
    (0xF000 ≤ Reg.SIPH_STATUS n ∧ Reg.SIPH_STATUS n < 0x10000 ∧ Reg.INT_STATUS siphonPage ≠ Reg.SIPH_STATUS n) ∧
    (0xF000 ≤ Reg.SIPH_ACTIVE ∧ Reg.SIPH_ACTIVE < 0x10000 ∧ Reg.INT_STATUS siphonPage ≠ Reg.SIPH_ACTIVE) ∧
    (0xF000 ≤ Reg.SIPH_UNDERRUNS ∧ Reg.SIPH_UNDERRUNS < 0x10000 ∧ Reg.INT_STATUS siphonPage ≠ Reg.SIPH_UNDERRUNS) := by
  simp only [Reg.SIPH_STATUS, Reg.SIPH_ACTIVE, Reg.SIPH_UNDERRUNS, Reg.INT_STATUS, siphonPage, pageBase]
  omega

/-- The page's interrupt and the event that follow a stream's end: the interrupt is set, the other words of the page and the channels stand. -/
theorem siphonSignal_shows (producer gen i : Nat) (hi : i < 32) (s : State) :
    getBit (publish producer gen (setInt siphonPage i s)) (Reg.INT_STATUS siphonPage) i = true ∧
      (∀ a, 0xF000 ≤ a → a < 0x10000 → Reg.INT_STATUS siphonPage ≠ a → reg (publish producer gen (setInt siphonPage i s)) a = reg s a) ∧
      ∀ m, channel (publish producer gen (setInt siphonPage i s)) m = channel s m := by
  obtain ⟨hreg, hchannel⟩ := publish_siphon producer gen (setInt siphonPage i s)
  refine ⟨?_, fun a hlo hhi hne => (hreg a hlo hhi).trans (reg_setInt_other _ _ _ hne), fun m => (hchannel m).trans (channel_setInt _ _ _ m)⟩
  rw [getBit, hreg _ (by decide) (by decide), ← getBit]
  exact getBit_setInt _ _ _ hi

theorem StreamWork.siphonSignal (h : StreamWork (StreamWord n) slot s t) (producer gen i : Nat) :
    StreamWork (StreamWord n) slot s (Machine.publish producer gen (Machine.setInt siphonPage i t)) :=
  (h.setInt i (.inr (.inr (.inr (.inl rfl))))).publish _ _ fun _ ha => .inr (.inr (.inr (.inr ha)))

/-- The end of a stream: STREAM_END (R223). -/
theorem siphonEnd_ends (hn : n < 32) (w : Word) (s : State) :
    streamState (siphonEnd n w s) n = 4 ∧ (channel (siphonEnd n w s) (streamSlot s n)).state = .held ∧
      getBit (siphonEnd n w s) (Reg.INT_STATUS siphonPage) 0 = true ∧ getBit (siphonEnd n w s) Reg.SIPH_ACTIVE n = false ∧
      getF (siphonEnd n w s) (Reg.SIPH_STATUS n) 16 16 = getF s (Reg.SIPH_STATUS n) 16 16 ∧
      StreamWork (StreamWord n) (streamSlot s n) s (siphonEnd n w s) := by
  obtain ⟨hstate, hactive, hheld, -, hfields, -⟩ := holdStream_holds hn w s
  obtain ⟨hS, hA, -⟩ := siphon_page_words hn
  have hwork := (StreamWork.refl (W := StreamWord n) s).holdStream w
  unfold siphonEnd
  generalize SMap.get (fun _ => 0) s.siphonGen n = g
  generalize holdStream n w s = u at *
  obtain ⟨hint, hreg, hchannel⟩ := siphonSignal_shows 11 g 0 (by decide) u
  have hstatus := hreg _ hS.1 hS.2.1 hS.2.2
  refine ⟨(streamState_of_reg hstatus).trans hstate, by rw [hchannel, hheld], hint, ?_, ?_, hwork.siphonSignal 11 g 0⟩
  · rw [getBit, hreg _ hA.1 hA.2.1 hA.2.2, ← getBit, hactive]
  · rw [getF, hstatus, ← getF, hfields 16 16 (by decide) (by decide)]

/-- An underrun: UNDERRUN and INVALID, counted (R222). -/
theorem siphonUnderrun_shows (hn : n < 32) (w : Word) (s : State) :
    streamState (siphonUnderrun n w s) n = 4 ∧ (channel (siphonUnderrun n w s) (streamSlot s n)).state = .held ∧
      (channel (siphonUnderrun n w s) (streamSlot s n)).out = w ∧ getBit (siphonUnderrun n w s) (Reg.SIPH_STATUS n) 3 = true ∧
      getBit (siphonUnderrun n w s) (Reg.SIPH_STATUS n) 4 = true ∧ getBit (siphonUnderrun n w s) (Reg.INT_STATUS siphonPage) 1 = true ∧
      getF (siphonUnderrun n w s) Reg.SIPH_UNDERRUNS 0 16 = satInc 16 (getF s Reg.SIPH_UNDERRUNS 0 16) ∧
      StreamWork (StreamWord n) (streamSlot s n) s (siphonUnderrun n w s) := by
  obtain ⟨hstate, -, hheld, hout, -, hregs⟩ := holdStream_holds hn w s
  obtain ⟨hS, -, hU⟩ := siphon_page_words hn
  have hwork := (StreamWork.refl (W := StreamWord n) s).holdStream w
  have hcount : reg (holdStream n w s) Reg.SIPH_UNDERRUNS = reg s Reg.SIPH_UNDERRUNS := hregs _ (by
    simp only [Reg.SIPH_UNDERRUNS, Reg.SIPH_STATUS, Reg.SIPH_ACTIVE, List.mem_cons, List.not_mem_nil, or_false]
    omega)
  have hne : Reg.SIPH_UNDERRUNS ≠ Reg.SIPH_STATUS n := by unfold Reg.SIPH_UNDERRUNS Reg.SIPH_STATUS; omega
  unfold siphonUnderrun
  generalize holdStream n w s = u at *
  dsimp only
  generalize hv : setB (Reg.SIPH_STATUS n) 4 true (setB (Reg.SIPH_STATUS n) 3 true u) = v
  have hflags : streamState v n = 4 ∧ getBit v (Reg.SIPH_STATUS n) 3 = true ∧ getBit v (Reg.SIPH_STATUS n) 4 = true := by
    subst hv
    refine ⟨?_, ?_, getBit_setB_same _ _ _ _ (by decide)⟩
    · rw [streamState, setB, getF_setF_beside _ _ _ _ _ _ _ (by decide) (by decide), setB, getF_setF_beside _ _ _ _ _ _ _ (by decide) (by decide)]
      exact hstate
    · rw [getBit_setB_beside _ _ _ _ _ (by decide) (by decide)]
      exact getBit_setB_same _ _ _ _ (by decide)
  have hv' : reg v Reg.SIPH_UNDERRUNS = reg s Reg.SIPH_UNDERRUNS ∧ (∀ m, channel v m = channel u m) ∧
      StreamWork (StreamWord n) (streamSlot s n) s v := by
    subst hv
    exact ⟨by rw [reg_setB_other _ _ _ hne.symm, reg_setB_other _ _ _ hne.symm, hcount], fun _ => rfl,
      (hwork.setB 3 true (.inl (.inl rfl))).setB 4 true (.inl (.inl rfl))⟩
  obtain ⟨hvcount, hvchannel, hvwork⟩ := hv'
  generalize SMap.get (fun _ => 0) (bumpF Reg.SIPH_UNDERRUNS 0 16 v).siphonGen n = g
  obtain ⟨hint, hreg, hchannel⟩ := siphonSignal_shows 10 g 1 (by decide) (bumpF Reg.SIPH_UNDERRUNS 0 16 v)
  have hstatus : reg (publish 10 g (setInt siphonPage 1 (bumpF Reg.SIPH_UNDERRUNS 0 16 v))) (Reg.SIPH_STATUS n) = reg v (Reg.SIPH_STATUS n) :=
    (hreg _ hS.1 hS.2.1 hS.2.2).trans (reg_bumpF_other _ _ _ hne)
  have hch : ∀ m, channel (publish 10 g (setInt siphonPage 1 (bumpF Reg.SIPH_UNDERRUNS 0 16 v))) m = channel u m := fun m =>
    (hchannel m).trans ((channel_bumpF _ _ _ v m).trans (hvchannel m))
  refine ⟨(streamState_of_reg hstatus).trans hflags.1, by rw [hch, hheld], by rw [hch, hout], ?_, ?_, hint, ?_,
    (hvwork.bumpF 0 16 (.inr (.inr (.inl rfl)))).siphonSignal 10 g 1⟩
  · rw [getBit, hstatus]
    exact hflags.2.1
  · rw [getBit, hstatus]
    exact hflags.2.2
  · rw [getF, hreg _ hU.1 hU.2.1 hU.2.2, ← getF, getF_bumpF_same _ _ _ _ (by decide), getF, hvcount, ← getF]

end Stream

section StreamPlay

variable {n slot : Nat} {s t : State}

theorem StreamWork.streamEnds (h : StreamWork (PlayWord n) (streamSlot t n) s t) (k : Nat) :
    StreamWork (PlayWord n) (streamSlot t n) s (streamEnds n k t) := by
  have hcounts : ∀ a ∈ [Reg.SIPH_STATUS n, Reg.EO_COL_COUNT_A (streamSlot t n / 256), Reg.INT_STATUS (slotCol (streamSlot t n))], PlayWord n a := by
    intro a ha
    simp only [List.mem_cons, List.not_mem_nil, or_false] at ha
    rcases ha with rfl | rfl | rfl
    · exact .inl rfl
    · exact .inr (column_words_high _).1
    · exact .inr (column_words_high _).2.2
  unfold Machine.streamEnds
  split
  · exact h
  · exact h.trans (.ofChannel ((((ChannelWork.refl _ _ t).setF 8 8 0 (by simp)).setF 16 16 _ (by simp)).countClips _ (by simp) (by simp)) hcounts)

/-- A chain or a pending jump that a stream meets is counted as its column counts it (R215). -/
theorem columnWords_play (n m : Nat) :
    ∀ a ∈ [Reg.EO_COL_COUNT_A (m / 256), Reg.EO_COL_COUNT_C (m / 256), Reg.INT_STATUS (slotCol m)], PlayWord n a := by
  intro a ha
  simp only [List.mem_cons, List.not_mem_nil, or_false] at ha
  rcases ha with rfl | rfl | rfl
  · exact .inr (column_words_high _).1
  · exact .inr (column_words_high _).2.1
  · exact .inr (column_words_high _).2.2

theorem StreamWork.dropPending (h : StreamWork (PlayWord n) slot s t) : StreamWork (PlayWord n) slot s (dropPending slot t) :=
  h.trans (.ofChannel ((ChannelWork.refl _ _ t).dropPending (by simp) (by simp)) (columnWords_play n slot))

theorem StreamWork.chainCut (h : StreamWork (PlayWord n) slot s t) : StreamWork (PlayWord n) slot s (chainCut slot t) :=
  h.trans (.ofChannel ((ChannelWork.refl _ _ t).chainCut (by simp) (by simp) (by simp)) (columnWords_play n slot))

theorem StreamWork.beginWake (h : StreamWork (PlayWord n) slot s t) (u : Nat) : StreamWork (PlayWord n) slot s (beginWake slot u t) := h.setChannel _

theorem StreamWork.wakeReady (h : StreamWork (PlayWord n) slot s t) (u : Nat) : StreamWork (PlayWord n) slot s (wakeReady slot u t) := h.setChannel _

/-- A stream starts: with 16 KiB or more in its queue it plays, with less it is an underrun (R220, R222). -/
theorem startStream_starts (hn : n < 32) (fill start : Nat) (s : State) :
    (16 ≤ fill → streamState (startStream n fill start s) n = 3 ∧ (channel (startStream n fill start s) (streamSlot s n)).state = .stream ∧
      StreamWork (StreamWord n) (streamSlot s n) s (startStream n fill start s)) ∧
    (fill < 16 → ∃ w u, startStream n fill start s = siphonUnderrun n w u ∧ StreamWork (PlayWord n) (streamSlot s n) s u) := by
  have h0 : StreamWork (PlayWord n) (streamSlot s n) s s := .refl s
  unfold startStream
  extract_lets slot ch s1 s2 s3 w s4 before5 s5 ch5
  have h1 : StreamWork (PlayWord n) slot s s1 :=
    .ite _ (((StreamWork.ite _ h0 ((h0.advanceUptime _).beginWake _)).advanceUptime _).wakeReady _) (h0.advanceUptime _)
  have h2 : StreamWork (PlayWord n) slot s s2 := h1.setF _ _ _ (.inl rfl)
  refine ⟨fun hfill => ?_, fun hfill => ?_⟩
  · rw [if_neg (by omega)]
    have h4 : StreamWork (PlayWord n) slot s s4 := .ite _ h2.dropPending.chainCut h2.dropPending
    have h5 : StreamWork (PlayWord n) slot s s5 := h4.setChannel _
    have hplays : ch5.state = .stream := congrArg EoChannel.state (channel_setChannel_same slot _ s4)
    clear_value s5
    generalize hch : { ch5 with out := streamOutput s5 n 0 } = c
    refine ⟨(setStreamState_does hn (by decide) _).1, ?_, (h5.setChannel c).ofPlay.setStreamState 3⟩
    refine (congrArg EoChannel.state (channel_setChannel_same slot c s5)).trans ?_
    rw [← hch]
    exact hplays
  · rw [if_pos hfill]
    exact ⟨_, _, rfl, h2⟩

theorem not_playWord {a : Nat} (h : a ≠ Reg.SIPH_STATUS n) (hlow : a < 0x300000) : ¬ PlayWord n a := by
  rintro (h' | h')
  · exact h h'
  · omega

/-- An underrun, after what the stream has played. -/
theorem siphonUnderrun_after (hn : n < 32) {u : State} (h : StreamWork (PlayWord n) (streamSlot s n) s u) (w : Word) :
    streamState (siphonUnderrun n w u) n = 4 ∧ (channel (siphonUnderrun n w u) (streamSlot s n)).state = .held ∧
      (channel (siphonUnderrun n w u) (streamSlot s n)).out = w ∧ getBit (siphonUnderrun n w u) (Reg.SIPH_STATUS n) 3 = true ∧
      getBit (siphonUnderrun n w u) (Reg.SIPH_STATUS n) 4 = true ∧ getBit (siphonUnderrun n w u) (Reg.INT_STATUS siphonPage) 1 = true ∧
      getF (siphonUnderrun n w u) Reg.SIPH_UNDERRUNS 0 16 = satInc 16 (getF s Reg.SIPH_UNDERRUNS 0 16) ∧
      StreamWork (StreamWord n) (streamSlot s n) s (siphonUnderrun n w u) := by
  have hslot : streamSlot u n = streamSlot s n := streamSlot_of_work h.ofPlay hn
  have hcount : getF u Reg.SIPH_UNDERRUNS 0 16 = getF s Reg.SIPH_UNDERRUNS 0 16 := by
    rw [getF, h.regs _ (not_playWord (by unfold Reg.SIPH_UNDERRUNS Reg.SIPH_STATUS; omega) (by decide)), ← getF]
  have hshows := siphonUnderrun_shows hn w u
  rw [hslot, hcount] at hshows
  obtain ⟨h1, h2, h3, h4, h5, h6, h7, hwork⟩ := hshows
  exact ⟨h1, h2, h3, h4, h5, h6, h7, h.ofPlay.trans hwork⟩

/-- The end of a stream, after what it has played. -/
theorem siphonEnd_after (hn : n < 32) {u : State} (h : StreamWork (PlayWord n) (streamSlot s n) s u) (w : Word) :
    streamState (siphonEnd n w u) n = 4 ∧ (channel (siphonEnd n w u) (streamSlot s n)).state = .held ∧
      getBit (siphonEnd n w u) (Reg.INT_STATUS siphonPage) 0 = true ∧ getBit (siphonEnd n w u) Reg.SIPH_ACTIVE n = false ∧
      getF (siphonEnd n w u) (Reg.SIPH_STATUS n) 16 16 = getF u (Reg.SIPH_STATUS n) 16 16 ∧
      StreamWork (StreamWord n) (streamSlot s n) s (siphonEnd n w u) := by
  have hends := siphonEnd_ends hn w u
  rw [streamSlot_of_work h.ofPlay hn] at hends
  obtain ⟨h1, h2, h3, h4, h5, hwork⟩ := hends
  exact ⟨h1, h2, h3, h4, h5, h.ofPlay.trans hwork⟩

end StreamPlay

/-! ### GO, ABORT and RELEASE (R221, R223) -/

section Commands

variable {req : Requester} {n : Fin 32} {s : State}

/-- What forbids GO. -/
theorem goRefused_of (h : role s (streamSlot s n) = roleUnused ∨ (channel s (streamSlot s n)).state = .parked ∨
    underEoCal s (streamSlot s n) = true ∨ channelHeld s (streamSlot s n) = true ∨ streamOn s (streamSlot s n) ≠ none ∨
    getF s (Reg.SIPH_STEP n) 0 16 < 0x400 ∨ 0x4000 < getF s (Reg.SIPH_STEP n) 0 16 ∨
    (getBit s (Reg.SIPH_CFG n) 12 = true ∧ 0x2000 < getF s (Reg.SIPH_STEP n) 0 16) ∨ reg s (Reg.SIPH_LEN n) = 0 ∨
    (reg s (Reg.SIPH_LEN n)).toNat % 32 ≠ 0 ∨ ¬ streamSlot s n < s.variant.slots ∨ throttle s 0 = true) : goRefused s n = true := by
  unfold goRefused
  extract_lets slot step len top
  have htop : 0x4000 < step ∨ (getBit s (Reg.SIPH_CFG n) 12 = true ∧ 0x2000 < step) → top < step := by
    rintro (h | ⟨hraw, h⟩)
    · unfold top
      split
      · omega
      · exact h
    · unfold top
      rw [if_pos hraw]
      exact h
  have hlen : reg s (Reg.SIPH_LEN n) = 0 → len = 0 := fun h => congrArg BitVec.toNat h
  have hon : streamOn s slot ≠ none → (streamOn s slot).isSome = true := fun h => Option.isSome_iff_ne_none.2 h
  simp only [Bool.or_eq_true, Bool.not_eq_true', decide_eq_false_iff_not, decide_eq_true_eq, beq_iff_eq, bne_iff_ne, ne_eq]
  rcases h with h | h | h | h | h | h | h | h | h | h | h | h
  · simp [slot, h]
  · simp [slot, h]
  · simp [slot, h]
  · simp [slot, h]
  · simp [hon h]
  · simp [step, h]
  · simp [htop (.inl h)]
  · simp [htop (.inr h)]
  · simp [hlen h]
  · simp [len, h]
  · simp [slot, h]
  · simp [h]

theorem exec_go_refused (h : WriteReaches req (Reg.SIPH_CMD n) s) (hr : streamState s n ≠ 0 ∨ goRefused s n = true) :
    exec (.go req n) s = .next (setB (Reg.SIPH_STATUS n) 6 true s) := by
  refine congrArg Host.Outcome.next ((hostWrite_reaches _ h).trans (if_pos ?_))
  simpa using hr

theorem exec_go_armed (h : WriteReaches req (Reg.SIPH_CMD n) s) (h0 : streamState s n = 0) (hr : goRefused s n = false) :
    exec (.go req n) s = .next (setStreamState n 1 (setReg (Reg.SIPH_STATUS n) 0 s)) := by
  refine congrArg Host.Outcome.next ((hostWrite_reaches _ h).trans (if_neg ?_))
  simp [h0, hr]

theorem exec_abort (h : WriteReaches req (Reg.SIPH_CMD n) s) : exec (.abort req n) s = .next (abortStream n s) :=
  congrArg Host.Outcome.next (hostWrite_reaches _ h)

theorem abortStream_plays {n : Nat} (h : streamState s n = 3) : ∃ w k, abortStream n s = siphonEnd n w (streamEnds n k s) :=
  ⟨_, _, if_pos (by rw [h]; rfl)⟩

theorem abortStream_waits {n : Nat} (h : streamState s n = 1 ∨ streamState s n = 2) : abortStream n s = setStreamState n 0 s := by
  refine (if_neg ?_).trans (if_pos ?_)
  · rcases h with h | h <;> rw [h] <;> decide
  · rcases h with h | h <;> rw [h] <;> decide

theorem exec_release (h : WriteReaches req (Reg.SIPH_CMD n) s) (h4 : streamState s n = 4) :
    exec (.release req n) s = .next (setStreamState n 0
      (if (channel s (streamSlot s n)).state == .held then
        enterHold (streamSlot s n) (setChannel (streamSlot s n) ((channel s (streamSlot s n)).stepTo (channel s (streamSlot s n)).target) s) else s)) := by
  refine congrArg Host.Outcome.next ((hostWrite_reaches _ h).trans ((if_pos (by rw [h4]; rfl)).trans ?_))
  dsimp only
  split
  · rfl
  · rfl

/-- A channel that takes its target level and enters HOLD outputs it. -/
theorem enterHold_stepTo (slot : Nat) (w : Word) (s : State) : ∃ ch, ch.state = .hold ∧ ch.out = w ∧
    enterHold slot (setChannel slot ((channel s slot).stepTo w) s) =
      setChannel slot ch (setChannel slot ((channel s slot).stepTo w) s) := by
  refine ⟨_, ?_, ?_, rfl⟩
  · rfl
  · rw [channel_setChannel_same]
    rfl

end Commands

/-! ### Starts and ends (R219, R220, R222, R223) -/

section Starts

variable {n : Fin 32} {s : State}

/-- GO arms the stream, its flags clear. -/
theorem go_arms (n : Fin 32) (s : State) :
    streamState (setStreamState n 1 (setReg (Reg.SIPH_STATUS n) 0 s)) n = 1 ∧
      getF (setStreamState n 1 (setReg (Reg.SIPH_STATUS n) 0 s)) (Reg.SIPH_STATUS n) 3 4 = 0 ∧
      getBit (setStreamState n 1 (setReg (Reg.SIPH_STATUS n) 0 s)) Reg.SIPH_ACTIVE n = true ∧
      OnlyRegs [Reg.SIPH_STATUS n, Reg.SIPH_ACTIVE] s (setStreamState n 1 (setReg (Reg.SIPH_STATUS n) 0 s)) := by
  obtain ⟨hstate, hactive, hfields, -⟩ := setStreamState_does n.isLt (v := 1) (by decide) (setReg (Reg.SIPH_STATUS n) 0 s)
  refine ⟨hstate, ?_, hactive, (((OnlyRegs.refl _ s).setReg 0 (by simp)).setF 0 3 1 (by simp)).setB n _ (by simp)⟩
  rw [hfields 3 4 (by decide) (by decide), getF, reg_setReg_same]
  decide

theorem exec_siphonStreamStart (fill : Nat) (h1 : streamState s n = 1) (hm : getF s (Reg.SIPH_CFG n) 14 2 ≠ 2) :
    ∃ start g, exec (.siphonStreamStart n fill) s = .next (startStream n fill start { s with siphonGen := g }) :=
  ⟨_, _, congrArg Host.Outcome.next (if_pos (by simp [h1, hm]))⟩

theorem exec_siphonUnderrun (position reps : Nat) (h3 : streamState s n = 3) :
    ∃ u, exec (.siphonUnderrun n position reps) s = .next (siphonUnderrun n (streamLevel s n position) u) ∧
      StreamWork (PlayWord n) (streamSlot s n) s u :=
  ⟨_, congrArg Host.Outcome.next (if_pos (by rw [h3]; rfl)),
    (((StreamWork.refl s).advanceUptime _).streamEnds _).setF 16 16 _ (.inl rfl)⟩

theorem exec_siphonEnd (h3 : streamState s n = 3) (hr : getF s (Reg.SIPH_REPEAT n) 0 16 ≠ 0xFFFF) :
    ∃ w u, exec (.siphonEnd n) s = .next (siphonEnd n w u) ∧ getF u (Reg.SIPH_STATUS n) 16 16 = getF s (Reg.SIPH_REPEAT n) 0 16 + 1 ∧
      StreamWork (PlayWord n) (streamSlot s n) s u := by
  refine ⟨_, _, congrArg Host.Outcome.next (if_pos (by simp [h3, hr])), ?_,
    (((StreamWork.refl s).advanceUptime _).streamEnds _).setF 16 16 _ (.inl rfl)⟩
  have hlt : getF s (Reg.SIPH_REPEAT n) 0 16 < 2 ^ 16 := fld_lt _ _ _
  rw [getF_setF_same _ _ _ _ _ (by decide)]
  omega

/-- The start of one stream leaves another's STATE. -/
theorem startStream_keepsState {m k : Nat} (hm : m < 32) (hk : k < 32) (hne : k ≠ m) (fill start : Nat) (s : State) :
    streamState (startStream m fill start s) k = streamState s k := by
  obtain ⟨hplays, hunder⟩ := startStream_starts hm fill start s
  have hwork : StreamWork (StreamWord m) (streamSlot s m) s (startStream m fill start s) := by
    by_cases hfill : 16 ≤ fill
    · exact (hplays hfill).2.2
    · obtain ⟨w, u, heq, hu⟩ := hunder (by omega)
      obtain ⟨-, -, -, -, -, -, -, h⟩ := siphonUnderrun_after hm hu w
      rw [heq]
      exact h
  exact streamState_of_reg (hwork.regs _ (not_streamWord (.inr ⟨k, hk, hne, rfl⟩)))

/-- The streams armed for the SIPHON_START event. -/
def armedStreams (s : State) : List Nat := (List.range 32).filter fun n => streamState s n == 1 && getF s (Reg.SIPH_CFG n) 14 2 == 2

theorem mem_armedStreams {k : Nat} : k ∈ armedStreams s ↔ k < 32 ∧ streamState s k = 1 ∧ getF s (Reg.SIPH_CFG k) 14 2 = 2 := by
  simp [armedStreams]

/-- One armed stream's turn as the event starts it: its queue's fill as given, and full where none is. -/
def eventStart (fills : List StreamFill) (start gen n : Nat) (t : State) : State :=
  startStream n (((fills.find? fun e => e.stream == n).map StreamFill.fill).getD 64) start
    { t with siphonGen := SMap.set (fun _ => 0) t.siphonGen n gen }

theorem eventStart_starts {fills : List StreamFill} {k : Nat} (hk : k < 32) (hfill : ∀ f ∈ fills, f.stream = k → 16 ≤ f.fill) (start gen : Nat)
    (t : State) : streamState (eventStart fills start gen k t) k = 3 := by
  refine ((startStream_starts hk _ start _).1 ?_).1
  cases hf : fills.find? fun e => e.stream == k with
  | none => decide
  | some f => exact hfill f (List.mem_of_find?_eq_some hf) (by simpa using List.find?_some hf)

/-- The event starts the streams armed for it; with none it is lost (R220, R528). -/
theorem exec_siphonStart {fills : List StreamFill} {s1 : State} {g : Nat} (h : takeEvent 10 s = some (g, s1)) :
    ∃ start, exec (.siphonStart fills) s =
      .next (if (armedStreams s).isEmpty then taskLost 10 s1 else forEach (armedStreams s) (eventStart fills start (g + 1)) s1) := by
  refine ⟨s1.time.uptime + if (armedStreams s).any fun n => needsWake (channel s1 (streamSlot s1 n)) then 1000 else 0, ?_⟩
  show execSiphonStart fills s = _
  rw [execSiphonStart, h]
  obtain ⟨e, c, rfl⟩ := takeEvent_frame h
  rfl

theorem taskLost_counts (s : State) :
    getBit (taskLost 10 s) (Reg.EVT_TASK_STAT 5) 15 = true ∧ getBit (taskLost 10 s) (Reg.INT_STATUS evtPage) 1 = true := by
  refine ⟨?_, getBit_setInt _ _ _ (by decide)⟩
  unfold taskLost
  dsimp only
  generalize bumpF (Reg.EVT_TASK_STAT (10 / 2)) (16 * (10 % 2)) 15 s = u
  rw [getBit, reg_setInt_other _ _ _ (by decide), ← getBit]
  exact getBit_setB_same u _ 15 true (by decide)

end Starts

/-- Settles O33. GO, ABORT and RELEASE write a stream's STATE and, of a stream that plays, hold its channel; a start plays or is an
underrun by what its queue holds; the event that finds no stream armed is lost. -/
theorem siphonStreamsAreArmedPlayedAndHeld : Obligations.SiphonStreamsAreArmedPlayedAndHeld := by
  unfold Obligations.SiphonStreamsAreArmedPlayedAndHeld
  refine ⟨fun req n s h => ⟨fun hr => ?_, fun h0 hr => ?_, fun h3 => ?_, fun h12 => ?_, fun h4 => ?_⟩, fun n fill s h1 hm => ⟨fun hfill => ?_, fun hfill => ?_⟩,
    fun fills s s1 g hev => ⟨fun n hn h1 h2 hfill => ?_, fun hnone => ?_⟩, fun n position reps s h3 => ?_, fun n s h3 hr => ?_⟩
  case refine_1 =>
    refine ⟨_, exec_go_refused h (hr.imp_right goRefused_of), getBit_setB_same _ _ _ _ (by decide), ?_, (OnlyRegs.refl _ s).setB 6 true (by simp)⟩
    exact getF_setF_beside _ _ _ _ _ _ _ (by decide) (by decide)
  case refine_2 => exact ⟨_, exec_go_armed h h0 hr, go_arms n s⟩
  case refine_3 =>
    obtain ⟨w, k, habort⟩ := abortStream_plays h3
    obtain ⟨hstate, hheld, hint, hactive, -, hwork⟩ := siphonEnd_after n.isLt ((StreamWork.refl s).streamEnds k) w
    exact ⟨_, (exec_abort h).trans (congrArg _ habort), hstate, hheld, hint, hactive, hwork.others, hwork.sameBytes⟩
  case refine_4 =>
    obtain ⟨hstate, hactive, -, hregs⟩ := setStreamState_does n.isLt (v := 0) (by decide) s
    exact ⟨_, (exec_abort h).trans (congrArg _ (abortStream_waits h12)), hstate, hactive, hregs⟩
  case refine_5 =>
    refine ⟨_, exec_release h h4, ?_⟩
    by_cases hheld : (channel s (streamSlot s n)).state = .held
    · obtain ⟨ch, hhold, hout, heq⟩ := enterHold_stepTo (streamSlot s n) (channel s (streamSlot s n)).target s
      rw [if_pos (by rw [hheld]; rfl), heq]
      generalize (channel s (streamSlot s n)).stepTo (channel s (streamSlot s n)).target = stepped
      have hwork := ((ChannelWork.refl (streamSlot s n) [] s).setChannel stepped).setChannel ch
      obtain ⟨hstate, hactive, -, hregs⟩ := setStreamState_does n.isLt (v := 0) (by decide) (setChannel (streamSlot s n) ch (setChannel (streamSlot s n) stepped s))
      have hchannel : channel (setStreamState n 0 (setChannel (streamSlot s n) ch (setChannel (streamSlot s n) stepped s))) (streamSlot s n) = ch :=
        channel_setChannel_same _ _ _
      rw [hchannel]
      exact ⟨hstate, fun _ => ⟨hhold, hout⟩, fun h => absurd hheld h, hwork.others, hregs⟩
    · obtain ⟨hstate, hactive, -, hregs⟩ := setStreamState_does n.isLt (v := 0) (by decide) s
      rw [if_neg (by simpa using hheld)]
      exact ⟨hstate, fun h => absurd h hheld, fun _ => rfl, fun _ _ => rfl, hregs⟩
  case refine_6 =>
    obtain ⟨start, g, hexec⟩ := exec_siphonStreamStart fill h1 hm
    obtain ⟨hstate, hstream, hwork⟩ := (startStream_starts n.isLt fill start { s with siphonGen := g }).1 hfill
    exact ⟨_, hexec, hstate, hstream, hwork.others, hwork.sameBytes⟩
  case refine_7 =>
    obtain ⟨start, g, hexec⟩ := exec_siphonStreamStart fill h1 hm
    obtain ⟨w, u, heq, hu⟩ := (startStream_starts n.isLt fill start { s with siphonGen := g }).2 hfill
    obtain ⟨hstate, hheld, -, hflag, hinvalid, hint, hcount, -⟩ := siphonUnderrun_after n.isLt hu w
    exact ⟨_, hexec.trans (congrArg _ heq), hstate, hheld, hflag, hinvalid, hint, hcount⟩
  case refine_8 =>
    obtain ⟨start, hexec⟩ := exec_siphonStart (fills := fills) hev
    have hmem : n ∈ armedStreams s := mem_armedStreams.2 ⟨hn, h1, h2⟩
    refine ⟨_, hexec.trans (congrArg _ (if_neg (by simpa using List.ne_nil_of_mem hmem))), ?_⟩
    refine forEach_establishes (fun k t => k = n → streamState t k = 3) _ _ (fun k _ t hk => ?_) (fun k _ m hm t ht hk => ?_) s1 n hmem rfl
    · exact eventStart_starts (hk ▸ hn) (hk ▸ hfill) start (g + 1) t
    · obtain rfl := hk
      by_cases hkm : m = k
      · rw [hkm]
        exact eventStart_starts hn hfill start (g + 1) t
      · exact (startStream_keepsState (mem_armedStreams.1 hm).1 hn (Ne.symm hkm) _ _ _).trans (ht rfl)
  case refine_9 =>
    obtain ⟨start, hexec⟩ := exec_siphonStart (fills := fills) hev
    have hempty : armedStreams s = [] := List.eq_nil_iff_forall_not_mem.2 fun k hk => by
      obtain ⟨hk32, hk1, hk2⟩ := mem_armedStreams.1 hk
      exact hnone k hk32 hk1 hk2
    obtain ⟨e, c, rfl⟩ := takeEvent_frame hev
    obtain ⟨⟨r, o, hframe⟩, -⟩ := taskLost_frame 10 { s with evt := e, time := c }
    obtain ⟨hlost, hint⟩ := taskLost_counts { s with evt := e, time := c }
    refine ⟨_, hexec.trans (congrArg _ (if_pos (by rw [hempty]; rfl))), ?_, hlost, hint, ?_⟩
    · rw [hframe]
    · rw [hframe]
  case refine_10 =>
    obtain ⟨u, hexec, hu⟩ := exec_siphonUnderrun position reps h3
    obtain ⟨hstate, hheld, hout, hflag, hinvalid, hint, hcount, hwork⟩ := siphonUnderrun_after n.isLt hu (streamLevel s n position)
    exact ⟨_, hexec, hstate, hheld, hout, hflag, hinvalid, hint, hcount, hwork.others, hwork.sameBytes⟩
  case refine_11 =>
    obtain ⟨w, u, hexec, hrep, hu⟩ := exec_siphonEnd h3 hr
    obtain ⟨hstate, hheld, hint, -, hreps, hwork⟩ := siphonEnd_after n.isLt hu w
    exact ⟨_, hexec, hstate, hheld, hint, hreps.trans hrep, hwork.others, hwork.sameBytes⟩

end Sys2Proof.Machine
end

section
/-! PROOF. Alignment across ring members and EO level calibration (R225 to R235): the skew calibration, SYNC, and the levels that a
calibration writes. -/

namespace Sys2Proof.Machine

open Sys2Proof

/-! ### The skew calibration (R227, R235) -/

section Skew

variable {s : State}

theorem unsignedOf_lt (w : Nat) (i : Int) : unsignedOf w i < 2 ^ w := by
  have hw : (0 : Int) < (2 ^ w : Nat) := by exact_mod_cast Nat.two_pow_pos w
  have hlt := Int.emod_lt_of_pos i hw
  have hnonneg := Int.emod_nonneg i hw.ne'
  unfold unsignedOf
  omega

/-- A calibration begins with the leader's measurement: BUSY, DONE clear. -/
theorem skewBegin_begins (m : SkewMeasure) (s : State) :
    getBit (skewBegin m s) Reg.SHAPE_ALIGN_STATUS 0 = true ∧ getBit (skewBegin m s) Reg.SHAPE_ALIGN_STATUS 1 = false ∧
      (skewBegin m s).align.first = some (m.loopDelay.toNat, m.rpts.map BitVec.toNat) ∧
      SameRegsBut [Reg.SHAPE_ALIGN_STATUS] s (skewBegin m s) ∧ SameBytes s (skewBegin m s) := by
  have hbase : SameRegsBut [Reg.SHAPE_ALIGN_STATUS] s { s with align := { s.align with first := some (m.loopDelay.toNat, m.rpts.map BitVec.toNat) } } :=
    fun _ _ => rfl
  refine ⟨?_, getBit_setB_same _ _ _ _ (by decide), rfl, (hbase.setReg _ (by simp)).setReg _ (by simp), fun _ => rfl, fun _ => rfl⟩
  unfold skewBegin
  rw [getBit_setB_beside _ _ _ _ _ (by decide) (by decide)]
  exact getBit_setB_same _ _ _ _ (by decide)

/-- The leader's measurement goes to the other members, and Λ shows here. -/
theorem exec_skewCal_leader {req : Requester} (h : WriteReaches req Reg.SHAPE_ALIGN_CTRL s) (m : SkewMeasure) (hl : isLeader s = true) :
    ∃ r o, exec (.skewCal ⟨req, m⟩) s = .next { showLoopDelay m (skewBegin m s) with ring := r, out := o } := by
  obtain ⟨r, o, hsend⟩ := ringSend_frame 0x23 (otherMembers s) (measureContent m) (showLoopDelay m (skewBegin m s))
  refine ⟨r, o, congrArg Host.Outcome.next ((hostWrite_reaches _ h).trans ?_)⟩
  rw [hl]
  exact hsend

theorem exec_skewCal_member {req : Requester} (h : WriteReaches req Reg.SHAPE_ALIGN_CTRL s) (m : SkewMeasure) (hl : isLeader s = false) :
    exec (.skewCal ⟨req, m⟩) s = .next s := by
  refine congrArg Host.Outcome.next ((hostWrite_reaches _ h).trans ?_)
  rw [hl]
  rfl

theorem exec_skewCalMessage_measure {p : Fin 4} (m : SkewMeasure) (hp : ringHears s p = true) (hl : ringLeader s = false)
    (hs : leaderPos s = p.val) : exec (.skewCalMessage p (.measure m)) s = .next (skewBegin m (frameCame s)) := by
  refine congrArg Host.Outcome.next ((if_neg (by simp [hp])).trans ?_)
  exact if_neg (by simp [hl, hs])

/-- What the end of a skew calibration shows on this member. -/
theorem skewCalComplete_shows (a b : Int) (others : Bool) (s : State) :
    (getBit (skewCalComplete a b others s) Reg.SHAPE_ALIGN_STATUS 0 = false ∧ getBit (skewCalComplete a b others s) Reg.SHAPE_ALIGN_STATUS 1 = true ∧
      getBit (skewCalComplete a b others s) Reg.SHAPE_ALIGN_STATUS 2 = !thetaAgree a b) ∧
    getBit (skewCalComplete a b others s) (Reg.INT_STATUS (colPage 0)) 8 = true ∧
    (thetaAgree a b = true → others = true → getF (skewCalComplete a b others s) Reg.SHAPE_DEV_TRIM 0 16 = unsignedOf 16 (-b)) ∧
    (thetaAgree a b = false ∨ others = false → reg (skewCalComplete a b others s) Reg.SHAPE_DEV_TRIM = reg s Reg.SHAPE_DEV_TRIM) ∧
    SameRegsBut [Reg.SHAPE_ALIGN_STATUS, Reg.SHAPE_DEV_TRIM, Reg.INT_STATUS (colPage 0)] s (skewCalComplete a b others s) ∧
    ∃ r o, skewCalComplete a b others s = { s with regs := r, out := o } := by
  unfold skewCalComplete
  extract_lets s1 own s2 s3
  have hstatus : getBit s2 Reg.SHAPE_ALIGN_STATUS 0 = false ∧ getBit s2 Reg.SHAPE_ALIGN_STATUS 1 = true ∧ getBit s2 Reg.SHAPE_ALIGN_STATUS 2 = !own := by
    refine ⟨?_, ?_, getBit_setB_same _ _ _ _ (by decide)⟩
    · rw [getBit_setB_beside _ _ _ _ _ (by decide) (by decide), getBit_setB_beside _ _ _ _ _ (by decide) (by decide)]
      exact getBit_setB_same _ _ _ _ (by decide)
    · rw [getBit_setB_beside _ _ _ _ _ (by decide) (by decide)]
      exact getBit_setB_same _ _ _ _ (by decide)
  have hs2 : OnlyRegs [Reg.SHAPE_ALIGN_STATUS, Reg.SHAPE_DEV_TRIM, Reg.INT_STATUS (colPage 0)] s s2 :=
    (((OnlyRegs.refl _ s).setB 0 _ (by simp)).setB 1 _ (by simp)).setB 2 _ (by simp)
  have htrim2 : reg s2 Reg.SHAPE_DEV_TRIM = reg s Reg.SHAPE_DEV_TRIM := by
    rw [reg_setB_other _ _ _ (by decide), reg_setB_other _ _ _ (by decide), reg_setB_other _ _ _ (by decide)]
  clear_value s2
  have hs3 : OnlyRegs [Reg.SHAPE_ALIGN_STATUS, Reg.SHAPE_DEV_TRIM, Reg.INT_STATUS (colPage 0)] s s3 := by
    unfold s3
    split
    · exact hs2.setF 0 16 _ (by simp)
    · exact hs2
  have hkeeps3 : reg s3 Reg.SHAPE_ALIGN_STATUS = reg s2 Reg.SHAPE_ALIGN_STATUS := by
    unfold s3
    split
    · exact reg_setF_other _ _ _ _ (by decide)
    · rfl
  have htrim3 : (own = true → others = true → getF s3 Reg.SHAPE_DEV_TRIM 0 16 = unsignedOf 16 (-b)) ∧
      (own = false ∨ others = false → reg s3 Reg.SHAPE_DEV_TRIM = reg s Reg.SHAPE_DEV_TRIM) := by
    refine ⟨fun ho hothers => ?_, fun hno => ?_⟩
    · unfold s3
      rw [ho, hothers, if_pos (by rfl), getF_setF_same _ _ _ _ _ (by decide)]
      exact Nat.mod_eq_of_lt (unsignedOf_lt 16 _)
    · unfold s3
      refine (congrArg (reg · Reg.SHAPE_DEV_TRIM) (if_neg ?_)).trans htrim2
      rcases hno with h | h
      · simp [h]
      · simp [h]
  clear_value s3
  have hother : ∀ a, Reg.INT_STATUS (colPage 0) ≠ a → reg (setInt (colPage 0) 8 s3) a = reg s3 a := fun a => reg_setInt_other _ _ _
  have hstatus3 := (hother Reg.SHAPE_ALIGN_STATUS (by decide)).trans hkeeps3
  have htrim := hother Reg.SHAPE_DEV_TRIM (by decide)
  obtain ⟨r, o, hframe⟩ := setInt_frame (colPage 0) 8 s3
  obtain ⟨⟨r3, rfl⟩, hregs⟩ := hs3
  refine ⟨?_, getBit_setInt _ _ _ (by decide), fun ho hothers => ?_, fun hno => ?_, fun a ha => ?_, r, o, hframe⟩
  · simp only [getBit, hstatus3]
    exact hstatus
  · rw [getF, htrim, ← getF, htrim3.1 ho hothers]
  · rw [htrim, htrim3.2 hno]
  · exact (hother a fun h => ha (by simp [h])).trans (hregs a ha)

theorem exec_skewCalComplete (m : SkewMeasure) (a1 a2 : Int) (others : Bool) {x : Nat × List Nat}
    (h0 : getBit s Reg.SHAPE_ALIGN_STATUS 0 = true) (hx : s.align.first = some x) :
    ∃ u r o l d, (u = skewCalComplete (arrivalOffset s x.1 x.2 a1) (arrivalOffset s m.loopDelay.toNat (m.rpts.map BitVec.toNat) a2) others s ∨
        u = showLoopDelay m (skewCalComplete (arrivalOffset s x.1 x.2 a1) (arrivalOffset s m.loopDelay.toNat (m.rpts.map BitVec.toNat) a2) others s)) ∧
      exec (.skewCalComplete m a1 a2 others) s =
        .next { u with ring := r, out := o, align := { u.align with first := none, loopDelay := l, rpts := d } } := by
  generalize hv : skewCalComplete (arrivalOffset s x.1 x.2 a1) (arrivalOffset s m.loopDelay.toNat (m.rpts.map BitVec.toNat) a2) others s = v
  have hu : ∀ c : Bool, (if c then showLoopDelay m v else v) = v ∨ (if c then showLoopDelay m v else v) = showLoopDelay m v := fun c => by
    cases c
    · exact .inl rfl
    · exact .inr rfl
  specialize hu (isLeader s)
  generalize hw : (if isLeader s then showLoopDelay m v else v) = u at hu
  have hexec : ∃ mask content l d, execSkewCalComplete m a1 a2 others s =
      .next (ringSend 0x23 mask content { u with align := { u.align with first := none, loopDelay := l, rpts := d } }) := by
    unfold execSkewCalComplete
    rw [h0, hx]
    dsimp only
    rw [hv, hw]
    exact ⟨_, _, _, _, rfl⟩
  obtain ⟨mask, content, l, d, hexec⟩ := hexec
  obtain ⟨r, o, hsend⟩ := ringSend_frame 0x23 mask content { u with align := { u.align with first := none, loopDelay := l, rpts := d } }
  exact ⟨u, r, o, l, d, hu, hexec.trans (congrArg _ hsend)⟩

/-- The end of a skew calibration: BUSY clears, DONE and the interrupt set; the trim follows where every member agrees. -/
theorem skewCalComplete_ends (m : SkewMeasure) (a1 a2 : Int) (others : Bool) {x : Nat × List Nat}
    (h0 : getBit s Reg.SHAPE_ALIGN_STATUS 0 = true) (hx : s.align.first = some x) :
    ∃ t b, exec (.skewCalComplete m a1 a2 others) s = .next t ∧ b = arrivalOffset s m.loopDelay.toNat (m.rpts.map BitVec.toNat) a2 ∧
      getBit t Reg.SHAPE_ALIGN_STATUS 0 = false ∧ getBit t Reg.SHAPE_ALIGN_STATUS 1 = true ∧ getBit t (Reg.INT_STATUS (colPage 0)) 8 = true ∧
      getBit t Reg.SHAPE_ALIGN_STATUS 2 = !thetaAgree (arrivalOffset s x.1 x.2 a1) b ∧
      (thetaAgree (arrivalOffset s x.1 x.2 a1) b = true → others = true → getF t Reg.SHAPE_DEV_TRIM 0 16 = unsignedOf 16 (-b)) ∧
      (thetaAgree (arrivalOffset s x.1 x.2 a1) b = false ∨ others = false → reg t Reg.SHAPE_DEV_TRIM = reg s Reg.SHAPE_DEV_TRIM) ∧
      SameRegsBut [Reg.SHAPE_ALIGN_STATUS, Reg.SHAPE_DEV_TRIM, Reg.SHAPE_LOOP_DELAY, Reg.INT_STATUS (colPage 0)] s t ∧ t.align.trim = s.align.trim ∧
      t.align.first = none ∧ SameBytes s t := by
  obtain ⟨u, r, o, l, d, hu, hexec⟩ := exec_skewCalComplete m a1 a2 others h0 hx
  generalize arrivalOffset s x.1 x.2 a1 = a at hu ⊢
  generalize arrivalOffset s m.loopDelay.toNat (m.rpts.map BitVec.toNat) a2 = b at hu ⊢
  obtain ⟨⟨hbusy, hdone, hdisagree⟩, hint, htrim, hkeep, hregs, r', o', hframe⟩ := skewCalComplete_shows a b others s
  generalize skewCalComplete a b others s = v at *
  have hreg : ∀ c, c ≠ Reg.SHAPE_LOOP_DELAY → reg u c = reg v c := fun c hc => by
    rcases hu with rfl | rfl
    · rfl
    · exact reg_setF_other _ _ _ _ (Ne.symm hc)
  have hrest : u.align = s.align ∧ SameBytes s u := by
    rcases hu with rfl | rfl
    · rw [hframe]
      exact ⟨rfl, fun _ => rfl, fun _ => rfl⟩
    · rw [hframe]
      exact ⟨rfl, fun _ => rfl, fun _ => rfl⟩
  have hstatus := hreg Reg.SHAPE_ALIGN_STATUS (by decide)
  have hint' := hreg (Reg.INT_STATUS (colPage 0)) (by decide)
  have htrim' := hreg Reg.SHAPE_DEV_TRIM (by decide)
  refine ⟨_, b, hexec, rfl, ?_, ?_, ?_, ?_, fun ha ho => ?_, fun hno => ?_, fun c hc => ?_, (congrArg Align.trim hrest.1 :), rfl, hrest.2⟩
  · exact (congrArg (bitOf · 0) hstatus).trans hbusy
  · exact (congrArg (bitOf · 1) hstatus).trans hdone
  · exact (congrArg (bitOf · 8) hint').trans hint
  · exact (congrArg (bitOf · 2) hstatus).trans hdisagree
  · exact (congrArg (fld · 0 16) htrim').trans (htrim ha ho)
  · exact htrim'.trans (hkeep hno)
  · simp only [List.mem_cons, List.not_mem_nil, or_false, not_or] at hc
    exact (hreg c hc.2.2.1).trans (hregs c (by simp [hc]))

end Skew

/-! ### SYNC (R225, R226, R230) -/

section Sync

variable {s : State}

theorem startWellCount_frame (s : State) : ∃ w, startWellCount s = { s with wellOrigin := w } := by
  unfold startWellCount
  split
  · exact ⟨_, rfl⟩
  · exact ⟨_, rfl⟩

theorem exec_syncEmit_idle {n : Nat} (h : isLeader s = false ∨ syncPasses s = false ∨ s.time.running = false ∨ n ≠ ptpNow s / 1000000 + 1) :
    exec (.syncEmit n) s = .next s := by
  refine congrArg Host.Outcome.next (if_neg ?_)
  rcases h with h | h | h | h
  · simp [h]
  · simp [h]
  · simp [h]
  · simp [h]

/-- What the emission of a pulse leaves of the state that it is emitted in. -/
theorem syncPulse_leaves (ms ε : Nat) (v : State) : ∃ t,
    emit .syncPulse (startWellCount { modRing (fun r => { r with epsilon := ε }) v with align := { v.align with pulse := some (v.time.uptime, ms) } }) = t ∧
      t.out = .syncPulse :: v.out ∧ t.time = v.time ∧ t.ring.epsilon = ε ∧ t.align.pulse = some (v.time.uptime, ms) ∧ t.regs = v.regs ∧ SameBytes v t := by
  obtain ⟨w, hwell⟩ := startWellCount_frame
    { modRing (fun r => { r with epsilon := ε }) v with align := { v.align with pulse := some (v.time.uptime, ms) } }
  refine ⟨_, rfl, ?_⟩
  rw [hwell]
  exact ⟨rfl, rfl, rfl, rfl, rfl, fun _ => rfl, fun _ => rfl⟩

/-- A pulse that the leader emits leaves at a SHAPE cycle edge at or after its millisecond (R225, R226). -/
theorem syncEmit_emits {u : State} {n ms : Nat} (hl : isLeader s = true) (hp : syncPasses s = true) (hr : s.time.running = true)
    (hn : n = ptpNow s / 1000000 + 1) (hms : ms = n * 1000000) (hu : u = advanceTo ms s) :
    ∃ t, exec (.syncEmit n) s = .next t ∧ t.out = .syncPulse :: s.out ∧ t.time = (advanceUptime (4 * ceilDiv u.time.uptime 4) u).time ∧
      t.ring.epsilon = (openDiv (t.time.total - ms * 2 ^ 32 : Nat) (2 ^ 26)).toNat ∧ t.align.pulse = some (t.time.uptime, ms) ∧
      t.regs = s.regs ∧ SameBytes s t := by
  generalize hv : advanceUptime (4 * ceilDiv u.time.uptime 4) u = v
  obtain ⟨t, ht, hout, htime, hepsilon, hpulse, hregs, hbytes⟩ := syncPulse_leaves ms (openDiv (v.time.total - ms * 2 ^ 32 : Nat) (2 ^ 26)).toNat v
  have hsame : v.regs = s.regs ∧ v.out = s.out ∧ SameBytes s v := by
    obtain ⟨c, hframe⟩ := advanceTo_frame ms s
    rw [← hv, hu, hframe]
    exact ⟨rfl, rfl, fun _ => rfl, fun _ => rfl⟩
  refine ⟨t, ?_, by rw [hout, hsame.2.1], htime, by rw [htime, hepsilon], by rw [hpulse, htime], hregs.trans hsame.1,
    fun a => (hbytes.1 a).trans (hsame.2.2.1 a), fun a => (hbytes.2 a).trans (hsame.2.2.2 a)⟩
  rw [← ht]
  refine congrArg Host.Outcome.next ((if_pos (by simp [hl, hp, hr, hn])).trans ?_)
  subst hv hu hms
  rfl

/-- A drift beyond the limit: SKEW_DRIFT and its interrupt. -/
theorem drift_shows (u : State) (h4 : getBit u Reg.SHAPE_ALIGN_STATUS 4 = false) :
    getBit (setInt (colPage 0) 9 (setB Reg.SHAPE_ALIGN_STATUS 3 true u)) Reg.SHAPE_ALIGN_STATUS 4 = false ∧
      getBit (setInt (colPage 0) 9 (setB Reg.SHAPE_ALIGN_STATUS 3 true u)) Reg.SHAPE_ALIGN_STATUS 3 = true ∧
      getBit (setInt (colPage 0) 9 (setB Reg.SHAPE_ALIGN_STATUS 3 true u)) (Reg.INT_STATUS (colPage 0)) 9 = true ∧
      OnlyRegsOut [Reg.SHAPE_ALIGN_STATUS, Reg.INT_STATUS (colPage 0)] u (setInt (colPage 0) 9 (setB Reg.SHAPE_ALIGN_STATUS 3 true u)) := by
  refine ⟨?_, ?_, getBit_setInt _ _ _ (by decide), ((OnlyRegsOut.refl _ u).setB 3 true (by simp)).setInt _ _ (by simp)⟩
  · rw [getBit, reg_setInt_other _ _ _ (by decide), ← getBit, getBit_setB_beside _ _ _ _ _ (by decide) (by decide), h4]
  · rw [getBit, reg_setInt_other _ _ _ (by decide), ← getBit, getBit_setB_same _ _ _ _ (by decide)]

/-- What the arrival of a pulse shows (R230). -/
theorem syncArrival_shows (arrival : Int) (s : State) :
    (∃ r o a, syncArrival arrival s = { s with regs := r, out := o, align := a } ∧ a.last = s.align.last) ∧
    getBit (syncArrival arrival s) Reg.SHAPE_ALIGN_STATUS 4 = false ∧
    SameRegsBut [Reg.SHAPE_ALIGN_STATUS, Reg.SHAPE_SYNC_OFFSET, Reg.INT_STATUS (colPage 0)] s (syncArrival arrival s) ∧
    (s.align.skip = false →
      (syncArrival arrival s).align.departures = (departure s arrival :: s.align.departures).take 16 ∧
      (15 ≤ s.align.departures.length → 50000 * 16 < absI ((departure s arrival :: s.align.departures).take 16).sum * 15625 →
        getBit (syncArrival arrival s) Reg.SHAPE_ALIGN_STATUS 3 = true ∧ getBit (syncArrival arrival s) (Reg.INT_STATUS (colPage 0)) 9 = true)) := by
  have hfull : 15 ≤ s.align.departures.length → ((departure s arrival :: s.align.departures).take 16).length = 16 := fun h => by
    rw [List.length_take, List.length_cons]
    omega
  unfold syncArrival
  extract_lets s1 was l s2 s3
  have h1 : OnlyRegs [Reg.SHAPE_ALIGN_STATUS, Reg.SHAPE_SYNC_OFFSET, Reg.INT_STATUS (colPage 0)] s s1 := (OnlyRegs.refl _ s).setB 4 false (by simp)
  have hbit : getBit s1 Reg.SHAPE_ALIGN_STATUS 4 = false := getBit_setB_same _ _ _ _ (by decide)
  have hl : l = (departure s arrival :: s.align.departures).take 16 := rfl
  split
  · next hskip => exact ⟨⟨_, _, _, rfl, rfl⟩, hbit, h1.2, fun hno => absurd hskip (by rw [show s1.align.skip = false from hno]; decide)⟩
  · split
    · next hshort =>
      refine ⟨⟨_, _, _, rfl, rfl⟩, hbit, h1.2, fun _ => ⟨hl, fun h => ?_⟩⟩
      rw [hl, hfull h] at hshort
      exact absurd hshort (by decide)
    · have h3 : getBit s3 Reg.SHAPE_ALIGN_STATUS 4 = false := by
        rw [getBit, reg_setF_other _ _ _ _ (by decide)]
        exact hbit
      have hregs3 : SameRegsBut [Reg.SHAPE_ALIGN_STATUS, Reg.SHAPE_SYNC_OFFSET, Reg.INT_STATUS (colPage 0)] s s3 := h1.2.setReg _ (by simp)
      have hframe3 : ∃ r o a, s3 = { s with regs := r, out := o, align := a } ∧ a.last = s.align.last ∧ a.departures = l := ⟨_, _, _, rfl, rfl, rfl⟩
      clear_value s3
      obtain ⟨r, o, a, rfl, hlast, hdepartures⟩ := hframe3
      split
      · have hstatus := drift_shows { s with regs := r, out := o, align := a } h3
        obtain ⟨h4, hdrift, hint, ⟨r', o', hframe⟩, hregs⟩ := hstatus
        refine ⟨⟨r', o', a, hframe, hlast⟩, h4, hregs3.trans (hregs.mono (by simp)), fun _ => ⟨?_, fun _ _ => ⟨hdrift, hint⟩⟩⟩
        rw [hframe]
        exact hdepartures.trans hl
      · next hquiet =>
        refine ⟨⟨r, o, a, rfl, hlast⟩, h3, hregs3, fun _ => ⟨hdepartures.trans hl, fun _ h => ?_⟩⟩
        rw [← hl] at h
        exact absurd h hquiet

/-- The arrival of a pulse: it is compared, and every member but the leader passes it on (R225, R230). -/
theorem exec_syncArrival (arrival : Int) (hp : syncPasses s = true) :
    ∃ t u, exec (.syncArrival arrival) s = .next t ∧ u = syncArrival arrival { s with align := { s.align with last := s.time.uptime } } ∧
      t.regs = u.regs ∧ SameBytes u t ∧ t.align.last = u.align.last ∧ t.align.departures = u.align.departures ∧
      (isLeader s = false → Emission.syncPulse ∈ t.out) := by
  generalize hu : syncArrival arrival { s with align := { s.align with last := s.time.uptime } } = u
  obtain ⟨w, hwell⟩ := startWellCount_frame u
  have hexec : exec (.syncArrival arrival) s = .next (if isLeader s then startWellCount u
      else emit .syncPulse { startWellCount u with align := { (startWellCount u).align with pulse := some (pulseOrigin (startWellCount u)) } }) := by
    rw [← hu]
    exact congrArg Host.Outcome.next (if_neg (by simp [hp]))
  cases hl : isLeader s with
  | true =>
    rw [hl, if_pos rfl, hwell] at hexec
    exact ⟨_, _, hexec, rfl, rfl, ⟨fun _ => rfl, fun _ => rfl⟩, rfl, rfl, nofun⟩
  | false =>
    rw [hl, if_neg (by decide), hwell] at hexec
    exact ⟨_, _, hexec, rfl, rfl, ⟨fun _ => rfl, fun _ => rfl⟩, rfl, rfl, fun _ => List.mem_cons_self ..⟩

/-- What the arrival of a pulse comes to. -/
theorem syncArrival_arrives (arrival : Int) (hp : syncPasses s = true) :
    ∃ t, exec (.syncArrival arrival) s = .next t ∧ getBit t Reg.SHAPE_ALIGN_STATUS 4 = false ∧ t.align.last = s.time.uptime ∧ SameBytes s t ∧
      SameRegsBut [Reg.SHAPE_ALIGN_STATUS, Reg.SHAPE_SYNC_OFFSET, Reg.INT_STATUS (colPage 0)] s t ∧
      (isLeader s = false → Emission.syncPulse ∈ t.out) ∧
      (s.align.skip = false →
        t.align.departures = (departure s arrival :: s.align.departures).take 16 ∧
        (15 ≤ s.align.departures.length → 50000 * 16 < absI ((departure s arrival :: s.align.departures).take 16).sum * 15625 →
          getBit t Reg.SHAPE_ALIGN_STATUS 3 = true ∧ getBit t (Reg.INT_STATUS (colPage 0)) 9 = true)) := by
  obtain ⟨t, u, hexec, hu, hregs, hbytes, hlast, hdepartures, hpasses⟩ := exec_syncArrival arrival hp
  obtain ⟨⟨r, o, a, hframe, halast⟩, h4, husame, hdrift⟩ := syncArrival_shows arrival { s with align := { s.align with last := s.time.uptime } }
  rw [← hu] at hframe h4 husame hdrift
  have hreg : ∀ a, reg t a = reg u a := fun a => by rw [reg, hregs]; rfl
  refine ⟨t, hexec, by rw [getBit, hreg]; exact h4, by rw [hlast, hframe]; exact halast, ?_,
    fun a ha => (hreg a).trans (husame a ha), hpasses, fun hskip => ⟨hdepartures.trans (hdrift hskip).1, fun hlen hsum => ?_⟩⟩
  · have hsame : SameBytes s u := by
      rw [hframe]
      exact ⟨fun _ => rfl, fun _ => rfl⟩
    exact ⟨fun a => (hbytes.1 a).trans (hsame.1 a), fun a => (hbytes.2 a).trans (hsame.2 a)⟩
  · obtain ⟨h3, hint⟩ := (hdrift hskip).2 hlen hsum
    exact ⟨by rw [getBit, hreg]; exact h3, by rw [getBit, hreg]; exact hint⟩

/-- A pulse missing for 2 ms: NO_SYNC (R230). -/
theorem noSync_shows (hp : syncPasses s = true) :
    ∃ t, exec .noSync s = .next t ∧ getBit t Reg.SHAPE_ALIGN_STATUS 4 = true ∧ OnlyRegs [Reg.SHAPE_ALIGN_STATUS] { s with time := t.time } t :=
  ⟨_, congrArg Host.Outcome.next (if_pos hp), getBit_setB_same _ _ _ _ (by decide), (OnlyRegs.refl _ _).setB 4 true (by simp)⟩

end Sync

/-! ### EO level calibration (R231 to R234) -/

section LevelCalibration

/-- What a channel plays is abandoned: registers, that channel, and what has left the device. -/
theorem abandon_work (slot : Nat) (s : State) : StreamWork (fun _ => True) slot s (abandon slot s) := by
  have hdrop : StreamWork (fun _ => True) slot s (dropPending slot s) := ((StreamWork.refl (W := PlayWord 0) s).dropPending).mono fun _ _ => trivial
  have hstream : StreamWork (fun _ => True) slot s (abandonStream slot false (dropPending slot s)) := by
    generalize dropPending slot s = t at hdrop ⊢
    unfold abandonStream
    split
    · exact hdrop
    · next n hn =>
      have hslot : streamSlot t n = slot := by
        have hfound := List.find?_some hn
        simp only [Bool.and_eq_true, beq_iff_eq] at hfound
        exact hfound.2
      have hends := (StreamWork.refl (W := PlayWord n) t).streamEnds (streamedBy t n t.time.uptime)
      rw [hslot] at hends
      exact ((hdrop.trans (hends.mono fun _ _ => trivial)).setF 0 3 0 trivial).setB n _ trivial
  unfold abandon
  dsimp only
  split
  · exact hstream.trans (((StreamWork.refl (W := PlayWord 0) _).chainCut).mono fun _ _ => trivial)
  · exact hstream

variable {s : State} {req : Requester} {col : Fin 10} {tier : Fin 256} {dark m : Bool}

theorem exec_eoCalStart_refused (h : WriteReaches req (Reg.EO_CAL_CMD col) s)
    (hr : (driven s (256 * col.val + tier.val) = true ∧ dark = false) ∨ SMap.get (fun _ => none) s.eoCal col.val ≠ none ∨ parkForced s = true) :
    exec (.eoCalStart req col tier dark m) s = .next (setB (Reg.EO_CAL_STATUS col) 3 true s) := by
  refine congrArg Host.Outcome.next ((hostWrite_reaches _ h).trans (if_pos ?_))
  rcases hr with ⟨hd, hk⟩ | hc | hp
  · simp [hd, hk]
  · simp [Option.isSome_iff_ne_none.2 hc]
  · simp [hp]

/-- A calibration that begins: BUSY with the tier, and the slot is under calibration. -/
theorem eoCalStart_begins (h : WriteReaches req (Reg.EO_CAL_CMD col) s) (hd : driven s (256 * col.val + tier.val) = false ∨ dark = true)
    (hc : SMap.get (fun _ => none) s.eoCal col.val = none) (hp : parkForced s = false) :
    ∃ t, exec (.eoCalStart req col tier dark m) s = .next t ∧ reg t (Reg.EO_CAL_STATUS col) = word (1 + 256 * tier.val) ∧
      underEoCal t (256 * col.val + tier.val) = true ∧ SameBytes s t := by
  let s1 : State := { s with eoCal := SMap.set (fun _ => none) s.eoCal col (some ⟨tier, m, s.time.uptime⟩) }
  have hwork := abandon_work (256 * col.val + tier.val) s1
  have hexec : ∃ ch, exec (.eoCalStart req col tier dark m) s = .next (setReg (Reg.EO_CAL_STATUS col) (word (1 + 256 * tier.val))
      (setChannel (256 * col.val + tier.val) ch (abandon (256 * col.val + tier.val) s1))) := by
    refine ⟨_, congrArg Host.Outcome.next ((hostWrite_reaches _ h).trans (if_neg ?_))⟩
    rcases hd with hd | hd
    · simp [hd, hc, hp]
    · simp [hd, hc, hp]
  obtain ⟨ch, hexec⟩ := hexec
  have hbytes := ((hwork.setChannel ch).setReg (a := Reg.EO_CAL_STATUS col) (word (1 + 256 * tier.val)) trivial).sameBytes
  have hcal : (abandon (256 * col.val + tier.val) s1).eoCal = s1.eoCal := by
    obtain ⟨⟨r, o, e, c, v, f, g, hframe⟩, -, -⟩ := hwork
    rw [hframe]
  generalize abandon (256 * col.val + tier.val) s1 = u at hexec hbytes hcal
  refine ⟨_, hexec, reg_setReg_same _ _ _, ?_, hbytes⟩
  have hslot : SMap.get (fun _ => none) u.eoCal ((256 * col.val + tier.val) / 256) = some ⟨tier, m, s.time.uptime⟩ := by
    rw [show (256 * col.val + tier.val) / 256 = col.val by omega, hcal]
    exact SMap.get_set_same (fun _ => none) s.eoCal col.val (some ⟨tier, m, s.time.uptime⟩)
  unfold underEoCal
  rw [setReg_eoCal, show (setChannel (256 * col.val + tier.val) ch u).eoCal = u.eoCal from rfl, hslot]
  simp only [beq_iff_eq]
  omega

/-- The fields of EO_CAL_STATUS at a calibration's end. -/
theorem calStatus_fields {st k : Nat} (hst : st < 2 ^ 8) (hk : k < 256) :
    (∀ i, i < 8 → bitOf (word (st + 256 * k)) i = st.testBit i) ∧ fld (word (st + 256 * k)) 8 8 = k := by
  refine ⟨fun i hi => ?_, ?_⟩
  · rw [bitOf_word _ (by omega), ← Nat.testBit_eq_decide_div_mod_eq, Nat.add_comm]
    exact (Nat.testBit_two_pow_mul_add k hst i).trans (if_pos hi)
  · rw [fld_word _ _ _ (by decide)]
    omega

/-- What a calibration that ends shows of its outcome. -/
def calEnds (col k st : Nat) (s : State) : State :=
  setInt (colPage col) 0 (setReg (Reg.EO_CAL_STATUS col) (word (st + 256 * k)) s)

theorem calEnds_only (col k st : Nat) (s : State) : OnlyRegsOut [Reg.EO_CAL_STATUS col, Reg.INT_STATUS (colPage col)] s (calEnds col k st s) :=
  ((OnlyRegsOut.refl _ s).setReg _ (by simp)).setInt _ _ (by simp)

theorem calEnds_shows {k st : Nat} (hst : st < 2 ^ 8) (hk : k < 256) (col : Nat) (s : State) :
    getBit (calEnds col k st s) (Reg.INT_STATUS (colPage col)) 0 = true ∧
      (∀ i, i < 8 → getBit (calEnds col k st s) (Reg.EO_CAL_STATUS col) i = st.testBit i) ∧ getF (calEnds col k st s) (Reg.EO_CAL_STATUS col) 8 8 = k := by
  have hne : Reg.INT_STATUS (colPage col) ≠ Reg.EO_CAL_STATUS col := by
    simp only [Reg.INT_STATUS, colPage, pageBase, Reg.EO_CAL_STATUS]
    omega
  have hreg : reg (calEnds col k st s) (Reg.EO_CAL_STATUS col) = word (st + 256 * k) := by
    rw [calEnds, reg_setInt_other _ _ _ hne, reg_setReg_same]
  obtain ⟨hbits, htier⟩ := calStatus_fields hst hk
  refine ⟨getBit_setInt _ _ _ (by decide), fun i hi => ?_, ?_⟩
  · rw [getBit, hreg, hbits i hi]
  · rw [getF, hreg, htier]

/-- The state in which a calibration's outcome is written: the calibration gone, the slot's dither from now. -/
def calOver (col : Nat) (c : EoCal) (s : State) : State :=
  ditherFrom (256 * col + c.tier) { s with eoCal := SMap.set (fun _ => none) s.eoCal col none }

/-- The levels that a calibration writes, in both copies. -/
def calLevels (col : Nat) (c : EoCal) (hi lo : Word) (s : State) : State :=
  setLevelBoth (Reg.EO_BAR (256 * col + c.tier)) (if c.maxIsCross then lo else hi)
    (setLevelBoth (Reg.EO_CROSS (256 * col + c.tier)) (if c.maxIsCross then hi else lo) s)

variable {r1 r2 : SweepRun} {c : EoCal}

theorem exec_eoCalComplete_blank (hc : SMap.get (fun _ => none) s.eoCal col.val = some c) (h : runExtremes r1 = none ∨ runExtremes r2 = none) :
    exec (.eoCalComplete col r1 r2) s = .next (calEnds col c.tier 22 (calOver col c s)) := by
  show execEoCalComplete col r1 r2 s = _
  unfold execEoCalComplete
  rw [hc]
  rcases h with h | h
  · rw [h]
    rfl
  · rw [h]
    cases runExtremes r1 <;> rfl

theorem exec_eoCalComplete_differ {a b : Rat × Rat} (hc : SMap.get (fun _ => none) s.eoCal col.val = some c) (ha : runExtremes r1 = some a)
    (hb : runExtremes r2 = some b) (h : extremesAgree a.1 b.1 = false ∨ extremesAgree a.2 b.2 = false) :
    exec (.eoCalComplete col r1 r2) s = .next (calEnds col c.tier 6 (calOver col c s)) := by
  show execEoCalComplete col r1 r2 s = _
  unfold execEoCalComplete
  rw [hc, ha, hb]
  refine congrArg Host.Outcome.next (if_neg ?_)
  rcases h with h | h
  · simp [h]
  · simp [h]

theorem exec_eoCalComplete_agree {a b : Rat × Rat} (hc : SMap.get (fun _ => none) s.eoCal col.val = some c) (ha : runExtremes r1 = some a)
    (hb : runExtremes r2 = some b) (h1 : extremesAgree a.1 b.1 = true) (h2 : extremesAgree a.2 b.2 = true) :
    ∃ e, exec (.eoCalComplete col r1 r2) s =
      .next (calEnds col c.tier 2 { calLevels col c (calLevel a.1 b.1) (calLevel a.2 b.2) (calOver col c s) with eo := e }) := by
  have hexec : execEoCalComplete col r1 r2 s = .next (calEnds col c.tier 2 (
      let s2 := calLevels col c (calLevel a.1 b.1) (calLevel a.2 b.2) (calOver col c s)
      let ch := channel s2 (256 * col.val + c.tier)
      if ch.state == .parked then s2 else setChannel (256 * col.val + c.tier)
        { ch.stepTo (serviceLevel s2 (256 * col.val + c.tier) ch.cross ch.atten) with state := .hold } s2)) := by
    unfold execEoCalComplete
    rw [hc, ha, hb]
    exact congrArg Host.Outcome.next (if_pos (by simp [h1, h2]))
  dsimp only at hexec
  split at hexec
  · exact ⟨_, hexec⟩
  · exact ⟨_, hexec⟩

/-- Both copies of the two levels, as written. -/
theorem calLevels_writes (col : Nat) (c : EoCal) (hi lo : Word) (s : State) :
    reg (calLevels col c hi lo s) (Reg.EO_BAR (256 * col + c.tier)) = (if c.maxIsCross then lo else hi) ∧
      act (calLevels col c hi lo s) (Reg.EO_BAR (256 * col + c.tier)) = (if c.maxIsCross then lo else hi) ∧
      reg (calLevels col c hi lo s) (Reg.EO_CROSS (256 * col + c.tier)) = (if c.maxIsCross then hi else lo) ∧
      act (calLevels col c hi lo s) (Reg.EO_CROSS (256 * col + c.tier)) = (if c.maxIsCross then hi else lo) := by
  have hne : Reg.EO_BAR (256 * col + c.tier) ≠ Reg.EO_CROSS (256 * col + c.tier) := by unfold Reg.EO_BAR Reg.EO_CROSS; omega
  unfold calLevels setLevelBoth
  refine ⟨?_, ?_, ?_, ?_⟩
  · rw [reg_setAct, reg_setReg_same]
  · rw [act_setAct, if_pos rfl]
  · rw [reg_setAct, reg_setReg_other _ _ hne, reg_setAct, reg_setReg_same]
  · rw [act_setAct, if_neg hne]
    exact (act_setAct _ _ _ _).trans (if_pos rfl)

end LevelCalibration

section CalibrationEnd

variable {s : State} {col : Fin 10} {r1 r2 : SweepRun} {c : EoCal}

/-- What a calibration's end leaves beside its status: the calibration gone, and memory as it was. -/
theorem calEnds_leaves {k st : Nat} (col : Nat) {u : State} (hcal : SMap.get (fun _ => none) u.eoCal col = none) (hbytes : SameBytes s u) :
    SMap.get (fun _ => none) (calEnds col k st u).eoCal col = none ∧ SameBytes s (calEnds col k st u) ∧
      (calEnds col k st u).active = u.active ∧ (calEnds col k st u).eo = u.eo := by
  obtain ⟨⟨r, o, hframe⟩, -⟩ := calEnds_only col k st u
  rw [hframe]
  exact ⟨hcal, hbytes, rfl, rfl⟩

/-- A calibration without an outcome ends with every level as it was. -/
theorem eoCalFails_shows {st : Nat} (hst : st < 2 ^ 8) (hk : c.tier < 256) :
    SMap.get (fun _ => none) (calEnds col c.tier st (calOver col c s)).eoCal col = none ∧
      getBit (calEnds col c.tier st (calOver col c s)) (Reg.INT_STATUS (colPage col)) 0 = true ∧
      (∀ i, i < 8 → getBit (calEnds col c.tier st (calOver col c s)) (Reg.EO_CAL_STATUS col) i = st.testBit i) ∧
      getF (calEnds col c.tier st (calOver col c s)) (Reg.EO_CAL_STATUS col) 8 8 = c.tier ∧
      SameBytes s (calEnds col c.tier st (calOver col c s)) ∧
      (calEnds col c.tier st (calOver col c s)).active = s.active ∧ (calEnds col c.tier st (calOver col c s)).eo = s.eo := by
  obtain ⟨hint, hbits, htier⟩ := calEnds_shows hst hk col (calOver col c s)
  obtain ⟨hcal, hbytes, hactive, heo⟩ := calEnds_leaves (s := s) (k := c.tier) (st := st) col (u := calOver col c s)
    (SMap.get_set_same (fun _ => none) s.eoCal col none) ⟨fun _ => rfl, fun _ => rfl⟩
  exact ⟨hcal, hint, hbits, htier, hbytes, hactive, heo⟩

/-- The words of the element table stand as a calibration's outcome is shown. -/
theorem calEnds_keepsLevel (col k st a : Nat) (ha : 0x1000000 ≤ a) (hcol : col < 10) (s : State) : reg (calEnds col k st s) a = reg s a := by
  refine (reg_setInt_other _ _ _ ?_).trans (reg_setReg_other _ _ ?_)
  · simp only [Reg.INT_STATUS, colPage, pageBase]
    omega
  · unfold Reg.EO_CAL_STATUS
    omega

/-- A calibration whose runs agree ends with the levels in both copies. -/
theorem eoCalAgrees_shows (hi lo : Word) (e : SMap EoChannel) (hk : c.tier < 256) :
    ∃ t, t = calEnds col c.tier 2 { calLevels col c hi lo (calOver col c s) with eo := e } ∧ SMap.get (fun _ => none) t.eoCal col = none ∧
      getBit t (Reg.INT_STATUS (colPage col)) 0 = true ∧
      (∀ i, i < 8 → getBit t (Reg.EO_CAL_STATUS col) i = (2 : Nat).testBit i) ∧ getF t (Reg.EO_CAL_STATUS col) 8 8 = c.tier ∧ SameBytes s t ∧
      reg t (Reg.EO_BAR (256 * col.val + c.tier)) = (if c.maxIsCross then lo else hi) ∧
      act t (Reg.EO_BAR (256 * col.val + c.tier)) = (if c.maxIsCross then lo else hi) ∧
      reg t (Reg.EO_CROSS (256 * col.val + c.tier)) = (if c.maxIsCross then hi else lo) ∧
      act t (Reg.EO_CROSS (256 * col.val + c.tier)) = (if c.maxIsCross then hi else lo) := by
  obtain ⟨hbar, hbarAct, hcross, hcrossAct⟩ := calLevels_writes col c hi lo (calOver col c s)
  have hgone : SMap.get (fun _ => none) (calLevels col c hi lo (calOver col c s)).eoCal col.val = none :=
    SMap.get_set_same (fun _ => none) s.eoCal col none
  have hsame : SameBytes s (calLevels col c hi lo (calOver col c s)) := ⟨fun _ => rfl, fun _ => rfl⟩
  generalize calLevels col c hi lo (calOver col c s) = u at hbar hbarAct hcross hcrossAct hgone hsame ⊢
  obtain ⟨hint, hbits, htier⟩ := calEnds_shows (st := 2) (by decide) hk col { u with eo := e }
  obtain ⟨hcal, hbytes, hactive, -⟩ := calEnds_leaves (s := s) (k := c.tier) (st := 2) col (u := { u with eo := e }) hgone hsame
  have hlevel := calEnds_keepsLevel col c.tier 2 (Reg.EO_BAR (256 * col.val + c.tier)) (by unfold Reg.EO_BAR; omega) col.isLt { u with eo := e }
  have hlevel' := calEnds_keepsLevel col c.tier 2 (Reg.EO_CROSS (256 * col.val + c.tier)) (by unfold Reg.EO_CROSS; omega) col.isLt { u with eo := e }
  have hact : ∀ a, act (calEnds col c.tier 2 { u with eo := e }) a = act u a := fun a => by rw [act, hactive]; rfl
  exact ⟨_, rfl, hcal, hint, hbits, htier, hbytes, hlevel.trans hbar, (hact _).trans hbarAct, hlevel'.trans hcross, (hact _).trans hcrossAct⟩

/-- A level calibration's end, by what its two runs found (R232). -/
theorem eoCalComplete_ends (hc : SMap.get (fun _ => none) s.eoCal col.val = some c) (hk : c.tier < 256) :
    ∃ t, exec (.eoCalComplete col r1 r2) s = .next t ∧ SMap.get (fun _ => none) t.eoCal col.val = none ∧
      getBit t (Reg.INT_STATUS (colPage col)) 0 = true ∧ getBit t (Reg.EO_CAL_STATUS col) 0 = false ∧ getBit t (Reg.EO_CAL_STATUS col) 1 = true ∧
      getF t (Reg.EO_CAL_STATUS col) 8 8 = c.tier ∧ SameBytes s t ∧
      (runExtremes r1 = none ∨ runExtremes r2 = none → getBit t (Reg.EO_CAL_STATUS col) 4 = true ∧ getBit t (Reg.EO_CAL_STATUS col) 2 = true ∧ t.active = s.active ∧ t.eo = s.eo) ∧
      (∀ a b, runExtremes r1 = some a → runExtremes r2 = some b →
        (extremesAgree a.1 b.1 = false ∨ extremesAgree a.2 b.2 = false →
          getBit t (Reg.EO_CAL_STATUS col) 2 = true ∧ getBit t (Reg.EO_CAL_STATUS col) 4 = false ∧ t.active = s.active ∧ t.eo = s.eo) ∧
        (extremesAgree a.1 b.1 = true → extremesAgree a.2 b.2 = true →
          getBit t (Reg.EO_CAL_STATUS col) 2 = false ∧
          reg t (Reg.EO_BAR (256 * col.val + c.tier)) = (if c.maxIsCross then calLevel a.2 b.2 else calLevel a.1 b.1) ∧
          act t (Reg.EO_BAR (256 * col.val + c.tier)) = reg t (Reg.EO_BAR (256 * col.val + c.tier)) ∧
          reg t (Reg.EO_CROSS (256 * col.val + c.tier)) = (if c.maxIsCross then calLevel a.1 b.1 else calLevel a.2 b.2) ∧
          act t (Reg.EO_CROSS (256 * col.val + c.tier)) = reg t (Reg.EO_CROSS (256 * col.val + c.tier)))) := by
  by_cases hblank : runExtremes r1 = none ∨ runExtremes r2 = none
  · obtain ⟨hcal, hint, hbits, htier, hbytes, hactive, heo⟩ := eoCalFails_shows (s := s) (col := col) (st := 22) (by decide) hk
    refine ⟨_, exec_eoCalComplete_blank hc hblank, hcal, hint, hbits 0 (by decide), hbits 1 (by decide), htier, hbytes,
      fun _ => ⟨hbits 4 (by decide), hbits 2 (by decide), hactive, heo⟩, fun a b ha hb => ?_⟩
    rcases hblank with h | h
    · rw [h] at ha
      contradiction
    · rw [h] at hb
      contradiction
  · have hfound : ∃ a b, runExtremes r1 = some a ∧ runExtremes r2 = some b := by
      rw [not_or] at hblank
      obtain ⟨a, ha⟩ := Option.ne_none_iff_exists'.1 hblank.1
      obtain ⟨b, hb⟩ := Option.ne_none_iff_exists'.1 hblank.2
      exact ⟨a, b, ha, hb⟩
    obtain ⟨a, b, ha, hb⟩ := hfound
    by_cases hagree : extremesAgree a.1 b.1 = true ∧ extremesAgree a.2 b.2 = true
    · obtain ⟨e, hexec⟩ := exec_eoCalComplete_agree hc ha hb hagree.1 hagree.2
      obtain ⟨t, ht, hcal, hint, hbits, htier, hbytes, hbar, hbarAct, hcross, hcrossAct⟩ :=
        eoCalAgrees_shows (s := s) (col := col) (calLevel a.1 b.1) (calLevel a.2 b.2) e hk
      rw [← ht] at hexec
      refine ⟨t, hexec, hcal, hint, hbits 0 (by decide), hbits 1 (by decide), htier, hbytes, fun h => absurd h hblank, fun a' b' ha' hb' => ?_⟩
      obtain rfl := Option.some.inj (ha.symm.trans ha')
      obtain rfl := Option.some.inj (hb.symm.trans hb')
      refine ⟨fun h => ?_, fun _ _ => ⟨hbits 2 (by decide), hbar, hbarAct.trans hbar.symm, hcross, hcrossAct.trans hcross.symm⟩⟩
      rcases h with h | h
      · exact absurd hagree.1 (by simp [h])
      · exact absurd hagree.2 (by simp [h])
    · have hdiffer : extremesAgree a.1 b.1 = false ∨ extremesAgree a.2 b.2 = false := by
        rw [not_and_or, Bool.not_eq_true, Bool.not_eq_true] at hagree
        exact hagree
      obtain ⟨hcal, hint, hbits, htier, hbytes, hactive, heo⟩ := eoCalFails_shows (s := s) (col := col) (st := 6) (by decide) hk
      refine ⟨_, exec_eoCalComplete_differ hc ha hb hdiffer, hcal, hint, hbits 0 (by decide), hbits 1 (by decide), htier, hbytes,
        fun h => absurd h hblank, fun a' b' ha' hb' => ?_⟩
      obtain rfl := Option.some.inj (ha.symm.trans ha')
      obtain rfl := Option.some.inj (hb.symm.trans hb')
      exact ⟨fun _ => ⟨hbits 2 (by decide), hbits 4 (by decide), hactive, heo⟩, fun h1 h2 => absurd ⟨h1, h2⟩ hagree⟩

end CalibrationEnd

/-- Settles O34. A skew calibration begins and ends as its messages say, a SYNC pulse leaves and arrives, and a level calibration
writes the levels of the runs that agree. -/
theorem alignmentAndLevelCalibration : Obligations.AlignmentAndLevelCalibration := by
  unfold Obligations.AlignmentAndLevelCalibration
  refine ⟨fun req m s h => ⟨fun hl => ?_, exec_skewCal_member h m⟩, fun p m s hp hl hs => ?_, fun m a1 a2 others s x => skewCalComplete_ends m a1 a2 others,
    fun n s => exec_syncEmit_idle, fun s u n ms => syncEmit_emits, fun arrival s => syncArrival_arrives arrival, fun s => noSync_shows,
    fun req col tier dark m s h => ⟨fun hr => ?_, eoCalStart_begins h⟩, fun col r1 r2 s c => eoCalComplete_ends⟩
  · obtain ⟨hbusy, hdone, hfirst, hregs, hbytes⟩ := skewBegin_begins m s
    obtain ⟨r, o, hexec⟩ := exec_skewCal_leader h m hl
    generalize skewBegin m s = u at hexec hbusy hdone hfirst hregs hbytes
    have hshown : ∀ a, a ≠ Reg.SHAPE_LOOP_DELAY → reg (showLoopDelay m u) a = reg u a := fun a ha => reg_setF_other _ _ _ _ ha.symm
    have hstatus := hshown Reg.SHAPE_ALIGN_STATUS (by decide)
    refine ⟨_, hexec, (congrArg (bitOf · 0) hstatus).trans hbusy, (congrArg (bitOf · 1) hstatus).trans hdone, ?_, hfirst, fun a ha => ?_, hbytes⟩
    · exact (getF_setF_same _ _ _ _ _ (by decide)).trans (Nat.mod_eq_of_lt m.loopDelay.isLt)
    · simp only [List.mem_cons, List.not_mem_nil, or_false, not_or] at ha
      exact (hshown a ha.2).trans (hregs a (by simp [ha.1]))
  · exact ⟨_, exec_skewCalMessage_measure m hp hl hs, skewBegin_begins m (frameCame s)⟩
  · exact ⟨_, exec_eoCalStart_refused h hr, getBit_setB_same _ _ _ _ (by decide), (OnlyRegs.refl _ s).setB 3 true (by simp)⟩

end Sys2Proof.Machine
end

section
/-! PROOF. Time in a ring (R227, R445, R458, R469): probes, the offset and the trust in it, and its correction. -/

namespace Sys2Proof.Machine

open Sys2Proof

variable {s : State}

/-! ### Probes and their messages (R445) -/

theorem neighbourSend_frame (kind : Nat) (lanes content : List Nat) (s : State) :
    ∃ r o, neighbourSend kind lanes content s = { s with ring := r, out := o } := by
  unfold neighbourSend
  split
  · exact ⟨_, _, rfl⟩
  · obtain ⟨r, hr⟩ := forEach_ring (fun l t => hopSend_frame kind content.length 1 false [l] (laneHop l) t) lanes s
    rw [hr]
    exact ⟨_, _, rfl⟩

/-- A message to neighbours leaves, where there is a ring and a lane for it. -/
theorem neighbourSend_sent {lanes : List Nat} (kind : Nat) (content : List Nat) (hr : standAlone s = false) (hl : lanes ≠ []) :
    RingSent kind (neighbourSend kind lanes content s) := by
  unfold neighbourSend
  rw [if_neg (by simp [hr, hl])]
  exact ⟨_, _, List.mem_cons_self ..⟩

theorem periodic_regs (kind period : Nat) (s : State) : (periodic kind period s).regs = s.regs := by
  unfold periodic
  cases SMap.get (fun _ => none) s.ring.sentAt kind with
  | none => rfl
  | some t => rfl

theorem standAlone_of_runs (h : ringRuns s = true) : standAlone s = false := by
  unfold ringRuns at h
  simp only [Bool.and_eq_true, Bool.not_eq_true'] at h
  exact h.1.1

/-- The probes of a member leave on its lanes that are up to neighbours not in probe. -/
theorem timeProbeSend_sends (hr : ringRuns s = true) (hl : ∃ l, l < 4 ∧ laneState s l = 2 ∧ probed s (laneNeighbour s l) = false) :
    ∃ t, exec .timeProbeSend s = .next t ∧ RingSent 0x30 t ∧ t.regs = s.regs := by
  obtain ⟨l, hl4, hup, hopen⟩ := hl
  have hregs := periodic_regs 0x30 1000000 s
  have hexec : ∃ lanes, l ∈ lanes ∧ exec .timeProbeSend s = .next (neighbourSend 0x30 lanes lanes (periodic 0x30 1000000 s)) :=
    ⟨_, by simp [hl4, hup, hopen], congrArg Host.Outcome.next (if_pos hr)⟩
  obtain ⟨lanes, hmem, hexec⟩ := hexec
  generalize periodic 0x30 1000000 s = u at hexec hregs
  have halone : standAlone u = false := by
    rw [standAlone, ringSize, getF, reg, hregs]
    exact standAlone_of_runs hr
  obtain ⟨r, o, hframe⟩ := neighbourSend_frame 0x30 lanes lanes u
  refine ⟨_, hexec, neighbourSend_sent _ _ halone (List.ne_nil_of_mem hmem), ?_⟩
  rw [hframe]
  exact hregs

/-! ### Trust in the own offset (R445, R458) -/

/-- The words that a loss of trust shows itself in. -/
abbrev trustWords : List Nat := [Reg.RING_STATUS, Reg.INT_STATUS ringPage, Reg.FAULT_STATUS ringPage]

/-- A member that loses trust: TRUSTED clears, with the interrupt and the fault where it was set. -/
theorem loseTrust_loses (s : State) :
    (∃ r o f, loseTrust s = { s with regs := r, out := o, flt := f, ring := { s.ring with goodRun := 0 } }) ∧
      getBit (loseTrust s) Reg.RING_STATUS 9 = false ∧
      (getBit s Reg.RING_STATUS 9 = true →
        getBit (loseTrust s) (Reg.INT_STATUS ringPage) 4 = true ∧ getBit (loseTrust s) (Reg.FAULT_STATUS ringPage) 2 = true) ∧
      SameRegsBut trustWords s (loseTrust s) := by
  unfold loseTrust
  extract_lets s1
  have h1 : (∃ q, s1 = { s with ring := q } ∧ q = { s.ring with goodRun := 0 }) ∧ SameRegsBut trustWords s s1 := ⟨⟨_, rfl, rfl⟩, fun _ _ => rfl⟩
  have hbit : getBit s1 Reg.RING_STATUS 9 = getBit s Reg.RING_STATUS 9 := rfl
  clear_value s1
  obtain ⟨⟨q, rfl, hq⟩, hregs⟩ := h1
  rw [hbit, ← hq]
  split
  · next htrusted =>
    have hcleared : getBit (setB Reg.RING_STATUS 9 false { s with ring := q }) Reg.RING_STATUS 9 = false := getBit_setB_same _ _ _ _ (by decide)
    have hstep : SameRegsBut trustWords s (setB Reg.RING_STATUS 9 false { s with ring := q }) := hregs.setReg _ (by simp)
    have hframe : ∃ r, setB Reg.RING_STATUS 9 false { s with ring := q } = { s with regs := r, ring := q } := ⟨_, rfl⟩
    generalize setB Reg.RING_STATUS 9 false { s with ring := q } = u at hcleared hstep hframe
    obtain ⟨r, rfl⟩ := hframe
    obtain ⟨r', o, hint⟩ := setInt_frame ringPage 4 { s with regs := r, ring := q }
    have hraised : getBit (setInt ringPage 4 { s with regs := r, ring := q }) (Reg.INT_STATUS ringPage) 4 = true := getBit_setInt _ _ _ (by decide)
    have hsince : ∀ a, Reg.INT_STATUS ringPage ≠ a → reg (setInt ringPage 4 { s with regs := r, ring := q }) a = reg { s with regs := r, ring := q } a :=
      fun a ha => reg_setInt_other _ _ _ ha
    rw [hint] at hraised hsince ⊢
    obtain ⟨r'', f, hfault⟩ := setFault_frame ringPage 2 { s with regs := r', out := o, ring := q }
    refine ⟨⟨r'', o, f, hfault⟩, ?_, fun _ => ⟨?_, getBit_setFault _ _ _ (by decide)⟩, ?_⟩
    · rw [getBit_setFault_other _ _ _ _ (by decide), getBit, hsince _ (by decide)]
      exact hcleared
    · rw [getBit_setFault_other _ _ _ _ (by decide)]
      exact hraised
    · refine SameRegsBut.setFault (fun a ha => (hsince a fun h => ha (by simp [← h])).trans (hstep a ha)) 2 (by simp)
  · next hno => exact ⟨⟨_, _, _, rfl⟩, Bool.eq_false_iff.2 hno, fun h => absurd h hno, hregs⟩

/-- A measurement of the offset, against RING_TIME_TOL. -/
theorem measureTrust_shows (theta : Int) (s : State) :
    (measureTrust theta s).ring.offset = theta ∧ (measureTrust theta s).ring.lastOffset = some s.time.uptime ∧
      (measureTrust theta s).time = s.time ∧ SameRegsBut trustWords s (measureTrust theta s) ∧
      (absI theta ≤ 16 * getF s Reg.RING_TIME_TOL 0 10 →
        (measureTrust theta s).ring.goodRun = s.ring.goodRun + 1 ∧ (measureTrust theta s).ring.overSince = none ∧
        (1 ≤ s.ring.goodRun → getBit (measureTrust theta s) Reg.RING_STATUS 9 = true)) ∧
      (16 * getF s Reg.RING_TIME_TOL 0 10 < absI theta →
        (measureTrust theta s).ring.goodRun = 0 ∧ getBit (measureTrust theta s) Reg.RING_STATUS 9 = false ∧
        (getBit s Reg.RING_STATUS 9 = true →
          getBit (measureTrust theta s) (Reg.INT_STATUS ringPage) 4 = true ∧ getBit (measureTrust theta s) (Reg.FAULT_STATUS ringPage) 2 = true)) := by
  unfold measureTrust
  extract_lets now s1 s2
  have htol : getF s1 Reg.RING_TIME_TOL 0 10 = getF s Reg.RING_TIME_TOL 0 10 := rfl
  split
  · next hout =>
    have hover : ∃ q, modRing (fun r => { r with overSince := some (r.overSince.getD now) }) s1 = { s with ring := q } ∧
        q.offset = theta ∧ q.lastOffset = some s.time.uptime := ⟨_, rfl, rfl, rfl⟩
    obtain ⟨q, hover, hoffset, hlast⟩ := hover
    rw [hover]
    obtain ⟨⟨r, o, f, hframe⟩, huntrusted, hraised, hregs⟩ := loseTrust_loses { s with ring := q }
    refine ⟨?_, ?_, ?_, hregs, fun h => absurd hout (Nat.not_lt.2 h), fun _ => ⟨?_, huntrusted, hraised⟩⟩
    · rw [hframe]
      exact hoffset
    · rw [hframe]
      exact hlast
    · rw [hframe]
    · rw [hframe]
  · next hin =>
    have hgood : ∃ q, s2 = { s with ring := q } ∧ q.offset = theta ∧ q.lastOffset = some s.time.uptime ∧ q.overSince = none ∧
        q.goodRun = s.ring.goodRun + 1 := ⟨_, rfl, rfl, rfl, rfl, rfl⟩
    clear_value s2
    obtain ⟨q, rfl, hoffset, hlast, hover, hrun⟩ := hgood
    split
    · have htrusted : getBit (setB Reg.RING_STATUS 9 true { s with ring := q }) Reg.RING_STATUS 9 = true := getBit_setB_same _ _ _ _ (by decide)
      have hregs : SameRegsBut trustWords s (setB Reg.RING_STATUS 9 true { s with ring := q }) :=
        SameRegsBut.setReg (s := s) (t := { s with ring := q }) (fun _ _ => rfl) _ (by simp)
      have hframe : ∃ r, setB Reg.RING_STATUS 9 true { s with ring := q } = { s with regs := r, ring := q } := ⟨_, rfl⟩
      generalize setB Reg.RING_STATUS 9 true { s with ring := q } = u at htrusted hregs hframe ⊢
      obtain ⟨r, rfl⟩ := hframe
      exact ⟨hoffset, hlast, rfl, hregs, fun _ => ⟨hrun, hover, fun _ => htrusted⟩, fun h => absurd h hin⟩
    · next hfirst => exact ⟨hoffset, hlast, rfl, fun _ _ => rfl, fun _ => ⟨hrun, hover, fun h => absurd (show 2 ≤ q.goodRun by omega) hfirst⟩, fun h => absurd h hin⟩

/-! ### The correction (R463, R469) -/

/-- A slew's increment lies in the range of an increment. -/
theorem incrOk_slewFor (incr : Nat) (theta : Int) : incrOk (slewFor incr theta) = true := by
  unfold slewFor
  generalize openDiv ((incr : Int) * (16000000 - theta)) 16000000 = x
  unfold incrOk clampInt
  simp only [Bool.and_eq_true, decide_eq_true_eq]
  split
  · decide
  · split
    · decide
    · omega

/-- What the correction changes: TIME_STATUS, and the clock's step or slew. -/
theorem correctOffset_corrects (theta : Int) (s : State) :
    (∃ r c, correctOffset theta s = { s with regs := r, time := c }) ∧ SameRegsBut [Reg.TIME_STATUS] s (correctOffset theta s) ∧
      (s.time.running = true → 16000 ≤ absI theta → getBit s Reg.TIME_STATUS 0 = false →
        getBit (correctOffset theta s) Reg.TIME_STATUS 0 = true ∧
          (correctOffset theta s).time.step = some (1, unsignedOf 64 (openDiv (-theta) 16), 0, s.time.uptime + 10)) ∧
      (s.time.running = true → absI theta < 16000 ∨ getBit s Reg.TIME_STATUS 0 = true →
        (correctOffset theta s).time.slew = some (slewFor s.time.restIncr theta, 500000)) := by
  unfold correctOffset
  split
  · next hstill => exact ⟨⟨_, _, rfl⟩, fun _ _ => rfl, fun h => by simp [h] at hstill, fun h => by simp [h] at hstill⟩
  · split
    · next hsteps =>
      simp only [Bool.and_eq_true, decide_eq_true_eq, Bool.not_eq_true'] at hsteps
      refine ⟨⟨_, _, rfl⟩, SameRegsBut.setReg (fun _ _ => rfl) _ (by simp), fun _ _ _ => ⟨getBit_setB_same _ _ _ _ (by decide), rfl⟩, fun _ h => ?_⟩
      rcases h with h | h
      · omega
      · exact absurd h (by simp [hsteps.2])
    · next hslews =>
      refine ⟨⟨_, _, rfl⟩, SameRegsBut.setReg (fun _ _ => rfl) _ (by simp), fun _ hbig hunused => ?_, fun _ _ => rfl⟩
      exact absurd (by simp [hbig, hunused]) hslews

/-! ### The commands -/

theorem exec_timeProbe {lane : Fin 4} {t1 t2 t3 t4 theta : Int} (hr : ringRuns s = true) (hj : joinState s = 2) (hl : ringLeader s = false)
    (hmem : lane.val ∈ hopLanes (hopTo s (leaderPos s))) (hup : laneState s lane = 2) (hopen : probed s (laneNeighbour s lane) = false)
    (htheta : theta = -openDiv ((t2 - t1) - (t4 - t3)) 2 +
      (if laneNeighbour s lane = leaderPos s then 0 else (peer s (laneNeighbour s lane)).offset)) :
    exec (.timeProbe lane t1 t2 t3 t4) s =
      .next (if getBit (measureTrust theta s) Reg.RING_CFG 10 then correctOffset theta (measureTrust theta s) else measureTrust theta s) := by
  subst htheta
  exact congrArg Host.Outcome.next (if_neg (by simp [hr, hj, hl, hmem, hup, hopen]))

/-- An exchange towards the leader: the offset measured, and corrected where the member takes its time from the ring. -/
theorem timeProbe_measures {lane : Fin 4} {t1 t2 t3 t4 theta : Int} (hr : ringRuns s = true) (hj : joinState s = 2) (hl : ringLeader s = false)
    (hmem : lane.val ∈ hopLanes (hopTo s (leaderPos s))) (hup : laneState s lane = 2) (hopen : probed s (laneNeighbour s lane) = false)
    (htheta : theta = -openDiv ((t2 - t1) - (t4 - t3)) 2 +
      (if laneNeighbour s lane = leaderPos s then 0 else (peer s (laneNeighbour s lane)).offset)) :
    ∃ t, exec (.timeProbe lane t1 t2 t3 t4) s = .next t ∧ t.ring.offset = theta ∧ t.ring.lastOffset = some s.time.uptime ∧
      (absI theta ≤ 16 * getF s Reg.RING_TIME_TOL 0 10 → t.ring.goodRun = s.ring.goodRun + 1 ∧ t.ring.overSince = none ∧
        (1 ≤ s.ring.goodRun → getBit t Reg.RING_STATUS 9 = true)) ∧
      (16 * getF s Reg.RING_TIME_TOL 0 10 < absI theta → t.ring.goodRun = 0 ∧ getBit t Reg.RING_STATUS 9 = false ∧
        (getBit s Reg.RING_STATUS 9 = true → getBit t (Reg.INT_STATUS ringPage) 4 = true ∧ getBit t (Reg.FAULT_STATUS ringPage) 2 = true)) ∧
      (getBit s Reg.RING_CFG 10 = true → s.time.running = true → 16000 ≤ absI theta → getBit s Reg.TIME_STATUS 0 = false →
        getBit t Reg.TIME_STATUS 0 = true ∧ t.time.step = some (1, unsignedOf 64 (openDiv (-theta) 16), 0, s.time.uptime + 10)) ∧
      (getBit s Reg.RING_CFG 10 = true → s.time.running = true → absI theta < 16000 ∨ getBit s Reg.TIME_STATUS 0 = true →
        t.time.slew = some (slewFor s.time.restIncr theta, 500000) ∧ incrOk (slewFor s.time.restIncr theta) = true) ∧
      (getBit s Reg.RING_CFG 10 = false → t.time = s.time) := by
  have hexec := exec_timeProbe hr hj hl hmem hup hopen htheta
  obtain ⟨hoffset, hlast, htime, hregs, hin, hout⟩ := measureTrust_shows theta s
  generalize measureTrust theta s = u at hexec hoffset hlast htime hregs hin hout
  have hcfg : getBit u Reg.RING_CFG 10 = getBit s Reg.RING_CFG 10 := congrArg (bitOf · 10) (hregs _ (by decide))
  have hstepped : getBit u Reg.TIME_STATUS 0 = getBit s Reg.TIME_STATUS 0 := congrArg (bitOf · 0) (hregs _ (by decide))
  rw [hcfg] at hexec
  cases hdiscipline : getBit s Reg.RING_CFG 10 with
  | false =>
    rw [hdiscipline, if_neg (by decide)] at hexec
    exact ⟨u, hexec, hoffset, hlast, hin, hout, nofun, nofun, fun _ => htime⟩
  | true =>
    rw [hdiscipline, if_pos rfl] at hexec
    obtain ⟨⟨r, c, hframe⟩, hkeep, hstep, hslew⟩ := correctOffset_corrects theta u
    rw [htime, hstepped] at hstep hslew
    generalize correctOffset theta u = t at hexec hframe hkeep hstep hslew
    have hring : t.ring = u.ring := by rw [hframe]
    have hbit : ∀ a i, a ≠ Reg.TIME_STATUS → getBit t a i = getBit u a i := fun a i ha => congrArg (bitOf · i) (hkeep a (by simpa using ha))
    rw [← hring] at hoffset hlast hin hout
    rw [← hbit _ 9 (by decide), ← hbit _ 4 (by decide), ← hbit _ 2 (by decide)] at hout
    rw [← hbit _ 9 (by decide)] at hin
    exact ⟨t, hexec, hoffset, hlast, hin, hout, fun _ => hstep, fun _ hrun h => ⟨hslew hrun h, incrOk_slewFor _ _⟩, nofun⟩

/-- Without an offset for 3 ms the member is untrusted. -/
theorem offsetMeasurementTimeout_loses {x : Nat} (hr : ringRuns s = true) (hl : ringLeader s = false) (hx : s.ring.lastOffset = some x)
    (hj : joinState s = 2) :
    ∃ t, exec .offsetMeasurementTimeout s = .next t ∧ getBit t Reg.RING_STATUS 9 = false ∧ t.ring.lastOffset = none ∧ t.ring.goodRun = 0 ∧
      (getBit s Reg.RING_STATUS 9 = true → getBit t (Reg.INT_STATUS ringPage) 4 = true ∧ getBit t (Reg.FAULT_STATUS ringPage) 2 = true) := by
  have hexec : ∃ u, exec .offsetMeasurementTimeout s = .next (loseTrust u) ∧ u.ring.lastOffset = none ∧ u.regs = s.regs := by
    refine ⟨modRing (fun r => { r with lastOffset := none }) (advanceUptime (x + 3000000) s), ?_, rfl, rfl⟩
    show execOffsetMeasurementTimeout s = _
    unfold execOffsetMeasurementTimeout
    rw [hx]
    exact congrArg Host.Outcome.next (if_pos (by simp [hr, hj, hl]))
  obtain ⟨u, hexec, hnone, hregs⟩ := hexec
  obtain ⟨⟨r, o, f, hframe⟩, huntrusted, hraised, -⟩ := loseTrust_loses u
  refine ⟨_, hexec, huntrusted, ?_, ?_, fun h => hraised ?_⟩
  · rw [hframe]
    exact hnone
  · rw [hframe]
  · rw [getBit, reg, hregs]
    exact h

/-- An offset out of tolerance for 10 ms is a fault of the clock. -/
theorem slewSaturated_faults {x : Nat} (hr : ringRuns s = true) (hl : ringLeader s = false) (hx : s.ring.overSince = some x)
    (hd : getBit s Reg.RING_CFG 10 = true) :
    ∃ t, exec .slewSaturated s = .next t ∧ getBit t (Reg.FAULT_STATUS timePage) 0 = true ∧ SameRegsBut [Reg.FAULT_STATUS timePage] s t := by
  have hexec : exec .slewSaturated s = .next (setFault timePage 0 (advanceUptime (x + 10000000) s)) := by
    show execSlewSaturated s = _
    unfold execSlewSaturated
    rw [hx]
    exact congrArg Host.Outcome.next (if_pos (by simp [hr, hl, hd]))
  exact ⟨_, hexec, getBit_setFault _ _ _ (by decide), SameRegsBut.setFault (fun _ _ => rfl) 0 (by simp)⟩

section SkewMessages

variable {p : Fin 4} (hp : ringHears s p = true)

include hp

theorem exec_skewCalMessage_other (m : SkewMeasure) (h : ringLeader s = true ∨ leaderPos s ≠ p.val) :
    exec (.skewCalMessage p (.measure m)) s = .next (frameCame s) := by
  refine congrArg Host.Outcome.next ((if_neg (by simp [hp])).trans (if_pos ?_))
  rcases h with h | h
  · simp [h]
  · simp [h]

theorem exec_skewCalMessage_result (b : Bool) : exec (.skewCalMessage p (.result b)) s = .next (frameCame s) :=
  congrArg Host.Outcome.next (if_neg (by simp [hp]))

theorem exec_skewCalMessage_ended : exec (.skewCalMessage p .ended) s = .next (skewEnd (frameCame s)) :=
  congrArg Host.Outcome.next (if_neg (by simp [hp]))

end SkewMessages

/-- Settles O51. A follower's offset is measured against the tolerance and corrected by a step or a slew; the messages of a skew
calibration begin it, leave it, and end it. -/
theorem offsetsAreMeasuredAndCorrected : Obligations.OffsetsAreMeasuredAndCorrected := by
  unfold Obligations.OffsetsAreMeasuredAndCorrected
  refine ⟨fun s hr hl => timeProbeSend_sends hr hl,
    fun lane t1 t2 t3 t4 theta s hr hj hl hmem hup hopen htheta => timeProbe_measures hr hj hl hmem hup hopen htheta,
    fun s hr hl => ⟨fun x hx hj => offsetMeasurementTimeout_loses hr hl hx hj, fun x hx hd => slewSaturated_faults hr hl hx hd⟩,
    fun p m s hp => ⟨fun hl hs => ?_, fun h => ?_, fun b => ?_, ?_⟩⟩
  · obtain ⟨hbusy, hdone, -, hregs, -⟩ := skewBegin_begins m (frameCame s)
    exact ⟨_, exec_skewCalMessage_measure m hp hl hs, hbusy, hdone, rfl, hregs⟩
  · exact ⟨_, exec_skewCalMessage_other hp m h, rfl, rfl⟩
  · exact ⟨_, exec_skewCalMessage_result hp b, rfl, rfl⟩
  · exact ⟨_, exec_skewCalMessage_ended hp, getBit_setB_same _ _ _ _ (by decide), rfl, SameRegsBut.setReg (fun _ _ => rfl) _ (by simp)⟩

end Sys2Proof.Machine
end

section
/-! PROOF. Heater drive (R239 to R250): what drives a slot, the frame that an output begins, the host's codes, and the budget. -/

namespace Sys2Proof.Machine

open Sys2Proof

/-! ### What drives a slot (R240, R244, R248) -/

/-- No code drives both outputs (R240). -/
theorem magnitudes_one_zero (bip : Bool) (code : Nat) : (magnitudes bip code).1 = 0 ∨ (magnitudes bip code).2 = 0 := by
  unfold magnitudes
  split
  · dsimp only
    split
    · exact .inr rfl
    · exact .inl rfl
  · exact .inr rfl

theorem capped_zero (cap : Nat) : capped cap 0 = 0 := by
  unfold capped
  split
  · rfl
  · exact Nat.min_zero _

/-- Limits take nothing from an output that is off (R248). -/
theorem limitedMags_one_zero (s : State) (slot code : Nat) : (limitedMags s slot code).1 = 0 ∨ (limitedMags s slot code).2 = 0 :=
  (magnitudes_one_zero (bipolar s slot) code).imp (fun h => (congrArg (capped _) h).trans (capped_zero _))
    (fun h => (congrArg (capped _) h).trans (capped_zero _))

/-- The governing row drives one output of a slot at most, and a latch cuts its own output off. -/
theorem slotMags_cut (s : State) (slot : Nat) :
    ∃ m : Nat × Nat, (m.1 = 0 ∨ m.2 = 0) ∧
      slotMags s slot = (if latched s (slot / 256) (2 * (slot % 256)) then 0 else m.1,
        if latched s (slot / 256) (2 * (slot % 256) + 1) then 0 else m.2) := by
  unfold slotMags
  cases govern s slot with
  | opened => exact ⟨(0, 0), .inl rfl, by simp⟩
  | park c => exact ⟨_, magnitudes_one_zero _ c, rfl⟩
  | held c => exact ⟨_, magnitudes_one_zero _ c, rfl⟩
  | code c src => exact ⟨_, limitedMags_one_zero s slot c, rfl⟩

theorem slotMags_one_zero (s : State) (slot : Nat) : (slotMags s slot).1 = 0 ∨ (slotMags s slot).2 = 0 := by
  obtain ⟨m, hm, h⟩ := slotMags_cut s slot
  rw [h]
  exact hm.imp (fun h1 => by simp [h1]) (fun h2 => by simp [h2])

theorem slotMags_latched_a {s : State} {slot : Nat} (h : latched s (slot / 256) (2 * (slot % 256)) = true) : (slotMags s slot).1 = 0 := by
  obtain ⟨m, -, hm⟩ := slotMags_cut s slot
  rw [hm]
  exact if_pos h

theorem slotMags_latched_b {s : State} {slot : Nat} (h : latched s (slot / 256) (2 * (slot % 256) + 1) = true) :
    (slotMags s slot).2 = 0 := by
  obtain ⟨m, -, hm⟩ := slotMags_cut s slot
  rw [hm]
  exact if_pos h

theorem slotMags_opened {s : State} {slot : Nat} (h : govern s slot = .opened) : slotMags s slot = (0, 0) := by
  unfold slotMags
  rw [h]

/-- Rows 1 and 2 and a bank's flag open a slot (R244). -/
theorem govern_opened {s : State} {slot : Nat}
    (h : lockedOut s = true ∨ thermalDown s = true ∨ bankFlag s (slot / 256) (slot % 256) = true) : govern s slot = .opened := by
  unfold govern
  exact if_pos (by simpa [Bool.or_eq_true, or_assoc] using h)

/-- A slot of role UNUSED that holds no code is open, parked or not (R244). -/
theorem govern_unused {s : State} {slot : Nat} (hr : role s slot = roleUnused) (hh : (heater s slot).held = none) :
    govern s slot = .opened := by
  unfold govern
  simp only [hr, hh]
  split
  · rfl
  · simp [roleUnused, roleSpare]

/-- The governing row rests on the pins, the active words, the driver stages, and three registers. -/
theorem govern_congr {s t : State} (slot : Nat) (hp : t.pins = s.pins) (ha : t.active = s.active) (hh : t.heaters = s.heaters)
    (hprime : reg t Reg.GLB_PRIME_STATUS = reg s Reg.GLB_PRIME_STATUS) (hdebug : reg t Reg.WH_DEBUG = reg s Reg.WH_DEBUG)
    (hcol : reg t (Reg.HTR_COL_STATUS (slot / 256)) = reg s (Reg.HTR_COL_STATUS (slot / 256))) : govern t slot = govern s slot := by
  have hlocked : lockedOut t = lockedOut s := by simp only [lockedOut, hp]
  have hstage : stage t = stage s := congrArg (fld · 0 4) hprime
  have hdown : thermalDown t = thermalDown s := congrArg (· == 0xF) hstage
  have hflag : bankFlag t (slot / 256) (slot % 256) = bankFlag s (slot / 256) (slot % 256) := congrArg (bitOf · _) hcol
  have hsession : testSession t = testSession s := congrArg (bitOf · 3) hdebug
  have hforced : parkForced t = parkForced s := by simp only [parkForced, hp, hstage, hsession]
  have hrole : role t slot = role s slot := by simp only [role, actF, act, ha]
  have hpark : parkCode t slot = parkCode s slot := by simp only [parkCode, actF, act, ha]
  have hheater : heater t slot = heater s slot := by simp only [heater, hh]
  unfold govern
  rw [hlocked, hdown, hflag, hforced, hrole, hpark, hheater]

/-! ### The frame that an output begins (R239, R243) -/

/-- The magnitude in force at the next frame start of output h of a column. -/
def frameMag (s : State) (c h : Nat) : Nat := scaledMag s (magOf s c h (startCode s c h (nextFrame s c h)))

/-- An accumulator and the low part of a magnitude, together (R239). -/
def accSum (s : State) (c h : Nat) : Nat := getF s (Reg.HTR_ACC c (h / 2)) (accLow h) 6 + frameMag s c h % 64

/-- The on-time of the frame that begins (R239). -/
def frameOn (s : State) (c h : Nat) : Nat := frameMag s c h / 64 + if 64 ≤ accSum s c h then 1 else 0

/-- An output has begun its next frame, and HA has not yet taken its code. -/
def frameBegun (s : State) (c h : Nat) : State :=
  setF (Reg.HTR_ACC c (h / 2)) (accLow h) 6 (accSum s c h % 64) { advanceUptime (nextFrame s c h) s with
    onTime := SMap.set (fun _ => 0) s.onTime (512 * c + h) (frameOn s c h)
    frames := SMap.set (fun _ => none) s.frames (512 * c + h)
      (some ⟨nextFrame s c h, frameMag s c h, ((frame s c h).map HeaterFrame.mag).getD 0⟩) }

/-- What a frame start comes to. -/
def frameStarted (s : State) (c h : Nat) : State := whenB (h % 2 == 0) (takeCode (256 * c + h / 2)) (frameBegun s c h)

theorem exec_pwmFrameStart {col : Fin 10} (h : Fin 512) {s : State} (hc : col.val < s.variant.columns) :
    exec (.pwmFrameStart col h) s = .next (frameStarted s col h) :=
  congrArg Host.Outcome.next (if_pos hc)

section Frame

variable (s : State) (c h : Nat)

/-- Taking a code changes driver stages alone. -/
theorem frameStarted_frame : ∃ x, frameStarted s c h = { frameBegun s c h with heaters := x } := by
  unfold frameStarted
  cases h % 2 == 0
  · exact ⟨_, rfl⟩
  · exact ⟨_, rfl⟩

theorem reg_frameBegun {a : Nat} (ha : Reg.HTR_ACC c (h / 2) ≠ a) : reg (frameBegun s c h) a = reg s a :=
  reg_setF_other _ _ _ _ ha

theorem onTime_frameStarted : (frameStarted s c h).onTime = SMap.set (fun _ => 0) s.onTime (512 * c + h) (frameOn s c h) := by
  obtain ⟨x, hx⟩ := frameStarted_frame s c h
  rw [hx]
  rfl

theorem frame_frameStarted : (frame (frameStarted s c h) c h).map HeaterFrame.mag = some (frameMag s c h) := by
  have hframe : frame (frameBegun s c h) c h = some ⟨nextFrame s c h, frameMag s c h, ((frame s c h).map HeaterFrame.mag).getD 0⟩ := by
    have hframes : (frameBegun s c h).frames = SMap.set (fun _ => none) s.frames (512 * c + h)
        (some ⟨nextFrame s c h, frameMag s c h, ((frame s c h).map HeaterFrame.mag).getD 0⟩) := rfl
    rw [frame, hframes, SMap.get_set_same]
  obtain ⟨x, hx⟩ := frameStarted_frame s c h
  rw [hx]
  exact congrArg (Option.map HeaterFrame.mag) hframe

theorem reg_frameStarted (a : Nat) : reg (frameStarted s c h) a = reg (frameBegun s c h) a := by
  obtain ⟨x, hx⟩ := frameStarted_frame s c h
  rw [hx]
  rfl

theorem sameRegsBut_frameStarted : SameRegsBut [Reg.HTR_ACC c (h / 2)] s (frameStarted s c h) := fun a ha =>
  (reg_frameStarted s c h a).trans (reg_frameBegun s c h fun e => ha (e ▸ List.mem_singleton_self _))

theorem sameBytes_frameStarted : SameBytes s (frameStarted s c h) := by
  obtain ⟨x, hx⟩ := frameStarted_frame s c h
  rw [hx]
  exact ⟨fun _ => rfl, fun _ => rfl⟩

theorem accSum_lt : accSum s c h < 128 := by
  have hacc : getF s (Reg.HTR_ACC c (h / 2)) (accLow h) 6 < 64 := Nat.mod_lt _ (by decide)
  unfold accSum
  omega

/-- The on-time and what stays in the accumulator carry the magnitude and what stood there (R239). -/
theorem frameOn_carries : 64 * frameOn s c h + accSum s c h % 64 = frameMag s c h + getF s (Reg.HTR_ACC c (h / 2)) (accLow h) 6 := by
  have hlt := accSum_lt s c h
  have hsum : accSum s c h = getF s (Reg.HTR_ACC c (h / 2)) (accLow h) 6 + frameMag s c h % 64 := rfl
  unfold frameOn
  split <;> omega

theorem accLow_le : accLow h ≤ 8 := by
  unfold accLow
  split <;> decide

/-- The accumulators of a slot's two outputs lie apart. -/
theorem accLow_apart : accLow (h + 1) + 6 ≤ accLow h ∨ accLow h + 6 ≤ accLow (h + 1) := by
  rcases Nat.mod_two_eq_zero_or_one h with he | ho
  · exact .inr (by simp [accLow, he, Nat.add_mod])
  · exact .inl (by simp [accLow, ho, Nat.add_mod])

theorem acc_frameStarted : getF (frameStarted s c h) (Reg.HTR_ACC c (h / 2)) (accLow h) 6 = accSum s c h % 64 := by
  have hlow := accLow_le h
  rw [getF, reg_frameStarted]
  exact (getF_setF_same _ _ _ _ _ (by omega)).trans (Nat.mod_mod _ _)

theorem acc_frameStarted_beside :
    getF (frameStarted s c h) (Reg.HTR_ACC c (h / 2)) (accLow (h + 1)) 6 = getF s (Reg.HTR_ACC c (h / 2)) (accLow (h + 1)) 6 := by
  have hlow := accLow_le (h + 1)
  rw [getF, reg_frameStarted]
  exact getF_setF_beside _ _ _ _ _ _ _ (accLow_apart h) (by omega)

/-- A frame start changes nothing that governs a slot. -/
theorem codeFrom_frameBegun (hh : h < 512) (slot u : Nat) : codeFrom (frameBegun s c h) slot u = codeFrom s slot u := by
  have hprime : Reg.HTR_ACC c (h / 2) ≠ Reg.GLB_PRIME_STATUS := by unfold Reg.HTR_ACC Reg.GLB_PRIME_STATUS; omega
  have hdebug : Reg.HTR_ACC c (h / 2) ≠ Reg.WH_DEBUG := by unfold Reg.HTR_ACC Reg.WH_DEBUG; omega
  have hcol : Reg.HTR_ACC c (h / 2) ≠ Reg.HTR_COL_STATUS (slot / 256) := by unfold Reg.HTR_ACC Reg.HTR_COL_STATUS; omega
  have hgov : govern (frameBegun s c h) slot = govern s slot :=
    govern_congr slot rfl rfl rfl (reg_frameBegun s c h hprime) (reg_frameBegun s c h hdebug) (reg_frameBegun s c h hcol)
  unfold codeFrom
  rw [hgov]
  rfl

theorem heater_setHeater (slot : Nat) (x : Heater) (s : State) (n : Nat) :
    heater (setHeater slot x s) n = if slot = n then x else heater s n := SMap.get_set ..

/-- HA's frame start takes the code of its slot (R243). -/
theorem heater_frameStarted_taken (hh : h < 512) (ha : h % 2 = 0) :
    heater (frameStarted s c h) (256 * c + h / 2) = { heater s (256 * c + h / 2) with
      taken := codeFrom s (256 * c + h / 2) (frameStarted s c h).time.uptime } := by
  obtain ⟨x, hx⟩ := frameStarted_frame s c h
  have hcode := codeFrom_frameBegun s c h hh (256 * c + h / 2) (frameBegun s c h).time.uptime
  have htime : (frameStarted s c h).time = (frameBegun s c h).time := by rw [hx]
  rw [htime, frameStarted, show (h % 2 == 0) = true by simp [ha], whenB_true, takeCode, heater_setHeater, if_pos rfl, hcode]
  rfl

/-- The other slots' driver stages stand, and HB's frame start takes nothing (R243). -/
theorem heater_frameStarted_other {n : Nat} (hn : h % 2 = 1 ∨ n ≠ 256 * c + h / 2) : heater (frameStarted s c h) n = heater s n := by
  unfold frameStarted
  rcases hn with hb | hn
  · rw [show (h % 2 == 0) = false by simp [hb]]
    rfl
  · cases h % 2 == 0
    · rfl
    · rw [whenB_true, takeCode, heater_setHeater, if_neg (Ne.symm hn)]
      rfl

end Frame

/-! ### Codes from the host (R243, R245, R248) -/

section Clip

variable {slot : Nat} {s : State}

theorem noteClip_frame (slot : Nat) (s : State) : ∃ r, noteClip slot s =
    { s with regs := r, heaters := SMap.set (fun _ => Heater.zero) s.heaters slot { heater s slot with clipped := isCapped s slot } } := by
  unfold noteClip
  cases isCapped s slot
  · exact ⟨_, rfl⟩
  · exact ⟨_, rfl⟩

theorem heater_noteClip (slot : Nat) (s : State) (n : Nat) :
    heater (noteClip slot s) n = if slot = n then { heater s slot with clipped := isCapped s slot } else heater s n := by
  obtain ⟨r, hr⟩ := noteClip_frame slot s
  rw [hr]
  exact SMap.get_set ..

/-- Only CLIP counts (R248). -/
theorem sameRegsBut_noteClip (slot : Nat) (s : State) : SameRegsBut [Reg.HTR_COUNT_A (slot / 256)] s (noteClip slot s) := by
  unfold noteClip
  cases isCapped s slot
  · exact .refl _ s
  · exact (SameRegsBut.refl _ s).setReg _ (by simp)

/-- A code that no cap reduces counts nothing (R248). -/
theorem noteClip_regs (h : isCapped s slot = false) : (noteClip slot s).regs = s.regs := by
  unfold noteClip
  rw [h]
  rfl

theorem isCapped_eq_false {code : Nat} (hcode : (heater s slot).code = code)
    (h : limitedMags s slot code = magnitudes (bipolar s slot) code) : isCapped s slot = false := by
  unfold isCapped
  rw [hcode, h, bne_self_eq_false]

/-- The driver stage of a slot that has just taken a code (R243). -/
def codeTaken (slot code : Nat) (src : CodeSource) (s : State) : State :=
  setHeater slot { heater s slot with
    code := code, source := src, arrived := s.time.uptime
    earlier := stillDue s.time.uptime (((heater s slot).code, (heater s slot).arrived) :: (heater s slot).earlier) } s

theorem acceptCode_eq (slot code : Nat) (src : CodeSource) (s : State) :
    acceptCode slot code src s = noteClip slot (codeTaken slot code src s) := rfl

end Clip

/-- A host code comes to its slot's driver stage, and its cell notes that the host wrote (R245). -/
def hostCodeTaken (slot code : Nat) (s : State) : State :=
  acceptCode slot code .host { s with
    cells := SMap.set (fun _ => LoopCell.empty) s.cells (slot / 4) { loopCell s (slot / 4) with hostWrote := true } }

section HostCodes

variable {req : Requester} {slot : Fin 2560} {code : BitVec 16} {s : State}

theorem exec_htrHostWrite_taken (h : WriteReaches req (Reg.HTR_HOST (slot.val / 256) (slot.val % 256)) s) (hr : rowSeven s slot = true)
    (hm : cellAuto s (slot.val / 4) = false) : exec (.htrHostWrite req slot code) s = .next (hostCodeTaken slot code.toNat s) :=
  congrArg Host.Outcome.next ((hostWrite_reaches _ h).trans (if_pos (by simp [hr, hm])))

theorem exec_htrHostWrite_ignored (h : WriteReaches req (Reg.HTR_HOST (slot.val / 256) (slot.val % 256)) s)
    (hr : rowSeven s slot = false ∨ cellAuto s (slot.val / 4) = true) :
    exec (.htrHostWrite req slot code) s = .next (bumpF (Reg.HTR_COUNT_A (slot.val / 256)) 16 16 s) :=
  congrArg Host.Outcome.next ((hostWrite_reaches _ h).trans (if_neg (by rcases hr with hr | hr <;> simp [hr])))

end HostCodes

section Taken

variable (slot code : Nat) (s : State)

theorem heater_hostCodeTaken (n : Nat) : heater (hostCodeTaken slot code s) n =
    if slot = n then { heater (codeTaken slot code .host s) slot with clipped := isCapped (codeTaken slot code .host s) slot } else heater s n := by
  rw [hostCodeTaken, acceptCode_eq, heater_noteClip]
  split
  · rfl
  · next h => exact (heater_setHeater slot _ _ n).trans (if_neg h)

/-- The code, where it came from and when; a held code stays (R243, R245). -/
theorem heater_hostCodeTaken_same : ∃ e b, heater (hostCodeTaken slot code s) slot =
    { heater s slot with code := code, source := .host, arrived := s.time.uptime, earlier := e, clipped := b } := by
  rw [heater_hostCodeTaken, if_pos rfl, codeTaken, heater_setHeater, if_pos rfl]
  exact ⟨_, _, rfl⟩

theorem sameRegsBut_hostCodeTaken : SameRegsBut [Reg.HTR_COUNT_A (slot / 256)] s (hostCodeTaken slot code s) :=
  sameRegsBut_noteClip slot _

theorem hostCodeTaken_regs {slot code : Nat} {s : State} (h : limitedMags s slot code = magnitudes (bipolar s slot) code) :
    (hostCodeTaken slot code s).regs = s.regs :=
  noteClip_regs (isCapped_eq_false (code := code) ((congrArg Heater.code (heater_setHeater slot _ _ slot)).trans (by rw [if_pos rfl])) h)

theorem hostCodeTaken_frame : ∃ r x, hostCodeTaken slot code s = { s with
    regs := r, heaters := x
    cells := SMap.set (fun _ => LoopCell.empty) s.cells (slot / 4) { loopCell s (slot / 4) with hostWrote := true } } := by
  obtain ⟨r, hr⟩ := noteClip_frame slot (codeTaken slot code .host { s with
    cells := SMap.set (fun _ => LoopCell.empty) s.cells (slot / 4) { loopCell s (slot / 4) with hostWrote := true } })
  exact ⟨r, _, hr⟩

theorem hostCodeTaken_hostWrote : (loopCell (hostCodeTaken slot code s) (slot / 4)).hostWrote = true := by
  obtain ⟨r, x, hx⟩ := hostCodeTaken_frame slot code s
  rw [hx]
  exact congrArg LoopCell.hostWrote (SMap.get_set_same ..)

theorem sameBytes_hostCodeTaken : SameBytes s (hostCodeTaken slot code s) := by
  obtain ⟨r, x, hx⟩ := hostCodeTaken_frame slot code s
  rw [hx]
  exact ⟨fun _ => rfl, fun _ => rfl⟩

end Taken

/-! ### The budget (R249, R250) -/

/-- The sum S of R249 over the device's columns. -/
def heaterTotal (s : State) (v : Nat) : Rat := ((List.range s.variant.columns).map (colPower s v)).sum

/-- The powers shown, before the budget is judged (R258, R259). -/
def powersShown (s : State) (v : Nat) : State :=
  setReg Reg.HTR_TOTAL_MW (word (showMw (heaterTotal s v) + 2 ^ 16 * min (effectiveBudget s v) 65535))
    (forEach ((List.range s.variant.columns).zip ((List.range s.variant.columns).map (colPower s v)))
      (fun e t => setF (Reg.HTR_COL_MW e.1) 0 16 (showMw e.2) t) s)

/-- k of R249: the share of the magnitudes that the budget leaves. -/
def budgetShare (b : Nat) (total : Rat) : Nat := ((65536 * b : Nat) / total : Rat).floor.toNat

/-- A frame that scaling acts in (R250). -/
def frameLimited (s : State) (v : Nat) : State :=
  setReg Reg.HTR_BUDGET_STATUS (word (1 + 2 ^ 16 * min (budgetShare (effectiveBudget s v) (heaterTotal s v)) 65535))
    (addF Reg.HTR_LIMITED_FRAMES 0 32 1 (powersShown s v))

section Budget

variable {s : State} {v : Nat}

theorem budgetAt_unmeasured (hv : getF s (Reg.PWR_RAIL_MV 5) 0 16 = 0) :
    budgetAt s = setReg Reg.HTR_BUDGET_STATUS 0xFFFF0000 (setReg Reg.HTR_TOTAL_MW 0 s) := if_pos hv

theorem budgetAt_within (hv : getF s (Reg.PWR_RAIL_MV 5) 0 16 = v) (h0 : v ≠ 0) (h : heaterTotal s v ≤ (effectiveBudget s v : Rat)) :
    budgetAt s = setReg Reg.HTR_BUDGET_STATUS 0xFFFF0000 (powersShown s v) := by
  subst hv
  exact (if_neg h0).trans (if_neg (not_lt.2 h))

theorem budgetAt_beyond (hv : getF s (Reg.PWR_RAIL_MV 5) 0 16 = v) (h0 : v ≠ 0) (h : (effectiveBudget s v : Rat) < heaterTotal s v) :
    budgetAt s = if scaling s then frameLimited s v else setFault (colPage 0) 6 (setInt (colPage 0) 19 (frameLimited s v)) := by
  subst hv
  exact (if_neg h0).trans (if_pos h)

/-- The registers that show the powers. -/
def powerRegs (s : State) : List Nat := Reg.HTR_TOTAL_MW :: (List.range s.variant.columns).map Reg.HTR_COL_MW

theorem powersShown_only (s : State) (v : Nat) : OnlyRegs (powerRegs s) s (powersShown s v) :=
  (forEach_keeps (OnlyRegs (powerRegs s) s) _ _
    (fun _ he _ h => h.setF _ _ _ (List.mem_cons_of_mem _ (List.mem_map_of_mem (List.of_mem_zip he).1))) (.refl _ s)).setReg _
    List.mem_cons_self

theorem reg_powersShown {a : Nat} (ha : a % 0x10000 ≠ 0x108) (ht : a ≠ Reg.HTR_TOTAL_MW) : reg (powersShown s v) a = reg s a := by
  refine (powersShown_only s v).2 a fun h => ?_
  rcases List.mem_cons.1 h with h | h
  · exact ht h
  · obtain ⟨c, -, rfl⟩ := List.mem_map.1 h
    unfold Reg.HTR_COL_MW at ha
    omega

/-- No share of the magnitudes lets the sum exceed the budget (R249). -/
theorem budgetShare_within (b : Nat) {total : Rat} (h : (b : Rat) < total) :
    (min (budgetShare b total) 65535 : Nat) * total ≤ 65536 * (b : Rat) := by
  have hpos : 0 < total := lt_of_le_of_lt (Nat.cast_nonneg b) h
  have hk : (budgetShare b total : Rat) ≤ (65536 * b : Nat) / total := Nat.floor_le (by positivity)
  calc (min (budgetShare b total) 65535 : Nat) * total
      ≤ (budgetShare b total : Rat) * total := by gcongr; exact Nat.min_le_left _ _
    _ ≤ (65536 * b : Nat) := (le_div_iff₀ hpos).1 hk
    _ = 65536 * (b : Rat) := by push_cast; rfl

/-- What HTR_BUDGET_STATUS shows of a limited frame (R250, R259). -/
theorem scaling_of_status {t : State} {k : Nat} (hk : k ≤ 65535) (h : reg t Reg.HTR_BUDGET_STATUS = word (1 + 2 ^ 16 * k)) :
    scaling t = true ∧ scaleK t = k := by
  have hn : (word (1 + 2 ^ 16 * k)).toNat = 1 + 2 ^ 16 * k := by
    simp only [word, BitVec.toNat_ofNat]
    omega
  constructor
  · rw [scaling, getBit, h, bitOf, BitVec.getLsbD, hn, Nat.testBit_zero]
    exact decide_eq_true (by omega)
  · rw [scaleK, getF, h, fld, hn]
    omega

theorem not_scaling_of_status {t : State} (h : reg t Reg.HTR_BUDGET_STATUS = 0xFFFF0000) : scaling t = false := by
  rw [scaling, getBit, h]
  rfl

/-- The frame counts (R250). -/
theorem limitedFrames_frameLimited (s : State) (v : Nat) :
    getF (frameLimited s v) Reg.HTR_LIMITED_FRAMES 0 32 = satInc 32 (getF s Reg.HTR_LIMITED_FRAMES 0 32) := by
  have hs : getF (powersShown s v) Reg.HTR_LIMITED_FRAMES 0 32 = getF s Reg.HTR_LIMITED_FRAMES 0 32 :=
    congrArg (fld · 0 32) (reg_powersShown (by decide) (by decide))
  rw [getF, frameLimited, reg_setReg_other _ _ (by decide)]
  exact (getF_bumpF_same (powersShown s v) Reg.HTR_LIMITED_FRAMES 0 32 (by decide)).trans (congrArg (satInc 32) hs)

theorem frameLimited_frame (s : State) (v : Nat) : ∃ r, frameLimited s v = { s with regs := r } := by
  obtain ⟨⟨r, hr⟩, -⟩ := powersShown_only s v
  rw [frameLimited, hr]
  exact ⟨_, rfl⟩

/-- Only a first limited frame raises; the registers beside its interrupt and its fault are the same either way (R250). -/
theorem reg_budgetAt_beyond {a : Nat} (hv : getF s (Reg.PWR_RAIL_MV 5) 0 16 = v) (h0 : v ≠ 0)
    (h : (effectiveBudget s v : Rat) < heaterTotal s v) (hi : Reg.INT_STATUS (colPage 0) ≠ a) (hf : Reg.FAULT_STATUS (colPage 0) ≠ a) :
    reg (budgetAt s) a = reg (frameLimited s v) a := by
  rw [budgetAt_beyond hv h0 h]
  split
  · rfl
  · exact (reg_setFault_other _ _ _ hf).trans (reg_setInt_other _ _ _ hi)

/-- A judgement of the budget changes registers, sends a message and raises a fault, and no more. -/
theorem budgetAt_frame (s : State) : ∃ r o f, budgetAt s = { s with regs := r, out := o, flt := f } := by
  by_cases h0 : getF s (Reg.PWR_RAIL_MV 5) 0 16 = 0
  · rw [budgetAt_unmeasured h0]
    exact ⟨_, _, _, rfl⟩
  by_cases h : heaterTotal s (getF s (Reg.PWR_RAIL_MV 5) 0 16) ≤ (effectiveBudget s (getF s (Reg.PWR_RAIL_MV 5) 0 16) : Rat)
  · obtain ⟨⟨r, hr⟩, -⟩ := powersShown_only s (getF s (Reg.PWR_RAIL_MV 5) 0 16)
    rw [budgetAt_within rfl h0 h, hr]
    exact ⟨_, _, _, rfl⟩
  · obtain ⟨r, hr⟩ := frameLimited_frame s (getF s (Reg.PWR_RAIL_MV 5) 0 16)
    rw [budgetAt_beyond rfl h0 (not_le.1 h), hr]
    split
    · exact ⟨_, _, _, rfl⟩
    · obtain ⟨r', o, hi⟩ := setInt_frame (colPage 0) 19 { s with regs := r }
      obtain ⟨r'', f, hf⟩ := setFault_frame (colPage 0) 6 (setInt (colPage 0) 19 { s with regs := r })
      rw [hf, hi]
      exact ⟨_, _, _, rfl⟩

theorem budgetAt_unmeasured_shows (hv : getF s (Reg.PWR_RAIL_MV 5) 0 16 = 0) :
    scaling (budgetAt s) = false ∧ reg (budgetAt s) Reg.HTR_TOTAL_MW = 0 := by
  rw [budgetAt_unmeasured hv]
  exact ⟨not_scaling_of_status (reg_setReg_same ..), (reg_setReg_other _ _ (by decide)).trans (reg_setReg_same ..)⟩

theorem budgetAt_within_shows (hv : getF s (Reg.PWR_RAIL_MV 5) 0 16 = v) (h0 : v ≠ 0) (h : heaterTotal s v ≤ (effectiveBudget s v : Rat)) :
    scaling (budgetAt s) = false ∧ reg (budgetAt s) Reg.HTR_LIMITED_FRAMES = reg s Reg.HTR_LIMITED_FRAMES := by
  rw [budgetAt_within hv h0 h]
  exact ⟨not_scaling_of_status (reg_setReg_same ..), (reg_setReg_other _ _ (by decide)).trans (reg_powersShown (by decide) (by decide))⟩

theorem budgetAt_beyond_scales (hv : getF s (Reg.PWR_RAIL_MV 5) 0 16 = v) (h0 : v ≠ 0) (h : (effectiveBudget s v : Rat) < heaterTotal s v) :
    scaling (budgetAt s) = true ∧ (scaleK (budgetAt s) : Rat) * heaterTotal s v ≤ 65536 * (effectiveBudget s v : Rat) := by
  obtain ⟨hscale, hk⟩ := scaling_of_status (Nat.min_le_right (budgetShare (effectiveBudget s v) (heaterTotal s v)) 65535)
    ((reg_budgetAt_beyond hv h0 h (by decide) (by decide)).trans (reg_setReg_same ..))
  exact ⟨hscale, hk ▸ budgetShare_within _ h⟩

theorem budgetAt_beyond_counts (hv : getF s (Reg.PWR_RAIL_MV 5) 0 16 = v) (h0 : v ≠ 0) (h : (effectiveBudget s v : Rat) < heaterTotal s v) :
    getF (budgetAt s) Reg.HTR_LIMITED_FRAMES 0 32 = satInc 32 (getF s Reg.HTR_LIMITED_FRAMES 0 32) :=
  (congrArg (fld · 0 32) (reg_budgetAt_beyond hv h0 h (by decide) (by decide))).trans (limitedFrames_frameLimited s v)

/-- The first limited frame raises interrupt and fault (R250). -/
theorem budgetAt_beyond_raises (hv : getF s (Reg.PWR_RAIL_MV 5) 0 16 = v) (h0 : v ≠ 0) (h : (effectiveBudget s v : Rat) < heaterTotal s v)
    (hs : scaling s = false) :
    getBit (budgetAt s) (Reg.INT_STATUS (colPage 0)) 19 = true ∧ getBit (budgetAt s) (Reg.FAULT_STATUS (colPage 0)) 6 = true := by
  rw [budgetAt_beyond hv h0 h, if_neg (by simp [hs])]
  exact ⟨(getBit_setFault_other _ _ _ _ (by decide)).trans (getBit_setInt _ _ _ (by decide)), getBit_setFault _ _ _ (by decide)⟩

end Budget

/-- Settles O35. A frame start's on-time and accumulator carry the magnitude; the rows open outputs and never drive both; a host code
is taken or counted; and the budget scales beyond it alone. -/
theorem heaterFramesCarryTheirCodesInTheMean : Obligations.HeaterFramesCarryTheirCodesInTheMean := by
  unfold Obligations.HeaterFramesCarryTheirCodesInTheMean
  refine ⟨fun col h s hc => ⟨_, frameOn s col h, exec_pwmFrameStart h hc, ?_, ?_, frame_frameStarted s col h, acc_frameStarted_beside s col h,
      fun k hk => ?_, heater_frameStarted_taken s col h h.isLt, fun n hn => heater_frameStarted_other s col h hn,
      sameBytes_frameStarted s col h, sameRegsBut_frameStarted s col h⟩,
    fun s slot => ⟨fun h => slotMags_opened (govern_opened h), slotMags_latched_a, slotMags_latched_b,
      fun hr hh => slotMags_opened (govern_unused hr hh), slotMags_one_zero s slot⟩,
    fun req slot code s hw => ⟨fun hr hm => ?_, fun h => ?_⟩, fun s u total hu ht => ?_⟩
  · rw [onTime_frameStarted]
    exact SMap.get_set_same ..
  · rw [acc_frameStarted]
    exact frameOn_carries s col h
  · rw [onTime_frameStarted]
    exact SMap.get_set_other _ _ _ hk.symm
  · obtain ⟨e, b, hsame⟩ := heater_hostCodeTaken_same slot code.toNat s
    exact ⟨_, exec_htrHostWrite_taken hw hr hm, congrArg Heater.code hsame, congrArg Heater.source hsame, congrArg Heater.arrived hsame,
      (congrArg Heater.held hsame :), fun n hn => (heater_hostCodeTaken slot code.toNat s n).trans (if_neg hn.symm),
      hostCodeTaken_hostWrote slot code.toNat s, hostCodeTaken_regs, sameRegsBut_hostCodeTaken slot code.toNat s,
      sameBytes_hostCodeTaken slot code.toNat s⟩
  · exact ⟨_, exec_htrHostWrite_ignored hw h, getF_bumpF_same _ _ _ _ (by decide), (OnlyRegs.refl _ s).bumpF _ _ (by simp)⟩
  · have hv : getF u (Reg.PWR_RAIL_MV 5) 0 16 = getF s (Reg.PWR_RAIL_MV 5) 0 16 := by rw [hu]; rfl
    have hb : effectiveBudget u (getF s (Reg.PWR_RAIL_MV 5) 0 16) = effectiveBudget s (getF s (Reg.PWR_RAIL_MV 5) 0 16) := by
      rw [hu]
      rfl
    have hcount : getF u Reg.HTR_LIMITED_FRAMES 0 32 = getF s Reg.HTR_LIMITED_FRAMES 0 32 := by rw [hu]; rfl
    have htotal : total = heaterTotal u (getF s (Reg.PWR_RAIL_MV 5) 0 16) := by rw [ht, hu]; rfl
    obtain ⟨r, o, f, hframe⟩ := budgetAt_frame u
    refine ⟨budgetAt u, by rw [hu]; rfl, by rw [hframe, hu]; rfl, by rw [hframe, hu]; rfl,
      fun h0 => budgetAt_unmeasured_shows (hv.trans h0), fun h0 h => ?_, fun h0 h => ?_⟩
    · rw [htotal, ← hb] at h
      obtain ⟨hscale, hframes⟩ := budgetAt_within_shows hv h0 h
      exact ⟨hscale, hframes.trans (by rw [hu]; rfl)⟩
    · rw [htotal, ← hb] at h ⊢
      obtain ⟨hscale, hk⟩ := budgetAt_beyond_scales hv h0 h
      exact ⟨hscale, hk, (budgetAt_beyond_counts hv h0 h).trans (congrArg (satInc 32) hcount),
        fun hs => budgetAt_beyond_raises hv h0 h (by rw [hu]; exact hs)⟩

end Sys2Proof.Machine
end

section
/-! PROOF. What the work on one loop cell leaves alone (R260 to R320): the other cells, the bytes, the channels and the epochs in every case,
and what else its caller names. -/

namespace Sys2Proof.Machine

open Sys2Proof

/-! ### Cells and registers -/

@[simp] theorem loopCell_setCell_same (m : Nat) (c : LoopCell) (s : State) : loopCell (setCell m c s) m = c := SMap.get_set_same ..

theorem loopCell_setCell_other {m j : Nat} (h : j ≠ m) (c : LoopCell) (s : State) : loopCell (setCell m c s) j = loopCell s j :=
  SMap.get_set_other _ _ _ h.symm

@[simp] theorem loopCell_setF (a lo w v : Nat) (s : State) (j : Nat) : loopCell (setF a lo w v s) j = loopCell s j := rfl

@[simp] theorem loopCell_setB (a i : Nat) (b : Bool) (s : State) (j : Nat) : loopCell (setB a i b s) j = loopCell s j := rfl

@[simp] theorem reg_setCell (m : Nat) (c : LoopCell) (s : State) (a : Nat) : reg (setCell m c s) a = reg s a := rfl

theorem copy_withCopy (c : LoopCell) (side : Nat) (l : LoopCopy) : (c.withCopy side l).copy side = l := by
  unfold LoopCell.copy LoopCell.withCopy
  split <;> rfl

theorem copy_withCopy_other {side : Nat} (h : side < 2) (c : LoopCell) (l : LoopCopy) :
    (c.withCopy side l).copy (1 - side) = c.copy (1 - side) := by
  interval_cases side <;> rfl

/-- A pump's copy, after one of the two has been replaced. -/
theorem copy_withCopy_cases (c : LoopCell) (side : Nat) (l : LoopCopy) (i : Nat) :
    ((c.withCopy side l).copy i = l ∧ c.copy i = c.copy side) ∨ (c.withCopy side l).copy i = c.copy i := by
  unfold LoopCell.copy LoopCell.withCopy
  by_cases hs : side = 0 <;> by_cases hi : i = 0 <;> simp [hs, hi]

theorem getF_of_bits {s t : State} {a lo w : Nat} (h : ∀ i, lo ≤ i → i < lo + w → getBit t a i = getBit s a i) :
    getF t a lo w = getF s a lo w := fld_eq_of_bits h

theorem bitOf_ge (x : Word) {i : Nat} (h : 32 ≤ i) : bitOf x i = false := BitVec.getLsbD_of_ge x i h

/-- A field's write leaves the bits beside it. -/
theorem getBit_setF_beside (s : State) (a lo w v : Nat) {i : Nat} (h : i < lo ∨ lo + w ≤ i) :
    getBit (setF a lo w v s) a i = getBit s a i := by
  rw [getBit, reg_setF_same, getBit]
  by_cases h32 : i < 32
  · exact bitOf_setFld_other _ _ _ _ _ h h32
  · rw [bitOf_ge _ (by omega), bitOf_ge _ (by omega)]

/-! ### What may change -/

/-- What the work on a cell may change: bits of its CELL_STATUS and of its CELL_CTRL, the driver stages, its ORPHAN and its permit, the faults
and the states of pumps, and the codes of its copies. -/
structure Touch where
  status : Nat → Prop
  ctrl : Nat → Prop
  heaters : Prop
  orphan : Prop
  pumps : Prop
  codes : Prop

/-- Bits of CELL_STATUS and of CELL_CTRL alone. -/
def Touch.bits (status ctrl : Nat → Prop) : Touch := ⟨status, ctrl, False, False, False, False⟩

/-- Nothing that a cell's boundary turns on. -/
def Touch.nothing : Touch := .bits (fun _ => False) fun _ => False

/-- FAULT_STATUS or TWIN_STATUS of a pump's page. -/
def PumpWord (a : Nat) : Prop := 0x200000 ≤ a ∧ a < 0x280000 ∧ (a % 0x1000 = 0x18 ∨ a % 0x1000 = 0x68)

/-- A bit of the registers that the work on a cell leaves alone, of those that a cell's boundary turns on. -/
def Touch.Watches (T : Touch) (m a i : Nat) : Prop :=
  (a = Reg.CELL_STATUS m ∧ ¬T.status i) ∨ (a = Reg.CELL_CTRL m ∧ ¬T.ctrl i) ∨ (a = claimState m ∧ i = 1 ∧ ¬T.orphan) ∨ (PumpWord a ∧ ¬T.pumps)

/-- The fields of a cell that its boundary turns on. -/
structure Touch.Keeps (T : Touch) (c d : LoopCell) : Prop where
  permit : ¬T.orphan → d.permit = c.permit
  copied : ∀ side, (c.copy side).copied = true → (d.copy side).copied = true
  codes : ¬T.codes → ∀ side, (d.copy side).codes = (c.copy side).codes

theorem Touch.Keeps.refl (T : Touch) (c : LoopCell) : T.Keeps c c := ⟨fun _ => rfl, fun _ h => h, fun _ _ => rfl⟩

theorem Touch.Keeps.trans {T : Touch} {c d e : LoopCell} (h : T.Keeps c d) (g : T.Keeps d e) : T.Keeps c e where
  permit ho := (g.permit ho).trans (h.permit ho)
  copied side hs := g.copied side (h.copied side hs)
  codes hc side := (g.codes hc side).trans (h.codes hc side)

theorem Touch.Keeps.of_copies (T : Touch) {c d : LoopCell} (hp : d.permit = c.permit) (h1 : d.primary = c.primary)
    (h2 : d.secondary = c.secondary) : T.Keeps c d := by
  have hcopy : ∀ side, d.copy side = c.copy side := fun side => by rw [LoopCell.copy, h1, h2, LoopCell.copy]
  exact ⟨fun _ => hp, fun side hs => by rwa [hcopy], fun _ side => by rw [hcopy]⟩

/-- The work on cell `m`: the other cells, the bytes, the channels and the epochs are as before, and so is what it may not touch. -/
structure CellWork (T : Touch) (m : Nat) (s t : State) : Prop where
  small : m < 640
  cells : ∀ j, j ≠ m → loopCell t j = loopCell s j
  bytes : SameBytes s t
  eo : t.eo = s.eo
  epochs : t.epochs = s.epochs
  heaters : ¬T.heaters → t.heaters = s.heaters
  record : T.Keeps (loopCell s m) (loopCell t m)
  bits : ∀ a i, T.Watches m a i → getBit t a i = getBit s a i

/-- An address at which no register stands that a cell's boundary turns on. -/
def Apart (m a : Nat) : Prop :=
  a ≠ 0x1800000 + 0x1000 * m + 4 ∧ a ≠ 0x1800000 + 0x1000 * m ∧ a ≠ 0x300000 + 0x10000 * (m / 64) + 0x2004 + 8 * (m % 64) ∧
    ¬(0x200000 ≤ a ∧ a < 0x280000 ∧ (a % 0x1000 = 0x18 ∨ a % 0x1000 = 0x68))

theorem Apart.not_watches {m a : Nat} (h : Apart m a) (T : Touch) (i : Nat) : ¬T.Watches m a i := by
  obtain ⟨hs, hc, ho, hp⟩ := h
  rintro (⟨rfl, -⟩ | ⟨rfl, -⟩ | ⟨rfl, -⟩ | ⟨h, -⟩)
  · exact hs rfl
  · exact hc rfl
  · exact ho rfl
  · exact hp h

/-- Where the pumps may change, their words are not watched. -/
theorem PumpWord.not_watches {a : Nat} (h : PumpWord a) {T : Touch} (hp : T.pumps) (m i : Nat) : ¬T.Watches m a i := by
  obtain ⟨-, hlt, -⟩ := h
  rintro (⟨rfl, -⟩ | ⟨rfl, -⟩ | ⟨rfl, -⟩ | ⟨-, hn⟩)
  · unfold Reg.CELL_STATUS at hlt
    omega
  · unfold Reg.CELL_CTRL at hlt
    omega
  · unfold claimState Reg.CLAIM_STATE at hlt
    omega
  · exact hn hp

theorem pumpWord_twinStatus {k : Nat} (hk : k < 128) : PumpWord (Reg.TWIN_STATUS k) := by
  unfold PumpWord Reg.TWIN_STATUS
  omega

theorem pumpWord_fault {k : Nat} (hk : k < 128) : PumpWord (Reg.FAULT_STATUS (pumpPage k)) := by
  have ha : Reg.FAULT_STATUS (pumpPage k) = 0x200000 + 0x1000 * k + 0x18 := rfl
  unfold PumpWord
  omega

theorem cellStatus_ne_cellCtrl (m : Nat) : Reg.CELL_STATUS m ≠ Reg.CELL_CTRL m := by simp [Reg.CELL_STATUS, Reg.CELL_CTRL]

theorem apart_int (m : Nat) (p : Page) : Apart m (Reg.INT_STATUS p) := by
  have := pageBase_mod p
  unfold Apart Reg.INT_STATUS
  omega

/-- STATUS of the page of a pump. -/
theorem apart_pumpStatus (m : Nat) {k : Nat} (hk : k < 200) : Apart m (Reg.STATUS (pumpPage k)) := by
  have ha : Reg.STATUS (pumpPage k) = 0x200000 + 0x1000 * k + 0xc := rfl
  unfold Apart
  omega

namespace CellWork

variable {T : Touch} {m : Nat} {s t u : State}

theorem refl (T : Touch) (hm : m < 640) (s : State) : CellWork T m s s :=
  ⟨hm, fun _ _ => rfl, ⟨fun _ => rfl, fun _ => rfl⟩, rfl, rfl, fun _ => rfl, .refl _ _, fun _ _ _ => rfl⟩

theorem trans (h : CellWork T m s t) (g : CellWork T m t u) : CellWork T m s u where
  small := h.small
  cells j hj := (g.cells j hj).trans (h.cells j hj)
  bytes := ⟨fun a => (g.bytes.1 a).trans (h.bytes.1 a), fun a => (g.bytes.2 a).trans (h.bytes.2 a)⟩
  eo := g.eo.trans h.eo
  epochs := g.epochs.trans h.epochs
  heaters hh := (g.heaters hh).trans (h.heaters hh)
  record := h.record.trans g.record
  bits a i hw := (g.bits a i hw).trans (h.bits a i hw)

/-! ### Through the operations on the state -/

/-- What stands beside the registers, the cells, the bytes, the channels, the epochs and the driver stages is free. -/
theorem beside (h : CellWork T m s t) (e : (u.regs, u.cells, u.mem, u.dram, u.dramGen, u.eo, u.epochs, u.heaters) =
    (t.regs, t.cells, t.mem, t.dram, t.dramGen, t.eo, t.epochs, t.heaters)) : CellWork T m s u := by
  simp only [Prod.mk.injEq] at e
  obtain ⟨hregs, hcells, hmem, hdram, hgen, heo, hepochs, hheaters⟩ := e
  have hcell : ∀ j, loopCell u j = loopCell t j := fun j => by rw [loopCell, hcells, loopCell]
  refine h.trans ⟨h.small, fun j _ => hcell j, ⟨fun a => ?_, fun a => ?_⟩, heo, hepochs, fun _ => hheaters, ?_, fun a i _ => ?_⟩
  · rw [memByte, hmem, memByte]
  · rw [dramByte, hdram, hgen, dramByte]
  · rw [hcell]
    exact .refl _ _
  · rw [getBit, reg, hregs, getBit, reg]

theorem setF_of (h : CellWork T m s t) {a lo w : Nat} (v : Nat) (ha : ∀ i, lo ≤ i → i < lo + w → ¬T.Watches m a i) :
    CellWork T m s (setF a lo w v t) := by
  refine h.trans ⟨h.small, fun _ _ => rfl, ⟨fun _ => rfl, fun _ => rfl⟩, rfl, rfl, fun _ => rfl, .refl _ _, fun b i hw => ?_⟩
  by_cases hb : a = b
  · subst hb
    refine getBit_setF_beside _ _ _ _ _ ?_
    by_contra hin
    exact ha i (by omega) (by omega) hw
  · rw [getBit, reg_setF_other _ _ _ _ hb, getBit]

theorem setReg (h : CellWork T m s t) {a : Nat} (v : Word) (ha : Apart m a) : CellWork T m s (setReg a v t) := by
  refine h.trans ⟨h.small, fun _ _ => rfl, ⟨fun _ => rfl, fun _ => rfl⟩, rfl, rfl, fun _ => rfl, .refl _ _, fun b i hw => ?_⟩
  rw [getBit, reg_setReg_other _ _ (by rintro rfl; exact ha.not_watches T i hw), getBit]

theorem setF (h : CellWork T m s t) {a : Nat} (lo w v : Nat) (ha : Apart m a) : CellWork T m s (setF a lo w v t) := h.setReg _ ha

theorem setB (h : CellWork T m s t) {a : Nat} (i : Nat) (v : Bool) (ha : Apart m a) : CellWork T m s (setB a i v t) := h.setReg _ ha

theorem bumpF (h : CellWork T m s t) {a : Nat} (lo w : Nat) (ha : Apart m a) : CellWork T m s (bumpF a lo w t) := h.setReg _ ha

theorem setReg64 (h : CellWork T m s t) {a : Nat} (n : Nat) (ha : Apart m a) (ha4 : Apart m (a + 4)) : CellWork T m s (setReg64 a n t) :=
  (h.setReg _ ha).setReg _ ha4

/-- A field of the cell's CELL_STATUS. -/
theorem setStatus (h : CellWork T m s t) {lo w : Nat} (v : Nat) (hT : ∀ i, lo ≤ i → i < lo + w → T.status i) :
    CellWork T m s (Machine.setF (Reg.CELL_STATUS m) lo w v t) := by
  refine h.setF_of v fun i h1 h2 => ?_
  rintro (⟨-, hn⟩ | ⟨e, -⟩ | ⟨e, -⟩ | ⟨e, -⟩)
  · exact hn (hT i h1 h2)
  · unfold Reg.CELL_STATUS Reg.CELL_CTRL at e
    omega
  · have := h.small
    unfold Reg.CELL_STATUS claimState Reg.CLAIM_STATE at e
    omega
  · unfold PumpWord Reg.CELL_STATUS at e
    omega

theorem setStatusBit (h : CellWork T m s t) {i : Nat} (v : Bool) (hT : T.status i) :
    CellWork T m s (Machine.setB (Reg.CELL_STATUS m) i v t) :=
  h.setStatus _ fun j h1 h2 => by rwa [show j = i by omega]

/-- A bit of the cell's CELL_CTRL. -/
theorem setCtrlBit (h : CellWork T m s t) {i : Nat} (v : Bool) (hT : T.ctrl i) :
    CellWork T m s (Machine.setB (Reg.CELL_CTRL m) i v t) := by
  refine h.setF_of _ fun j h1 h2 => ?_
  rintro (⟨e, -⟩ | ⟨-, hn⟩ | ⟨e, -⟩ | ⟨e, -⟩)
  · unfold Reg.CELL_STATUS Reg.CELL_CTRL at e
    omega
  · exact hn (by rwa [show j = i by omega])
  · have := h.small
    unfold Reg.CELL_CTRL claimState Reg.CLAIM_STATE at e
    omega
  · unfold PumpWord Reg.CELL_CTRL at e
    omega

/-- A bit of a cell's arbiter words beside ORPHAN. -/
theorem setClaimBit (h : CellWork T m s t) {j i : Nat} (v : Bool) (hj : j < 1024) (hi : i ≠ 1) :
    CellWork T m s (Machine.setB (claimState j) i v t) := by
  refine h.setF_of _ fun n h1 h2 => ?_
  rintro (⟨e, -⟩ | ⟨e, -⟩ | ⟨-, rfl, -⟩ | ⟨e, -⟩)
  · unfold claimState Reg.CLAIM_STATE Reg.CELL_STATUS at e
    omega
  · unfold claimState Reg.CLAIM_STATE Reg.CELL_CTRL at e
    omega
  · omega
  · unfold PumpWord claimState Reg.CLAIM_STATE at e
    omega

/-- A field of TWIN_STATUS, where the pumps may change. -/
theorem setTwinStatus (h : CellWork T m s t) (hp : T.pumps) {k : Nat} (hk : k < 128) (lo w v : Nat) :
    CellWork T m s (Machine.setF (Reg.TWIN_STATUS k) lo w v t) := h.setF_of v fun i _ _ => (pumpWord_twinStatus hk).not_watches hp m i

theorem setCell (h : CellWork T m s t) {c : LoopCell} (hc : T.Keeps (loopCell t m) c) : CellWork T m s (setCell m c t) := by
  refine h.trans ⟨h.small, fun j hj => loopCell_setCell_other hj c t, ⟨fun _ => rfl, fun _ => rfl⟩, rfl, rfl, fun _ => rfl, ?_, fun _ _ _ => rfl⟩
  rwa [loopCell_setCell_same]

theorem modCopy (h : CellWork T m s t) (side : Nat) {f : LoopCopy → LoopCopy} (hf : ∀ l, l = (loopCell t m).copy side →
    (l.copied = true → (f l).copied = true) ∧ (¬T.codes → (f l).codes = l.codes)) : CellWork T m s (modCopy m side f t) := by
  obtain ⟨hcopied, hcodes⟩ := hf _ rfl
  refine h.setCell ⟨fun _ => ?_, fun i hi => ?_, fun hc i => ?_⟩
  · unfold LoopCell.withCopy
    split <;> rfl
  · rcases copy_withCopy_cases (loopCell t m) side (f ((loopCell t m).copy side)) i with ⟨h1, h2⟩ | h1
    · rw [h1]
      exact hcopied (h2 ▸ hi)
    · rwa [h1]
  · rcases copy_withCopy_cases (loopCell t m) side (f ((loopCell t m).copy side)) i with ⟨h1, h2⟩ | h1
    · rw [h1, h2]
      exact hcodes hc
    · rw [h1]

theorem setHeater (h : CellWork T m s t) (hT : T.heaters) (n : Nat) (x : Heater) : CellWork T m s (setHeater n x t) :=
  h.trans ⟨h.small, fun _ _ => rfl, ⟨fun _ => rfl, fun _ => rfl⟩, rfl, rfl, fun hn => absurd hT hn, .refl _ _, fun _ _ _ => rfl⟩

theorem ite (c : Prop) [Decidable c] (ht : c → CellWork T m s t) (hu : ¬c → CellWork T m s u) : CellWork T m s (if c then t else u) := by
  split
  · next h => exact ht h
  · next h => exact hu h

theorem whenB (h : CellWork T m s t) (c : Bool) {f : State → State} (hf : CellWork T m s (f t)) : CellWork T m s (whenB c f t) := by
  cases c
  · exact h
  · exact hf

theorem forEach {α : Type} (h : CellWork T m s t) (l : List α) (f : α → State → State)
    (hf : ∀ x ∈ l, ∀ u, CellWork T m s u → CellWork T m s (f x u)) : CellWork T m s (forEach l f t) := forEach_keeps _ f l hf h

theorem emit (h : CellWork T m s t) (e : Emission) : CellWork T m s (emit e t) := h.beside rfl

theorem setPump (h : CellWork T m s t) (k : Nat) (p : Pump) : CellWork T m s (setPump k p t) := h.beside rfl

theorem setInt (h : CellWork T m s t) (p : Page) (i : Nat) : CellWork T m s (setInt p i t) := by
  have hb := h.setB i true (apart_int m p)
  exact ite _ (fun _ => hb.emit _) fun _ => hb

theorem setFault (h : CellWork T m s t) (p : Page) (i : Nat) (ha : ∀ j, ¬T.Watches m (Reg.FAULT_STATUS p) j) :
    CellWork T m s (setFault p i t) := by
  have hb : CellWork T m s (Machine.setB (Reg.FAULT_STATUS p) i true t) := h.setF_of _ fun j _ _ => ha j
  refine ite _ (fun _ => h) fun _ => ?_
  split
  · exact hb.beside rfl
  · exact hb

theorem refreshStatus (h : CellWork T m s t) {p : Page} (ha : Apart m (Reg.STATUS p)) : CellWork T m s (refreshStatus p t) :=
  ((h.setB _ _ ha).setB _ _ ha).setB _ _ ha

theorem setPhase (h : CellWork T m s t) {p : Page} (ha : Apart m (Reg.STATUS p)) (f : Phase) : CellWork T m s (setPhase p f t) := by
  refine refreshStatus ?_ ha
  exact h.beside rfl

end CellWork

end Sys2Proof.Machine
end

section
/-! PROOF. Loop cells through their modes, their banks and their updates (R269, R286 to R304): what each operation of the model may touch. -/

namespace Sys2Proof.Machine

open Sys2Proof

theorem apart_slotStatus (m : Nat) {n : Nat} (hn : n < 2560) : Apart m (Reg.LOOP_SLOT_STATUS n) := by
  unfold Apart Reg.LOOP_SLOT_STATUS
  omega

theorem primaryPump_lt {m : Nat} (h : m < 640) : primaryPump m < 128 := by
  unfold primaryPump
  omega

theorem twin_lt {k : Nat} (h : k < 128) : twin k < 128 := by
  unfold twin
  split <;> omega

theorem slot_lt {m n : Nat} (h : m < 640) (hn : n ∈ cellSlots m) : n < 2560 := by
  have := mem_cellSlots.1 hn
  omega

namespace CellWork

variable {T : Touch} {m : Nat} {s t u : State}

/-! ### Modes and injections (R293 to R299) -/

theorem showComparing (h : CellWork T m s t) {j : Nat} (hj : j < 1024) : CellWork T m s (showComparing j t) :=
  h.setClaimBit _ hj (by decide)

/-- The cell's slots and COMPARING follow MODE_ACTIVE. -/
theorem autoShown {b : Bool} (h : CellWork T m s (Machine.setB (Reg.CELL_STATUS m) 0 b t)) : CellWork T m s (Machine.setAuto b m t) :=
  (h.forEach _ _ fun _ hn _ hu => hu.setB _ _ (apart_slotStatus m (slot_lt h.small hn))).showComparing (by have := h.small; omega)

theorem setAuto (h : CellWork T m s t) (h0 : T.status 0) (b : Bool) : CellWork T m s (setAuto b m t) := (h.setStatusBit b h0).autoShown

theorem injEnd (h : CellWork T m s t) (h4 : T.status 4) (aborted : Bool) : CellWork T m s (injEnd aborted m t) := by
  have ha : Apart m (Reg.INJ_STATUS m) := by unfold Apart Reg.INJ_STATUS; omega
  have h1 := (h.setB (if aborted then 2 else 1) true ha).setB 0 false ha
  have hcell : ∀ {u : State}, CellWork T m s u →
      CellWork T m s (Machine.setCell m { loopCell u m with injArmed := false, injValue := 0 } u) := fun hu =>
    hu.setCell (.of_copies T rfl rfl rfl)
  exact ite _ (fun _ => ((hcell h1).setStatusBit false h4).setInt _ 2) fun _ => h

theorem leaveAuto (h : CellWork T m s t) (h0 : T.status 0) (h4 : T.status 4) : CellWork T m s (leaveAuto m t) := (h.setAuto h0 _).injEnd h4 _

theorem forceManual (h : CellWork T m s t) (h0 : T.status 0) (h4 : T.status 4) (hc : T.ctrl 0) : CellWork T m s (forceManual m t) :=
  (h.setCtrlBit false hc).leaveAuto h0 h4

theorem presetAll (h : CellWork T m s t) : CellWork T m s (presetAll m t) := h.setCell (.of_copies T rfl rfl rfl)

theorem clearUpdates (h : CellWork T m s t) (n : Nat) : CellWork T m s (Machine.setReg64 (Reg.CELL_UPDATES_LO m) n t) :=
  setReg64 (a := Reg.CELL_UPDATES_LO m) h n (by unfold Apart Reg.CELL_UPDATES_LO; omega) (by unfold Apart Reg.CELL_UPDATES_LO; omega)

theorem injDraw (h : CellWork T m s t) : CellWork T m s (injDraw m t) := by
  have hv : ∀ v, CellWork T m s (Machine.setCell m { loopCell t m with injValue := v } t) := fun _ =>
    h.setCell (.of_copies T rfl rfl rfl)
  exact ite _ (fun _ => hv _) fun _ => hv _

theorem injBoundary (h : CellWork T m s t) (h4 : T.status 4) : CellWork T m s (injBoundary m t) := by
  have ha : Apart m (Reg.INJ_STATUS m) := by unfold Apart Reg.INJ_STATUS; omega
  have hcell : ∀ {u : State} (armed : Bool) (n shift : Nat), CellWork T m s u →
      CellWork T m s (Machine.setCell m { loopCell u m with injArmed := armed, injN := n, injShift := shift } u) := fun _ _ _ hu =>
    hu.setCell (.of_copies T rfl rfl rfl)
  unfold Machine.injBoundary
  extract_lets c a start order n held runs rep s1
  have h1 : CellWork T m s s1 := h.setF _ _ _ ha
  refine ite _ (fun _ => ite _ (fun _ => ?_) fun _ => h) fun _ => ite _ (fun _ => ite _ (fun _ => ?_) fun _ => ?_) fun _ => h
  · exact ((((hcell false 0 (prbsSeed order) h).setB 0 true ha).setF 16 16 0 ha).setStatusBit true h4).injDraw
  · exact (hcell c.injArmed n _ h).injDraw
  · exact ite _ (fun _ => h1.injEnd h4 _) fun _ => (hcell (loopCell s1 m).injArmed 0 (prbsSeed order) h1).injDraw

theorem modeBoundary (h : CellWork T m s t) (h0 : T.status 0) (h4 : T.status 4) (hc : T.ctrl 0) : CellWork T m s (modeBoundary m t) :=
  ite _ (fun _ => ite _ (fun _ => h.setCtrlBit _ hc) fun _ => ((h.setAuto h0 _).clearUpdates _).presetAll) fun _ =>
    ite _ (fun _ => h.leaveAuto h0 h4) fun _ => h

/-! ### Loads and STALE (R269, R291, R302, R303) -/

theorem refreshLoad (h : CellWork T m s t) : CellWork T m s (refreshLoad m t) := by
  have hload : ∀ k, Apart m (Reg.PE_LOAD k) := fun k => by unfold Apart Reg.PE_LOAD; omega
  exact ((h.setReg _ (by unfold Apart Reg.CELL_COST; omega)).setReg _ (hload _)).setReg _ (hload _)

theorem markStale (h : CellWork T m s t) (hT : ∀ i, 8 ≤ i → i < 12 → T.status i) (b : Bool) {n : Nat} (hn : n ∈ cellSlots m) :
    CellWork T m s (markStale b n t) := by
  have hm := h.small
  obtain rfl := mem_cellSlots.1 hn
  have hcol : Apart (n / 4) (Reg.STATUS (colPage (n / 256))) := by
    have ha : Reg.STATUS (colPage (n / 256)) = 0x300000 + 0x10000 * (n / 256) + 0xc := rfl
    unfold Apart
    omega
  have h1 := h.setB 1 b (apart_slotStatus (n / 4) (slot_lt hm hn))
  have h2 := h1.setStatusBit b (hT (8 + n % 4) (by omega) (by omega))
  exact (h2.setB 3 _ hcol).setB 3 _ (apart_pumpStatus _ (by have := primaryPump_lt hm; omega))

/-! ### Table commits (R286 to R290) -/

theorem refreshCommit (h : CellWork T m s t) {k : Nat} (hk : k < 128) : CellWork T m s (refreshCommit k t) := by
  have hs : Apart m (Reg.STATUS (pumpPage k)) := apart_pumpStatus m (by omega)
  have ha : Apart m (Reg.LOOP_TABLE_STATUS k) := by unfold Apart Reg.LOOP_TABLE_STATUS; omega
  have hg : Apart m (Reg.GEN (pumpPage k)) := by
    have : Reg.GEN (pumpPage k) = 0x200000 + 0x1000 * k + 0x24 := rfl
    unfold Apart
    omega
  unfold Machine.refreshCommit
  extract_lets mask a was s1 s2
  have h1 : CellWork T m s s1 := (((h.setB _ _ hs).setB _ _ ha).setF _ _ _ ha).refreshStatus hs
  have h2 : CellWork T m s s2 := ite _ (fun _ => h1.setF _ _ _ hg) fun _ => h1
  exact ite _ (fun _ => h2.setInt _ _) fun _ => h1

theorem refuseBank (h : CellWork T m s t) (hs : ∀ i, i = 2 ∨ 5 ≤ i ∧ i < 8 → T.status i) (hc : T.ctrl 1) (reason : Nat) :
    CellWork T m s (refuseBank reason m t) := by
  have hp := primaryPump_lt h.small
  have ha : Apart m (Reg.LOOP_TABLE_STATUS (primaryPump m)) := by unfold Apart Reg.LOOP_TABLE_STATUS; omega
  have h1 := ((h.setCtrlBit false hc).setStatusBit false (hs 2 (by decide))).setStatus (lo := 5) (w := 3) reason fun i _ _ => hs i (by omega)
  have h2 := (h1.setCell (c := { loopCell t m with capture := none }) (.of_copies T rfl rfl rfl)).setB (16 + m % 5) true ha
  exact (h2.setInt _ 1).refreshCommit hp

end CellWork

/-- A pending bank becomes the active one: the estimates, the bits of CELL_STATUS and CELL_CTRL, and TABLE_ID (R289, R290, R303). -/
def bankEntered (cell : Nat) (s : State) : State :=
  let new := 1 - activeBank s cell
  let keep := bitOf (bankWord s cell new 0) 14 && bankStates s cell new == bankStates s cell (activeBank s cell)
  let fresh := fun (l : LoopCopy) => { l with loaded := false, xHat := if keep then l.xHat else List.replicate 12 0 }
  let s1 := modCopy cell 1 fresh (modCopy cell 0 fresh s)
  let s2 := setB (Reg.CELL_STATUS cell) 1 (new == 1) (setB (Reg.CELL_STATUS cell) 2 false (setB (Reg.CELL_CTRL cell) 1 false s1))
  setF (Reg.CELL_STATUS cell) 16 16 (fld (bankWord s cell new 1) 0 16) (setReg64 (Reg.CELL_UPDATES_LO cell) 0 s2)

/-- What the entry of a bank brings besides, as the state `s` before it has the bank and the pump: the times, the mode, and the loads
(R290, R295, R296, R303). -/
def bankFollows (cell : Nat) (s t : State) : State :=
  let k := primaryPump cell
  let s4 := setPump k { pump t k with swapped := true } (setCell cell { loopCell t cell with capture := none } t)
  let s5 := injEnd true cell (setF (Reg.LOOP_TABLE_TIME k) 0 16 (min 65535 ((s.time.uptime - (pump s k).capturedAt) / 1000)) s4)
  let s6 := if bankKernel s5 cell (1 - activeBank s cell) = 0 then
      (if cellAuto s5 cell then forceManual cell s5 else setB (Reg.CELL_CTRL cell) 0 false s5)
    else if cellAuto s5 cell then presetAll cell s5 else s5
  refreshLoad cell (refreshCommit k s6)

theorem swapBank_eq (cell : Nat) (s : State) : swapBank cell s = bankFollows cell s (bankEntered cell s) := rfl

namespace CellWork

variable {T : Touch} {m : Nat} {s t u : State}

theorem bankEntered (h : CellWork T m s t) (hs : ∀ i, i = 1 ∨ i = 2 ∨ 16 ≤ i → T.status i) (hc : T.ctrl 1) :
    CellWork T m s (bankEntered m t) := by
  unfold Machine.bankEntered
  extract_lets new keep fresh s1 s2
  have h1 : CellWork T m s s1 := (h.modCopy 0 (f := fresh) fun _ _ => ⟨id, fun _ => rfl⟩).modCopy 1 (f := fresh) fun _ _ => ⟨id, fun _ => rfl⟩
  have h2 : CellWork T m s s2 := ((h1.setCtrlBit false hc).setStatusBit false (hs 2 (by decide))).setStatusBit _ (hs 1 (by decide))
  exact (h2.clearUpdates 0).setStatus (lo := 16) (w := 16) _ fun i hi _ => hs i (by omega)

theorem bankFollows (h : CellWork T m s t) (h0 : T.status 0) (h4 : T.status 4) (hc : T.ctrl 0) (x : State) :
    CellWork T m s (bankFollows m x t) := by
  have hp := primaryPump_lt h.small
  have ha : Apart m (Reg.LOOP_TABLE_TIME (primaryPump m)) := by unfold Apart Reg.LOOP_TABLE_TIME; omega
  unfold Machine.bankFollows
  extract_lets k p c s4 s5 s6
  have hcell : CellWork T m s s4 :=
    (h.setCell (c := { loopCell t m with capture := none }) (.of_copies T rfl rfl rfl)).setPump _ _
  have h5 : CellWork T m s s5 := (hcell.setF _ _ _ ha).injEnd h4 _
  have h6 : CellWork T m s s6 :=
    ite _ (fun _ => ite _ (fun _ => h5.forceManual h0 h4 hc) fun _ => h5.setCtrlBit _ hc) fun _ => ite _ (fun _ => h5.presetAll) fun _ => h5
  exact (h6.refreshCommit hp).refreshLoad

end CellWork

end Sys2Proof.Machine
end

section
/-! PROOF. Table commits (R286 to R290, R638): the capture of a pump's ready cells, and the checks and the refusal of a loaded bank. -/

namespace Sys2Proof.Machine

open Sys2Proof

/-! ### The pump's page (R290, R304) -/

section Page

variable (k : Nat)

/-- The registers that show a commit stand apart. -/
theorem commitRegs_apart :
    Reg.STATUS (pumpPage k) ≠ Reg.LOOP_TABLE_STATUS k ∧ Reg.GEN (pumpPage k) ≠ Reg.LOOP_TABLE_STATUS k ∧
      Reg.INT_STATUS (pumpPage k) ≠ Reg.LOOP_TABLE_STATUS k ∧ Reg.STATUS (pumpPage k) ≠ Reg.INT_STATUS (pumpPage k) ∧
      Reg.GEN (pumpPage k) ≠ Reg.INT_STATUS (pumpPage k) := by
  simp only [Reg.STATUS, Reg.GEN, Reg.INT_STATUS, Reg.LOOP_TABLE_STATUS, pageBase, pumpPage]
  omega

/-- The registers of a pump's page that a commit shows in. -/
def commitRegs : List Nat := [Reg.STATUS (pumpPage k), Reg.LOOP_TABLE_STATUS k, Reg.GEN (pumpPage k), Reg.INT_STATUS (pumpPage k)]

/-- CELL_STATUS and CELL_CTRL, and whatever else stands so low in its page, are not among them. -/
theorem not_mem_commitRegs {k a : Nat} (h : a % 0x1000 < 0xc) : a ∉ commitRegs k := by
  simp only [commitRegs, Reg.STATUS, Reg.GEN, Reg.INT_STATUS, Reg.LOOP_TABLE_STATUS, pageBase, pumpPage, List.mem_cons, List.not_mem_nil,
    or_false]
  omega

/-- The cells that are pending, as LOOP_TABLE_STATUS shows them. -/
def commitMask (s : State) : Nat := ((pendingCells s k).map fun m => 2 ^ (m % 5)).sum

theorem commitMask_ne_zero {k m : Nat} {s : State} (hm : m ∈ pumpCells k) (h : cellPending s m = true) : commitMask k s ≠ 0 := by
  intro h0
  have hzero := List.sum_eq_zero_iff.1 h0 (2 ^ (m % 5)) (List.mem_map_of_mem (List.mem_filter.2 ⟨hm, h⟩))
  exact absurd hzero (by positivity)

/-- PENDING and MIXED_GEN, and which cells they are of (R290, R304). -/
def commitShown (s : State) : State :=
  refreshStatus (pumpPage k) (setF (Reg.LOOP_TABLE_STATUS k) 8 5 (commitMask k s) (setB (Reg.LOOP_TABLE_STATUS k) 0 (commitMask k s != 0)
    (setB (Reg.STATUS (pumpPage k)) 4 (commitMask k s != 0) s)))

/-- A commit ends where none of its cells is left: GEN may move on, and an interrupt shows it. -/
theorem refreshCommit_cases (s : State) :
    refreshCommit k s = commitShown k s ∨
      commitMask k s = 0 ∧ ∃ u, OnlyRegs [Reg.GEN (pumpPage k)] (commitShown k s) u ∧ refreshCommit k s = setInt (pumpPage k) 0 u := by
  unfold refreshCommit
  extract_lets mask a was s1 s2
  have h2 : OnlyRegs [Reg.GEN (pumpPage k)] s1 s2 := by
    unfold s2
    split
    · exact (OnlyRegs.refl _ s1).wrapF _ _ (by simp)
    · exact .refl _ s1
  split
  · next h => exact .inr ⟨eq_of_beq (Bool.and_eq_true_iff.1 h).2, s2, h2, rfl⟩
  · exact .inl rfl

theorem commitShown_only (s : State) : OnlyRegs (commitRegs k) s (commitShown k s) := by
  have hs : Reg.STATUS (pumpPage k) ∈ commitRegs k := by simp [commitRegs]
  have ha : Reg.LOOP_TABLE_STATUS k ∈ commitRegs k := by simp [commitRegs]
  exact ((((((OnlyRegs.refl _ s).setB _ _ hs).setB _ _ ha).setF _ _ _ ha).setB _ _ hs).setB _ _ hs).setB _ _ hs

theorem refreshCommit_only (s : State) : OnlyRegsOut (commitRegs k) s (refreshCommit k s) := by
  have h1 := commitShown_only k s
  rcases refreshCommit_cases k s with h | ⟨-, u, hu, h⟩
  · exact h ▸ h1.toOut
  · obtain ⟨⟨r, hr⟩, hregs⟩ := h1
    obtain ⟨⟨r', rfl⟩, hregs'⟩ := hu
    rw [h]
    refine OnlyRegsOut.setInt ⟨⟨r', _, by rw [hr]⟩, fun a ha => ?_⟩ _ _ (by simp [commitRegs])
    exact (hregs' a fun he => ha (by simp [commitRegs, List.mem_singleton.1 he])).trans (hregs a ha)

variable {k} {s : State}

/-- The bits of LOOP_TABLE_STATUS beside PENDING and its mask. -/
theorem tableStatus_refreshCommit {i : Nat} (h0 : i ≠ 0) (h : i < 8 ∨ 13 ≤ i) :
    getBit (refreshCommit k s) (Reg.LOOP_TABLE_STATUS k) i = getBit s (Reg.LOOP_TABLE_STATUS k) i := by
  obtain ⟨hst, hgen, hint, -, -⟩ := commitRegs_apart k
  have h1 : getBit (commitShown k s) (Reg.LOOP_TABLE_STATUS k) i = getBit s (Reg.LOOP_TABLE_STATUS k) i := by
    rw [getBit, commitShown, reg_refreshStatus_other _ _ hst]
    refine (getBit_setF_beside _ _ _ _ _ (by omega)).trans ((getBit_setF_beside _ _ _ _ _ (by omega)).trans ?_)
    rw [getBit, reg_setB_other _ _ _ hst, getBit]
  rcases refreshCommit_cases k s with h' | ⟨-, u, hu, h'⟩
  · rw [h', h1]
  · rw [h', ← h1, getBit, reg_setInt_other _ _ _ hint, hu.2 _ (by simpa using hgen.symm), getBit]

/-- The interrupts of the page, the end of a commit apart. -/
theorem interrupts_refreshCommit {i : Nat} (h0 : i ≠ 0) (hi : i < 32) :
    getBit (refreshCommit k s) (Reg.INT_STATUS (pumpPage k)) i = getBit s (Reg.INT_STATUS (pumpPage k)) i := by
  obtain ⟨-, -, hint, hst, hgen⟩ := commitRegs_apart k
  have h1 : reg (commitShown k s) (Reg.INT_STATUS (pumpPage k)) = reg s (Reg.INT_STATUS (pumpPage k)) := by
    rw [commitShown, reg_refreshStatus_other _ _ hst, reg_setF_other _ _ _ _ hint.symm, reg_setB_other _ _ _ hint.symm, reg_setB_other _ _ _ hst]
  rcases refreshCommit_cases k s with h' | ⟨-, u, hu, h'⟩
  · rw [h', getBit, h1, getBit]
  · rw [h', getBit, reg_setInt]
    refine (getBit_setB_beside _ _ _ _ _ (Ne.symm h0) hi).trans ?_
    rw [getBit, hu.2 _ (by simpa using hgen.symm), h1, getBit]

/-- While a cell is pending the page shows PENDING and MIXED_GEN. -/
theorem refreshCommit_pending (h : commitMask k s ≠ 0) :
    getBit (refreshCommit k s) (Reg.LOOP_TABLE_STATUS k) 0 = true ∧ getBit (refreshCommit k s) (Reg.STATUS (pumpPage k)) 4 = true := by
  obtain ⟨hst, -⟩ := commitRegs_apart k
  have hshown : refreshCommit k s = commitShown k s := (refreshCommit_cases k s).resolve_right fun hr => h hr.1
  have hb : (commitMask k s != 0) = true := bne_iff_ne.2 h
  rw [hshown, commitShown, hb]
  constructor
  · rw [getBit, reg_refreshStatus_other _ _ hst]
    exact (getBit_setF_beside _ _ _ _ _ (by decide)).trans (getBit_setB_same _ _ _ _ (by decide))
  · refine (getBit_setF_beside _ _ _ _ _ (by decide)).trans ((getBit_setF_beside _ _ _ _ _ (by decide)).trans
      ((getBit_setF_beside _ _ _ _ _ (by decide)).trans ?_))
    rw [getBit, reg_setF_other _ _ _ _ hst.symm, reg_setB_other _ _ _ hst.symm]
    exact getBit_setB_same _ _ _ _ (by decide)

end Page

/-! ### The checks of a loaded bank (R288) -/

section Checks

variable {s : State} {k b : Nat} {flags : List Bool}

theorem bankFault_crc (h15 : bitOf (bankWord s k b 0) 15 = true) (h : crc32 (crcBytes s k b) ≠ (bankWord s k b 2).toNat) :
    bankFault s k b flags = 1 := if_pos (by simp [h15, h])

/-- A bank whose CRC is not checked, or agrees. -/
theorem bankFault_of_crc (h : bitOf (bankWord s k b 0) 15 = false ∨ crc32 (crcBytes s k b) = (bankWord s k b 2).toNat) :
    bankFault s k b flags =
      if bankStates s k b = 0 || 12 < bankStates s k b || 4 ≤ bankKernel s k b ||
          (fld (bankWord s k b 0) 8 6 != 0 && (fld (bankWord s k b 0) 8 6 < 4 || 40 < fld (bankWord s k b 0) 8 6)) then 2
      else if (bankKernel s k b = 1 || bankKernel s k b = 2) &&
          (((List.range 4).any fun i => (List.range 4).any fun j => i != j && (rowElement s k b (0x420 + 12 * i) j).man != 0) ||
            (List.range 4).any fun i => (flags[i]?).getD false && (rowElement s k b (0x420 + 12 * i) i).man == 0) then 3
      else 0 := if_neg (by rcases h with h | h <;> simp [h])

theorem bankFault_field (h : bitOf (bankWord s k b 0) 15 = false ∨ crc32 (crcBytes s k b) = (bankWord s k b 2).toNat)
    (hf : bankStates s k b = 0 ∨ 12 < bankStates s k b ∨ 3 < bankKernel s k b ∨
      (fld (bankWord s k b 0) 8 6 ≠ 0 ∧ (fld (bankWord s k b 0) 8 6 < 4 ∨ 40 < fld (bankWord s k b 0) 8 6))) :
    bankFault s k b flags = 2 := by
  rw [bankFault_of_crc h, if_pos]
  simpa [or_assoc, Nat.succ_le_iff] using hf

theorem bankFault_kz (h : bitOf (bankWord s k b 0) 15 = false ∨ crc32 (crcBytes s k b) = (bankWord s k b 2).toNat)
    (hlo : 1 ≤ bankStates s k b) (hhi : bankStates s k b ≤ 12) (hk : bankKernel s k b = 1 ∨ bankKernel s k b = 2)
    (hp : fld (bankWord s k b 0) 8 6 = 0 ∨ (4 ≤ fld (bankWord s k b 0) 8 6 ∧ fld (bankWord s k b 0) 8 6 ≤ 40))
    (hoff : ∃ i j, i < 4 ∧ j < 4 ∧ i ≠ j ∧ (rowElement s k b (0x420 + 12 * i) j).man ≠ 0) : bankFault s k b flags = 3 := by
  have hany : ((List.range 4).any fun i => (List.range 4).any fun j => i != j && (rowElement s k b (0x420 + 12 * i) j).man != 0) = true := by
    obtain ⟨i, j, hi, hj, hne, hman⟩ := hoff
    refine List.any_eq_true.2 ⟨i, List.mem_range.2 hi, List.any_eq_true.2 ⟨j, List.mem_range.2 hj, ?_⟩⟩
    simp [hne, hman]
  rw [bankFault_of_crc h, if_neg, if_pos]
  · rw [hany, Bool.true_or, Bool.and_true]
    simpa using hk
  · simp only [Bool.or_eq_true, Bool.and_eq_true, decide_eq_true_eq, bne_iff_ne]
    omega

variable {m : Nat}

theorem captureFault_load (hc : (loopCell s m).capture = some flags) (h : bankFault s m (1 - activeBank s m) flags = 0)
    (ho : overLoad s m = true) : captureFault s m = 4 := by
  simp [captureFault, hc, h, ho]

theorem captureFault_noPump (hc : (loopCell s m).capture = some flags) (h : bankFault s m (1 - activeBank s m) flags = 0)
    (ho : overLoad s m = false) (hp : inService s (primaryPump m) = false) (ht : inService s (twin (primaryPump m)) = false) :
    captureFault s m = 5 := by
  simp [captureFault, hc, h, ho, hp, ht]

theorem captureFault_lt (s : State) (m : Nat) : captureFault s m < 8 := by
  have hb : ∀ b l, bankFault s m b l < 8 := fun b l => by
    unfold bankFault
    dsimp only
    split <;> (try split) <;> (try split) <;> decide
  unfold captureFault
  dsimp only
  split
  · exact hb _ _
  · split <;> (try split) <;> decide

end Checks

/-! ### Refusal and load (R287, R288, R304) -/

section Loads

variable {k : Fin 128} {m : Fin 640} {side : Nat} {s : State}

/-- A cell whose captured bank has been refused, before the page shows which cells are still pending. -/
def bankTurnedDown (reason cell : Nat) (s : State) : State :=
  setInt (pumpPage (primaryPump cell)) 1 (setB (Reg.LOOP_TABLE_STATUS (primaryPump cell)) (16 + cell % 5) true
    (setCell cell { loopCell s cell with capture := none }
      (setF (Reg.CELL_STATUS cell) 5 3 reason (setB (Reg.CELL_STATUS cell) 2 false (setB (Reg.CELL_CTRL cell) 1 false s)))))

theorem refuseBank_eq (reason cell : Nat) (s : State) :
    refuseBank reason cell s = refreshCommit (primaryPump cell) (bankTurnedDown reason cell s) := rfl

/-- A refusal shows its reason, clears PENDING and NEXT_BANK_READY, and sets the cell's bit and TABLE_REFUSED (R288). -/
theorem refuseBank_shows {reason cell : Nat} (hr : reason < 8) (s : State) :
    getF (refuseBank reason cell s) (Reg.CELL_STATUS cell) 5 3 = reason ∧ cellPending (refuseBank reason cell s) cell = false ∧
      getBit (refuseBank reason cell s) (Reg.CELL_CTRL cell) 1 = false ∧
      getBit (refuseBank reason cell s) (Reg.LOOP_TABLE_STATUS (primaryPump cell)) (16 + cell % 5) = true ∧
      getBit (refuseBank reason cell s) (Reg.INT_STATUS (pumpPage (primaryPump cell))) 1 = true := by
  have hkeep : ∀ a, a % 0x1000 < 0xc → reg (refuseBank reason cell s) a =
      reg (setF (Reg.CELL_STATUS cell) 5 3 reason (setB (Reg.CELL_STATUS cell) 2 false (setB (Reg.CELL_CTRL cell) 1 false s))) a := fun a ha => by
    have hint : Reg.INT_STATUS (pumpPage (primaryPump cell)) ≠ a := by
      rintro rfl
      exact not_mem_commitRegs (k := primaryPump cell) ha (by simp [commitRegs])
    have htab : Reg.LOOP_TABLE_STATUS (primaryPump cell) ≠ a := by
      rintro rfl
      exact not_mem_commitRegs (k := primaryPump cell) ha (by simp [commitRegs])
    rw [refuseBank_eq, (refreshCommit_only _ _).2 a (not_mem_commitRegs ha), bankTurnedDown, reg_setInt_other _ _ _ hint, reg_setB_other _ _ _ htab,
      reg_setCell]
  have hstatus := hkeep (Reg.CELL_STATUS cell) (by unfold Reg.CELL_STATUS; omega)
  have hctrl := hkeep (Reg.CELL_CTRL cell) (by unfold Reg.CELL_CTRL; omega)
  have hne := cellStatus_ne_cellCtrl cell
  obtain ⟨-, -, hint, -⟩ := commitRegs_apart (primaryPump cell)
  refine ⟨?_, ?_, ?_, ?_, ?_⟩
  · rw [getF, hstatus]
    exact (getF_setF_same _ _ _ _ _ (by decide)).trans (Nat.mod_eq_of_lt hr)
  · rw [cellPending, getBit, hstatus]
    exact (getBit_setF_beside _ _ _ _ _ (by decide)).trans (getBit_setB_same _ _ _ _ (by decide))
  · rw [getBit, hctrl, reg_setF_other _ _ _ _ hne, reg_setB_other _ _ _ hne]
    exact getBit_setB_same _ _ _ _ (by decide)
  · rw [refuseBank_eq, tableStatus_refreshCommit (by omega) (by omega), getBit, bankTurnedDown, reg_setInt_other _ _ _ hint]
    exact getBit_setB_same _ _ _ _ (by omega)
  · rw [refuseBank_eq, interrupts_refreshCommit (by decide) (by decide), bankTurnedDown]
    exact getBit_setInt _ _ _ (by decide)

/-- A refusal touches its cell alone, the old bank stays active, and no driver stage moves (R288). -/
theorem refuseBank_work {cell : Nat} (hm : cell < 640) (reason : Nat) (s : State) :
    CellWork (.bits (fun i => i = 2 ∨ 5 ≤ i ∧ i < 8) (· = 1)) cell s (refuseBank reason cell s) :=
  (CellWork.refl _ hm s).refuseBank (fun _ h => h) rfl reason

theorem sideOf_lt {k cell side : Nat} (h : sideOf k cell = some side) : side < 2 := by
  unfold sideOf at h
  split at h
  · exact Option.some.inj h ▸ by decide
  · split at h
    · exact Option.some.inj h ▸ by decide
    · contradiction

theorem exec_tableBankLoaded (hs : sideOf k m = some side) (hp : cellPending s m = true) (hm : m.val < s.variant.cells) :
    exec (.tableBankLoaded k m) s =
      .next (if captureFault s m ≠ 0 then refuseBank (captureFault s m) m s
        else if inService s k then modCopy m side (fun l => { l with loaded := true }) s else s) := by
  show execTableBankLoaded k m s = _
  unfold execTableBankLoaded
  simp [hs, hp, hm]

end Loads

theorem CellWork.activeBank {T : Touch} {m : Nat} {s t : State} (h : CellWork T m s t) (hT : ¬T.status 1) : activeBank t m = activeBank s m :=
  getF_of_bits fun i h1 h2 => h.bits _ _ (.inl ⟨rfl, by rwa [show i = 1 by omega]⟩)

/-! ### COMMIT (R287, R638) -/

section Commit

variable {k : Nat} {s t : State}

/-- Which slots of a cell a capture counts as in the loop (R288). -/
def loopFlags (s : State) (m : Nat) : List Bool := (cellSlots m).map fun n => slotInLoop s n && (slotMeas s n).1 != 3

/-- A ready cell is captured, with the roles of the moment `s` (R287). -/
def captureCell (s : State) (m : Nat) (t : State) : State :=
  setF (Reg.CELL_STATUS m) 5 3 0 (setB (Reg.CELL_STATUS m) 2 true
    (setCell m { loopCell t m with
      capture := some (loopFlags s m)
      primary := { (loopCell t m).primary with loaded := false }
      secondary := { (loopCell t m).secondary with loaded := false } } t))

/-- The cells of a pump that a COMMIT captures (R287). -/
def readyCells (k : Nat) (s : State) : List Nat :=
  (pumpCells k).filter fun m => m < s.variant.cells && getBit s (Reg.CELL_CTRL m) 1 && !cellPending s m

/-- A commit that begins on the page: no cell is refused, and its time runs from now (R290). -/
def commitBegun (k : Nat) (s t : State) : State :=
  if getBit s (Reg.LOOP_TABLE_STATUS k) 0 then t
  else setF (Reg.LOOP_TABLE_STATUS k) 16 5 0 (setPump k { pump t k with capturedAt := t.time.uptime, swapped := false } t)

theorem loopCapture_eq (k : Nat) (s : State) :
    loopCapture k s = if (readyCells k s).isEmpty then forEach (readyCells k s) (captureCell s) s
      else refreshCommit k (commitBegun k s (forEach (readyCells k s) (captureCell s) s)) := rfl

theorem mem_readyCells {m : Nat} : m ∈ readyCells k s ↔
    m ∈ pumpCells k ∧ m < s.variant.cells ∧ getBit s (Reg.CELL_CTRL m) 1 = true ∧ cellPending s m = false := by
  simp [readyCells, and_assoc]

theorem cellStatus_not_mem_table (k j : Nat) : Reg.CELL_STATUS j ∉ [Reg.LOOP_TABLE_STATUS k] := by
  unfold Reg.CELL_STATUS Reg.LOOP_TABLE_STATUS
  simp only [List.mem_singleton]
  omega

theorem cellStatus_inj {m j : Nat} (h : m ≠ j) : Reg.CELL_STATUS m ≠ Reg.CELL_STATUS j := by
  unfold Reg.CELL_STATUS
  omega

/-- What the capture of the cells `l` leaves alone: the bytes, the driver stages, of every CELL_STATUS the mode and the active bank, and the cells
outside `l`. -/
structure Captures (l : List Nat) (s t : State) : Prop where
  bytes : SameBytes s t
  heaters : t.heaters = s.heaters
  modes : ∀ j i, i < 2 → getBit t (Reg.CELL_STATUS j) i = getBit s (Reg.CELL_STATUS j) i
  others : ∀ j, j ∉ l → reg t (Reg.CELL_STATUS j) = reg s (Reg.CELL_STATUS j) ∧ loopCell t j = loopCell s j

theorem Captures.captureCell {l : List Nat} {x : State} (h : Captures l s t) {m : Nat} (hm : m ∈ l) : Captures l s (captureCell x m t) where
  bytes := h.bytes
  heaters := h.heaters
  modes j i hi := by
    refine Eq.trans ?_ (h.modes j i hi)
    by_cases hj : m = j
    · subst hj
      exact (getBit_setF_beside _ _ _ _ _ (by omega)).trans (getBit_setF_beside _ _ _ _ _ (by omega))
    · rw [getBit, Machine.captureCell, reg_setF_other _ _ _ _ (cellStatus_inj hj), reg_setB_other _ _ _ (cellStatus_inj hj), reg_setCell, getBit]
  others j hj := by
    have hne : m ≠ j := fun e => hj (e ▸ hm)
    obtain ⟨h1, h2⟩ := h.others j hj
    refine ⟨?_, (loopCell_setCell_other hne.symm _ _).trans h2⟩
    rw [Machine.captureCell, reg_setF_other _ _ _ _ (cellStatus_inj hne), reg_setB_other _ _ _ (cellStatus_inj hne), reg_setCell, h1]

/-- What stands beside the registers of cells. -/
theorem Captures.after {l lr : List Nat} {u : State} (h : Captures l s t) (hb : SameBytes t u) (hh : u.heaters = t.heaters) (hc : u.cells = t.cells)
    (hr : SameRegsBut lr t u) (hl : ∀ j, Reg.CELL_STATUS j ∉ lr) : Captures l s u where
  bytes := ⟨fun a => (hb.1 a).trans (h.bytes.1 a), fun a => (hb.2 a).trans (h.bytes.2 a)⟩
  heaters := hh.trans h.heaters
  modes j i hi := by rw [getBit, hr _ (hl j), ← getBit, h.modes j i hi]
  others j hj := by
    obtain ⟨h1, h2⟩ := h.others j hj
    exact ⟨(hr _ (hl j)).trans h1, by rw [loopCell, hc, ← loopCell, h2]⟩

/-- A captured cell (R287). -/
structure Captured (s : State) (m : Nat) (t : State) : Prop where
  pending : cellPending t m = true
  reason : getF t (Reg.CELL_STATUS m) 5 3 = 0
  roles : (loopCell t m).capture = some (loopFlags s m)

theorem Captured.of_same {m : Nat} {u : State} (h : Captured s m t) (hr : reg u (Reg.CELL_STATUS m) = reg t (Reg.CELL_STATUS m))
    (hc : loopCell u m = loopCell t m) : Captured s m u :=
  ⟨by rw [cellPending, getBit, hr]; exact h.pending, by rw [getF, hr]; exact h.reason, by rw [hc]; exact h.roles⟩

theorem captureCell_captured (s : State) (m : Nat) (t : State) : Captured s m (captureCell s m t) where
  pending := (getBit_setF_beside _ _ _ _ _ (by decide)).trans (getBit_setB_same _ _ _ _ (by decide))
  reason := getF_setF_same _ _ _ _ _ (by decide)
  roles := congrArg LoopCell.capture (loopCell_setCell_same m _ t)

theorem Captures.refl (l : List Nat) (s : State) : Captures l s s :=
  ⟨⟨fun _ => rfl, fun _ => rfl⟩, rfl, fun _ _ _ => rfl, fun _ _ => ⟨rfl, rfl⟩⟩

theorem forEach_captureCell {l : List Nat} {x : State} (h : Captures l x s) :
    Captures l x (forEach l (captureCell s) s) ∧ ∀ m ∈ l, Captured s m (forEach l (captureCell s) s) := by
  refine ⟨forEach_keeps (Captures l x) _ _ (fun m hm t ht => ht.captureCell hm) h,
    forEach_establishes (Captured s) _ l (fun m _ t => captureCell_captured s m t) (fun m _ j _ t ht => ?_) s⟩
  by_cases hj : j = m
  · exact hj ▸ captureCell_captured s j t
  · refine ht.of_same ?_ (loopCell_setCell_other (Ne.symm hj) _ _)
    rw [captureCell, reg_setF_other _ _ _ _ (cellStatus_inj hj), reg_setB_other _ _ _ (cellStatus_inj hj), reg_setCell]

theorem commitBegun_frame (k : Nat) (s t : State) :
    SameBytes t (commitBegun k s t) ∧ (commitBegun k s t).heaters = t.heaters ∧ (commitBegun k s t).cells = t.cells ∧
      SameRegsBut [Reg.LOOP_TABLE_STATUS k] t (commitBegun k s t) ∧
      getBit (commitBegun k s t) (Reg.LOOP_TABLE_STATUS k) 1 = getBit t (Reg.LOOP_TABLE_STATUS k) 1 := by
  unfold commitBegun
  split
  · exact ⟨⟨fun _ => rfl, fun _ => rfl⟩, rfl, rfl, .refl _ t, rfl⟩
  · exact ⟨⟨fun _ => rfl, fun _ => rfl⟩, rfl, rfl, fun a ha => reg_setF_other _ _ _ _ (fun e => ha (List.mem_singleton.2 e.symm)),
      getBit_setF_beside _ _ _ _ _ (by decide)⟩

theorem forEach_captureCell_reg (l : List Nat) (x s : State) {a : Nat} (ha : ∀ m, Reg.CELL_STATUS m ≠ a) :
    reg (forEach l (captureCell x) s) a = reg s a :=
  forEach_keeps (fun t => reg t a = reg s a) _ _
    (fun m _ t ht => by rw [captureCell, reg_setF_other _ _ _ _ (ha m), reg_setB_other _ _ _ (ha m), reg_setCell, ht]) rfl

/-- A COMMIT that finds a ready cell captures every one, and the page shows it (R287, R290). -/
theorem loopCapture_captures {x : State} {m : Nat} (hm : m ∈ readyCells k s) (h : Captures (readyCells k s) x s) :
    Captures (readyCells k s) x (loopCapture k s) ∧ Captured s m (loopCapture k s) ∧
      getBit (loopCapture k s) (Reg.LOOP_TABLE_STATUS k) 0 = true ∧
      getBit (loopCapture k s) (Reg.LOOP_TABLE_STATUS k) 1 = getBit s (Reg.LOOP_TABLE_STATUS k) 1 ∧
      getBit (loopCapture k s) (Reg.STATUS (pumpPage k)) 4 = true := by
  have hne : (readyCells k s).isEmpty = false := by
    rw [List.isEmpty_eq_false_iff]
    exact List.ne_nil_of_mem hm
  rw [loopCapture_eq, hne, if_neg Bool.false_ne_true]
  obtain ⟨hwork, hall⟩ := forEach_captureCell h
  have hcap := hall m hm
  have hone := forEach_captureCell_reg (readyCells k s) s s (a := Reg.LOOP_TABLE_STATUS k)
    (by unfold Reg.CELL_STATUS Reg.LOOP_TABLE_STATUS; omega)
  generalize forEach (readyCells k s) (captureCell s) s = t at hwork hcap hone
  obtain ⟨hbytes, hheaters, hcells, hregs, hbit⟩ := commitBegun_frame k s t
  have hwork := hwork.after hbytes hheaters hcells hregs (cellStatus_not_mem_table k)
  have hcap := hcap.of_same (hregs _ (cellStatus_not_mem_table k m)) (by rw [loopCell, hcells, loopCell])
  generalize commitBegun k s t = u at hwork hcap hbit
  have hl : ∀ j, Reg.CELL_STATUS j ∉ commitRegs k := fun j => not_mem_commitRegs (by unfold Reg.CELL_STATUS; omega)
  obtain ⟨⟨r, o, hframe⟩, hregs⟩ := refreshCommit_only k u
  obtain ⟨hpending, hmixed⟩ := refreshCommit_pending (commitMask_ne_zero (mem_readyCells.1 hm).1 hcap.pending)
  refine ⟨hwork.after (refreshCommit_only k u).sameBytes (by rw [hframe]) (by rw [hframe]) hregs hl,
    hcap.of_same (hregs _ (hl m)) (by rw [hframe]; rfl), hpending, ?_, hmixed⟩
  rw [tableStatus_refreshCommit (by decide) (.inl (by decide)), hbit, getBit, hone, getBit]

theorem loopCapture_none (h : readyCells k s = []) : loopCapture k s = s := by
  rw [loopCapture_eq, h]
  rfl

/-- A COMMIT is ready for the same cells before and after it withdraws an armed capture. -/
theorem readyCells_disarmed (k : Nat) (s : State) : readyCells k (setB (Reg.LOOP_TABLE_STATUS k) 1 false s) = readyCells k s := by
  have hreg : ∀ a, a % 0x1000 < 0xc → reg (setB (Reg.LOOP_TABLE_STATUS k) 1 false s) a = reg s a := fun a ha =>
    reg_setB_other _ _ _ (by unfold Reg.LOOP_TABLE_STATUS; omega)
  refine List.filter_congr fun m _ => ?_
  rw [getBit, cellPending, getBit, hreg _ (by unfold Reg.CELL_CTRL; omega), hreg _ (by unfold Reg.CELL_STATUS; omega), setB_variant, cellPending,
    getBit, getBit]

end Commit

section Commands

variable {req : Requester} {k : Fin 128} {s : State}

theorem exec_loopCommit (h : WriteReaches req (Reg.LOOP_TABLE_CMD k) s) :
    exec (.loopCommit req k) s = .next (loopCapture k (setB (Reg.LOOP_TABLE_STATUS k) 1 false s)) :=
  congrArg Host.Outcome.next (hostWrite_reaches _ h)

theorem exec_loopCommitAtEpoch (h : WriteReaches req (Reg.LOOP_TABLE_CMD k) s) :
    exec (.loopCommitAtEpoch req k) s = .next (setB (Reg.LOOP_TABLE_STATUS k) 1 true s) := congrArg Host.Outcome.next (hostWrite_reaches _ h)

theorem exec_disarm (h : WriteReaches req (Reg.LOOP_TABLE_CMD k) s) :
    exec (.disarm req k) s = .next (setB (Reg.LOOP_TABLE_STATUS k) 1 false s) := congrArg Host.Outcome.next (hostWrite_reaches _ h)

/-- ARMED moves, and nothing else (R287, R638). -/
theorem setArmed_only (k : Nat) (b : Bool) (s : State) :
    getBit (setB (Reg.LOOP_TABLE_STATUS k) 1 b s) (Reg.LOOP_TABLE_STATUS k) 1 = b ∧
      OnlyRegs [Reg.LOOP_TABLE_STATUS k] s (setB (Reg.LOOP_TABLE_STATUS k) 1 b s) :=
  ⟨getBit_setB_same _ _ _ _ (by decide), (OnlyRegs.refl _ s).setB _ _ (List.mem_singleton_self _)⟩

/-- With no ready cell a COMMIT only clears ARMED (R287). -/
theorem loopCommit_none (hw : WriteReaches req (Reg.LOOP_TABLE_CMD k) s)
    (h : ∀ m ∈ pumpCells k, m < s.variant.cells → getBit s (Reg.CELL_CTRL m) 1 = true → cellPending s m = true) :
    ∃ t, exec (.loopCommit req k) s = .next t ∧ getBit t (Reg.LOOP_TABLE_STATUS k) 1 = false ∧ OnlyRegs [Reg.LOOP_TABLE_STATUS k] s t := by
  have hready : readyCells k s = [] := List.eq_nil_iff_forall_not_mem.2 fun m hm => by
    obtain ⟨hmem, hlt, hnext, hpend⟩ := mem_readyCells.1 hm
    exact Bool.false_ne_true (hpend.symm.trans (h m hmem hlt hnext))
  rw [← readyCells_disarmed] at hready
  exact ⟨_, exec_loopCommit hw, by rw [loopCapture_none hready]; exact setArmed_only k false s⟩

/-- A COMMIT with a ready cell captures it, and every other (R287). -/
theorem loopCommit_captures {m : Nat} (hw : WriteReaches req (Reg.LOOP_TABLE_CMD k) s) (hm : m ∈ readyCells k s) :
    ∃ t, exec (.loopCommit req k) s = .next t ∧ Captures (readyCells k s) s t ∧ Captured s m t ∧
      getBit t (Reg.LOOP_TABLE_STATUS k) 0 = true ∧ getBit t (Reg.LOOP_TABLE_STATUS k) 1 = false ∧
      getBit t (Reg.STATUS (pumpPage k)) 4 = true := by
  obtain ⟨hcleared, hdisarm⟩ := setArmed_only k false s
  have hready := readyCells_disarmed k s
  have h0 : Captures (readyCells k s) s (setB (Reg.LOOP_TABLE_STATUS k) 1 false s) :=
    (Captures.refl _ s).after hdisarm.toOut.sameBytes rfl rfl hdisarm.2 (cellStatus_not_mem_table k)
  rw [← hready] at hm h0 ⊢
  obtain ⟨hwork, hcap, hpending, harmed, hmixed⟩ := loopCapture_captures hm h0
  exact ⟨_, exec_loopCommit hw, hwork, ⟨hcap.pending, hcap.reason, hcap.roles⟩, hpending, harmed.trans hcleared, hmixed⟩

end Commands

/-- Settles O37. The capture is a repetition over the ready cells that establishes each and leaves every other alone; a load meets the checks of
R288 in their order, and a refusal touches its own cell. -/
theorem loopTablesAreCapturedLoadedOrRefused : Obligations.LoopTablesAreCapturedLoadedOrRefused := by
  unfold Obligations.LoopTablesAreCapturedLoadedOrRefused
  refine ⟨fun req k s hw => ⟨⟨_, exec_loopCommitAtEpoch hw, setArmed_only k true s⟩, ⟨_, exec_disarm hw, setArmed_only k false s⟩,
      loopCommit_none hw, fun m hm hlt hnext hpend => ?_⟩,
    fun k m side s hs hp hm => ⟨fun hf => ?_, fun hf hk => ?_⟩,
    fun m s flags => ⟨bankFault_crc, fun hcrc => ⟨bankFault_field hcrc, bankFault_kz hcrc⟩, captureFault_load, captureFault_noPump⟩⟩
  · obtain ⟨t, ht, hwork, hcap, hpending, harmed, hmixed⟩ := loopCommit_captures hw (mem_readyCells.2 ⟨hm, hlt, hnext, hpend⟩)
    refine ⟨t, ht, hcap.pending, hcap.reason, hcap.roles, hpending, harmed, hmixed, hwork.heaters, hwork.bytes, fun j => ⟨?_, ?_⟩, fun j hj => ?_⟩
    · exact getF_of_bits fun i _ hi => hwork.modes j i (by omega)
    · exact hwork.modes j 0 (by decide)
    · have hout : j ∉ readyCells k s := fun hin => by
        obtain ⟨hmem, -, hready, -⟩ := mem_readyCells.1 hin
        rcases hj with hj | hj
        · exact hj hmem
        · exact Bool.false_ne_true (hj.symm.trans hready)
      obtain ⟨hreg, hcell⟩ := hwork.others j hout
      exact ⟨congrArg (bitOf · 2) hreg, hcell⟩
  · obtain ⟨hreason, hpend, hnext, hbit, hint⟩ := refuseBank_shows (cell := m) (captureFault_lt s m) s
    have hwork := refuseBank_work m.isLt (captureFault s m) s
    exact ⟨_, (exec_tableBankLoaded hs hp hm).trans (by rw [if_pos hf]), hreason, hpend, hnext, hbit, hint, hwork.activeBank (by simp [Touch.bits]),
      hwork.heaters id, hwork.bytes⟩
  · refine ⟨modCopy m side (fun l => { l with loaded := true }) s, _, ?_, rfl, ?_, ?_, fun j hj => loopCell_setCell_other hj _ s⟩
    · rw [exec_tableBankLoaded hs hp hm, if_neg (by simp [hf]), if_pos hk]
    · rw [modCopy, loopCell_setCell_same, copy_withCopy]
    · rw [modCopy, loopCell_setCell_same, copy_withCopy_other (sideOf_lt hs)]

end Sys2Proof.Machine
end

section
/-! PROOF. The boundary of a loop cell (R270 to R276, R287 to R296, R318, R319): its stages in their order, and what each may touch. -/

namespace Sys2Proof.Machine

open Sys2Proof

/-! ### The stages -/

/-- A boundary has come: its tick, and the presets that were due (R276, R294). -/
def boundaryBegun (cell t : Nat) (s : State) : State :=
  setCell cell { loopCell s cell with tick := some t, preset := (loopCell s cell).presetDue, presetDue := List.replicate 4 false } s

/-- The swap or the refusal of a pending bank that every pump in service has loaded (R287, R288). -/
def swapDue (cell : Nat) (s : State) : State :=
  if cellPending s cell && bankReady s cell then if overLoad s cell then refuseBank 4 cell s else swapBank cell s else s

/-- The boundary of a cell that has not lost its pumps, or has been orphaned. -/
def boundaryFollows (cell : Nat) (s : State) : State :=
  injBoundary cell (modeBoundary cell (orphanBoundary cell (swapDue cell (divergeBoundary cell (releaseFirst cell s)))))

theorem boundaryActions_eq (cell t : Nat) (s : State) :
    boundaryActions cell t s = boundaryFollows cell (lostBoundary cell (boundaryBegun cell t s)) := rfl

/-- The taps of a boundary show (R327, R389). -/
def tapsRecorded (cell : Nat) (taps : List (List (BitVec 12))) (s : State) : State :=
  forEach ((List.range 4).zip taps) (fun e u => recordTap (4 * cell + e.1) e.2 u) s

/-- A pump's part of a boundary that has come: its update, or its copy of the cell's state (R270, R316). -/
def updateDone (pump cell side t : Nat) (taps : List (List (BitVec 12))) (s : State) : State :=
  if !computes s pump then s
  else if ((loopCell s cell).copy side).copied then pumpCompute side cell t taps s
  else if computes s (twin pump) then syncCopy side cell t s
  else pumpCompute side cell t taps (startBare side cell s)

section Update

variable {k : Fin 128} {m : Fin 640} {taps : List (List (BitVec 12))} {s : State} {o side : Nat}

theorem exec_loopUpdate_computes (ho : s.loopOrigin = some o) (hs : sideOf k m = some side) (hm : m.val < s.variant.cells)
    (hr : columnResetting s m = false) (hc : computes s k = true) :
    exec (.loopUpdate k m taps) s = .next (updateDone k m side (dueTick s o side m) taps
      (tapsRecorded m taps (reachBoundary o m (dueTick s o side m) s))) := by
  show execLoopUpdate k m taps s = _
  unfold execLoopUpdate
  simp only [ho, hs, hm, hr, hc, decide_true, Bool.not_true, Bool.or_self, Bool.false_eq_true, if_false]
  rfl

theorem exec_loopUpdate_lost (ho : s.loopOrigin = some o) (hs : sideOf k m = some side) (hm : m.val < s.variant.cells)
    (hr : columnResetting s m = false) (hc : computes s k = false) (hd : (loopCell s m).orphanDue ≠ none) :
    exec (.loopUpdate k m taps) s = .next (reachBoundary o m (dueTick s o side m) s) := by
  show execLoopUpdate k m taps s = _
  unfold execLoopUpdate
  simp [ho, hs, hm, hr, hc, Option.isSome_iff_ne_none.2 hd]

theorem le_boundaryFrom (s : State) (cell t : Nat) : t ≤ boundaryFrom s cell t := Nat.le_add_right _ _

/-- A pump that has computed the cell's last boundary is due at a new one (R276). -/
theorem dueTick_new {cell : Nat} (h : ((loopCell s cell).copy side).tick = (loopCell s cell).tick) :
    (loopCell s cell).tick ≠ some (dueTick s o side cell) := by
  unfold dueTick
  rw [h]
  cases ht : (loopCell s cell).tick with
  | none => simp
  | some b =>
    dsimp only
    rw [if_neg (Nat.not_succ_le_self b)]
    intro e
    have := le_boundaryFrom s cell (max (b + 1) ((s.time.uptime - o + 999) / 1000))
    rw [← Option.some.inj e] at this
    omega

/-- A boundary that has not come yet comes. -/
theorem reachBoundary_new {cell t : Nat} (h : (loopCell s cell).tick ≠ some t) :
    reachBoundary o cell t s = boundaryActions cell t (advanceUptime (o + 1000 * t) s) := if_neg h

end Update

/-- The registers of a tap well's page. -/
theorem apart_well (m : Nat) {w o : Nat} (hw : w < 160) (ho : o < 0x1000) : Apart m (wellBase w + o) := by
  rw [wellBase, if_pos (by omega)]
  unfold Apart
  omega

namespace CellWork

variable {T : Touch} {m : Nat} {s t u : State}

/-! ### Losing the pumps (R132, R318) -/

theorem primeHeld (h : CellWork T m s t) (b : Bool) : CellWork T m s (Machine.setB Reg.GLB_PRIME_STATUS 4 b t) :=
  h.setB _ _ (by unfold Apart Reg.GLB_PRIME_STATUS; omega)

theorem keepHeld (h : CellWork T m s t) (hT : T.heaters) (n : Nat) : CellWork T m s (keepHeld n t) := by
  unfold Machine.keepHeld
  split
  · exact h.setHeater hT _ _
  · exact h

theorem htrPark (h : CellWork T m s t) (hT : T.heaters) {n : Nat} (hn : n < 2560) : CellWork T m s (htrPark n t) := by
  have hcount : Apart m (Reg.HTR_COUNT_A (n / 256)) := by unfold Apart Reg.HTR_COUNT_A; omega
  have hacc : Apart m (Reg.HTR_ACC (n / 256) (n % 256)) := by have := h.small; unfold Apart Reg.HTR_ACC; omega
  have hpreset : ∀ {u : State} (c : Nat), CellWork T m s u → CellWork T m s (presetCode n c u) := fun c hu =>
    ((hu.setHeater hT _ _).setHeater hT _ _).whenB _ (((hu.setHeater hT _ _).setHeater hT _ _).bumpF _ _ hcount)
  have h0 := h.setHeater hT n { heater t n with held := none, taken := parkCode t n }
  have h1 := ite (driven t n = true) (fun _ => hpreset (parkCode (Machine.setHeater n { heater t n with held := none, taken := parkCode t n } t) n) h0)
    fun _ => h0
  exact (h1.setReg 0 hacc).beside rfl

theorem orphan (h : CellWork T m s t) (hs : ∀ i, T.status i) (hc : ∀ i, T.ctrl i) (hh : T.heaters) (ho : T.orphan) (park : Bool) :
    CellWork T m s (orphan park m t) := by
  unfold Machine.orphan
  extract_lets c s0 s1 s2 s3 p
  have h0 : CellWork T m s s0 := h.whenB _ (h.forEach _ _ fun n _ _ hu => hu.keepHeld hh n)
  have hcell : loopCell s0 m = c := whenB_keeps (fun u => loopCell u m = c) _ _
    (fun _ hu => forEach_keeps (fun u => loopCell u m = c) _ _ (fun n _ v hv => by unfold Machine.keepHeld; split <;> exact hv) hu) rfl
  have h1 : CellWork T m s s1 := h0.setCell (hcell ▸ ⟨fun hn => absurd ho hn, fun _ hs => hs, fun _ _ => rfl⟩)
  have h2 : CellWork T m s s2 := (h1.primeHeld _).forceManual (hs 0) (hs 4) (hc 0)
  have h3 : CellWork T m s s3 := (h2.whenB _ (h2.forEach _ _ fun _ hn _ hu => hu.htrPark hh (slot_lt h.small hn))).forEach _ _
    fun _ hn _ hu => hu.markStale (fun i _ _ => hs i) _ hn
  have hclaim : CellWork T m s (Machine.setB (claimState m) 1 true s3) := h3.setF_of _ fun i _ _ => by
    have hm := h.small
    rintro (⟨-, hn⟩ | ⟨-, hn⟩ | ⟨-, -, hn⟩ | ⟨e, -⟩)
    · exact hn (hs i)
    · exact hn (hc i)
    · exact hn ho
    · unfold PumpWord claimState Reg.CLAIM_STATE at e
      omega
  have hfault : Apart m (Reg.FAULT_STATUS p) := by
    have ha : Reg.FAULT_STATUS p = 0x300000 + 0x10000 * (m / 64) + 0x18 := rfl
    unfold Apart
    omega
  exact ite _ (fun _ => h) fun _ => (hclaim.setInt p 22).setFault p 8 (hfault.not_watches T)

theorem refreshPair (h : CellWork T m s t) (hp : T.pumps) {k : Nat} (hk : k < 128) : CellWork T m s (refreshPair k t) := by
  have hshow : ∀ {u : State} (j : Nat), j < 128 → CellWork T m s u → CellWork T m s (showPump j u) := fun j hj hu =>
    (((hu.setTwinStatus hp hj _ _ _).setTwinStatus hp hj _ _ _).setTwinStatus hp hj _ _ _).setB _ _ (apart_pumpStatus m (by omega))
  have hclaims : ∀ {u : State} (c : Nat), CellWork T m s u → CellWork T m s (showClaims c u) := fun c hu =>
    hu.setReg _ (by unfold Apart Reg.CLAIM_COL_STATUS; omega)
  refine hclaims _ (hclaims _ ((hshow _ (twin_lt hk) (hshow _ hk h)).forEach _ _ fun j hj u hu => hu.showComparing ?_))
  obtain ⟨i, hi, rfl⟩ := List.mem_map.1 hj
  have := List.mem_range.1 hi
  omega

theorem finishHandover (h : CellWork T m s t) (hp : T.pumps) {k : Nat} (hk : k < 128) : CellWork T m s (finishHandover k t) := by
  have hs := apart_pumpStatus m (k := k) (by omega)
  have hstate : ∀ {u : State} (v : Nat), CellWork T m s u → CellWork T m s (setPumpState k v u) := fun v hu => hu.setTwinStatus hp hk _ _ _
  refine ite _ (fun _ => ite _ (fun _ => ?_) fun _ => ite _ (fun _ => ?_) fun _ => ?_) fun _ => h
  · exact ((hstate 1 (h.setPump k _)).setPhase hs _).refreshPair hp hk
  · exact ((hstate 1 h).setPhase hs _).refreshPair hp hk
  · exact ((hstate 0 h).setPhase hs _).refreshPair hp hk

/-- After an orphaned cell's loss, the pumps that handed it over may be done (R311). -/
theorem pairFollows (h : CellWork T m s t) (hp : T.pumps) :
    CellWork T m s (Machine.refreshPair (primaryPump m)
      (Machine.finishHandover (twin (primaryPump m)) (Machine.finishHandover (primaryPump m) t))) := by
  have hk := primaryPump_lt h.small
  exact ((h.finishHandover hp hk).finishHandover hp (twin_lt hk)).refreshPair hp hk

theorem lostBoundary (h : CellWork T m s t) (hs : ∀ i, T.status i) (hc : ∀ i, T.ctrl i) (hp : T.pumps) (ho : T.orphan)
    (hh : T.heaters ∨ (loopCell t m).orphanDue = none) : CellWork T m s (lostBoundary m t) := by
  unfold Machine.lostBoundary
  split
  · next park hd => exact (h.orphan hs hc (hh.resolve_right (by simp [hd])) ho park).pairFollows hp
  · exact h

/-! ### What a boundary brings (R275, R287, R293, R319) -/

theorem boundaryBegun (h : CellWork T m s t) (n : Nat) : CellWork T m s (boundaryBegun m n t) := h.setCell (.of_copies T rfl rfl rfl)

theorem releaseCode (h : CellWork T m s t) (hT : T.heaters) (n : Nat) : CellWork T m s (releaseCode n t) := h.setHeater hT _ _

theorem ditherFrom (h : CellWork T m s t) (n : Nat) : CellWork T m s (ditherFrom n t) := h.beside rfl

theorem releaseFirst (h : CellWork T m s t) (hs : ∀ i, 8 ≤ i → i < 12 → T.status i) (hh : T.heaters ∨ (loopCell t m).firstDue = false) :
    CellWork T m s (releaseFirst m t) := by
  have hcell : CellWork T m s (Machine.setCell m { loopCell t m with firstDue := false } t) := h.setCell (.of_copies T rfl rfl rfl)
  refine ite _ (fun hd => primeHeld ?_ _) fun _ => h
  refine hcell.forEach _ _ fun n hn _ hu => ?_
  exact ((hu.releaseCode (hh.resolve_right (by simp [hd])) n).markStale hs false hn).ditherFrom n

theorem divergeBoundary (h : CellWork T m s t) (hs : ∀ i, T.status i) (hc : ∀ i, T.ctrl i) (hp : T.pumps) : CellWork T m s (divergeBoundary m t) := by
  unfold Machine.divergeBoundary
  extract_lets c zero s1 p
  have hcell : CellWork T m s (Machine.setCell m { c with diverge := false, primary := zero c.primary, secondary := zero c.secondary } t) :=
    h.setCell ⟨fun _ => rfl, fun side => by unfold LoopCell.copy; split <;> exact id, fun _ side => by unfold LoopCell.copy; split <;> rfl⟩
  have h1 : CellWork T m s s1 := hcell.forceManual (hs 0) (hs 4) (hc 0)
  exact ite _ (fun _ => ((h1.setStatusBit true (hs 3)).setInt p 3).setFault p 0 ((pumpWord_fault (primaryPump_lt h.small)).not_watches hp m))
    fun _ => h

theorem swapBank (h : CellWork T m s t) (hs : ∀ i, i ≠ 3 → T.status i) (hc : ∀ i, T.ctrl i) : CellWork T m s (swapBank m t) := by
  rw [swapBank_eq]
  exact (h.bankEntered (fun i _ => hs i (by omega)) (hc 1)).bankFollows (hs 0 (by decide)) (hs 4 (by decide)) (hc 0) t

theorem swapDue (h : CellWork T m s t) (hs : ∀ i, i ≠ 3 → T.status i) (hc : ∀ i, T.ctrl i) : CellWork T m s (swapDue m t) :=
  ite _ (fun _ => ite _ (fun _ => h.refuseBank (fun i _ => hs i (by omega)) (hc 1) 4) fun _ => h.swapBank hs hc) fun _ => h

theorem orphanBoundary (h : CellWork T m s t) (hs : T.status 0) (hc : T.ctrl 0) : CellWork T m s (orphanBoundary m t) := by
  unfold Machine.orphanBoundary
  extract_lets c
  split
  · next side _ =>
    have h1 := (h.modCopy side (f := fun l => { l with xHat := List.replicate 12 0, copied := true })
      fun _ _ => ⟨fun _ => rfl, fun _ => rfl⟩).presetAll
    exact ite _ (fun _ => ite _ (fun _ => (h1.setCtrlBit true hc).setAuto hs true) fun _ => h1) fun _ => h
  · exact h

theorem boundaryFollows (h : CellWork T m s t) (hs : ∀ i, T.status i) (hc : ∀ i, T.ctrl i) (hp : T.pumps)
    (hh : T.heaters ∨ (loopCell t m).firstDue = false) : CellWork T m s (boundaryFollows m t) := by
  have h1 := (h.releaseFirst (fun i _ _ => hs i) hh).divergeBoundary hs hc hp
  exact (((h1.swapDue (fun i _ => hs i) hc).orphanBoundary (hs 0) (hc 0)).modeBoundary (hs 0) (hs 4) (hc 0)).injBoundary (hs 4)

/-! ### The taps and the update (R270 to R274, R300 to R304, R316) -/

theorem recordSample (h : CellWork T m s t) {w i : Nat} (hw : w < 160) (hi : i < 16) (raw : BitVec 12) : CellWork T m s (recordSample w i raw t) := by
  have h2 := ((h.setReg (word (unsignedOf 16 (calSample t w i raw.toNat) + 2 ^ 16 * chRange t w i + 2 ^ 20 * raw.toNat))
    (apart_well m hw (by omega : 0x408 + 16 * i < 0x1000))).setB 3 (isOver raw) (apart_well m hw (by omega : 0x404 + 16 * i < 0x1000))).setB 4
    (!getBit t (Reg.WELL_STATUS w) 0) (apart_well m hw (by omega : 0x404 + 16 * i < 0x1000))
  simp only [← Nat.add_assoc] at h2
  exact h2.whenB _ (h2.setInt _ 5)

theorem recordTap (h : CellWork T m s t) {n : Nat} (hn : n < 2560) (raws : List (BitVec 12)) : CellWork T m s (recordTap n raws t) := by
  have hdemod : ∀ o, o < 0x100 → Apart m (wellBase (n / 16) + (0xa00 + o) + 16 * (n % 16)) := fun o ho => by
    have := apart_well m (w := n / 16) (o := 0xa00 + o + 16 * (n % 16)) (by omega) (by omega)
    rwa [← Nat.add_assoc] at this
  unfold Machine.recordTap
  extract_lets x
  split
  · exact h
  · next raw _ =>
    have h1 := (h.recordSample (w := n / 16) (i := n % 16) (by omega) (by omega) raw).setReg
      (word (unsignedOf 32 (demodShow x.inPhase))) (hdemod 4 (by decide))
    exact ite _ (fun _ => h) fun _ => (h1.setReg _ (hdemod 8 (by decide))).setReg _ (hdemod 12 (by decide))

theorem tapsRecorded (h : CellWork T m s t) (taps : List (List (BitVec 12))) : CellWork T m s (tapsRecorded m taps t) := by
  refine h.forEach _ _ fun e he u hu => hu.recordTap ?_ e.2
  have := List.mem_range.1 (List.of_mem_zip he).1
  have := h.small
  omega

theorem showSlot (h : CellWork T m s t) (hs : ∀ i, 8 ≤ i → i < 12 → T.status i) {f : Frame} (hf : f.cell = m) (c : Computed) {i : Nat}
    (hi : i < 4) : CellWork T m s (showSlot f c i t) := by
  have hm := h.small
  have hn : f.slot i ∈ cellSlots m := mem_cellSlots.2 (by unfold Frame.slot; omega)
  have hy : Apart m (Reg.LOOP_SLOT_Y (f.slot i)) := by
    have := slot_lt hm hn
    unfold Apart Reg.LOOP_SLOT_Y
    omega
  unfold Machine.showSlot
  extract_lets slot mm b at_ actFault marks v s1 y s2
  have h1 : CellWork T m s s1 := h.setReg _ (apart_slotStatus m (slot_lt hm hn))
  have h2 : CellWork T m s s2 := h1.whenB _ (h1.setReg _ hy)
  exact h2.markStale hs _ hn

/-- A list of words shows from an address on, above the cell's CELL_STATUS. -/
theorem showWords (h : CellWork T m s t) {a : Nat} (ha : 0x1800000 + 0x1000 * m + 8 ≤ a) (l : List Word) :
    CellWork T m s (Machine.forEach ((List.range l.length).zip l) (fun e v => Machine.setReg (a + 4 * e.1) e.2 v) t) :=
  h.forEach _ _ fun e _ u hu => hu.setReg _ (by have := h.small; unfold Apart; omega)

theorem showCell (h : CellWork T m s t) (hs : ∀ i, 8 ≤ i → i < 12 → T.status i) {f : Frame} (hf : f.cell = m) (c : Computed) (n : Nat) :
    CellWork T m s (showCell f c n t) := by
  have hmiss : Apart m (Reg.CELL_MISS m) := by unfold Apart Reg.CELL_MISS; omega
  subst hf
  unfold Machine.showCell
  extract_lets k put s1 s2 s3 s4 s5 sat first s6
  have hx := h.showWords (a := Reg.CELL_X_HAT f.cell 0) (by unfold Reg.CELL_X_HAT; omega) c.copy.xHat
  have hz := hx.showWords (a := Reg.CELL_Z f.cell 0) (by unfold Reg.CELL_Z; omega) c.copy.z
  have hu := hz.showWords (a := Reg.CELL_U f.cell 0) (by unfold Reg.CELL_U; omega) (c.copy.u.map fun u => u.getD 0)
  have hr := hu.showWords (a := Reg.CELL_R f.cell 0) (by unfold Reg.CELL_R; omega) f.r
  have hw := hr.showWords (a := Reg.CELL_W f.cell 0) (by unfold Reg.CELL_W; omega) (f.w.map toExt)
  have h1 : CellWork T f.cell s s1 := hw.showWords (a := Reg.CELL_E f.cell 0) (by unfold Reg.CELL_E; omega) c.e
  have h2 : CellWork T f.cell s s2 := h1.forEach _ _ fun i hi _ hu => hu.showSlot hs rfl c (List.mem_range.1 hi)
  have h3 : CellWork T f.cell s s3 := h2.whenB _ (h2.bumpF _ _ hmiss)
  have h4 : CellWork T f.cell s s4 := h3.whenB _ (h3.bumpF _ _ hmiss)
  have h5 : CellWork T f.cell s s5 := h4.clearUpdates _
  have h6 : CellWork T f.cell s s6 := h5.whenB _ (h5.setInt _ _)
  exact refreshLoad (h6.setCell (.of_copies T rfl rfl rfl))

end CellWork

theorem compute_copied (s : State) (f : Frame) (l : LoopCopy) (preset : List Bool) : (compute s f l preset).copy.copied = l.copied := by
  unfold compute
  dsimp only
  split <;> rfl

namespace CellWork

variable {T : Touch} {m : Nat} {s t u : State}

theorem pumpCompute (h : CellWork T m s t) (hs : ∀ i, 8 ≤ i → i < 12 → T.status i) (hc : T.codes) (side n : Nat) (taps : List (List (BitVec 12))) :
    CellWork T m s (pumpCompute side m n taps t) := by
  unfold Machine.pumpCompute
  extract_lets f c r other copy u s1 overRange cell s2
  have hu : CellWork T m s u := h.modCopy side (f := fun _ => { copy with tick := some n }) fun l hl =>
    ⟨fun hcop => (compute_copied t f _ _).trans (by rwa [hl] at hcop), fun hn => absurd hc hn⟩
  have h1 : CellWork T m s s1 := hu.beside rfl
  have h2 : CellWork T m s s2 := h1.setCell (.of_copies T rfl rfl rfl)
  exact ite _ (fun _ => h2.showCell hs rfl r n) fun _ => h1

theorem startBare (h : CellWork T m s t) (side : Nat) : CellWork T m s (startBare side m t) :=
  (h.modCopy side (f := fun l => { l with xHat := List.replicate 12 0, copied := true }) fun _ _ => ⟨fun _ => rfl, fun _ => rfl⟩).presetAll

theorem syncCopy (h : CellWork T m s t) (hc : T.codes) (side n : Nat) : CellWork T m s (syncCopy side m n t) := by
  unfold Machine.syncCopy
  extract_lets from_ s1
  have h1 : CellWork T m s s1 := h.modCopy side fun _ _ => ⟨fun _ => rfl, fun hn => absurd hc hn⟩
  exact ite _ (fun _ => h1.setCell (.of_copies T rfl rfl rfl)) fun _ => h

theorem updateDone (h : CellWork T m s t) (hs : ∀ i, 8 ≤ i → i < 12 → T.status i) (hc : T.codes) (pump side n : Nat)
    (taps : List (List (BitVec 12))) : CellWork T m s (updateDone pump m side n taps t) :=
  ite _ (fun _ => h) fun _ => ite _ (fun _ => h.pumpCompute hs hc side n taps) fun _ =>
    ite _ (fun _ => h.syncCopy hc side n) fun _ => (h.startBare side).pumpCompute hs hc side n taps

end CellWork

end Sys2Proof.Machine
end

section
/-! PROOF. What the boundary of a loop cell comes to (R275, R287, R289, R293, R294, R318): divergence, the swap, the mode, and the codes of a
cell in manual. -/

namespace Sys2Proof.Machine

open Sys2Proof

namespace CellWork

variable {T : Touch} {m : Nat} {s t : State}

theorem statusBit (h : CellWork T m s t) {i : Nat} (hT : ¬T.status i) : getBit t (Reg.CELL_STATUS m) i = getBit s (Reg.CELL_STATUS m) i :=
  h.bits _ _ (.inl ⟨rfl, hT⟩)

theorem statusField (h : CellWork T m s t) {lo w : Nat} (hT : ∀ i, lo ≤ i → i < lo + w → ¬T.status i) :
    getF t (Reg.CELL_STATUS m) lo w = getF s (Reg.CELL_STATUS m) lo w := getF_of_bits fun i h1 h2 => h.statusBit (hT i h1 h2)

theorem ctrlBit (h : CellWork T m s t) {i : Nat} (hT : ¬T.ctrl i) : getBit t (Reg.CELL_CTRL m) i = getBit s (Reg.CELL_CTRL m) i :=
  h.bits _ _ (.inr (.inl ⟨rfl, hT⟩))

theorem orphanBit (h : CellWork T m s t) (hT : ¬T.orphan) : orphaned t m = orphaned s m := h.bits _ _ (.inr (.inr (.inl ⟨rfl, rfl, hT⟩)))

theorem pumpBit (h : CellWork T m s t) (hT : ¬T.pumps) {a : Nat} (ha : PumpWord a) (i : Nat) : getBit t a i = getBit s a i :=
  h.bits _ _ (.inr (.inr (.inr ⟨ha, hT⟩)))

theorem computes (h : CellWork T m s t) (hT : ¬T.pumps) {k : Nat} (hk : k < 128) : computes t k = computes s k := by
  have hp : pumpState t k = pumpState s k := getF_of_bits fun i _ _ => h.pumpBit hT (pumpWord_twinStatus hk) i
  rw [Machine.computes, inService, hp, ← inService, ← Machine.computes]

end CellWork

/-! ### The loss of both pumps (R318) -/

section Orphans

variable {m : Nat} {s : State}

theorem orphaned_orphan (park : Bool) (m : Nat) (s : State) : orphaned (orphan park m s) m = true := by
  unfold orphan
  extract_lets c s0 s1 s2 s3 p
  split
  · assumption
  · have hint : Reg.INT_STATUS p ≠ claimState m := by
      have ha : Reg.INT_STATUS p = 0x300000 + 0x10000 * (m / 64) + 0x10 := rfl
      unfold claimState Reg.CLAIM_STATE
      omega
    have hfault : Reg.FAULT_STATUS p ≠ claimState m := by
      have ha : Reg.FAULT_STATUS p = 0x300000 + 0x10000 * (m / 64) + 0x18 := rfl
      unfold claimState Reg.CLAIM_STATE
      omega
    rw [orphaned, getBit, reg_setFault_other _ _ _ hfault, reg_setInt_other _ _ _ hint]
    exact getBit_setB_same _ _ _ _ (by decide)

/-- Everything but ORPHAN. -/
def Touch.orphanKept : Touch := ⟨fun _ => True, fun _ => True, True, False, True, True⟩

/-- A boundary at which no pump of the pair is in service orphans the cell (R318). -/
theorem boundaryActions_orphans (hm : m < 640) (n : Nat) (h : (loopCell s m).orphanDue ≠ none) : orphaned (boundaryActions m n s) m = true := by
  obtain ⟨park, hpark⟩ := Option.ne_none_iff_exists'.1 h
  have hdue : (loopCell (boundaryBegun m n s) m).orphanDue = some park := by rwa [boundaryBegun, loopCell_setCell_same]
  have hlost : orphaned (lostBoundary m (boundaryBegun m n s)) m = true := by
    unfold lostBoundary
    rw [hdue]
    exact ((CellWork.refl .orphanKept hm _).pairFollows trivial).orphanBit id |>.trans (orphaned_orphan park m _)
  rw [boundaryActions_eq]
  exact (((CellWork.refl .orphanKept hm _).boundaryFollows (fun _ => trivial) (fun _ => trivial) trivial (.inl trivial)).orphanBit id).trans hlost

theorem lostBoundary_none (h : (loopCell s m).orphanDue = none) : lostBoundary m s = s := by
  unfold lostBoundary
  rw [h]

theorem releaseFirst_none (h : (loopCell s m).firstDue = false) : releaseFirst m s = s := if_neg (by simp [h])

end Orphans

/-! ### The whole update -/

/-- Everything, but for the driver stages where they are kept. -/
def Touch.loose (heaters : Prop) : Touch := ⟨fun _ => True, fun _ => True, heaters, True, True, True⟩

/-- A pump's update of a boundary touches one cell, and no driver stage unless the cell was held or lost its pumps. -/
theorem loopUpdate_work {m : Nat} (hm : m < 640) (o k side n : Nat) (taps : List (List (BitVec 12))) {s : State} {heaters : Prop}
    (hh : heaters ∨ (loopCell s m).firstDue = false ∧ (loopCell s m).orphanDue = none) :
    CellWork (.loose heaters) m s (updateDone k m side n taps (tapsRecorded m taps (reachBoundary o m n s))) := by
  let T := Touch.loose heaters
  have hs : ∀ i, T.status i := fun _ => trivial
  have hc : ∀ i, T.ctrl i := fun _ => trivial
  have hadvance : CellWork T m s (advanceUptime (o + 1000 * n) s) := (CellWork.refl T hm s).beside rfl
  have hcell : loopCell (boundaryBegun m n (advanceUptime (o + 1000 * n) s)) m =
      { loopCell s m with tick := some n, preset := (loopCell s m).presetDue, presetDue := List.replicate 4 false } := loopCell_setCell_same ..
  have hlost := (hadvance.boundaryBegun n).lostBoundary hs hc trivial trivial (hh.imp_right fun h => by rw [hcell]; exact h.2)
  have hreach : CellWork T m s (reachBoundary o m n s) := by
    refine .ite _ (fun _ => hadvance) fun _ => hlost.boundaryFollows hs hc trivial (hh.imp_right fun h => ?_)
    rw [lostBoundary_none (by rw [hcell]; exact h.2), hcell]
    exact h.1
  exact (hreach.tapsRecorded taps).updateDone (fun i _ _ => hs i) trivial k side n taps

/-! ### Modes (R275, R293, R294) -/

section Modes

variable {m : Nat} {s t : State}

theorem cellAuto_setAuto (hm : m < 640) (b : Bool) (s : State) : cellAuto (setAuto b m s) m = b :=
  ((CellWork.refl .nothing hm _).autoShown.statusBit id).trans (getBit_setB_same _ _ _ _ (by decide))

theorem cellAuto_leaveAuto (hm : m < 640) (s : State) : cellAuto (leaveAuto m s) m = false :=
  (((CellWork.refl (.bits (· = 4) fun _ => False) hm _).injEnd rfl true).statusBit (by simp [Touch.bits])).trans (cellAuto_setAuto hm false s)

/-- A cell in manual, with MODE = 0. -/
def Manual (m : Nat) (s : State) : Prop := cellAuto s m = false ∧ getBit s (Reg.CELL_CTRL m) 0 = false

theorem CellWork.manual {T : Touch} (h : CellWork T m s t) (hs : ¬T.status 0) (hc : ¬T.ctrl 0) (hm : Manual m s) : Manual m t :=
  ⟨(h.statusBit hs).trans hm.1, (h.ctrlBit hc).trans hm.2⟩

theorem forceManual_manual (hm : m < 640) (s : State) : Manual m (forceManual m s) := by
  refine ⟨cellAuto_leaveAuto hm _, ?_⟩
  have h := (CellWork.refl (.bits (fun i => i = 0 ∨ i = 4) fun _ => False) hm (setB (Reg.CELL_CTRL m) 0 false s)).leaveAuto (.inl rfl) (.inr rfl)
  exact (h.ctrlBit id).trans (getBit_setB_same _ _ _ _ (by decide))

theorem modeBoundary_manual (h : Manual m s) : modeBoundary m s = s := by
  unfold modeBoundary
  simp [h.1, h.2]

/-- MODE = 1 takes the cell to automatic, where nothing forbids it (R293). -/
theorem modeBoundary_automatic (hm : m < 640) (hmode : getBit s (Reg.CELL_CTRL m) 0 = true) (hpark : parkForced s = false)
    (hk : bankKernel s m (activeBank s m) ≠ 0) (hd : getBit s (Reg.CELL_STATUS m) 3 = false) : cellAuto (modeBoundary m s) m = true := by
  cases ha : cellAuto s m with
  | true =>
    have heq : modeBoundary m s = s := by
      unfold modeBoundary
      simp [hmode, ha]
    rw [heq, ha]
  | false =>
    have heq : modeBoundary m s = presetAll m (setReg64 (Reg.CELL_UPDATES_LO m) 0 (setAuto true m s)) := by
      unfold modeBoundary
      simp [hmode, ha, hpark, hk, hd]
    have hwork := ((CellWork.refl .nothing hm (setAuto true m s)).clearUpdates 0).presetAll
    rw [heq]
    exact (hwork.statusBit id).trans (cellAuto_setAuto hm true s)

/-- MODE = 1 clears where outputs are forced to park, the kernel is OFF or DIVERGED is set (R293). -/
theorem modeBoundary_refused (hmode : getBit s (Reg.CELL_CTRL m) 0 = true) (ha : cellAuto s m = false)
    (h : parkForced s = true ∨ bankKernel s m (activeBank s m) = 0 ∨ getBit s (Reg.CELL_STATUS m) 3 = true) : Manual m (modeBoundary m s) := by
  have heq : modeBoundary m s = setB (Reg.CELL_CTRL m) 0 false s := by
    unfold modeBoundary
    rcases h with h | h | h <;> simp [hmode, ha, h]
  rw [heq]
  exact ⟨(getBit_setB_other _ _ _ _ (cellStatus_ne_cellCtrl m).symm).trans ha, getBit_setB_same _ _ _ _ (by decide)⟩

/-- MODE = 0 takes the cell to manual (R293). -/
theorem cellAuto_modeBoundary (hm : m < 640) (hmode : getBit s (Reg.CELL_CTRL m) 0 = false) : cellAuto (modeBoundary m s) m = false := by
  cases ha : cellAuto s m with
  | true =>
    have heq : modeBoundary m s = leaveAuto m s := by
      unfold modeBoundary
      simp [hmode, ha]
    rw [heq]
    exact cellAuto_leaveAuto hm s
  | false => rw [modeBoundary_manual ⟨ha, hmode⟩, ha]

/-- A divergence found before switches the cell to manual, with DIVERGED and its fault (R275). -/
theorem divergeBoundary_diverges (hm : m < 640) (h : (loopCell s m).diverge = true) :
    Manual m (divergeBoundary m s) ∧ getBit (divergeBoundary m s) (Reg.CELL_STATUS m) 3 = true ∧
      getBit (divergeBoundary m s) (Reg.FAULT_STATUS (pumpPage (primaryPump m))) 0 = true := by
  unfold divergeBoundary
  extract_lets c zero s1 p
  rw [if_pos h]
  have hmanual : Manual m s1 := forceManual_manual hm _
  have hfault : ∀ {T : Touch} {x : State}, T.pumps → CellWork T m x (setInt p 3 (setB (Reg.CELL_STATUS m) 3 true s1)) →
      CellWork T m x (setFault p 0 (setInt p 3 (setB (Reg.CELL_STATUS m) 3 true s1))) := fun hp hx =>
    hx.setFault p 0 ((pumpWord_fault (primaryPump_lt hm)).not_watches hp m)
  have hbit := hfault trivial ((CellWork.refl ⟨fun _ => False, fun _ => False, False, False, True, False⟩ hm _).setInt p 3)
  have hall := hfault trivial (((CellWork.refl ⟨(· = 3), fun _ => False, False, False, True, False⟩ hm s1).setStatusBit true rfl).setInt p 3)
  exact ⟨hall.manual (by simp) id hmanual, (hbit.statusBit id).trans (getBit_setB_same _ _ _ _ (by decide)), getBit_setFault _ _ _ (by decide)⟩

theorem divergeBoundary_none (h : (loopCell s m).diverge = false) : divergeBoundary m s = s := if_neg (by simp [h])

end Modes

/-! ### The swap (R287 to R290, R295) -/

section Swap

variable {m : Nat} {s : State}

/-- The entry of a bank leaves a cell in manual there. -/
theorem bankFollows_manual (hm : m < 640) (x : State) (h : Manual m s) : Manual m (bankFollows m x s) := by
  unfold bankFollows
  extract_lets k p c s4 s5 s6
  have ha : Apart m (Reg.LOOP_TABLE_TIME k) := by unfold Apart Reg.LOOP_TABLE_TIME; omega
  have hcell : CellWork (.bits (· = 4) fun _ => False) m s s4 :=
    ((CellWork.refl _ hm s).setCell (c := { loopCell s m with capture := none }) (.of_copies _ rfl rfl rfl)).setPump _ _
  have hs5 : Manual m s5 := ((hcell.setF _ _ _ ha).injEnd rfl true).manual (by simp [Touch.bits]) id h
  have hs6 : Manual m s6 := by
    unfold s6
    rw [hs5.1]
    split
    · have hne : Reg.CELL_CTRL m ≠ Reg.CELL_STATUS m := by simp [Reg.CELL_CTRL, Reg.CELL_STATUS]
      exact ⟨(getBit_setB_other _ _ _ _ hne).trans hs5.1, getBit_setB_same _ _ _ _ (by decide)⟩
    · exact hs5
  have hend := ((CellWork.refl .nothing hm s6).refreshCommit (primaryPump_lt hm)).refreshLoad
  exact hend.manual id id hs6

theorem swapDue_manual (hm : m < 640) (h : Manual m s) : Manual m (swapDue m s) := by
  unfold swapDue
  split
  · split
    · exact (refuseBank_work hm 4 s).manual (by simp [Touch.bits]) (by simp [Touch.bits]) h
    · have hentered : CellWork (.bits (fun i => i = 1 ∨ i = 2 ∨ 16 ≤ i) (· = 1)) m s (bankEntered m s) :=
        (CellWork.refl _ hm s).bankEntered (fun _ h => h) rfl
      exact bankFollows_manual hm s (hentered.manual (by simp [Touch.bits]) (by simp [Touch.bits]) h)
  · exact h

/-- A bank that has become the active one (R289, R303). -/
theorem bankEntered_shows (m : Nat) (s : State) :
    activeBank (bankEntered m s) m = 1 - activeBank s m ∧ cellPending (bankEntered m s) m = false ∧
      getBit (bankEntered m s) (Reg.CELL_CTRL m) 1 = false ∧
      getF (bankEntered m s) (Reg.CELL_STATUS m) 16 16 = fld (bankWord s m (1 - activeBank s m) 1) 0 16 := by
  have hactive : activeBank s m < 2 := fld_lt _ 1 1
  have hb : ∀ n, n < 2 → b2n (n == 1) = n := fun n hn => by interval_cases n <;> rfl
  have hne := cellStatus_ne_cellCtrl m
  have hlow : ∀ a, a < Reg.CELL_UPDATES_LO m → ∀ u, reg (setReg64 (Reg.CELL_UPDATES_LO m) 0 u) a = reg u a := fun a ha u => by
    rw [setReg64, reg_setReg_other _ _ (by omega), reg_setReg_other _ _ (by omega)]
  have hstatus := hlow (Reg.CELL_STATUS m) (by unfold Reg.CELL_STATUS Reg.CELL_UPDATES_LO; omega)
  have hctrl := hlow (Reg.CELL_CTRL m) (by unfold Reg.CELL_CTRL Reg.CELL_UPDATES_LO; omega)
  unfold bankEntered
  extract_lets new keep fresh s1 s2
  refine ⟨?_, ?_, ?_, ?_⟩
  · rw [activeBank, getF_setF_beside _ _ _ _ _ _ _ (by decide) (by decide), getF, hstatus]
    refine (getF_setF_same _ _ _ _ _ (by decide)).trans ?_
    rw [hb new (by omega)]
    omega
  · rw [cellPending, getBit_setF_beside _ _ _ _ _ (by decide), getBit, hstatus]
    exact (getBit_setF_beside _ _ _ _ _ (by decide)).trans (getBit_setB_same _ _ _ _ (by decide))
  · rw [getBit, reg_setF_other _ _ _ _ hne, hctrl, reg_setB_other _ _ _ hne, reg_setB_other _ _ _ hne]
    exact getBit_setB_same _ _ _ _ (by decide)
  · exact (getF_setF_same _ _ _ _ _ (by decide)).trans (Nat.mod_eq_of_lt (fld_lt _ 0 16))

end Swap

/-! ### The update of a cell in manual (R271, R293) -/

section Codes

variable {m : Nat} {s : State}

theorem compute_manual {f : Frame} (h : f.auto = false) (s : State) (l : LoopCopy) (preset : List Bool) :
    (compute s f l preset).copy.codes = List.replicate 4 none := by
  unfold compute
  dsimp only
  rw [if_pos (by simp [h])]

/-- In manual no code is computed. -/
theorem pumpCompute_manual (hm : m < 640) (h : cellAuto s m = false) (side n : Nat) (taps : List (List (BitVec 12))) :
    ((loopCell (pumpCompute side m n taps s) m).copy side).codes = List.replicate 4 none := by
  unfold pumpCompute
  extract_lets f c r other copy u s1 overRange cell s2
  have hcodes : ((loopCell s1 m).copy side).codes = List.replicate 4 none := by
    have hcell : loopCell s1 m = (loopCell s m).withCopy side { copy with tick := some n } := loopCell_setCell_same ..
    rw [hcell, copy_withCopy]
    exact compute_manual h s _ _
  have h2 : CellWork (.bits (fun i => 8 ≤ i ∧ i < 12) fun _ => False) m s1 s2 := (CellWork.refl _ hm s1).setCell (.of_copies _ rfl rfl rfl)
  have hwork : CellWork (.bits (fun i => 8 ≤ i ∧ i < 12) fun _ => False) m s1
      (if holderSide s m = side || !computes s other then showCell f r n s2 else s1) :=
    .ite _ (fun _ => h2.showCell (fun _ h1 h2 => ⟨h1, h2⟩) rfl r n) fun _ => .refl _ hm s1
  exact (hwork.record.codes id side).trans hcodes

end Codes

/-! ### A boundary of a cell that is neither held nor orphaned -/

/-- What is left of a boundary once the mode is settled: the injection, the taps and the pump's update. -/
def updateAfter (k m side n : Nat) (taps : List (List (BitVec 12))) (s : State) : State :=
  updateDone k m side n taps (tapsRecorded m taps (injBoundary m s))

section Plain

variable {m : Nat} {s : State}

/-- INJ_ACTIVE and the STALE flags of CELL_STATUS, and the codes. -/
def Touch.update : Touch := ⟨fun i => i = 4 ∨ 8 ≤ i ∧ i < 12, fun _ => False, False, False, False, True⟩

/-- The same, and what a change of mode shows. -/
def Touch.modes : Touch := ⟨fun i => i = 0 ∨ i = 4 ∨ 8 ≤ i ∧ i < 12, (· = 0), False, False, False, True⟩

theorem updateAfter_work (hm : m < 640) (k side n : Nat) (taps : List (List (BitVec 12))) (s : State) :
    CellWork .update m s (updateAfter k m side n taps s) := by
  have h : CellWork .update m s (injBoundary m s) := (CellWork.refl _ hm s).injBoundary (Or.inl rfl)
  exact (h.tapsRecorded taps).updateDone (fun _ h1 h2 => Or.inr ⟨h1, h2⟩) trivial k side n taps

theorem modeBoundary_work {t : State} (h : CellWork .modes m s t) (k side n : Nat) (taps : List (List (BitVec 12))) :
    CellWork .modes m s (updateAfter k m side n taps (modeBoundary m t)) := by
  have h1 : CellWork .modes m s (injBoundary m (modeBoundary m t)) :=
    (h.modeBoundary (Or.inl rfl) (Or.inr (Or.inl rfl)) rfl).injBoundary (Or.inr (Or.inl rfl))
  exact (h1.tapsRecorded taps).updateDone (fun _ h1 h2 => Or.inr (Or.inr ⟨h1, h2⟩)) trivial k side n taps

/-- The load that a swap would bring rests on the registers and the active copy (R291, R292). -/
theorem overLoad_congr {s t : State} (hr : t.regs = s.regs) (ha : t.active = s.active) (m : Nat) : overLoad t m = overLoad s m := by
  have hreg : ∀ a, reg t a = reg s a := reg_congr hr
  have hact : ∀ a, act t a = act s a := fun a => by rw [act, ha, act]
  have hbank : ∀ k b w, bankWord t k b w = bankWord s k b w := fun _ _ _ => hreg _
  have hactive : ∀ j, activeBank t j = activeBank s j := fun j => by rw [activeBank, getF, hreg, activeBank, getF]
  have hloop : ∀ n, slotInLoop t n = slotInLoop s n := fun n => by simp only [slotInLoop, driven, role, actF, hact]
  have hload : ∀ j b, cellLoad t j b = cellLoad s j b := fun j b => by
    simp only [cellLoad, updateCost, bankPeriod, bankStates, bankKernel, hbank, hloop]
  simp only [overLoad, hactive, hload]

/-- A boundary's tick, before anything that it brings. -/
def boundaryReached (o cell n : Nat) (s : State) : State := boundaryBegun cell n (advanceUptime (o + 1000 * n) s)

theorem loopCell_boundaryReached (o m n : Nat) (s : State) : loopCell (boundaryReached o m n s) m =
    { loopCell s m with tick := some n, preset := (loopCell s m).presetDue, presetDue := List.replicate 4 false } := loopCell_setCell_same ..

theorem bankReady_boundaryReached (o m n : Nat) (s : State) : bankReady (boundaryReached o m n s) m = bankReady s m := by
  unfold bankReady
  rw [loopCell_boundaryReached]
  rfl

theorem overLoad_boundaryReached (o m n : Nat) (s : State) : overLoad (boundaryReached o m n s) m = overLoad s m := overLoad_congr rfl rfl m

theorem boundaryReached_work (hm : m < 640) (T : Touch) (o n : Nat) (s : State) : CellWork T m s (boundaryReached o m n s) := by
  have h : CellWork T m s (advanceUptime (o + 1000 * n) s) := (CellWork.refl T hm s).beside rfl
  exact h.boundaryBegun n

/-- What the boundary brings to such a cell: a divergence, the swap, the mode and the injection, in this order. -/
theorem reachBoundary_plain (hm : m < 640) {o n : Nat} (ht : (loopCell s m).tick ≠ some n) (hp : (loopCell s m).permit = none)
    (hf : (loopCell s m).firstDue = false) (hd : (loopCell s m).orphanDue = none) :
    reachBoundary o m n s = injBoundary m (modeBoundary m (swapDue m (divergeBoundary m (boundaryReached o m n s)))) := by
  have hcell := loopCell_boundaryReached o m n s
  have hpermit : (loopCell (swapDue m (divergeBoundary m (boundaryReached o m n s))) m).permit = none := by
    have hwork : CellWork ⟨fun _ => True, fun _ => True, False, False, True, False⟩ m (boundaryReached o m n s)
        (swapDue m (divergeBoundary m (boundaryReached o m n s))) :=
      ((CellWork.refl _ hm _).divergeBoundary (fun _ => trivial) (fun _ => trivial) trivial).swapDue (fun _ _ => trivial) fun _ => trivial
    exact (hwork.record.permit id).trans (by rw [hcell]; exact hp)
  have horphan : ∀ u : State, (loopCell u m).permit = none → orphanBoundary m u = u := fun u hu => by
    unfold orphanBoundary
    simp [hu]
  rw [reachBoundary_new ht, boundaryActions_eq, ← boundaryReached, lostBoundary_none (by rw [hcell]; exact hd), boundaryFollows,
    releaseFirst_none (by rw [hcell]; exact hf), horphan _ hpermit]

variable {k side n : Nat} {taps : List (List (BitVec 12))}

/-- A divergence found before ends in manual, whatever the boundary brings besides (R275). -/
theorem updateAfter_diverged (hm : m < 640) (h : (loopCell s m).diverge = true) :
    let t := updateAfter k m side n taps (modeBoundary m (swapDue m (divergeBoundary m s)))
    cellAuto t m = false ∧ getBit t (Reg.CELL_STATUS m) 3 = true ∧ getBit t (Reg.CELL_CTRL m) 0 = false ∧
      getBit t (Reg.FAULT_STATUS (pumpPage (primaryPump m))) 0 = true := by
  obtain ⟨hmanual, hdiverged, hfault⟩ := divergeBoundary_diverges hm h
  have hswapped := swapDue_manual hm hmanual
  have hswap : CellWork ⟨(· ≠ 3), fun _ => True, False, False, False, True⟩ m (divergeBoundary m s) (swapDue m (divergeBoundary m s)) :=
    (CellWork.refl _ hm _).swapDue (fun _ h => h) fun _ => trivial
  have hafter := updateAfter_work hm k side n taps (swapDue m (divergeBoundary m s))
  have hword := pumpWord_fault (primaryPump_lt hm)
  rw [modeBoundary_manual hswapped]
  obtain ⟨hauto, hmode⟩ := hafter.manual (by simp [Touch.update]) id hswapped
  exact ⟨hauto, (hafter.statusBit (by simp [Touch.update])).trans ((hswap.statusBit (by simp)).trans hdiverged), hmode,
    (hafter.pumpBit id hword 0).trans ((hswap.pumpBit id hword 0).trans hfault)⟩

/-- A bank that would now take the pair above 0.45 is refused (R288, R292). -/
theorem updateAfter_refused (hm : m < 640) :
    let t := updateAfter k m side n taps (modeBoundary m (refuseBank 4 m s))
    activeBank t m = activeBank s m ∧ cellPending t m = false ∧ getF t (Reg.CELL_STATUS m) 5 3 = 4 := by
  obtain ⟨hreason, hpending, -⟩ := refuseBank_shows (reason := 4) (cell := m) (by decide) s
  have hafter := modeBoundary_work (CellWork.refl .modes hm (refuseBank 4 m s)) k side n taps
  exact ⟨(hafter.activeBank (by simp [Touch.modes])).trans ((refuseBank_work hm 4 s).activeBank (by simp [Touch.bits])),
    (hafter.statusBit (by simp [Touch.modes])).trans hpending,
    (hafter.statusField fun i h1 h2 => by simp only [Touch.modes]; omega).trans hreason⟩

/-- A swap shows at the end of the boundary (R289, R303). -/
theorem updateAfter_swapped (hm : m < 640) :
    let t := updateAfter k m side n taps (modeBoundary m (swapBank m s))
    activeBank t m = 1 - activeBank s m ∧ cellPending t m = false ∧ getBit t (Reg.CELL_CTRL m) 1 = false ∧
      getF t (Reg.CELL_STATUS m) 16 16 = fld (bankWord s m (1 - activeBank s m) 1) 0 16 := by
  obtain ⟨hactive, hpending, hnext, hid⟩ := bankEntered_shows m s
  have hfollows : CellWork .modes m (bankEntered m s) (swapBank m s) :=
    (CellWork.refl _ hm (bankEntered m s)).bankFollows (Or.inl rfl) (Or.inr (Or.inl rfl)) rfl s
  have hafter := modeBoundary_work hfollows k side n taps
  exact ⟨(hafter.activeBank (by simp [Touch.modes])).trans hactive, (hafter.statusBit (by simp [Touch.modes])).trans hpending,
    (hafter.ctrlBit (by simp [Touch.modes])).trans hnext, (hafter.statusField fun i h1 h2 => by simp only [Touch.modes]; omega).trans hid⟩

/-- The mode that a boundary settles is the cell's at its end (R293). -/
theorem cellAuto_updateAfter (hm : m < 640) (s : State) : cellAuto (updateAfter k m side n taps s) m = cellAuto s m :=
  (updateAfter_work hm k side n taps s).statusBit (by simp [Touch.update])

/-- A pump that holds a copy of a cell in manual computes no code (R271, R293). -/
theorem codes_updateAfter (hm : m < 640) (hk : k < 128) (hc : computes s k = true) (hcopied : ((loopCell s m).copy side).copied = true)
    (ha : cellAuto s m = false) : ((loopCell (updateAfter k m side n taps s) m).copy side).codes = List.replicate 4 none := by
  have h : CellWork (.bits (· = 4) fun _ => False) m s (tapsRecorded m taps (injBoundary m s)) :=
    ((CellWork.refl _ hm s).injBoundary rfl).tapsRecorded taps
  have hc' := (h.computes id hk).trans hc
  have hcopied' := h.record.copied side hcopied
  have ha' : cellAuto (tapsRecorded m taps (injBoundary m s)) m = false := (h.statusBit (by simp [Touch.bits])).trans ha
  have hdone : updateAfter k m side n taps s = pumpCompute side m n taps (tapsRecorded m taps (injBoundary m s)) := by
    unfold updateAfter updateDone
    simp [hc', hcopied']
  rw [hdone]
  exact pumpCompute_manual hm ha' side n taps

/-- Without a swap the boundary settles the mode alone (R293). -/
theorem updateAfter_mode (hm : m < 640) (hk : k < 128) (hc : computes s k = true) :
    let t := updateAfter k m side n taps (modeBoundary m s)
    activeBank t m = activeBank s m ∧
      (getBit s (Reg.CELL_CTRL m) 0 = true → parkForced s = false → bankKernel s m (activeBank s m) ≠ 0 →
        getBit s (Reg.CELL_STATUS m) 3 = false → cellAuto t m = true) ∧
      (getBit s (Reg.CELL_CTRL m) 0 = true → cellAuto s m = false →
        parkForced s = true ∨ bankKernel s m (activeBank s m) = 0 ∨ getBit s (Reg.CELL_STATUS m) 3 = true → Manual m t) ∧
      (getBit s (Reg.CELL_CTRL m) 0 = false → cellAuto t m = false ∧
        (((loopCell s m).copy side).copied = true → ((loopCell t m).copy side).codes = List.replicate 4 none)) := by
  have hmode : CellWork (.bits (fun i => i = 0 ∨ i = 4) (· = 0)) m s (modeBoundary m s) :=
    (CellWork.refl _ hm s).modeBoundary (Or.inl rfl) (Or.inr rfl) rfl
  refine ⟨(modeBoundary_work (.refl _ hm s) k side n taps).activeBank (by simp [Touch.modes]), fun h1 hpark hkernel hd => ?_, fun h1 ha hwhy => ?_,
    fun h0 => ⟨?_, fun hcopied => ?_⟩⟩
  · exact (cellAuto_updateAfter hm _).trans (modeBoundary_automatic hm h1 hpark hkernel hd)
  · exact (updateAfter_work hm k side n taps _).manual (by simp [Touch.update]) id (modeBoundary_refused h1 ha hwhy)
  · exact (cellAuto_updateAfter hm _).trans (cellAuto_modeBoundary hm h0)
  · exact codes_updateAfter hm hk ((hmode.computes id hk).trans hc) (hmode.record.copied side hcopied) (cellAuto_modeBoundary hm h0)

end Plain

/-! ### Injections and CELL_CLR (R299, R302) -/

section Commands

variable {req : Requester} {m : Fin 640} {s : State}

/-- What GO is refused for (R299). -/
def InjRefused (m : Nat) (s : State) : Prop :=
  cellAuto s m = false ∨ bankKernel s m (activeBank s m) = 0 ∨ (getBit s (Reg.INJ_CFG m) 2 = true ∧ bankKernel s m (activeBank s m) = 3) ∨
    getF s (Reg.INJ_CFG m) 0 2 = 0 ∨ getF s (Reg.INJ_LEN m) 0 24 = 0 ∨
    ∀ i, i < 4 → getBit s (Reg.INJ_CFG m) (4 + i) = true → slotInLoop s (4 * m + i) = false

/-- The model's test of GO. -/
theorem injRefused_iff {m : Nat} :
    (!cellAuto s m || bankKernel s m (activeBank s m) == 0 || (getBit s (Reg.INJ_CFG m) 2 && bankKernel s m (activeBank s m) == 3) ||
        getF s (Reg.INJ_CFG m) 0 2 == 0 || getF s (Reg.INJ_LEN m) 0 24 == 0 ||
        !(List.range 4).any fun i => getBit s (Reg.INJ_CFG m) (4 + i) && slotInLoop s (4 * m + i)) = true ↔ InjRefused m s := by
  simp [InjRefused, or_assoc]

end Commands

section Commands

variable {req : Requester} {m : Fin 640} {s : State}

/-- GO is refused (R299). -/
theorem injGo_refused (hw : WriteReaches req (Reg.INJ_CMD m) s) (h : InjRefused m s) :
    ∃ t, exec (.injGo req m) s = .next t ∧ getBit t (Reg.INJ_STATUS m) 3 = true ∧ OnlyRegs [Reg.INJ_STATUS m] s t :=
  ⟨setB (Reg.INJ_STATUS m) 3 true s, congrArg Host.Outcome.next ((hostWrite_reaches _ hw).trans (if_pos (injRefused_iff.2 h))),
    getBit_setB_same _ _ _ _ (by decide), (OnlyRegs.refl _ s).setB _ _ (List.mem_singleton_self _)⟩

/-- GO arms an injection that nothing refuses (R299). -/
theorem injGo_arms (hw : WriteReaches req (Reg.INJ_CMD m) s) (h : ¬InjRefused m s) :
    ∃ t, exec (.injGo req m) s = .next t ∧ (loopCell t m).injArmed = true ∧ getF t (Reg.INJ_STATUS m) 1 3 = 0 ∧
      (∀ j, j ≠ m.val → loopCell t j = loopCell s j) ∧ OnlyRegs [Reg.INJ_STATUS m] { s with cells := t.cells } t := by
  refine ⟨setF (Reg.INJ_STATUS m) 1 3 0 (setCell m { loopCell s m with injArmed := true } s),
    congrArg Host.Outcome.next ((hostWrite_reaches _ hw).trans (if_neg (mt injRefused_iff.1 h))), ?_, getF_setF_same _ _ _ _ _ (by decide),
    fun j hj => ?_, ?_⟩
  · rw [loopCell_setF, loopCell_setCell_same]
  · rw [loopCell_setF, loopCell_setCell_other hj]
  · rw [setF_cells]
    exact (OnlyRegs.refl _ (setCell m { loopCell s m with injArmed := true } s)).setF _ _ _ (List.mem_singleton_self _)

theorem setCell_setB (m : Nat) (c : LoopCell) (a i : Nat) (b : Bool) (s : State) : setCell m c (setB a i b s) = setB a i b (setCell m c s) := rfl

/-- An injection that runs or waits ends as DONE (R299, R304). -/
theorem injEnd_eq {m : Nat} (h : getBit s (Reg.INJ_STATUS m) 0 = true ∨ (loopCell s m).injArmed = true) :
    injEnd false m s = setInt (pumpPage (primaryPump m)) 2 (setB (Reg.CELL_STATUS m) 4 false (setB (Reg.INJ_STATUS m) 0 false
      (setB (Reg.INJ_STATUS m) 1 true (setCell m { loopCell s m with injArmed := false, injValue := 0 } s)))) :=
  (if_pos (by simpa using h)).trans (by simp only [loopCell_setB, setCell_setB, Bool.false_eq_true, if_false])

theorem injStop_ends (hw : WriteReaches req (Reg.INJ_CMD m) s) (h : getBit s (Reg.INJ_STATUS m) 0 = true ∨ (loopCell s m).injArmed = true) :
    ∃ t, exec (.injStop req m) s = .next t ∧ getBit t (Reg.INJ_STATUS m) 0 = false ∧ getBit t (Reg.INJ_STATUS m) 1 = true ∧
      getBit t (Reg.CELL_STATUS m) 4 = false ∧ getBit t (Reg.INT_STATUS (pumpPage (primaryPump m))) 2 = true ∧ cellAuto t m = cellAuto s m ∧
      OnlyRegsOut [Reg.INJ_STATUS m, Reg.CELL_STATUS m, Reg.INT_STATUS (pumpPage (primaryPump m))] { s with cells := t.cells } t := by
  have hint : Reg.INT_STATUS (pumpPage (primaryPump m)) = 0x200000 + 0x1000 * (m.val / 5) + 0x10 := rfl
  have hi : Reg.INT_STATUS (pumpPage (primaryPump m)) ≠ Reg.INJ_STATUS m := by unfold Reg.INJ_STATUS; omega
  have hs : Reg.INT_STATUS (pumpPage (primaryPump m)) ≠ Reg.CELL_STATUS m := by unfold Reg.CELL_STATUS; omega
  have hne : Reg.CELL_STATUS m ≠ Reg.INJ_STATUS m := by simp [Reg.CELL_STATUS, Reg.INJ_STATUS]
  have hauto := ((CellWork.refl (.bits (· = 4) fun _ => False) m.isLt s).injEnd rfl false).statusBit (i := 0) (by simp [Touch.bits])
  refine ⟨injEnd false m s, congrArg Host.Outcome.next (hostWrite_reaches _ hw), ?_, ?_, ?_, ?_, hauto, ?_⟩
  all_goals rw [injEnd_eq h]
  · rw [getBit, reg_setInt_other _ _ _ hi, reg_setB_other _ _ _ hne]
    exact getBit_setB_same _ _ _ _ (by decide)
  · rw [getBit, reg_setInt_other _ _ _ hi, reg_setB_other _ _ _ hne]
    exact (getBit_setB_beside _ _ _ _ _ (by decide) (by decide)).trans (getBit_setB_same _ _ _ _ (by decide))
  · rw [getBit, reg_setInt_other _ _ _ hs]
    exact getBit_setB_same _ _ _ _ (by decide)
  · exact getBit_setInt _ _ _ (by decide)
  · have hcells : ∀ p i u, (setInt p i u).cells = u.cells := fun p i u => by
      obtain ⟨r, x, hx⟩ := setInt_frame p i u
      rw [hx]
    rw [hcells, setB_cells, setB_cells, setB_cells]
    exact ((((OnlyRegsOut.refl _ _).setB _ _ (by simp)).setB _ _ (by simp)).setB _ _ (by simp)).setInt _ _ (by simp)

/-- CELL_CLR's effect (R302). -/
def cellCleared (m : Nat) (data : BitVec 2) (s : State) : State :=
  whenB (data.getLsbD 1) (setB (Reg.CELL_STATUS m) 3 false) (whenB (data.getLsbD 0) (setReg (Reg.CELL_MISS m) 0) s)

theorem cellClr_clears {data : BitVec 2} (hw : WriteReaches req (Reg.CELL_CLR m) s) :
    ∃ t, exec (.cellClr req m data) s = .next t ∧ OnlyRegs [Reg.CELL_STATUS m, Reg.CELL_MISS m] s t ∧
      (data.getLsbD 0 = true → reg t (Reg.CELL_MISS m) = 0) ∧ (data.getLsbD 0 = false → reg t (Reg.CELL_MISS m) = reg s (Reg.CELL_MISS m)) ∧
      getBit t (Reg.CELL_STATUS m) 3 = (getBit s (Reg.CELL_STATUS m) 3 && !data.getLsbD 1) := by
  have hne : Reg.CELL_STATUS m ≠ Reg.CELL_MISS m := by simp [Reg.CELL_STATUS, Reg.CELL_MISS]
  have hmiss : reg (cellCleared m data s) (Reg.CELL_MISS m) = if data.getLsbD 0 then 0 else reg s (Reg.CELL_MISS m) := by
    have h1 : reg (cellCleared m data s) (Reg.CELL_MISS m) = reg (whenB (data.getLsbD 0) (setReg (Reg.CELL_MISS m) 0) s) (Reg.CELL_MISS m) :=
      whenB_keeps (fun t => reg t (Reg.CELL_MISS m) = _) _ _ (fun t ht => (reg_setB_other _ _ _ hne).trans ht) rfl
    rw [h1]
    cases data.getLsbD 0
    · rfl
    · exact reg_setReg_same _ _ _
  have hstatus : getBit (cellCleared m data s) (Reg.CELL_STATUS m) 3 = (getBit s (Reg.CELL_STATUS m) 3 && !data.getLsbD 1) := by
    have h0 : getBit (whenB (data.getLsbD 0) (setReg (Reg.CELL_MISS m) 0) s) (Reg.CELL_STATUS m) 3 = getBit s (Reg.CELL_STATUS m) 3 :=
      whenB_keeps (fun t => getBit t (Reg.CELL_STATUS m) 3 = _) _ _ (fun t ht => (congrArg (bitOf · 3) (reg_setReg_other _ _ hne.symm)).trans ht) rfl
    unfold cellCleared
    cases data.getLsbD 1
    · rw [whenB_false, h0, Bool.not_false, Bool.and_true]
    · rw [whenB_true, getBit_setB_same _ _ _ _ (by decide), Bool.not_true, Bool.and_false]
  refine ⟨cellCleared m data s, congrArg Host.Outcome.next (hostWrite_reaches _ hw), ?_, fun h => ?_, fun h => ?_, hstatus⟩
  · exact whenB_keeps (OnlyRegs _ s) _ _ (fun t ht => ht.setB _ _ (by simp))
      (whenB_keeps (OnlyRegs _ s) _ _ (fun t ht => ht.setReg _ (by simp)) (.refl _ s))
  · rw [hmiss, h, if_pos rfl]
  · rw [hmiss, h, if_neg Bool.false_ne_true]

end Commands

/-- Settles O38. A boundary's work touches one cell; where the cell is neither held nor orphaned it comes to a divergence, a swap and a mode, and
what follows changes none of what they show. -/
theorem loopBoundariesSwapAndChangeModes : Obligations.LoopBoundariesSwapAndChangeModes := by
  unfold Obligations.LoopBoundariesSwapAndChangeModes
  refine ⟨fun k m taps s o side ho hs hm hr => ⟨fun hc hd ht => ?_, fun hc => ?_⟩,
    fun req m s hw => ⟨injGo_refused hw, fun ha hk hobs htype hlen hslot => injGo_arms hw ?_, injStop_ends hw⟩,
    fun req m data s hw => cellClr_clears hw⟩
  · refine ⟨_, exec_loopUpdate_lost ho hs hm hr hc hd, ?_⟩
    rw [reachBoundary_new (dueTick_new ht)]
    exact boundaryActions_orphans m.isLt _ hd
  · have hall := loopUpdate_work m.isLt o k side (dueTick s o side m) taps (s := s) (heaters := True) (.inl trivial)
    refine ⟨_, exec_loopUpdate_computes ho hs hm hr hc, hall.cells, hall.bytes, fun hf hd => ?_, hall.eo, hall.epochs, fun ht hp hf hd => ?_⟩
    · exact (loopUpdate_work m.isLt o k side (dueTick s o side m) taps (heaters := False) (.inr ⟨hf, hd⟩)).heaters id
    rw [reachBoundary_plain m.isLt (dueTick_new ht) hp hf hd, ← updateAfter]
    generalize dueTick s o side m = n
    have hcell := loopCell_boundaryReached o m n s
    have hready : ∀ b, bankReady s m = b → bankReady (boundaryReached o m n s) m = b := fun _ h => (bankReady_boundaryReached o m n s).trans h
    have hload : ∀ b, overLoad s m = b → overLoad (boundaryReached o m n s) m = b := fun _ h => (overLoad_boundaryReached o m n s).trans h
    have hpend : cellPending (boundaryReached o m n s) m = cellPending s m := rfl
    have hcopied : ((loopCell s m).copy side).copied = true → ((loopCell (boundaryReached o m n s) m).copy side).copied = true :=
      (boundaryReached_work m.isLt .update o n s).record.copied side
    refine ⟨fun hdiv => updateAfter_diverged m.isLt (by rw [hcell]; exact hdiv), fun hdiv hpending hr hl => ?_, fun hdiv hpending hr hl => ?_,
      fun hdiv hpending => ?_⟩
    all_goals rw [divergeBoundary_none (by rw [hcell]; exact hdiv), swapDue, hpend, hpending]
    · rw [hready _ hr, hload _ hl]
      exact updateAfter_refused m.isLt
    · rw [hready _ hr, hload _ hl]
      exact updateAfter_swapped m.isLt
    · rw [Bool.false_and, if_neg Bool.false_ne_true]
      obtain ⟨hactive, hautomatic, hrefused, hmanual⟩ :=
        updateAfter_mode (side := side) (n := n) (taps := taps) (s := boundaryReached o m n s) m.isLt k.isLt hc
      exact ⟨hactive, hautomatic, hrefused, fun h0 => (hmanual h0).imp_right fun hcodes hcop => hcodes (hcopied hcop)⟩
  · obtain ⟨i, hi, hchosen, hin⟩ := hslot
    rintro (h | h | ⟨h1, h2⟩ | h | h | h)
    · exact Bool.false_ne_true (h.symm.trans ha)
    · exact hk h
    · exact hobs h1 h2
    · exact htype h
    · exact hlen h
    · exact Bool.false_ne_true ((h i hi hchosen).symm.trans hin)

end Sys2Proof.Machine
end

section
/-! PROOF. What a pair of pumps shows of itself (R306, R311, R321 to R324), and what its showing leaves alone: the cells, the driver stages, the
bytes, and every bit at which nothing of it shows. -/

namespace Sys2Proof.Machine

open Sys2Proof

/-! ### Bits at which a pair shows -/

/-- The words of the pumps' pages that show their states. -/
def PumpShows (a : Nat) : Prop := 0x200000 ≤ a ∧ a < 0x280000 ∧ (a % 0x1000 = 0xc ∨ a % 0x1000 = 0x68)

/-- A bit that shows the state of a pair: STATUS and TWIN_STATUS of a pump, CLAIM_COL_STATUS, and COMPARING of a cell. -/
def PairShows (a i : Nat) : Prop :=
  PumpShows a ∨ (0x300000 ≤ a ∧ a % 0x10000 = 0x300) ∨ (0x300000 ≤ a ∧ 0x2000 ≤ a % 0x10000 ∧ a % 0x10000 < 0x2200 ∧ a % 8 = 4 ∧ i = 2)

theorem pumpShows_status {k : Nat} (hk : k < 128) : PumpShows (Reg.STATUS (pumpPage k)) := by
  have ha : Reg.STATUS (pumpPage k) = 0x200000 + 0x1000 * k + 0xc := rfl
  unfold PumpShows
  omega

theorem pumpShows_twinStatus {k : Nat} (hk : k < 128) : PumpShows (Reg.TWIN_STATUS k) := by
  unfold PumpShows Reg.TWIN_STATUS
  omega

/-- Words are equal where all their bits are. -/
theorem reg_of_bits {s t : State} {a : Nat} (h : ∀ i, getBit t a i = getBit s a i) : reg t a = reg s a :=
  BitVec.eq_of_getLsbD_eq fun i _ => h i

/-- The work on a pair: nothing changes but registers, at the bits `W`, beside the pumps and what no driver stage turns on. -/
structure PairWork (W : Nat → Nat → Prop) (s t : State) : Prop where
  shows : ∀ a i, PairShows a i → W a i
  bits : ∀ a i, ¬W a i → getBit t a i = getBit s a i
  bytes : SameBytes s t
  cells : t.cells = s.cells
  heaters : t.heaters = s.heaters
  active : t.active = s.active
  pins : t.pins = s.pins
  htrCal : t.htrCal = s.htrCal

namespace PairWork

variable {W : Nat → Nat → Prop} {s t u : State}

theorem refl (hW : ∀ a i, PairShows a i → W a i) (s : State) : PairWork W s s :=
  ⟨hW, fun _ _ _ => rfl, ⟨fun _ => rfl, fun _ => rfl⟩, rfl, rfl, rfl, rfl, rfl⟩

theorem trans (h : PairWork W s t) (g : PairWork W t u) : PairWork W s u where
  shows := h.shows
  bits a i hw := (g.bits a i hw).trans (h.bits a i hw)
  bytes := ⟨fun a => (g.bytes.1 a).trans (h.bytes.1 a), fun a => (g.bytes.2 a).trans (h.bytes.2 a)⟩
  cells := g.cells.trans h.cells
  heaters := g.heaters.trans h.heaters
  active := g.active.trans h.active
  pins := g.pins.trans h.pins
  htrCal := g.htrCal.trans h.htrCal

/-- A word none of whose bits shows. -/
theorem reg (h : PairWork W s t) {a : Nat} (ha : ∀ i, ¬W a i) : reg t a = reg s a := reg_of_bits fun i => h.bits a i (ha i)

theorem loopCell (h : PairWork W s t) (j : Nat) : loopCell t j = loopCell s j := by rw [Machine.loopCell, h.cells, Machine.loopCell]

theorem setF (h : PairWork W s t) {a lo w : Nat} (v : Nat) (ha : ∀ i, lo ≤ i → i < lo + w → W a i) : PairWork W s (setF a lo w v t) := by
  refine h.trans ⟨h.shows, fun b i hw => ?_, ⟨fun _ => rfl, fun _ => rfl⟩, rfl, rfl, rfl, rfl, rfl⟩
  by_cases hb : a = b
  · subst hb
    exact getBit_setF_beside _ _ _ _ _ (by by_contra hin; exact hw (ha i (by omega) (by omega)))
  · exact congrArg (bitOf · i) (reg_setF_other _ _ _ _ hb)

theorem setB (h : PairWork W s t) {a i : Nat} (v : Bool) (ha : W a i) : PairWork W s (setB a i v t) :=
  h.setF _ fun j h1 h2 => by rwa [show j = i by omega]

theorem setReg (h : PairWork W s t) {a : Nat} (v : Word) (ha : ∀ i, W a i) : PairWork W s (setReg a v t) := by
  refine h.trans ⟨h.shows, fun b i hw => ?_, ⟨fun _ => rfl, fun _ => rfl⟩, rfl, rfl, rfl, rfl, rfl⟩
  exact congrArg (bitOf · i) (reg_setReg_other _ _ (by rintro rfl; exact hw (ha i)))

theorem bumpF (h : PairWork W s t) {a : Nat} (lo w : Nat) (ha : ∀ i, W a i) : PairWork W s (bumpF a lo w t) := h.setReg _ ha

theorem setPump (h : PairWork W s t) (k : Nat) (p : Pump) : PairWork W s (setPump k p t) :=
  h.trans ⟨h.shows, fun _ _ _ => rfl, ⟨fun _ => rfl, fun _ => rfl⟩, rfl, rfl, rfl, rfl, rfl⟩

theorem setInt (h : PairWork W s t) {p : Page} {i : Nat} (ha : W (Reg.INT_STATUS p) i) : PairWork W s (setInt p i t) := by
  have hb := h.setB true ha
  unfold Machine.setInt intEdge
  split
  · exact hb.trans ⟨h.shows, fun _ _ _ => rfl, ⟨fun _ => rfl, fun _ => rfl⟩, rfl, rfl, rfl, rfl, rfl⟩
  · exact hb

theorem ite (c : Prop) [Decidable c] (ht : c → PairWork W s t) (hu : ¬c → PairWork W s u) : PairWork W s (if c then t else u) := by
  split
  · next h => exact ht h
  · next h => exact hu h

theorem whenB (h : PairWork W s t) (c : Bool) {f : State → State} (hf : PairWork W s (f t)) : PairWork W s (whenB c f t) := by
  cases c
  · exact h
  · exact hf

theorem forEach {α : Type} (h : PairWork W s t) (l : List α) (f : α → State → State)
    (hf : ∀ x ∈ l, ∀ u, PairWork W s u → PairWork W s (f x u)) : PairWork W s (forEach l f t) := forEach_keeps _ f l hf h

/-! ### The pumps (R311, R321, R323) -/

theorem pumpWord (h : PairWork W s t) {a : Nat} (ha : PumpShows a) (i : Nat) : W a i := h.shows a i (.inl ha)

theorem setPumpState (h : PairWork W s t) {k : Nat} (hk : k < 128) (v : Nat) : PairWork W s (setPumpState k v t) :=
  h.setF _ fun _ _ _ => h.pumpWord (pumpShows_twinStatus hk) _

theorem setPhase (h : PairWork W s t) {k : Nat} (hk : k < 128) (f : Phase) : PairWork W s (setPhase (pumpPage k) f t) := by
  have ha : ∀ i, W (Reg.STATUS (pumpPage k)) i := h.pumpWord (pumpShows_status hk)
  have h1 : PairWork W s { t with bus := { t.bus with phase := SMap.set (fun _ => Phase.off) t.bus.phase (pageBase (pumpPage k)) f } } :=
    h.trans ⟨h.shows, fun _ _ _ => rfl, ⟨fun _ => rfl, fun _ => rfl⟩, rfl, rfl, rfl, rfl, rfl⟩
  exact ((h1.setB _ (ha 0)).setB _ (ha 1)).setB _ (ha 2)

theorem showPump (h : PairWork W s t) {k : Nat} (hk : k < 128) : PairWork W s (showPump k t) := by
  have ha : ∀ i, W (Reg.TWIN_STATUS k) i := h.pumpWord (pumpShows_twinStatus hk)
  exact (((h.setB _ (ha 3)).setF _ fun i _ _ => ha i).setF _ fun i _ _ => ha i).setB _ (h.pumpWord (pumpShows_status hk) 5)

theorem showClaims (h : PairWork W s t) (c : Nat) : PairWork W s (showClaims c t) :=
  h.setReg _ fun _ => h.shows _ _ (.inr (.inl (by unfold Reg.CLAIM_COL_STATUS; omega)))

theorem showComparing (h : PairWork W s t) (j : Nat) : PairWork W s (showComparing j t) :=
  h.setB _ (h.shows _ _ (.inr (.inr (by unfold claimState Reg.CLAIM_STATE; omega))))

theorem refreshPair (h : PairWork W s t) {k : Nat} (hk : k < 128) : PairWork W s (refreshPair k t) :=
  ((((h.showPump hk).showPump (twin_lt hk)).forEach _ _ fun j _ _ hu => hu.showComparing j).showClaims _).showClaims _

theorem finishHandover (h : PairWork W s t) {k : Nat} (hk : k < 128) : PairWork W s (finishHandover k t) := by
  have hmove : ∀ {v : State} (n : Nat) (f : Phase), PairWork W s v →
      PairWork W s (Machine.refreshPair k (Machine.setPhase (pumpPage k) f (Machine.setPumpState k n v))) := fun n f hv =>
    ((hv.setPumpState hk n).setPhase hk f).refreshPair hk
  exact ite _ (fun _ => ite _ (fun _ => hmove 1 _ (h.setPump k _)) fun _ => ite _ (fun _ => hmove 1 _ h) fun _ => hmove 0 _ h) fun _ => h

/-- A pump that has met R316 becomes ACTIVE (R311). -/
theorem syncDone (h : PairWork W s t) {k : Nat} (hk : k < 128) : PairWork W s (syncDone k t) :=
  ite _ (fun _ => (h.setPumpState hk 4).refreshPair hk) fun _ => h

end PairWork

theorem pumpOf_lt {m : Nat} (hm : m < 640) (side : Nat) : pumpOf m side < 128 := by
  have hk := primaryPump_lt hm
  unfold pumpOf
  split
  · exact hk
  · exact twin_lt hk

theorem PairWork.syncBoth {W : Nat → Nat → Prop} {s t : State} (h : PairWork W s t) {m : Nat} (hm : m < 640) (shadow : Nat) :
    PairWork W s (syncBoth m shadow t) := (h.syncDone (pumpOf_lt hm _)).syncDone (pumpOf_lt hm _)

end Sys2Proof.Machine
end

section
/-! PROOF. The codes that pass a driver stage (R245, R273, R301): which slots take them, and what meeting the stages touches. -/

namespace Sys2Proof.Machine

open Sys2Proof

/-! ### Which slots take codes (R245) -/

/-- A slot takes updates where row 7 governs it, its outputs are not both latched, and no read-back calibration runs. -/
theorem rowSeven_eq (s : State) (slot : Nat) : rowSeven s slot =
    (!(lockedOut s || thermalDown s || bankFlag s (slot / 256) (slot % 256)) && !(parkForced s && role s slot != roleUnused) &&
      (heater s slot).held.isNone && role s slot != roleSpare && role s slot != roleUnused &&
      !(latched s (slot / 256) (2 * (slot % 256)) && latched s (slot / 256) (2 * (slot % 256) + 1)) &&
      !SMap.get (fun _ => false) s.htrCal (slot / 256)) := by
  unfold rowSeven govern
  dsimp only
  cases lockedOut s || thermalDown s || bankFlag s (slot / 256) (slot % 256)
  · cases parkForced s && role s slot != roleUnused
    · cases (heater s slot).held with
      | some c => rfl
      | none =>
        dsimp only
        by_cases hs : role s slot = roleSpare
        · simp [hs]
        · rw [if_neg hs, bne_iff_ne.2 hs]
          by_cases hu : role s slot = roleUnused
          · simp [hu]
          · rw [if_neg hu, bne_iff_ne.2 hu]
            simp
    · rfl
  · rfl

/-- The words that a driver stage turns on. -/
def DriverWord (a : Nat) : Prop :=
  a < 0x100000 ∨ (0x300000 ≤ a ∧ a < 0x3a0000 ∧ (a % 0x10000 = 0x104 ∨ (0x5000 ≤ a % 0x10000 ∧ a % 0x10000 < 0x6000)))

/-- Whether a slot takes updates does not rest on the code that it has. -/
theorem rowSeven_congr {s t : State} {slot : Nat} (hslot : slot < 2560) (hp : t.pins = s.pins) (ha : t.active = s.active)
    (hc : t.htrCal = s.htrCal) (hh : (heater t slot).held = (heater s slot).held) (hr : ∀ a, DriverWord a → reg t a = reg s a) :
    rowSeven t slot = rowSeven s slot := by
  have hlocked : lockedOut t = lockedOut s := by simp only [lockedOut, hp]
  have hstage : stage t = stage s := congrArg (fld · 0 4) (hr _ (.inl (by decide)))
  have hdown : thermalDown t = thermalDown s := congrArg (· == 0xF) hstage
  have hflag : bankFlag t (slot / 256) (slot % 256) = bankFlag s (slot / 256) (slot % 256) :=
    congrArg (bitOf · _) (hr _ (.inr (by unfold Reg.HTR_COL_STATUS; omega)))
  have hsession : testSession t = testSession s := congrArg (bitOf · 3) (hr _ (.inl (by decide)))
  have hforced : parkForced t = parkForced s := by simp only [parkForced, hp, hstage, hsession]
  have hrole : role t slot = role s slot := by simp only [role, actF, act, ha]
  have hlatch : ∀ h, h < 512 → latched t (slot / 256) h = latched s (slot / 256) h := fun h hlt => congrArg (bitOf · 20) (hr _ (.inr (by
    unfold rbAddr Reg.HTR_RB_A Reg.HTR_RB_B
    split <;> omega)))
  rw [rowSeven_eq, rowSeven_eq, hlocked, hdown, hflag, hforced, hrole, hh, hlatch _ (by omega), hlatch _ (by omega), hc]

/-! ### The codes of an update pass (R245, R273, R301) -/

/-- A cell but for what the driver stages say of its codes. -/
def LoopCell.refusing (c : LoopCell) (r1 r2 : List Bool) : LoopCell :=
  { c with primary := { c.primary with refused := r1 }, secondary := { c.secondary with refused := r2 } }

/-- The words at which the codes of an update show: LOOP_SLOT_STATUS, the clips of HTR_COUNT_A, and the refusals of CLAIM_COUNT. -/
def CodeShows (a : Nat) : Prop :=
  (0x300000 ≤ a ∧ a < 0x3a0000 ∧ (a % 0x10000 = 0x10c ∨ a % 0x10000 = 0x304)) ∨ (0x1000000 ≤ a ∧ a < 0x1800000)

/-- An update of cell `m` meets the driver stages: its codes may come into force and be refused, and nothing else is touched. -/
structure CodesMet (m : Nat) (s t : State) : Prop where
  regs : ∀ a, ¬CodeShows a → reg t a = reg s a
  bytes : SameBytes s t
  record : ∃ r1 r2, loopCell t m = (loopCell s m).refusing r1 r2
  held : ∀ n, (heater t n).held = (heater s n).held
  pumps : t.pumps = s.pumps
  active : t.active = s.active
  pins : t.pins = s.pins
  htrCal : t.htrCal = s.htrCal

namespace CodesMet

variable {m : Nat} {s t u : State}

theorem refl (m : Nat) (s : State) : CodesMet m s s :=
  ⟨fun _ _ => rfl, ⟨fun _ => rfl, fun _ => rfl⟩, ⟨_, _, rfl⟩, fun _ => rfl, rfl, rfl, rfl, rfl⟩

theorem trans (h : CodesMet m s t) (g : CodesMet m t u) : CodesMet m s u where
  regs a ha := (g.regs a ha).trans (h.regs a ha)
  bytes := ⟨fun a => (g.bytes.1 a).trans (h.bytes.1 a), fun a => (g.bytes.2 a).trans (h.bytes.2 a)⟩
  record := by
    obtain ⟨r1, r2, h1⟩ := h.record
    obtain ⟨r3, r4, h2⟩ := g.record
    exact ⟨r3, r4, by rw [h2, h1]; rfl⟩
  held n := (g.held n).trans (h.held n)
  pumps := g.pumps.trans h.pumps
  active := g.active.trans h.active
  pins := g.pins.trans h.pins
  htrCal := g.htrCal.trans h.htrCal

/-- What the driver stages say of a pump's codes. -/
theorem modRefused (m side : Nat) (f : List Bool → List Bool) (s : State) :
    CodesMet m s (modCopy m side (fun l => { l with refused := f l.refused }) s) := by
  refine ⟨fun _ _ => rfl, ⟨fun _ => rfl, fun _ => rfl⟩, ?_, fun _ => rfl, rfl, rfl, rfl, rfl⟩
  rw [modCopy, loopCell_setCell_same]
  by_cases h : side = 0
  · subst h
    exact ⟨_, _, rfl⟩
  · rw [LoopCell.copy, if_neg h, LoopCell.withCopy, if_neg h]
    exact ⟨_, _, rfl⟩

theorem setRefused (m i : Nat) (b : Bool) (s : State) : CodesMet m s (setRefused m i b s) :=
  (modRefused m 0 (·.set i b) s).trans (modRefused m 1 (·.set i b) _)

theorem setF (m : Nat) {a : Nat} (ha : CodeShows a) (lo w v : Nat) (s : State) : CodesMet m s (setF a lo w v s) :=
  ⟨fun _ hb => reg_setF_other _ _ _ _ (by rintro rfl; exact hb ha), ⟨fun _ => rfl, fun _ => rfl⟩, ⟨_, _, rfl⟩, fun _ => rfl, rfl, rfl, rfl, rfl⟩

theorem acceptCode (m : Nat) {n : Nat} (hn : n < 2560) (code : Nat) (src : CodeSource) (s : State) : CodesMet m s (acceptCode n code src s) := by
  obtain ⟨r, hr⟩ := noteClip_frame n (codeTaken n code src s)
  have hheld : ∀ j, (heater (codeTaken n code src s) j).held = (heater s j).held := fun j => by
    rw [codeTaken, heater_setHeater]
    split
    · next h => rw [h]
    · rfl
  have hregs := sameRegsBut_noteClip n (codeTaken n code src s)
  rw [acceptCode_eq]
  refine ⟨fun a ha => hregs a ?_, ?_, ⟨_, _, by rw [hr]; rfl⟩, fun j => ?_, by rw [hr]; rfl, by rw [hr]; rfl, by rw [hr]; rfl, by rw [hr]; rfl⟩
  · rw [List.mem_singleton]
    rintro rfl
    exact ha (.inl (by unfold Reg.HTR_COUNT_A; omega))
  · rw [hr]
    exact ⟨fun _ => rfl, fun _ => rfl⟩
  · rw [heater_noteClip, ← hheld j]
    split
    · next h => rw [h]
    · rfl

theorem pumpCode (m : Nat) {n : Nat} (hn : n < 2560) (code : Nat) (s : State) : CodesMet m s (pumpCode n code s) := by
  unfold Machine.pumpCode
  split
  · exact acceptCode m hn code .pump s
  · exact refl m s

theorem rowSeven (h : CodesMet m s t) {n : Nat} (hn : n < 2560) : rowSeven t n = rowSeven s n := by
  refine rowSeven_congr hn h.pins h.active h.htrCal (h.held n) fun a ha => h.regs a ?_
  unfold DriverWord at ha
  unfold CodeShows
  omega

end CodesMet

theorem codeShows_slotStatus {n : Nat} (hn : n < 2560) : CodeShows (Reg.LOOP_SLOT_STATUS n) := .inr (by unfold Reg.LOOP_SLOT_STATUS; omega)

/-- One slot of a pump's update meets its driver stage (R245, R273, R301). -/
def meetSlot (l : LoopCopy) (cell i : Nat) (s : State) : State :=
  match (l.codes[i]?).getD none with
  | none => setRefused cell i false s
  | some code =>
    if rowSeven s (4 * cell + i) then
      pumpCode (4 * cell + i) code (setF (Reg.LOOP_SLOT_STATUS (4 * cell + i)) 16 16 code (setRefused cell i (!rowSeven s (4 * cell + i)) s))
    else setRefused cell i (!rowSeven s (4 * cell + i)) s

theorem passCodes_eq (side cell : Nat) (s : State) : passCodes side cell s =
    if cellAuto s cell then forEach (List.range 4) (meetSlot ((loopCell s cell).copy side) cell) s else s := by
  unfold passCodes
  cases cellAuto s cell <;> rfl

section Codes

variable {m : Nat} {l : LoopCopy} {s : State}

theorem meetSlot_met (hm : m < 640) {i : Nat} (hi : i < 4) (l : LoopCopy) (s : State) : CodesMet m s (meetSlot l m i s) := by
  have hn : 4 * m + i < 2560 := by omega
  unfold meetSlot
  split
  · exact .setRefused m i false s
  · next code _ =>
    split
    · exact ((CodesMet.setRefused m i _ s).trans (.setF m (codeShows_slotStatus hn) _ _ _ _)).trans (.pumpCode m hn code _)
    · exact .setRefused m i _ s

theorem passCodes_met (hm : m < 640) (side : Nat) (s : State) : CodesMet m s (passCodes side m s) := by
  rw [passCodes_eq]
  split
  · exact forEach_keeps (CodesMet m s) _ _ (fun i hi t ht => ht.trans (meetSlot_met hm (List.mem_range.1 hi) _ t)) (.refl m s)
  · exact .refl m s

/-- The driver stage of a slot after another slot's turn. -/
theorem heater_meetSlot_other {i n : Nat} (h : n ≠ 4 * m + i) : heater (meetSlot l m i s) n = heater s n := by
  have hpump : ∀ code u, heater (pumpCode (4 * m + i) code u) n = heater u n := fun code u => by
    unfold pumpCode
    split
    · rw [acceptCode_eq, heater_noteClip, if_neg (Ne.symm h), codeTaken, heater_setHeater, if_neg (Ne.symm h)]
    · rfl
  have hrefused : ∀ b, heater (setRefused m i b s) n = heater s n := fun _ => rfl
  unfold meetSlot
  split
  · exact hrefused _
  · split
    · rw [hpump, heater, setF_heaters]
      exact hrefused _
    · exact hrefused _

/-- A code has come from the pump. -/
def PumpDrives (n code : Nat) (s : State) : Prop := (heater s n).code = code ∧ (heater s n).source = .pump

/-- A code of the update is the slot's where the slot takes updates (R245). -/
theorem meetSlot_drives (hm : m < 640) {i code : Nat} (hi : i < 4) (hcode : l.codes[i]? = some (some code))
    (h : rowSeven s (4 * m + i) = true) : PumpDrives (4 * m + i) code (meetSlot l m i s) := by
  have hn : 4 * m + i < 2560 := by omega
  have hget : (l.codes[i]?).getD none = some code := by rw [hcode]; rfl
  have hrow := ((CodesMet.setRefused m i (!true) s).trans
    (.setF m (codeShows_slotStatus hn) 16 16 code _)).rowSeven hn
  unfold meetSlot
  rw [hget]
  dsimp only
  rw [h, if_pos rfl, pumpCode, hrow, h, if_pos rfl, acceptCode_eq, PumpDrives, heater_noteClip, if_pos rfl, codeTaken, heater_setHeater, if_pos rfl]
  exact ⟨rfl, rfl⟩

/-- In automatic every code of an update that passes is its slot's under row 7, from the pump (R245). -/
theorem passCodes_drives (hm : m < 640) {side i code : Nat} (ha : cellAuto s m = true) (hi : i < 4)
    (hcode : ((loopCell s m).copy side).codes[i]? = some (some code)) (hrow : rowSeven s (4 * m + i) = true) :
    PumpDrives (4 * m + i) code (passCodes side m s) := by
  have hn : 4 * m + i < 2560 := by omega
  rw [passCodes_eq, if_pos ha]
  generalize (loopCell s m).copy side = l at hcode
  have hmet : CodesMet m s (forEach (List.range 4) (meetSlot l m) s) :=
    forEach_keeps (CodesMet m s) _ _ (fun j hj t ht => ht.trans (meetSlot_met hm (List.mem_range.1 hj) _ t)) (.refl m s)
  refine forEach_establishes (fun j t => j = i → rowSeven t (4 * m + i) = true → PumpDrives (4 * m + i) code t) _ _ ?_ ?_ s i
    (List.mem_range.2 hi) rfl ((hmet.rowSeven hn).trans hrow)
  · rintro j - t rfl hrow
    exact meetSlot_drives hm hi hcode (((meetSlot_met hm hi l t).rowSeven hn).symm.trans hrow)
  · rintro j - y hy t ht rfl hrow
    have hdrives := ht rfl (((meetSlot_met hm (List.mem_range.1 hy) l t).rowSeven hn).symm.trans hrow)
    by_cases hyj : y = j
    · subst hyj
      exact meetSlot_drives hm hi hcode (((meetSlot_met hm hi l t).rowSeven hn).symm.trans hrow)
    · rw [PumpDrives, heater_meetSlot_other (by omega)]
      exact hdrives

end Codes

end Sys2Proof.Machine
end

section
/-! PROOF. The raise of a claim (R308, R312, R319, R324): what shows of a cell's claims, and what the taking of a cell brings about. -/

namespace Sys2Proof.Machine

open Sys2Proof

/-! ### What shows of a cell's claims -/

/-- The bits that show a cell's claims, its holder, ORPHAN and its mode, and the interrupts of its column. -/
def ClaimBit (m a i : Nat) : Prop :=
  a = Reg.CLAIM (m / 64) (m % 64) ∨ (a = claimState m ∧ i < 2) ∨ (a = Reg.CELL_STATUS m ∧ i = 0) ∨ a = Reg.INT_STATUS (colPage (m / 64))

/-- A cell's claims, its holder, ORPHAN and its mode are as before, and so are the interrupts of its column. -/
def SameClaims (m : Nat) (s t : State) : Prop := ∀ a i, ClaimBit m a i → getBit t a i = getBit s a i

namespace SameClaims

variable {m : Nat} {s t u : State}

theorem trans (h : SameClaims m s t) (g : SameClaims m t u) : SameClaims m s u := fun a i hb => (g a i hb).trans (h a i hb)

theorem claimOf (h : SameClaims m s t) (side : Nat) : claimOf t m side = claimOf s m side := getF_of_bits fun i _ _ => h _ i (.inl rfl)

theorem holderSide (h : SameClaims m s t) : holderSide t m = holderSide s m := getF_of_bits fun i _ hi => h _ i (.inr (.inl ⟨rfl, by omega⟩))

theorem orphaned (h : SameClaims m s t) : orphaned t m = orphaned s m := h _ 1 (.inr (.inl ⟨rfl, by decide⟩))

theorem cellAuto (h : SameClaims m s t) : cellAuto t m = cellAuto s m := h _ 0 (.inr (.inr (.inl ⟨rfl, rfl⟩)))

theorem interrupt (h : SameClaims m s t) (i : Nat) :
    getBit t (Reg.INT_STATUS (colPage (m / 64))) i = getBit s (Reg.INT_STATUS (colPage (m / 64))) i := h _ i (.inr (.inr (.inr rfl)))

end SameClaims

theorem intStatus_colPage (c : Nat) : Reg.INT_STATUS (colPage c) = 0x300000 + 0x10000 * c + 0x10 := rfl

theorem intStatus_pumpPage (k : Nat) : Reg.INT_STATUS (pumpPage k) = 0x200000 + 0x1000 * k + 0x10 := rfl

theorem claimBit_cases {m a i : Nat} (h : ClaimBit m a i) (hm : m < 640) :
    (0x302000 ≤ a ∧ a < 0x3a0000 ∧ 0x2000 ≤ a % 0x10000 ∧ a % 0x10000 < 0x2200 ∧ (a % 8 = 4 → i < 2)) ∨ (0x1800000 ≤ a ∧ a % 0x1000 = 4 ∧ i = 0) ∨
      (0x300000 ≤ a ∧ a < 0x3a0000 ∧ a % 0x10000 = 0x10) := by
  rcases h with rfl | ⟨rfl, hi⟩ | ⟨rfl, hi⟩ | rfl
  · unfold Reg.CLAIM
    omega
  · unfold claimState Reg.CLAIM_STATE
    omega
  · unfold Reg.CELL_STATUS
    omega
  · rw [intStatus_colPage]
    omega

theorem CodesMet.sameClaims {m : Nat} {s t : State} (h : CodesMet m s t) (hm : m < 640) : SameClaims m s t := fun a i hb => by
  have hnot : ¬CodeShows a := by
    have := claimBit_cases hb hm
    unfold CodeShows
    omega
  rw [getBit, h.regs a hnot, getBit]

/-! ### A raise (R308, R312, R319) -/

/-- A claim is registered with its pump as the holder, and nobody is permitted to raise any more. -/
def raiseRegistered (side cell claim : Nat) (s : State) : State :=
  setCell cell { loopCell s cell with permit := none, orphanDue := none } (setF (claimState cell) 0 1 side (setClaim cell side claim s))

/-- The same, with ORPHAN cleared. -/
def raiseTaken (side cell claim : Nat) (s : State) : State :=
  whenB (orphaned s cell) (setB (claimState cell) 1 false) (raiseRegistered side cell claim s)

/-- A bit at which a raise shows beside the cell's claims: what shows of its pair, STALE, HEALTH_EVENTS, CLAIM_COUNT, and interrupts. -/
def RaiseShows (a i : Nat) : Prop :=
  PairShows a i ∨ (0x200000 ≤ a ∧ a < 0x280000 ∧ (a % 0x1000 = 0x10 ∨ a % 0x1000 = 0x80)) ∨
    (0x300000 ≤ a ∧ a < 0x3a0000 ∧ (a % 0x10000 = 0xc ∨ a % 0x10000 = 0x10 ∨ a % 0x10000 = 0x304)) ∨ (0x1000000 ≤ a ∧ a < 0x1800000) ∨
    (0x1800000 ≤ a ∧ a % 0x1000 = 4 ∧ 8 ≤ i)

theorem raiseShows_markStale {s t : State} (h : PairWork RaiseShows s t) {m n : Nat} (hm : m < 640) (hn : n ∈ cellSlots m) (b : Bool) :
    PairWork RaiseShows s (markStale b n t) := by
  obtain rfl := mem_cellSlots.1 hn
  have h1 := h.setB (a := Reg.LOOP_SLOT_STATUS n) (i := 1) b (.inr (.inr (.inr (.inl (by unfold Reg.LOOP_SLOT_STATUS; omega)))))
  have h2 := h1.setB (a := Reg.CELL_STATUS (n / 4)) (i := 8 + n % 4) b (.inr (.inr (.inr (.inr (by unfold Reg.CELL_STATUS; omega)))))
  have hcol : Reg.STATUS (colPage (n / 256)) = 0x300000 + 0x10000 * (n / 256) + 0xc := rfl
  exact (h2.setB (a := Reg.STATUS (colPage (n / 256))) (i := 3) _ (.inr (.inr (.inl (by omega))))).setB _
    (.inl (.inl (pumpShows_status (primaryPump_lt hm))))

/-- A raise: the claim is taken, what follows shows beside it, and the interrupt is raised before the pair is shown last (R324). -/
theorem takeCell_stages {m : Nat} (hm : m < 640) (side claim : Nat) (s : State) :
    ∃ u, PairWork RaiseShows (raiseTaken side m claim s) u ∧
      PairWork PairShows (setInt (colPage (m / 64)) 21 u) (takeCell side m claim s) := by
  have hp := primaryPump_lt hm
  unfold takeCell
  extract_lets c p was back s1 c1 s2 s3 s4 s5 s6 left q s7
  have hevents : ∀ i, RaiseShows (Reg.HEALTH_EVENTS p) i := fun i => .inr (.inl (by unfold Reg.HEALTH_EVENTS; omega))
  have h3 : PairWork RaiseShows (raiseTaken side m claim s) s3 := by
    have h0 := PairWork.refl (W := RaiseShows) (fun _ _ => .inl) (raiseTaken side m claim s)
    unfold s3
    split
    · next hw =>
      rw [raiseTaken, show orphaned s m = true from hw, whenB_true] at h0 ⊢
      exact h0.forEach _ _ fun n hn _ hu => raiseShows_markStale hu hm hn false
    · next hw =>
      rw [raiseTaken, show orphaned s m = false from Bool.eq_false_iff.2 hw, whenB_false] at h0 ⊢
      exact h0
  have h4 : PairWork RaiseShows (raiseTaken side m claim s) s4 := by
    refine .ite _ (fun _ => (h3.bumpF 16 16 hevents).setInt ?_) fun _ => .ite _ (fun _ => h3) fun _ => h3.bumpF 0 16 hevents
    rw [intStatus_pumpPage]
    exact .inr (.inl (by omega))
  have h5 : PairWork RaiseShows (raiseTaken side m claim s) s5 :=
    h4.whenB _ (h4.bumpF 16 16 fun i => .inr (.inr (.inl (by unfold Reg.CLAIM_COUNT; omega))))
  have h6 := PairWork.refl (W := PairShows) (fun _ _ h => h) s6
  have h7 : PairWork PairShows s6 s7 := .ite _ (fun _ => h6.setPump p _) fun _ => h6
  exact ⟨s5, h5, (h7.finishHandover (twin_lt (pumpOf_lt hm side))).refreshPair hp⟩

/-- What a raise has brought about. -/
structure CellTaken (side m claim : Nat) (s t : State) : Prop where
  claim : claimOf t m side = claim
  other : claimOf t m (1 - side) = claimOf s m (1 - side)
  holder : holderSide t m = side
  orphan : orphaned t m = false
  interrupt : getBit t (Reg.INT_STATUS (colPage (m / 64))) 21 = true
  record : loopCell t m = { loopCell s m with permit := none, orphanDue := none }
  auto : cellAuto t m = cellAuto s m
  bytes : SameBytes s t
  rowSeven : ∀ n, n < 2560 → rowSeven t n = rowSeven s n

theorem claim_ne_claimState (m : Nat) : Reg.CLAIM (m / 64) (m % 64) ≠ claimState m := by
  unfold claimState Reg.CLAIM Reg.CLAIM_STATE
  omega

section Taken

variable {side m claim : Nat} {s : State}

theorem raiseTaken_frame (side m claim : Nat) (s : State) : ∃ r c, raiseTaken side m claim s = { s with regs := r, cells := c } := by
  refine whenB_keeps (fun t => ∃ r c, t = { s with regs := r, cells := c }) _ _ ?_ ⟨_, _, rfl⟩
  rintro _ ⟨r, c, rfl⟩
  exact ⟨_, c, rfl⟩

theorem loopCell_raiseTaken (side m claim : Nat) (s : State) :
    loopCell (raiseTaken side m claim s) m = { loopCell s m with permit := none, orphanDue := none } := by
  refine whenB_keeps (fun t => loopCell t m = { loopCell s m with permit := none, orphanDue := none }) _ _
    (fun t ht => (loopCell_setB ..).trans ht) ?_
  rw [raiseRegistered, loopCell_setCell_same]

theorem reg_raiseTaken_claim (side m claim : Nat) (s : State) : reg (raiseTaken side m claim s) (Reg.CLAIM (m / 64) (m % 64)) =
    setFld (reg s (Reg.CLAIM (m / 64) (m % 64))) (16 * side) 16 claim := by
  have hne := claim_ne_claimState m
  refine whenB_keeps (fun t => reg t _ = _) _ _ (fun t ht => (reg_setB_other _ _ _ hne.symm).trans ht) ?_
  rw [raiseRegistered, reg_setCell, reg_setF_other _ _ _ _ hne.symm]
  exact reg_setF_same ..

theorem reg_raiseTaken_other {a : Nat} (h1 : a ≠ Reg.CLAIM (m / 64) (m % 64)) (h2 : a ≠ claimState m) :
    reg (raiseTaken side m claim s) a = reg s a := by
  refine whenB_keeps (fun t => reg t a = reg s a) _ _ (fun t ht => (reg_setB_other _ _ _ h2.symm).trans ht) ?_
  rw [raiseRegistered, reg_setCell, reg_setF_other _ _ _ _ h2.symm]
  exact reg_setF_other _ _ _ _ h1.symm

theorem holderSide_raiseTaken (hside : side < 2) : holderSide (raiseTaken side m claim s) m = side := by
  unfold raiseTaken
  refine whenB_keeps (fun t => holderSide t m = side) _ _ (fun t ht => ?_) ?_
  · rw [holderSide, setB, getF_setF_beside t _ _ _ _ _ _ (.inl (by decide)) (by decide)]
    exact ht
  · rw [holderSide, raiseRegistered, getF, reg_setCell, reg_setF_same, fld_setFld _ _ _ _ (by decide)]
    exact Nat.mod_eq_of_lt hside

theorem orphaned_raiseTaken (side m claim : Nat) (s : State) : orphaned (raiseTaken side m claim s) m = false := by
  unfold raiseTaken
  cases h : orphaned s m
  · rw [whenB_false, ← h, orphaned, raiseRegistered, getBit, reg_setCell]
    refine (getBit_setF_beside _ _ _ _ _ (by decide)).trans ?_
    exact congrArg (bitOf · 1) (reg_setF_other _ _ _ _ (claim_ne_claimState m))
  · exact getBit_setB_same _ _ _ _ (by decide)

/-- Where a raise shows no claim shows, the interrupts of the column apart. -/
theorem claimBit_not_raiseShows (hm : m < 640) {a i : Nat} (hb : ClaimBit m a i) (ha : a ≠ Reg.INT_STATUS (colPage (m / 64))) :
    ¬RaiseShows a i := by
  rcases hb with rfl | ⟨rfl, hi⟩ | ⟨rfl, rfl⟩ | rfl
  · unfold Reg.CLAIM RaiseShows PairShows PumpShows
    omega
  · unfold claimState Reg.CLAIM_STATE RaiseShows PairShows PumpShows
    omega
  · unfold Reg.CELL_STATUS RaiseShows PairShows PumpShows
    omega
  · exact absurd rfl ha

theorem driverWord_not_raiseShows {a : Nat} (h : DriverWord a) (i : Nat) : ¬RaiseShows a i := by
  unfold DriverWord at h
  unfold RaiseShows PairShows PumpShows
  omega

theorem interrupt_not_pairShows (m i : Nat) : ¬PairShows (Reg.INT_STATUS (colPage (m / 64))) i := by
  rw [intStatus_colPage]
  unfold PairShows PumpShows
  omega

theorem takeCell_taken (hm : m < 640) (hside : side < 2) (hclaim : claim < 65536) (s : State) :
    CellTaken side m claim s (takeCell side m claim s) := by
  obtain ⟨u, h1, h2⟩ := takeCell_stages hm side claim s
  have h3 : PairWork RaiseShows (raiseTaken side m claim s) (takeCell side m claim s) :=
    (h1.setInt (p := colPage (m / 64)) (i := 21) (by rw [intStatus_colPage]; exact .inr (.inr (.inl (by omega))))).trans
      ⟨fun _ _ => .inl, fun a i hn => h2.bits a i fun hp => hn (.inl hp), h2.bytes, h2.cells, h2.heaters, h2.active, h2.pins, h2.htrCal⟩
  have hbits : ∀ {a i}, ClaimBit m a i → a ≠ Reg.INT_STATUS (colPage (m / 64)) →
      getBit (takeCell side m claim s) a i = getBit (raiseTaken side m claim s) a i := fun hb ha =>
    h3.bits _ _ (claimBit_not_raiseShows hm hb ha)
  have hint : ∀ o, o % 0x10000 ≠ 0x10 → o ≠ Reg.INT_STATUS (colPage (m / 64)) := by rw [intStatus_colPage]; omega
  have hclaims : ∀ v, claimOf (takeCell side m claim s) m v = claimOf (raiseTaken side m claim s) m v := fun v =>
    getF_of_bits fun i _ _ => hbits (.inl rfl) (hint _ (by unfold Reg.CLAIM; omega))
  have hstate : ∀ i, i < 2 → getBit (takeCell side m claim s) (claimState m) i = getBit (raiseTaken side m claim s) (claimState m) i :=
    fun i hi => hbits (.inr (.inl ⟨rfl, hi⟩)) (hint _ (by unfold claimState Reg.CLAIM_STATE; omega))
  obtain ⟨r, c, hframe⟩ := raiseTaken_frame side m claim s
  refine ⟨?_, ?_, ?_, ?_, ?_, ?_, ?_, ?_, fun n hn => ?_⟩
  · rw [hclaims, claimOf, getF, reg_raiseTaken_claim, fld_setFld _ _ _ _ (by omega)]
    exact Nat.mod_eq_of_lt hclaim
  · rw [hclaims, claimOf, getF, reg_raiseTaken_claim, fld_setFld_other _ _ _ _ _ _ (by omega) (by omega), claimOf, getF]
  · exact (getF_of_bits fun i _ hi => hstate i (by omega)).trans (holderSide_raiseTaken hside)
  · exact (hstate 1 (by decide)).trans (orphaned_raiseTaken ..)
  · exact (h2.bits _ _ (interrupt_not_pairShows m 21)).trans (getBit_setInt _ _ _ (by decide))
  · exact (h3.loopCell m).trans (loopCell_raiseTaken ..)
  · refine (hbits (.inr (.inr (.inl ⟨rfl, rfl⟩))) (hint _ (by unfold Reg.CELL_STATUS; omega))).trans (congrArg (bitOf · 0) ?_)
    exact reg_raiseTaken_other (by unfold Reg.CELL_STATUS Reg.CLAIM; omega) (by unfold Reg.CELL_STATUS claimState Reg.CLAIM_STATE; omega)
  · refine ⟨fun a => (h3.bytes.1 a).trans ?_, fun a => (h3.bytes.2 a).trans ?_⟩ <;> rw [hframe] <;> rfl
  · refine rowSeven_congr hn (h3.pins.trans (by rw [hframe])) (h3.active.trans (by rw [hframe])) (h3.htrCal.trans (by rw [hframe])) ?_
      fun a ha => (h3.reg (driverWord_not_raiseShows ha)).trans (reg_raiseTaken_other ?_ ?_)
    · rw [heater, h3.heaters, hframe]
      rfl
    · unfold DriverWord at ha
      unfold Reg.CLAIM
      omega
    · unfold DriverWord at ha
      unfold claimState Reg.CLAIM_STATE
      omega

end Taken

end Sys2Proof.Machine
end

section
/-! PROOF. What an update that meets the arbiter comes to (R307, R308, R314, R319): its outcomes, and the record that it has come. -/

namespace Sys2Proof.Machine

open Sys2Proof

/-! ### The outcomes of the arbiter (R308, R319) -/

/-- An update raises its claim: it brings the twin's plus one, which is new or meets an orphan, and a raise is permitted. -/
def Raises (side m claim : Nat) (s : State) : Prop :=
  claim = (claimOf s m (1 - side) + 1) % 65536 ∧ (claim ≠ claimOf s m side ∨ orphaned s m = true) ∧ raisePermitted s m side = true

section Arbiter

variable {side m claim : Nat} {s : State}

theorem arbitrate_eq (side m claim : Nat) (s : State) [Decidable (Raises side m claim s)] : arbitrate side m claim s =
    if Raises side m claim s then passCodes side m (takeCell side m claim s)
    else if claim = claimOf s m side then
      if orphaned s m then s else if holderSide s m = side then passCodes side m s else passShadow side m s
    else bumpF (Reg.CLAIM_COUNT (m / 64)) 0 16 (modCopy m side (fun l => { l with refused := List.replicate 4 true }) s) := by
  unfold arbitrate
  refine if_congr ?_ rfl rfl
  simp [Raises, and_assoc]

theorem arbitrate_raises (h : Raises side m claim s) : arbitrate side m claim s = passCodes side m (takeCell side m claim s) := by
  classical
  rw [arbitrate_eq, if_pos h]

/-- Without a raise an update brings codes or a refusal alone. -/
theorem arbitrate_met (hm : m < 640) (h : ¬Raises side m claim s) : CodesMet m s (arbitrate side m claim s) := by
  classical
  rw [arbitrate_eq, if_neg h]
  split
  · split
    · exact .refl m s
    · split
      · exact passCodes_met hm side s
      · exact .modRefused m side (fun _ => ((loopCell s m).copy (1 - side)).refused) s
  · exact (CodesMet.modRefused m side (fun _ => List.replicate 4 true) s).trans
      (.setF m (.inl (by unfold Reg.CLAIM_COUNT; omega)) _ _ _ _)

/-- A registered claim of a cell that is no orphan raises nothing. -/
theorem not_raises_registered (hc : claim = claimOf s m side) (ho : orphaned s m = false) : ¬Raises side m claim s := fun h => by
  obtain ⟨-, hnew, -⟩ := h
  rw [ho] at hnew
  exact hnew.elim (absurd hc) (absurd · Bool.false_ne_true)

theorem arbitrate_holder (hc : claim = claimOf s m side) (ho : orphaned s m = false) (hh : holderSide s m = side) :
    arbitrate side m claim s = passCodes side m s := by
  classical
  rw [arbitrate_eq, if_neg (not_raises_registered hc ho), if_pos hc, ho, if_neg Bool.false_ne_true, if_pos hh]

/-- The registered claim of the pump that does not hold, or of an orphan, moves no driver stage (R308, R319). -/
theorem arbitrate_heaters (hc : claim = claimOf s m side)
    (h : (orphaned s m = false ∧ holderSide s m ≠ side) ∨ (orphaned s m = true ∧ raisePermitted s m side = false)) :
    (arbitrate side m claim s).heaters = s.heaters := by
  classical
  rcases h with ⟨ho, hh⟩ | ⟨ho, hp⟩
  · rw [arbitrate_eq, if_neg (not_raises_registered hc ho), if_pos hc, ho, if_neg Bool.false_ne_true, if_neg hh]
    rfl
  · have hno : ¬Raises side m claim s := fun h => Bool.false_ne_true (hp.symm.trans h.2.2)
    rw [arbitrate_eq, if_neg hno, if_pos hc, ho, if_pos rfl]

/-- Any other claim is refused (R308). -/
theorem arbitrate_refuses (hc : claim ≠ claimOf s m side) (h : ¬Raises side m claim s) : arbitrate side m claim s =
    bumpF (Reg.CLAIM_COUNT (m / 64)) 0 16 (modCopy m side (fun l => { l with refused := List.replicate 4 true }) s) := by
  classical
  rw [arbitrate_eq, if_neg h, if_neg hc]

end Arbiter

/-! ### An update that has come (R307, R314) -/

/-- The arbiter has had a pump's update of its last boundary; a miss of the holder before it is made good. -/
def updateReceived (side m : Nat) (s : State) : State :=
  let s2 := modCopy m side (fun l => { l with received := l.tick }) s
  whenB (holderSide s2 m = side && ((loopCell s2 m).copy side).tick != (loopCell s2 m).missedAt) (setB (claimState m) 3 false) s2

section Received

variable {side m : Nat} {s : State}

theorem updateReceived_cases (side m : Nat) (s : State) :
    updateReceived side m s = modCopy m side (fun l => { l with received := l.tick }) s ∨
      updateReceived side m s = setB (claimState m) 3 false (modCopy m side (fun l => { l with received := l.tick }) s) := by
  unfold updateReceived whenB
  dsimp only
  split
  · exact .inr rfl
  · exact .inl rfl

theorem updateReceived_frame (side m : Nat) (s : State) : ∃ r c, updateReceived side m s = { s with regs := r, cells := c } := by
  rcases updateReceived_cases side m s with h | h <;> exact ⟨_, _, h⟩

theorem loopCell_updateReceived (side m : Nat) (s : State) : loopCell (updateReceived side m s) m =
    (loopCell s m).withCopy side { (loopCell s m).copy side with received := ((loopCell s m).copy side).tick } := by
  rcases updateReceived_cases side m s with h | h <;> rw [h] <;> exact loopCell_setCell_same m _ _

theorem reg_updateReceived {a : Nat} (ha : claimState m ≠ a) : reg (updateReceived side m s) a = reg s a := by
  rcases updateReceived_cases side m s with h | h <;> rw [h]
  · rfl
  · exact reg_setB_other _ _ _ ha

theorem claimState_updateReceived {i : Nat} (hi : i < 3 ∨ 4 ≤ i) :
    getBit (updateReceived side m s) (claimState m) i = getBit s (claimState m) i := by
  rcases updateReceived_cases side m s with h | h <;> rw [h]
  · rfl
  · exact getBit_setF_beside _ _ _ _ _ hi

theorem updateReceived_sameClaims (side m : Nat) (s : State) : SameClaims m s (updateReceived side m s) := by
  rintro a i (rfl | ⟨rfl, hi⟩ | ⟨rfl, hi⟩ | rfl)
  · exact congrArg (bitOf · i) (reg_updateReceived (claim_ne_claimState m).symm)
  · exact claimState_updateReceived (.inl (by omega))
  · exact congrArg (bitOf · i) (reg_updateReceived (by unfold claimState Reg.CLAIM_STATE Reg.CELL_STATUS; omega))
  · exact congrArg (bitOf · i) (reg_updateReceived (by rw [intStatus_colPage]; unfold claimState Reg.CLAIM_STATE; omega))

theorem updateReceived_heaters (side m : Nat) (s : State) : (updateReceived side m s).heaters = s.heaters := by
  obtain ⟨r, c, h⟩ := updateReceived_frame side m s
  rw [h]

theorem updateReceived_bytes (side m : Nat) (s : State) : SameBytes s (updateReceived side m s) := by
  obtain ⟨r, c, h⟩ := updateReceived_frame side m s
  rw [h]
  exact ⟨fun _ => rfl, fun _ => rfl⟩

end Received

theorem exec_claimUpdate {k : Fin 128} {cell : Fin 640} {claim : BitVec 16} {s : State} {side : Nat} (hs : sideOf k cell.val = some side)
    (hm : cell.val < s.variant.cells) (ho : s.loopOrigin.isSome = true) (hr : columnResetting s cell.val = false) (hc : computes s k = true) :
    exec (.claimUpdate k cell claim) s = .next (compareIfBoth cell (updateReceived side cell (arbitrate side cell claim.toNat s))) := by
  show execClaimUpdate k cell claim s = _
  unfold execClaimUpdate
  have hn : s.loopOrigin.isNone = false := by rw [← Option.not_isSome, ho]; rfl
  simp only [hs, hm, hn, hr, hc, decide_true, Bool.not_true, Bool.or_self, Bool.false_eq_true, if_false]
  rfl

/-! ### The copies of a cell -/

/-- What the driver stages say of a pump's codes is all that differs. -/
theorem copy_refusing (c : LoopCell) (r1 r2 : List Bool) (i : Nat) : ∃ r, (c.refusing r1 r2).copy i = { c.copy i with refused := r } := by
  unfold LoopCell.copy
  split
  · exact ⟨r1, rfl⟩
  · exact ⟨r2, rfl⟩

theorem compareIfBoth_alone {side m : Nat} {s : State} (hside : side < 2)
    (h : ∀ n, ((loopCell s m).copy side).received = some n → ((loopCell s m).copy (1 - side)).received ≠ some n) : compareIfBoth m s = s := by
  have hne : ∀ a b, (loopCell s m).primary.received = some a → (loopCell s m).secondary.received = some b → a ≠ b := fun a b ha hb hab => by
    subst hab
    interval_cases side
    · exact h a ha hb
    · exact h a hb ha
  unfold compareIfBoth
  dsimp only
  split
  · next a b ha hb => rw [if_neg (by simp [hne a b ha hb])]
  · rfl

/-! ### An update whose twin's has not come -/

section Alone

variable {side m claim : Nat} {s : State}

/-- What the arbiter has left of a cell: at most its permit is used up, and what the driver stages say is new. -/
theorem loopCell_arbitrate (hm : m < 640) (hside : side < 2) (hclaim : claim < 65536) :
    ∃ r1 r2, loopCell (arbitrate side m claim s) m = (loopCell s m).refusing r1 r2 ∧ ¬Raises side m claim s ∨
      loopCell (arbitrate side m claim s) m = { (loopCell s m).refusing r1 r2 with permit := none, orphanDue := none } ∧ Raises side m claim s := by
  by_cases h : Raises side m claim s
  · obtain ⟨r1, r2, hr⟩ := (passCodes_met hm side (takeCell side m claim s)).record
    refine ⟨r1, r2, .inr ⟨?_, h⟩⟩
    rw [arbitrate_raises h, hr, (takeCell_taken hm hside hclaim s).record]
    rfl
  · obtain ⟨r1, r2, hr⟩ := (arbitrate_met hm h).record
    exact ⟨r1, r2, .inl ⟨hr, h⟩⟩

theorem copy_arbitrate (hm : m < 640) (hside : side < 2) (hclaim : claim < 65536) (i : Nat) :
    ∃ r, (loopCell (arbitrate side m claim s) m).copy i = { (loopCell s m).copy i with refused := r } := by
  obtain ⟨r1, r2, ⟨h, -⟩ | ⟨h, -⟩⟩ := loopCell_arbitrate (s := s) hm hside hclaim
  · rw [h]
    exact copy_refusing _ r1 r2 i
  · rw [h]
    exact copy_refusing _ r1 r2 i

/-- The state in which the arbiter has met an update and its codes. -/
def updateMet (side m claim : Nat) (s : State) : State := updateReceived side m (arbitrate side m claim s)

theorem copy_updateMet (hm : m < 640) (hside : side < 2) (hclaim : claim < 65536) :
    ((loopCell (updateMet side m claim s) m).copy side).received = ((loopCell s m).copy side).tick ∧
      ((loopCell (updateMet side m claim s) m).copy (1 - side)).received = ((loopCell s m).copy (1 - side)).received := by
  obtain ⟨r, hr⟩ := copy_arbitrate (s := s) hm hside hclaim side
  obtain ⟨q, hq⟩ := copy_arbitrate (s := s) hm hside hclaim (1 - side)
  rw [updateMet, loopCell_updateReceived, copy_withCopy, copy_withCopy_other hside, hr, hq]
  exact ⟨rfl, rfl⟩

theorem updateMet_alone (hm : m < 640) (hside : side < 2) (hclaim : claim < 65536)
    (h : ∀ n, ((loopCell s m).copy side).tick = some n → ((loopCell s m).copy (1 - side)).received ≠ some n) :
    compareIfBoth m (updateMet side m claim s) = updateMet side m claim s := by
  obtain ⟨hown, hother⟩ := copy_updateMet (s := s) hm hside hclaim
  refine compareIfBoth_alone hside fun n hn => ?_
  rw [hother]
  exact h n (hown.symm.trans hn)

/-- Without a raise no claim changes, nor who holds the cell. -/
theorem updateMet_sameClaims (hm : m < 640) (h : ¬Raises side m claim s) : SameClaims m s (updateMet side m claim s) :=
  ((arbitrate_met hm h).sameClaims hm).trans (updateReceived_sameClaims side m _)

/-- A raise has taken the cell (R308, R312, R319). -/
theorem updateMet_raised (hm : m < 640) (hside : side < 2) (hclaim : claim < 65536) (h : Raises side m claim s) :
    SameClaims m (takeCell side m claim s) (updateMet side m claim s) ∧ (loopCell (updateMet side m claim s) m).permit = none := by
  obtain ⟨r1, r2, ⟨-, hno⟩ | ⟨hr, -⟩⟩ := loopCell_arbitrate (s := s) hm hside hclaim
  · exact absurd h hno
  · refine ⟨?_, ?_⟩
    · rw [updateMet, arbitrate_raises h]
      exact ((passCodes_met hm side _).sameClaims hm).trans (updateReceived_sameClaims side m _)
    · rw [updateMet, loopCell_updateReceived, hr]
      unfold LoopCell.withCopy
      split <;> rfl

theorem claimOf_updateMet_other (hm : m < 640) (hside : side < 2) (hclaim : claim < 65536) :
    claimOf (updateMet side m claim s) m (1 - side) = claimOf s m (1 - side) := by
  by_cases h : Raises side m claim s
  · exact ((updateMet_raised hm hside hclaim h).1.claimOf _).trans (takeCell_taken hm hside hclaim s).other
  · exact (updateMet_sameClaims hm h).claimOf _

theorem updateMet_bytes (hm : m < 640) (hside : side < 2) (hclaim : claim < 65536) : SameBytes s (updateMet side m claim s) := by
  have hbytes : SameBytes s (arbitrate side m claim s) := by
    by_cases h : Raises side m claim s
    · rw [arbitrate_raises h]
      have h1 := (takeCell_taken hm hside hclaim s).bytes
      have h2 := (passCodes_met hm side (takeCell side m claim s)).bytes
      exact ⟨fun a => (h2.1 a).trans (h1.1 a), fun a => (h2.2 a).trans (h1.2 a)⟩
    · exact (arbitrate_met hm h).bytes
  have hend := updateReceived_bytes side m (arbitrate side m claim s)
  exact ⟨fun a => (hend.1 a).trans (hbytes.1 a), fun a => (hend.2 a).trans (hbytes.2 a)⟩

/-- The claims under which the codes of an update pass: the registered one of the holder, and a raise (R308). -/
def CodesPass (side m claim : Nat) (s : State) : Prop :=
  (claim = claimOf s m side ∧ orphaned s m = false ∧ holderSide s m = side) ∨ Raises side m claim s

/-- A code that passes in automatic under row 7 is the slot's, from the pump (R245, R308). -/
theorem updateMet_drives (hm : m < 640) (hside : side < 2) (hclaim : claim < 65536) (h : CodesPass side m claim s) (ha : cellAuto s m = true)
    {i code : Nat} (hi : i < 4) (hcode : ((loopCell s m).copy side).codes[i]? = some (some code)) (hrow : rowSeven s (4 * m + i) = true) :
    PumpDrives (4 * m + i) code (updateMet side m claim s) := by
  have hdrives : PumpDrives (4 * m + i) code (arbitrate side m claim s) := by
    rcases h with ⟨hc, ho, hh⟩ | h
    · rw [arbitrate_holder hc ho hh]
      exact passCodes_drives hm ha hi hcode hrow
    · have ht := takeCell_taken hm hside hclaim s
      rw [arbitrate_raises h]
      refine passCodes_drives hm (ht.auto.trans ha) hi ?_ ((ht.rowSeven _ (by omega)).trans hrow)
      rw [ht.record]
      exact hcode
  rw [PumpDrives, updateMet, heater, updateReceived_heaters]
  exact hdrives

/-- A claim that is neither registered nor a raise is counted, and changes no code (R308, R324). -/
theorem updateMet_refused (hc : claim ≠ claimOf s m side) (h : ¬Raises side m claim s) :
    ((loopCell (updateMet side m claim s) m).copy side).refused = List.replicate 4 true ∧ (updateMet side m claim s).heaters = s.heaters ∧
      getF (updateMet side m claim s) (Reg.CLAIM_COUNT (m / 64)) 0 16 = satInc 16 (getF s (Reg.CLAIM_COUNT (m / 64)) 0 16) ∧
      SameRegsBut [Reg.CLAIM_COUNT (m / 64), claimState m] s (updateMet side m claim s) := by
  have hne : claimState m ≠ Reg.CLAIM_COUNT (m / 64) := by unfold claimState Reg.CLAIM_STATE Reg.CLAIM_COUNT; omega
  rw [updateMet, arbitrate_refuses hc h]
  refine ⟨?_, by rw [updateReceived_heaters, bumpF, setF_heaters]; rfl, ?_, fun a ha => ?_⟩
  · rw [loopCell_updateReceived, copy_withCopy, bumpF, loopCell_setF, modCopy, loopCell_setCell_same, copy_withCopy]
  · rw [getF, reg_updateReceived hne]
    exact getF_bumpF_same _ _ _ _ (by decide)
  · simp only [List.mem_cons, List.not_mem_nil, or_false, not_or] at ha
    rw [reg_updateReceived (Ne.symm ha.2)]
    exact reg_bumpF_other _ _ _ (Ne.symm ha.1)

end Alone

end Sys2Proof.Machine
end

section
/-! PROOF. The comparison of a boundary (R310, R315, R316, R323): its counts, the agreement of both pumps, and a mismatch run. -/

namespace Sys2Proof.Machine

open Sys2Proof

/-! ### The comparison of a boundary (R310, R315, R316) -/

/-- Agreement of a pump with its twin goes on, or begins anew. -/
def LoopCopy.judged (ok : Bool) (l : LoopCopy) : LoopCopy := { l with agreed := if ok then l.agreed + 1 else 0 }

/-- The comparison counts for both pumps (R316), and AGREED shows it. -/
def agreementCounted (ok : Bool) (cell shadow : Nat) (s : State) : State :=
  let u := modCopy cell (1 - shadow) (·.judged ok) (modCopy cell shadow (·.judged ok) s)
  setF (claimState cell) 8 8 (min 255 (((loopCell u cell).copy shadow).agreed / 16)) u

/-- A run of mismatches, as CLAIM_STATE shows it. -/
def runCounted (cell n : Nat) (s : State) : State := setF (claimState cell) 4 4 (min 15 n) (setCell cell { loopCell s cell with run := n } s)

/-- A boundary has been compared: the count, and the largest difference so far (R310, R323). -/
def comparisonCounted (cell t : Nat) (s : State) : State :=
  let p := primaryPump cell
  let s0 := setCell cell { loopCell s cell with compared := some t } s
  let s1 := setReg64 (Reg.HEALTH_CMP_LO p) (reg64 s0 (Reg.HEALTH_CMP_LO p) + 1) s0
  if getF s1 (Reg.HEALTH_DEV p) 0 16 < (largestDiff s0 cell).1 then
    setReg (Reg.HEALTH_DEV p) (word (min 65535 (largestDiff s0 cell).1 + 2 ^ 16 * (largestDiff s0 cell).2)) s1
  else s1

/-- A mismatch counts, with its interrupt (R310, R323). -/
def mismatchCounted (cell : Nat) (s : State) : State :=
  let h := Reg.HEALTH_MISMATCH (primaryPump cell)
  let run := (loopCell s cell).run + 1
  let s3 := runCounted cell run (bumpF h 0 16 s)
  setInt (pumpPage (primaryPump cell)) 11 (setF h 16 8 (max (getF s3 h 16 8) (min 255 run)) s3)

theorem shadowCompare_auto {cell t : Nat} {s : State} (h : cellAuto s cell = true) : shadowCompare cell t s =
    if (largestDiff (setCell cell { loopCell s cell with compared := some t } s) cell).1 ≤ pairCfg s (primaryPump cell) 8 8 then
      syncBoth cell (1 - holderSide s cell) (agreementCounted true cell (1 - holderSide s cell) (runCounted cell 0 (comparisonCounted cell t s)))
    else
      let s5 := syncBoth cell (1 - holderSide s cell) (agreementCounted
        (reg s (Reg.PE_KERNEL_VER (primaryPump cell)) != reg s (Reg.PE_KERNEL_VER (twin (primaryPump cell)))) cell (1 - holderSide s cell)
        (mismatchCounted cell (comparisonCounted cell t s)))
      if (loopCell (comparisonCounted cell t s) cell).run + 1 = pairCfg s (primaryPump cell) 4 4 then mismatchRun cell s5 else s5 := by
  unfold shadowCompare agreementCounted comparisonCounted mismatchCounted runCounted LoopCopy.judged
  simp only [h, Bool.not_true, Bool.false_eq_true, if_false]

section Counts

variable {m n : Nat} {s : State}

theorem reg64_setReg64 (a n : Nat) (s : State) : reg64 (setReg64 a n s) a = n % 2 ^ 64 := by
  have hlo : reg (setReg64 a n s) a = lo32 n := (reg_setReg_other _ _ (by omega)).trans (reg_setReg_same ..)
  have hhi : reg (setReg64 a n s) (a + 4) = hi32 n := reg_setReg_same ..
  rw [reg64, hlo, hhi, join64, lo32, hi32, word, word, BitVec.toNat_ofNat, BitVec.toNat_ofNat]
  omega

theorem loopCell_comparisonCounted (m n : Nat) (s : State) :
    loopCell (comparisonCounted m n s) m = { loopCell s m with compared := some n } := by
  unfold comparisonCounted
  dsimp only
  have hcell := loopCell_setCell_same m { loopCell s m with compared := some n } s
  split <;> exact hcell

theorem reg_comparisonCounted {a : Nat} (h1 : a ≠ Reg.HEALTH_CMP_LO (primaryPump m)) (h2 : a ≠ Reg.HEALTH_CMP_LO (primaryPump m) + 4)
    (h3 : a ≠ Reg.HEALTH_DEV (primaryPump m)) : reg (comparisonCounted m n s) a = reg s a := by
  have hcount : ∀ v u, reg (setReg64 (Reg.HEALTH_CMP_LO (primaryPump m)) v u) a = reg u a := fun v u => by
    rw [setReg64, reg_setReg_other _ _ h2.symm, reg_setReg_other _ _ h1.symm]
  unfold comparisonCounted
  dsimp only
  split
  · rw [reg_setReg_other _ _ h3.symm, hcount, reg_setCell]
  · rw [hcount, reg_setCell]

theorem reg64_comparisonCounted (m n : Nat) (s : State) : reg64 (comparisonCounted m n s) (Reg.HEALTH_CMP_LO (primaryPump m)) =
    (reg64 s (Reg.HEALTH_CMP_LO (primaryPump m)) + 1) % 2 ^ 64 := by
  have hdev : ∀ v u, reg64 (setReg (Reg.HEALTH_DEV (primaryPump m)) v u) (Reg.HEALTH_CMP_LO (primaryPump m)) =
      reg64 u (Reg.HEALTH_CMP_LO (primaryPump m)) := fun v u => by
    rw [reg64, reg_setReg_other _ _ (by unfold Reg.HEALTH_DEV Reg.HEALTH_CMP_LO; omega),
      reg_setReg_other _ _ (by unfold Reg.HEALTH_DEV Reg.HEALTH_CMP_LO; omega), reg64]
  unfold comparisonCounted
  dsimp only
  split
  · rw [hdev, reg64_setReg64]
    rfl
  · rw [reg64_setReg64]
    rfl

theorem mismatch_ne_claimState (m : Nat) : Reg.HEALTH_MISMATCH (primaryPump m) ≠ claimState m := by
  unfold Reg.HEALTH_MISMATCH primaryPump claimState Reg.CLAIM_STATE
  omega

theorem loopCell_setInt (p : Page) (i : Nat) (s : State) (j : Nat) : loopCell (setInt p i s) j = loopCell s j := by
  obtain ⟨r, o, h⟩ := setInt_frame p i s
  rw [h]
  rfl

theorem loopCell_mismatchCounted (m : Nat) (s : State) :
    loopCell (mismatchCounted m s) m = { loopCell s m with run := (loopCell s m).run + 1 } := by
  unfold mismatchCounted
  dsimp only
  rw [loopCell_setInt, loopCell_setF, runCounted, loopCell_setF, loopCell_setCell_same, bumpF, loopCell_setF]

/-- A mismatch shows: its run, the count and the interrupt (R323, R324). -/
theorem mismatchCounted_shows (m : Nat) (s : State) :
    getF (mismatchCounted m s) (claimState m) 4 4 = min 15 ((loopCell s m).run + 1) ∧
      getF (mismatchCounted m s) (Reg.HEALTH_MISMATCH (primaryPump m)) 0 16 = satInc 16 (getF s (Reg.HEALTH_MISMATCH (primaryPump m)) 0 16) ∧
      getBit (mismatchCounted m s) (Reg.INT_STATUS (pumpPage (primaryPump m))) 11 = true := by
  have hne := mismatch_ne_claimState m
  have hi : Reg.INT_STATUS (pumpPage (primaryPump m)) ≠ Reg.HEALTH_MISMATCH (primaryPump m) := by
    rw [intStatus_pumpPage]
    unfold Reg.HEALTH_MISMATCH
    omega
  have hc : Reg.INT_STATUS (pumpPage (primaryPump m)) ≠ claimState m := by
    rw [intStatus_pumpPage]
    unfold primaryPump claimState Reg.CLAIM_STATE
    omega
  unfold mismatchCounted
  dsimp only
  refine ⟨?_, ?_, getBit_setInt _ _ _ (by decide)⟩
  · rw [getF, reg_setInt_other _ _ _ hc, reg_setF_other _ _ _ _ hne]
    exact (getF_setF_same _ _ _ _ _ (by decide)).trans (Nat.mod_eq_of_lt (by omega))
  · rw [getF, reg_setInt_other _ _ _ hi, ← getF, getF_setF_beside _ _ _ _ _ 0 16 (.inl (by decide)) (by decide), getF, runCounted,
      reg_setF_other _ _ _ _ hne.symm, reg_setCell]
    exact getF_bumpF_same _ _ _ _ (by decide)

/-- The words of pumps that a mismatch leaves alone. -/
theorem reg_mismatchCounted {a : Nat} (h1 : a ≠ claimState m) (h2 : a ≠ Reg.HEALTH_MISMATCH (primaryPump m))
    (h3 : a ≠ Reg.INT_STATUS (pumpPage (primaryPump m))) : reg (mismatchCounted m s) a = reg s a := by
  unfold mismatchCounted
  dsimp only
  rw [reg_setInt_other _ _ _ h3.symm, reg_setF_other _ _ _ _ h2.symm, runCounted, reg_setF_other _ _ _ _ h1.symm, reg_setCell,
    reg_bumpF_other _ _ _ h2.symm]

/-- The agreement of both pumps of a cell has been judged, and a pump in SYNC that has met R316 is ACTIVE (R311, R316). -/
def agreementSettled (ok : Bool) (cell shadow : Nat) (s : State) : State := syncBoth cell shadow (agreementCounted ok cell shadow s)

theorem loopCell_agreementSettled (hm : m < 640) {shadow : Nat} (hs : shadow < 2) (ok : Bool) (s : State) :
    loopCell (agreementSettled ok m shadow s) m =
      { loopCell s m with primary := (loopCell s m).primary.judged ok, secondary := (loopCell s m).secondary.judged ok } := by
  have hcount : loopCell (agreementCounted ok m shadow s) m =
      { loopCell s m with primary := (loopCell s m).primary.judged ok, secondary := (loopCell s m).secondary.judged ok } := by
    unfold agreementCounted modCopy
    dsimp only
    rw [loopCell_setF, loopCell_setCell_same, loopCell_setCell_same]
    interval_cases shadow <;> rfl
  exact ((PairWork.refl (fun _ _ h => h) (agreementCounted ok m shadow s)).syncBoth hm shadow).loopCell m |>.trans hcount

theorem reg_agreementCounted {a : Nat} (ha : a ≠ claimState m) (ok : Bool) (shadow : Nat) (s : State) :
    reg (agreementCounted ok m shadow s) a = reg s a := by
  unfold agreementCounted
  dsimp only
  rw [reg_setF_other _ _ _ _ ha.symm, modCopy, reg_setCell, modCopy, reg_setCell]

/-- Beside what shows of the pair, only AGREED moves. -/
theorem getBit_agreementSettled (hm : m < 640) (shadow : Nat) (ok : Bool) (s : State) {a i : Nat} (ha : ¬PairShows a i)
    (hi : a = claimState m → i < 8) : getBit (agreementSettled ok m shadow s) a i = getBit s a i := by
  refine (((PairWork.refl (fun _ _ h => h) (agreementCounted ok m shadow s)).syncBoth hm shadow).bits a i ha).trans ?_
  by_cases h : a = claimState m
  · rw [h]
    exact getBit_setF_beside _ _ _ _ _ (.inl (hi h))
  · exact congrArg (bitOf · i) (reg_agreementCounted h ok shadow s)

theorem reg_agreementSettled (hm : m < 640) (shadow : Nat) (ok : Bool) (s : State) {a : Nat} (ha : ∀ i, ¬PairShows a i) (hc : a ≠ claimState m) :
    reg (agreementSettled ok m shadow s) a = reg s a := reg_of_bits fun i => getBit_agreementSettled hm shadow ok s (ha i) fun h => absurd h hc

theorem run_agreementSettled (hm : m < 640) (shadow : Nat) (ok : Bool) (s : State) :
    getF (agreementSettled ok m shadow s) (claimState m) 4 4 = getF s (claimState m) 4 4 := by
  refine getF_of_bits fun i h1 h2 => getBit_agreementSettled hm shadow ok s ?_ fun _ => by omega
  unfold PairShows PumpShows claimState Reg.CLAIM_STATE
  omega

/-- Two ACTIVE pumps stay as they are (R311). -/
theorem agreementSettled_active (hm : m < 640) {shadow : Nat} {s : State} (h : ∀ side, pumpState s (pumpOf m side) = 4) (ok : Bool) :
    agreementSettled ok m shadow s = agreementCounted ok m shadow s := by
  have hdone : ∀ side, syncDone (pumpOf m side) (agreementCounted ok m shadow s) = agreementCounted ok m shadow s := fun side => by
    have hstate : pumpState (agreementCounted ok m shadow s) (pumpOf m side) = 4 := by
      have hlt := pumpOf_lt hm side
      rw [← h side, pumpState, getF, reg_agreementCounted (by unfold claimState Reg.CLAIM_STATE Reg.TWIN_STATUS; omega), pumpState, getF]
    exact if_neg (by simp [hstate])
  rw [agreementSettled, syncBoth, hdone, hdone]

end Counts

/-! ### A mismatch run (R315) -/

section Run

variable {m : Nat} {s t : State}

/-- Every cell's last comparison is as it was. -/
def SameCompared (s t : State) : Prop := ∀ j, (loopCell t j).compared = (loopCell s j).compared

theorem SameCompared.of_cells {u : State} (h : SameCompared s t) (hc : u.cells = t.cells) : SameCompared s u := fun j => by
  rw [loopCell, hc]
  exact h j

theorem SameCompared.setCell (h : SameCompared s t) (m : Nat) {c : LoopCell} (hc : c.compared = (loopCell t m).compared) :
    SameCompared s (setCell m c t) := fun j => by
  by_cases hj : j = m
  · rw [hj, loopCell_setCell_same, hc, h m]
  · rw [loopCell_setCell_other hj, h j]

theorem SameCompared.passCells (h : SameCompared s t) (k : Nat) (park : Bool) : SameCompared s (passCells k park t) := by
  have hnext : ∀ m u, SameCompared s u → SameCompared s (orphanNext park m u) := fun m u hu => by
    unfold orphanNext
    split
    · exact hu
    · exact hu.setCell m rfl
  have hdrop : SameCompared s (dropPermits k park t) := forEach_keeps (SameCompared s) _ _ (fun m _ u hu => by
    dsimp only
    split
    · exact hu.setCell m rfl
    · exact hnext m _ (hu.setCell m rfl)) h
  unfold Machine.passCells
  dsimp only
  split
  · refine forEach_keeps (SameCompared s) _ _ (fun m _ u hu => ?_) hdrop
    exact hu.setCell m rfl
  · exact forEach_keeps (SameCompared s) _ _ (fun m _ u hu => hnext m u hu) hdrop

theorem setPump_cells (k : Nat) (p : Pump) (s : State) : (setPump k p s).cells = s.cells := rfl

theorem reg_setPump (k : Nat) (p : Pump) (s : State) (a : Nat) : reg (setPump k p s) a = reg s a := rfl

theorem resetPageRegs_cells (p : Page) (s : State) : (resetPageRegs p s).cells = s.cells := by
  unfold resetPageRegs
  dsimp only
  split <;> split <;> rfl

theorem setPhase_cells (p : Page) (f : Phase) (s : State) : (setPhase p f s).cells = s.cells := by
  obtain ⟨⟨r, b, h⟩, -⟩ := setPhase_frame p f s
  rw [h]

theorem setFault_cells (p : Page) (i : Nat) (s : State) : (setFault p i s).cells = s.cells := by
  obtain ⟨r, f, h⟩ := setFault_frame p i s
  rw [h]

theorem setInt_cells (p : Page) (i : Nat) (s : State) : (setInt p i s).cells = s.cells := by
  obtain ⟨r, o, h⟩ := setInt_frame p i s
  rw [h]

theorem refreshCommit_cells (k : Nat) (s : State) : (refreshCommit k s).cells = s.cells := by
  obtain ⟨⟨r, o, h⟩, -⟩ := refreshCommit_only k s
  rw [h]

theorem setPumpState_cells (k n : Nat) (s : State) : (setPumpState k n s).cells = s.cells := setF_cells ..

/-- The page's reset and what shows of a loss leave every cell. -/
theorem lossShown_cells {k : Nat} (hk : k < 128) (p q : Page) (f : Phase) (failed : Bool) (state cause losses : Nat) (s : State) :
    (refreshPair k (setInt q 10 (refreshCommit k (whenB failed (setFault p 3) (setInt p 8 (setFault p 1 (setPhase p f (setPumpState k state
      (setF (Reg.TWIN_STATUS k) 16 4 cause (setF (Reg.TWIN_STATUS k) 20 2 losses (resetPageRegs p s))))))))))).cells = s.cells := by
  have hthird : ∀ u, (whenB failed (setFault p 3) u).cells = u.cells := fun u => by
    cases failed
    · rfl
    · exact setFault_cells p 3 u
  rw [((PairWork.refl (fun _ _ h => h) _).refreshPair hk).cells, setInt_cells, refreshCommit_cells, hthird, setInt_cells, setFault_cells,
    setPhase_cells, setPumpState_cells, setF_cells, setF_cells, resetPageRegs_cells]

theorem pumpLost_cells {k : Nat} (hk : k < 128) (cause : Nat) (s : State) : ∃ park u, u.cells = s.cells ∧
    (pumpLost k cause s).cells = (passCells k park u).cells := by
  unfold pumpLost
  dsimp only
  refine ⟨_, setPump k _ (setPumpState k 0 s), ?_, lossShown_cells hk ..⟩
  rw [setPump_cells, setPumpState_cells]

theorem pumpLost_sameCompared {k : Nat} (hk : k < 128) (cause : Nat) (s : State) : SameCompared s (pumpLost k cause s) := by
  obtain ⟨park, u, hu, hcells⟩ := pumpLost_cells hk cause s
  exact (SameCompared.passCells (SameCompared.of_cells (fun _ => rfl) hu) k park).of_cells hcells

theorem quickTest_cells (why : QuickTest) (k : Nat) (s : State) : (quickTest why k s).cells = s.cells := by
  rw [quickTest, setPump_cells, bumpF, setF_cells]

theorem mismatchRun_sameCompared (hm : m < 640) (s : State) : SameCompared s (mismatchRun m s) := by
  have hp := primaryPump_lt hm
  unfold mismatchRun
  dsimp only
  split
  · exact fun _ => rfl
  · split
    · exact SameCompared.of_cells (fun _ => rfl) ((quickTest_cells ..).trans (quickTest_cells ..))
    · split
      · exact pumpLost_sameCompared hp 4 s
      · split
        · exact pumpLost_sameCompared (twin_lt hp) 4 s
        · exact fun _ => rfl

theorem pump_setPump (k n : Nat) (p : Pump) (s : State) : pump (setPump k p s) n = if k = n then p else pump s n := SMap.get_set ..

theorem twin_ne (k : Nat) : twin k ≠ k := by
  unfold twin
  split <;> omega

/-- A quick self-test runs on a pump, counted in its HEALTH_TEST; its state stands (R315, R323). -/
theorem quickTest_runs (why : QuickTest) (k : Nat) (s : State) :
    (pump (quickTest why k s) k).quick = some why ∧ (∀ n, n ≠ k → pump (quickTest why k s) n = pump s n) ∧
      ∀ n, pumpState (quickTest why k s) n = pumpState s n := by
  refine ⟨?_, fun n hn => ?_, fun n => ?_⟩
  · rw [quickTest, pump_setPump, if_pos rfl]
  · rw [quickTest, pump_setPump, if_neg (Ne.symm hn), pump, bumpF, setF_pumps, pump]
  · have hne : Reg.HEALTH_TEST k ≠ Reg.TWIN_STATUS n := by unfold Reg.HEALTH_TEST Reg.TWIN_STATUS; omega
    rw [pumpState, getF, quickTest, reg_setPump, reg_bumpF_other _ _ _ hne, pumpState, getF]

/-- Two ACTIVE pumps of one version both run the quick self-test (R315). -/
theorem mismatchRun_active (hv : reg s (Reg.PE_KERNEL_VER (primaryPump m)) = reg s (Reg.PE_KERNEL_VER (twin (primaryPump m))))
    (hp : pumpState s (primaryPump m) = 4) (hq : pumpState s (twin (primaryPump m)) = 4) :
    (pump (mismatchRun m s) (primaryPump m)).quick = some .mismatch ∧ (pump (mismatchRun m s) (twin (primaryPump m))).quick = some .mismatch ∧
      pumpState (mismatchRun m s) (primaryPump m) = 4 ∧ pumpState (mismatchRun m s) (twin (primaryPump m)) = 4 := by
  have hrun : mismatchRun m s = quickTest .mismatch (twin (primaryPump m)) (quickTest .mismatch (primaryPump m) s) := by
    unfold mismatchRun
    dsimp only
    rw [hv, bne_self_eq_false, if_neg Bool.false_ne_true, if_pos (by simp [hp, hq])]
  obtain ⟨h1, -, hs1⟩ := quickTest_runs .mismatch (primaryPump m) s
  obtain ⟨h2, hother, hs2⟩ := quickTest_runs .mismatch (twin (primaryPump m)) (quickTest .mismatch (primaryPump m) s)
  rw [hrun, hs2, hs2, hs1, hs1]
  exact ⟨by rw [hother _ (twin_ne _).symm, h1], h2, hp, hq⟩

end Run

/-! ### What a comparison comes to (R310, R315, R316) -/

section Comparison

variable {m n : Nat} {s t : State}

/-- The comparison reads the codes of both pumps and what governs the slots. -/
theorem largestDiff_congr (ha : t.active = s.active) (hp : (loopCell t m).primary.codes = (loopCell s m).primary.codes)
    (hs : (loopCell t m).secondary.codes = (loopCell s m).secondary.codes) : largestDiff t m = largestDiff s m := by
  have hdiff : codeDiff t = codeDiff s := by
    funext slot a b
    rw [codeDiff, bipolar, act, ha, codeDiff, bipolar, act]
  have hloop : slotInLoop t = slotInLoop s := by
    funext slot
    simp only [slotInLoop, driven, role, actF, act, ha]
  unfold largestDiff
  dsimp only
  rw [hdiff, hloop, hp, hs]

theorem compareIfBoth_both (hp : (loopCell s m).primary.received = some n) (hq : (loopCell s m).secondary.received = some n)
    (hc : (loopCell s m).compared ≠ some n) (h1 : inService s (primaryPump m) = true) (h2 : inService s (twin (primaryPump m)) = true)
    (h3 : (loopCell s m).primary.copied = true) (h4 : (loopCell s m).secondary.copied = true) :
    compareIfBoth m s = shadowCompare m n s := by
  unfold compareIfBoth
  simp [hp, hq, hc, h1, h2, h3, h4]

theorem largestDiff_compared (m n : Nat) (s : State) :
    largestDiff (setCell m { loopCell s m with compared := some n } s) m = largestDiff s m :=
  largestDiff_congr rfl (congrArg (·.primary.codes) (loopCell_setCell_same m _ s)) (congrArg (·.secondary.codes) (loopCell_setCell_same m _ s))

/-- The words of the pumps' pages that do not show their states. -/
def PumpCounts (a : Nat) : Prop := 0x200000 ≤ a ∧ a < 0x280000 ∧ a % 0x1000 ≠ 0xc ∧ a % 0x1000 ≠ 0x68

theorem PumpCounts.not_shows {a : Nat} (h : PumpCounts a) (i : Nat) : ¬PairShows a i := by
  unfold PumpCounts at h
  unfold PairShows PumpShows
  omega

theorem pumpCounts_compared {k : Nat} (hk : k < 128) : PumpCounts (Reg.HEALTH_CMP_LO k) ∧ PumpCounts (Reg.HEALTH_CMP_LO k + 4) := by
  unfold PumpCounts Reg.HEALTH_CMP_LO
  omega

theorem pumpCounts_mismatch {k : Nat} (hk : k < 128) : PumpCounts (Reg.HEALTH_MISMATCH k) := by
  unfold PumpCounts Reg.HEALTH_MISMATCH
  omega

theorem pumpCounts_intStatus {k : Nat} (hk : k < 128) : PumpCounts (Reg.INT_STATUS (pumpPage k)) := by
  rw [intStatus_pumpPage]
  unfold PumpCounts
  omega

/-- Pages of pumps hold no arbiter word. -/
theorem pumpWord_ne_claimState {a : Nat} (h : a < 0x280000) (m : Nat) : a ≠ claimState m := by
  unfold claimState Reg.CLAIM_STATE
  omega

/-- A comparison alone counts no mismatch. -/
theorem mismatch_comparisonCounted (m n : Nat) (s : State) :
    reg (comparisonCounted m n s) (Reg.HEALTH_MISMATCH (primaryPump m)) = reg s (Reg.HEALTH_MISMATCH (primaryPump m)) := by
  refine reg_comparisonCounted ?_ ?_ ?_ <;> unfold Reg.HEALTH_MISMATCH
  · unfold Reg.HEALTH_CMP_LO
    omega
  · unfold Reg.HEALTH_CMP_LO
    omega
  · unfold Reg.HEALTH_DEV
    omega

/-- The pumps agree within CMP_TOL: the comparison counts, the run ends, and the agreement of both grows. -/
theorem shadowCompare_within (hm : m < 640) (ha : cellAuto s m = true) (hd : (largestDiff s m).1 ≤ pairCfg s (primaryPump m) 8 8) :
    loopCell (shadowCompare m n s) m = { loopCell s m with
      compared := some n, run := 0, primary := (loopCell s m).primary.judged true, secondary := (loopCell s m).secondary.judged true } ∧
      getF (shadowCompare m n s) (claimState m) 4 4 = 0 ∧
      reg64 (shadowCompare m n s) (Reg.HEALTH_CMP_LO (primaryPump m)) = (reg64 s (Reg.HEALTH_CMP_LO (primaryPump m)) + 1) % 2 ^ 64 ∧
      reg (shadowCompare m n s) (Reg.HEALTH_MISMATCH (primaryPump m)) = reg s (Reg.HEALTH_MISMATCH (primaryPump m)) := by
  have hp := primaryPump_lt hm
  have heq : shadowCompare m n s = agreementSettled true m (1 - holderSide s m) (runCounted m 0 (comparisonCounted m n s)) := by
    rw [shadowCompare_auto ha, largestDiff_compared, if_pos hd]
    rfl
  have hword : ∀ {a}, PumpCounts a →
      reg (agreementSettled true m (1 - holderSide s m) (runCounted m 0 (comparisonCounted m n s))) a = reg (comparisonCounted m n s) a :=
    fun h => by
      have hne := pumpWord_ne_claimState h.2.1 m
      rw [reg_agreementSettled hm _ _ _ h.not_shows hne, runCounted, reg_setF_other _ _ _ _ hne.symm, reg_setCell]
  rw [heq]
  refine ⟨?_, ?_, ?_, ?_⟩
  · rw [loopCell_agreementSettled hm (by omega), runCounted, loopCell_setF, loopCell_setCell_same, loopCell_comparisonCounted]
  · rw [run_agreementSettled hm]
    exact getF_setF_same _ _ _ _ _ (by decide)
  · rw [← reg64_comparisonCounted, reg64, hword (pumpCounts_compared hp).1, hword (pumpCounts_compared hp).2, reg64]
  · exact (hword (pumpCounts_mismatch hp)).trans (mismatch_comparisonCounted m n s)

/-- A mismatch has been counted, and the agreement judged by whether the kernels' versions differ (R310, R316). -/
def mismatchSettled (m n : Nat) (s : State) : State :=
  agreementSettled (reg s (Reg.PE_KERNEL_VER (primaryPump m)) != reg s (Reg.PE_KERNEL_VER (twin (primaryPump m)))) m (1 - holderSide s m)
    (mismatchCounted m (comparisonCounted m n s))

theorem shadowCompare_beyond (ha : cellAuto s m = true) (hd : pairCfg s (primaryPump m) 8 8 < (largestDiff s m).1) : shadowCompare m n s =
    if (loopCell s m).run + 1 = pairCfg s (primaryPump m) 4 4 then mismatchRun m (mismatchSettled m n s) else mismatchSettled m n s := by
  rw [shadowCompare_auto ha, largestDiff_compared, if_neg (by omega), loopCell_comparisonCounted]
  rfl

theorem loopCell_mismatchSettled (hm : m < 640) : (loopCell (mismatchSettled m n s) m).compared = some n ∧
    (loopCell (mismatchSettled m n s) m).run = (loopCell s m).run + 1 := by
  rw [mismatchSettled, loopCell_agreementSettled hm (by omega), loopCell_mismatchCounted, loopCell_comparisonCounted]
  exact ⟨rfl, rfl⟩

/-- A mismatch shows its run, its count and MISMATCH. -/
theorem mismatchSettled_shows (hm : m < 640) : getF (mismatchSettled m n s) (claimState m) 4 4 = min 15 ((loopCell s m).run + 1) ∧
    getF (mismatchSettled m n s) (Reg.HEALTH_MISMATCH (primaryPump m)) 0 16 = satInc 16 (getF s (Reg.HEALTH_MISMATCH (primaryPump m)) 0 16) ∧
    getBit (mismatchSettled m n s) (Reg.INT_STATUS (pumpPage (primaryPump m))) 11 = true := by
  have hp := primaryPump_lt hm
  obtain ⟨hrun, hcount, hint⟩ := mismatchCounted_shows m (comparisonCounted m n s)
  refine ⟨?_, ?_, ?_⟩
  · rw [mismatchSettled, run_agreementSettled hm, hrun, loopCell_comparisonCounted]
  · rw [getF_of_bits fun i _ _ => congrArg (bitOf · i) (mismatch_comparisonCounted m n s)] at hcount
    rw [← hcount, getF, mismatchSettled, reg_agreementSettled hm _ _ _ (pumpCounts_mismatch hp).not_shows (mismatch_ne_claimState m), getF]
  · have hi := pumpCounts_intStatus hp
    rw [← hint, mismatchSettled]
    exact getBit_agreementSettled hm _ _ _ (hi.not_shows 11) fun h => absurd h (pumpWord_ne_claimState hi.2.1 m)

/-- Beside a mismatch of two ACTIVE pumps their states and versions stand. -/
theorem reg_mismatchSettled_active (hm : m < 640) (h : ∀ side, pumpState s (pumpOf m side) = 4) {a : Nat} (ha : a < 0x280000)
    (hw : a % 0x1000 = 0x54 ∨ a % 0x1000 = 0x68) : reg (mismatchSettled m n s) a = reg s a := by
  have hclaim : ∀ {b}, b < 0x280000 → b ≠ claimState m := fun hb => pumpWord_ne_claimState hb m
  have hword : ∀ {b}, b < 0x280000 → b % 0x1000 = 0x54 ∨ b % 0x1000 = 0x68 →
      reg (mismatchCounted m (comparisonCounted m n s)) b = reg s b := fun hb hw => by
    rw [reg_mismatchCounted (hclaim hb) (by unfold Reg.HEALTH_MISMATCH; omega) (by rw [intStatus_pumpPage]; omega),
      reg_comparisonCounted (by unfold Reg.HEALTH_CMP_LO; omega) (by unfold Reg.HEALTH_CMP_LO; omega) (by unfold Reg.HEALTH_DEV; omega)]
  have hactive : ∀ side, pumpState (mismatchCounted m (comparisonCounted m n s)) (pumpOf m side) = 4 := fun side => by
    have hlt := pumpOf_lt hm side
    rw [← h side, pumpState, getF, hword (by unfold Reg.TWIN_STATUS; omega) (by unfold Reg.TWIN_STATUS; omega), pumpState, getF]
  rw [mismatchSettled, agreementSettled_active hm hactive, reg_agreementCounted (hclaim ha), hword ha hw]

end Comparison

/-! ### The second update of a boundary (R310) -/

/-- What the comparison reads of a pump's copy is as it was. -/
structure SameCopy (l k : LoopCopy) : Prop where
  codes : k.codes = l.codes
  agreed : k.agreed = l.agreed
  copied : k.copied = l.copied

/-- What the comparison reads of a cell is as it was. -/
structure SameJudged (c d : LoopCell) : Prop where
  compared : d.compared = c.compared
  run : d.run = c.run
  primary : SameCopy c.primary d.primary
  secondary : SameCopy c.secondary d.secondary

section Second

variable {side m claim n : Nat} {s : State}

theorem sameJudged_received (c : LoopCell) (r1 r2 : List Bool) (side : Nat) (t : Option Nat) :
    SameJudged c ((c.refusing r1 r2).withCopy side { (c.refusing r1 r2).copy side with received := t }) := by
  unfold LoopCell.withCopy LoopCell.copy
  split <;> exact ⟨rfl, rfl, ⟨rfl, rfl, rfl⟩, ⟨rfl, rfl, rfl⟩⟩

theorem sameJudged_updateMet (hm : m < 640) (h : ¬Raises side m claim s) : SameJudged (loopCell s m) (loopCell (updateMet side m claim s) m) := by
  obtain ⟨r1, r2, hr⟩ := (arbitrate_met hm h).record
  rw [updateMet, loopCell_updateReceived, hr]
  exact sameJudged_received _ r1 r2 side _

theorem active_updateMet (hm : m < 640) (h : ¬Raises side m claim s) : (updateMet side m claim s).active = s.active := by
  obtain ⟨r, c, hframe⟩ := updateReceived_frame side m (arbitrate side m claim s)
  rw [updateMet, hframe]
  exact (arbitrate_met hm h).active

/-- Without a raise the words of the pumps' pages stand. -/
theorem reg_updateMet_pump (hm : m < 640) (h : ¬Raises side m claim s) {a : Nat} (ha : a < 0x280000) :
    reg (updateMet side m claim s) a = reg s a := by
  refine (reg_updateReceived (pumpWord_ne_claimState ha m).symm).trans ((arbitrate_met hm h).regs a ?_)
  unfold CodeShows
  omega

theorem inService_updateMet (hm : m < 640) (h : ¬Raises side m claim s) {k : Nat} (hk : k < 128) :
    inService (updateMet side m claim s) k = inService s k := by
  have hword : reg (updateMet side m claim s) (Reg.TWIN_STATUS k) = reg s (Reg.TWIN_STATUS k) :=
    reg_updateMet_pump hm h (by unfold Reg.TWIN_STATUS; omega)
  rw [inService, pumpState, getF, hword, inService, pumpState, getF]

theorem pairCfg_updateMet (hm : m < 640) (h : ¬Raises side m claim s) (lo w : Nat) :
    pairCfg (updateMet side m claim s) (primaryPump m) lo w = pairCfg s (primaryPump m) lo w := by
  have hp := primaryPump_lt hm
  rw [pairCfg, getF, reg_updateMet_pump hm h (by unfold Reg.TWIN_CFG; omega), pairCfg, getF]

/-- Both pumps' updates of a boundary have come. -/
theorem received_updateMet (hm : m < 640) (hside : side < 2) (hclaim : claim < 65536) (ht : ((loopCell s m).copy side).tick = some n)
    (hr : ((loopCell s m).copy (1 - side)).received = some n) : (loopCell (updateMet side m claim s) m).primary.received = some n ∧
      (loopCell (updateMet side m claim s) m).secondary.received = some n := by
  obtain ⟨hown, hother⟩ := copy_updateMet (s := s) hm hside hclaim
  rw [ht] at hown
  rw [hr] at hother
  interval_cases side
  · exact ⟨hown, hother⟩
  · exact ⟨hother, hown⟩

/-- The second update of a boundary from two pumps in service is compared (R310). -/
theorem compareIfBoth_updateMet (hm : m < 640) (hside : side < 2) (hclaim : claim < 65536) (h : ¬Raises side m claim s)
    (ht : ((loopCell s m).copy side).tick = some n) (hr : ((loopCell s m).copy (1 - side)).received = some n)
    (hc : (loopCell s m).compared ≠ some n) (hp : (loopCell s m).primary.copied = true) (hq : (loopCell s m).secondary.copied = true)
    (h1 : inService s (primaryPump m) = true) (h2 : inService s (twin (primaryPump m)) = true) :
    compareIfBoth m (updateMet side m claim s) = shadowCompare m n (updateMet side m claim s) := by
  have hk := primaryPump_lt hm
  have hj := sameJudged_updateMet hm h
  obtain ⟨hown, hother⟩ := received_updateMet hm hside hclaim ht hr
  exact compareIfBoth_both hown hother (by rwa [hj.compared]) (by rwa [inService_updateMet hm h hk])
    (by rwa [inService_updateMet hm h (twin_lt hk)]) (by rwa [hj.primary.copied]) (by rwa [hj.secondary.copied])

theorem largestDiff_updateMet (hm : m < 640) (h : ¬Raises side m claim s) :
    largestDiff (updateMet side m claim s) m = largestDiff s m :=
  largestDiff_congr (active_updateMet hm h) (sameJudged_updateMet hm h).primary.codes (sameJudged_updateMet hm h).secondary.codes

end Second

end Sys2Proof.Machine
end

section
/-! PROOF. The arbiter and the comparison on the second update of a boundary, the commands of a pair, and O39. -/

namespace Sys2Proof.Machine

open Sys2Proof

/-! ### The comparison of a second update -/

section Compared

variable {side m claim n : Nat} {s t : State}

/-- Within CMP_TOL (R310, R316). -/
theorem secondUpdate_within (hm : m < 640) (h : ¬Raises side m claim s) (ha : cellAuto s m = true)
    (hd : (largestDiff s m).1 ≤ pairCfg s (primaryPump m) 8 8)
    (ht : t = shadowCompare m n (updateMet side m claim s)) :
    (loopCell t m).compared = some n ∧ getF t (claimState m) 4 4 = 0 ∧
      reg64 t (Reg.HEALTH_CMP_LO (primaryPump m)) = (reg64 s (Reg.HEALTH_CMP_LO (primaryPump m)) + 1) % 2 ^ 64 ∧
      (loopCell t m).primary.agreed = (loopCell s m).primary.agreed + 1 ∧
      (loopCell t m).secondary.agreed = (loopCell s m).secondary.agreed + 1 ∧
      reg t (Reg.HEALTH_MISMATCH (primaryPump m)) = reg s (Reg.HEALTH_MISMATCH (primaryPump m)) := by
  have hp := primaryPump_lt hm
  have hj := sameJudged_updateMet hm h
  have hword : ∀ {a}, a < 0x280000 → reg (updateMet side m claim s) a = reg s a := fun ha => reg_updateMet_pump hm h ha
  obtain ⟨hcell, hrun, hcount, hmis⟩ := shadowCompare_within (n := n) hm (((updateMet_sameClaims hm h).cellAuto).trans ha)
    (by rwa [largestDiff_updateMet hm h, pairCfg_updateMet hm h])
  rw [ht, hcell, hcount, hmis, hword (by unfold Reg.HEALTH_MISMATCH; omega), reg64, hword (by unfold Reg.HEALTH_CMP_LO; omega),
    hword (by unfold Reg.HEALTH_CMP_LO; omega), ← reg64]
  exact ⟨rfl, hrun, rfl, congrArg (· + 1) hj.primary.agreed, congrArg (· + 1) hj.secondary.agreed, rfl⟩

/-- Beyond CMP_TOL, and the run below MISMATCH_RUN (R310, R323). -/
theorem secondUpdate_beyond (hm : m < 640) (h : ¬Raises side m claim s) (ha : cellAuto s m = true)
    (hd : pairCfg s (primaryPump m) 8 8 < (largestDiff s m).1) (hr : (loopCell s m).run + 1 ≠ pairCfg s (primaryPump m) 4 4)
    (ht : t = shadowCompare m n (updateMet side m claim s)) :
    (loopCell t m).run = (loopCell s m).run + 1 ∧ getF t (claimState m) 4 4 = min 15 ((loopCell s m).run + 1) ∧
      getF t (Reg.HEALTH_MISMATCH (primaryPump m)) 0 16 = satInc 16 (getF s (Reg.HEALTH_MISMATCH (primaryPump m)) 0 16) ∧
      getBit t (Reg.INT_STATUS (pumpPage (primaryPump m))) 11 = true := by
  have hp := primaryPump_lt hm
  have hj := sameJudged_updateMet hm h
  have heq := shadowCompare_beyond (n := n) (((updateMet_sameClaims hm h).cellAuto).trans ha)
    (by rwa [largestDiff_updateMet hm h, pairCfg_updateMet hm h])
  rw [hj.run, pairCfg_updateMet hm h, if_neg hr] at heq
  obtain ⟨hshow, hcount, hint⟩ := mismatchSettled_shows (n := n) (s := updateMet side m claim s) hm
  rw [ht, heq, hcount, hshow, (loopCell_mismatchSettled hm).2, hj.run,
    getF_of_bits fun i _ _ => congrArg (bitOf · i) (reg_updateMet_pump hm h (by unfold Reg.HEALTH_MISMATCH; omega))]
  exact ⟨rfl, rfl, rfl, hint⟩

/-- Beyond CMP_TOL at MISMATCH_RUN, of two ACTIVE pumps of one version (R315). -/
theorem secondUpdate_run (hm : m < 640) (h : ¬Raises side m claim s) (ha : cellAuto s m = true)
    (hd : pairCfg s (primaryPump m) 8 8 < (largestDiff s m).1) (hr : (loopCell s m).run + 1 = pairCfg s (primaryPump m) 4 4)
    (hv : reg s (Reg.PE_KERNEL_VER (primaryPump m)) = reg s (Reg.PE_KERNEL_VER (twin (primaryPump m))))
    (hp : pumpState s (primaryPump m) = 4) (hq : pumpState s (twin (primaryPump m)) = 4)
    (ht : t = shadowCompare m n (updateMet side m claim s)) :
    (pump t (primaryPump m)).quick = some .mismatch ∧ (pump t (twin (primaryPump m))).quick = some .mismatch ∧
      pumpState t (primaryPump m) = 4 ∧ pumpState t (twin (primaryPump m)) = 4 := by
  have hk := primaryPump_lt hm
  have hk' := twin_lt hk
  have hword : ∀ {a}, a < 0x280000 → reg (updateMet side m claim s) a = reg s a := fun ha => reg_updateMet_pump hm h ha
  have hstate : ∀ {k}, k < 128 → pumpState (updateMet side m claim s) k = pumpState s k := fun hk => by
    rw [pumpState, getF, hword (by unfold Reg.TWIN_STATUS; omega), pumpState, getF]
  have hactive : ∀ v, pumpState (updateMet side m claim s) (pumpOf m v) = 4 := fun v => by
    unfold pumpOf
    split
    · rw [hstate hk, hp]
    · rw [hstate hk', hq]
  have hver : ∀ {k}, k < 128 → reg (mismatchSettled m n (updateMet side m claim s)) (Reg.PE_KERNEL_VER k) = reg s (Reg.PE_KERNEL_VER k) :=
    fun hk => by
      rw [reg_mismatchSettled_active hm hactive (by unfold Reg.PE_KERNEL_VER; omega) (by unfold Reg.PE_KERNEL_VER; omega),
        hword (by unfold Reg.PE_KERNEL_VER; omega)]
  have hsettled : ∀ {k}, k < 128 → pumpState (mismatchSettled m n (updateMet side m claim s)) k = pumpState s k := fun hk => by
    rw [pumpState, getF, reg_mismatchSettled_active hm hactive (by unfold Reg.TWIN_STATUS; omega) (by unfold Reg.TWIN_STATUS; omega),
      ← getF, ← pumpState, hstate hk]
  have heq := shadowCompare_beyond (n := n) (((updateMet_sameClaims hm h).cellAuto).trans ha)
    (by rwa [largestDiff_updateMet hm h, pairCfg_updateMet hm h])
  rw [(sameJudged_updateMet hm h).run, pairCfg_updateMet hm h, if_pos hr] at heq
  rw [ht, heq]
  exact mismatchRun_active (by rw [hver hk, hver hk', hv]) ((hsettled hk).trans hp) ((hsettled hk').trans hq)

/-- The comparison counts however it comes out. -/
theorem secondUpdate_compared (hm : m < 640) (h : ¬Raises side m claim s) (ha : cellAuto s m = true) :
    (loopCell (shadowCompare m n (updateMet side m claim s)) m).compared = some n := by
  by_cases hd : (largestDiff s m).1 ≤ pairCfg s (primaryPump m) 8 8
  · exact (secondUpdate_within hm h ha hd rfl).1
  · rw [shadowCompare_beyond (((updateMet_sameClaims hm h).cellAuto).trans ha)
      (by rw [largestDiff_updateMet hm h, pairCfg_updateMet hm h]; omega)]
    split
    · exact (mismatchRun_sameCompared hm _ m).trans (loopCell_mismatchSettled hm).1
    · exact (loopCell_mismatchSettled hm).1

end Compared

/-! ### The commands of a pair (R317, R323, R324) -/

section Commands

variable {req : Requester} {k : Fin 128} {s : State}

theorem exec_takebackNow (hw : WriteReaches req (Reg.TWIN_CMD k) s) :
    exec (.takebackNow req k) s = .next (setPump k { pump s k with takebackNow := true } s) :=
  congrArg Host.Outcome.next (hostWrite_reaches _ hw)

theorem exec_selfTest (hw : WriteReaches req (Reg.TWIN_CMD k) s) : exec (.selfTest req k) s =
    .next (if inService s k && (pump s k).quick.isNone then quickTest .host k s else s) := congrArg Host.Outcome.next (hostWrite_reaches _ hw)

/-- Words are cleared, one after another. -/
def wordsCleared (l : List Nat) (s : State) : State := forEach l (setReg · 0) s

theorem wordsCleared_onlyRegs (l : List Nat) (s : State) : OnlyRegs l s (wordsCleared l s) :=
  forEach_keeps (OnlyRegs l s) _ _ (fun _ ha _ ht => ht.setReg 0 ha) (.refl l s)

theorem reg_wordsCleared {l : List Nat} (s : State) {a : Nat} (ha : a ∈ l) : reg (wordsCleared l s) a = 0 := by
  refine forEach_establishes (fun a t => reg t a = 0) _ _ (fun a _ t => reg_setReg_same t a 0) (fun a _ b _ t ht => ?_) s a ha
  rw [reg_setReg]
  split
  · rfl
  · exact ht

/-- The health counts of a pump (R323), in the order in which they are cleared. -/
def healthCounts (k : Nat) : List Nat :=
  [Reg.HEALTH_EVENTS k, Reg.HEALTH_TEST k, Reg.HEALTH_DEV k, Reg.HEALTH_CMP_LO k, Reg.HEALTH_CMP_LO k + 4, Reg.HEALTH_MISMATCH k]

theorem exec_healthClr (hw : WriteReaches req (Reg.HEALTH_CLR k) s) : exec (.healthClr req k) s = .next (wordsCleared (healthCounts k) s) :=
  congrArg Host.Outcome.next (hostWrite_reaches _ hw)

theorem exec_claimCountClr {col : Fin 10} (hw : WriteReaches req (Reg.CLAIM_COUNT_CLR col) s) :
    exec (.claimCountClr req col) s = .next (setReg (Reg.CLAIM_COUNT col) 0 s) := congrArg Host.Outcome.next (hostWrite_reaches _ hw)

/-- A quick self-test counts in HEALTH_TEST alone (R323). -/
theorem quickTest_counts (why : QuickTest) (k : Nat) (s : State) :
    getF (quickTest why k s) (Reg.HEALTH_TEST k) 24 8 = satInc 8 (getF s (Reg.HEALTH_TEST k) 24 8) ∧
      SameRegsBut [Reg.HEALTH_TEST k] s (quickTest why k s) ∧ SameBytes s (quickTest why k s) := by
  obtain ⟨⟨r, hr⟩, hregs⟩ := (OnlyRegs.refl [Reg.HEALTH_TEST k] s).bumpF 24 8 (List.mem_singleton.2 rfl)
  refine ⟨?_, fun a ha => (reg_setPump ..).trans (hregs a ha), ?_⟩
  · rw [getF, quickTest, reg_setPump]
    exact getF_bumpF_same _ _ _ _ (by decide)
  · rw [quickTest, hr]
    exact ⟨fun _ => rfl, fun _ => rfl⟩

/-- TAKEBACK_NOW asks its pump alone (R317). -/
theorem takebackNow_asks (k : Nat) (s : State) : let t := setPump k { pump s k with takebackNow := true } s
    pump t k = { pump s k with takebackNow := true } ∧ (∃ p, t = { s with pumps := p }) ∧ ∀ n, n ≠ k → pump t n = pump s n := by
  refine ⟨?_, ⟨_, rfl⟩, fun n hn => ?_⟩
  · rw [pump_setPump, if_pos rfl]
  · rw [pump_setPump, if_neg (Ne.symm hn)]

/-- HEALTH_CLR clears every health count of its pump, and nothing else (R323). -/
theorem healthClr_clears (k : Nat) (s : State) : let t := wordsCleared (healthCounts k) s
    reg t (Reg.HEALTH_MISMATCH k) = 0 ∧ reg64 t (Reg.HEALTH_CMP_LO k) = 0 ∧ reg t (Reg.HEALTH_DEV k) = 0 ∧ reg t (Reg.HEALTH_TEST k) = 0 ∧
      reg t (Reg.HEALTH_EVENTS k) = 0 ∧ OnlyRegs [Reg.HEALTH_MISMATCH k, Reg.HEALTH_CMP_LO k, Reg.HEALTH_CMP_LO k + 4, Reg.HEALTH_DEV k,
        Reg.HEALTH_TEST k, Reg.HEALTH_EVENTS k] s t := by
  have hzero : ∀ a ∈ healthCounts k, reg (wordsCleared (healthCounts k) s) a = 0 := fun a ha => reg_wordsCleared s ha
  refine ⟨hzero _ (by simp [healthCounts]), ?_, hzero _ (by simp [healthCounts]), hzero _ (by simp [healthCounts]), hzero _ (by simp [healthCounts]),
    (wordsCleared_onlyRegs _ s).mono fun a ha => by simp only [healthCounts, List.mem_cons] at ha ⊢; tauto⟩
  rw [reg64, hzero _ (by simp [healthCounts]), hzero _ (by simp [healthCounts])]
  rfl

end Commands

/-! ### The obligation -/

/-- Settles O39: an update whose twin's has not come meets the arbiter alone; the second of its boundary is then compared, and without a raise
the comparison reads what stood before it. -/
theorem claimArbiterRegistersPassesOrRefuses : Obligations.ClaimArbiterRegistersPassesOrRefuses := by
  unfold Obligations.ClaimArbiterRegistersPassesOrRefuses
  refine ⟨fun k cell claim s side hs hcells ho hr hc => ⟨fun halone => ?_, fun n htick hrec hcmp hp hq h1 h2 ha hreg horph => ?_⟩,
    fun req k s hw => ⟨?_, fun hno => ?_, fun hin hq => ?_⟩, fun req k s hw => ⟨_, exec_healthClr hw, healthClr_clears k s⟩,
    fun req col s hw => ⟨_, exec_claimCountClr hw, reg_setReg_same .., (OnlyRegs.refl _ s).setReg 0 (List.mem_singleton.2 rfl)⟩⟩
  · have hm : cell.val < 640 := cell.isLt
    have hside := sideOf_lt hs
    have hclaim : claim.toNat < 65536 := claim.isLt
    refine ⟨updateMet side cell claim.toNat s, ?_, claimOf_updateMet_other hm hside hclaim, updateMet_bytes hm hside hclaim,
      (copy_updateMet hm hside hclaim).1, fun hreg horph => ?_, fun hreg hstill => ?_, fun hnew hraise hpermit => ?_,
      fun hpass ha i code hi hcode hrow => ?_, fun hreg hno => ?_⟩
    · rw [exec_claimUpdate hs hcells ho hr hc]
      exact congrArg _ (updateMet_alone hm hside hclaim halone)
    · have hsame := updateMet_sameClaims hm (not_raises_registered hreg horph)
      exact ⟨(hsame.claimOf side).trans hreg.symm, hsame.holderSide⟩
    · rw [updateMet, updateReceived_heaters, arbitrate_heaters hreg hstill]
    · obtain ⟨hsame, hpermit⟩ := updateMet_raised hm hside hclaim ⟨hraise, hnew, hpermit⟩
      have htaken := takeCell_taken hm hside hclaim s
      exact ⟨(hsame.claimOf side).trans htaken.claim, hsame.holderSide.trans htaken.holder, hsame.orphaned.trans htaken.orphan, hpermit,
        (hsame.interrupt 21).trans htaken.interrupt⟩
    · exact updateMet_drives hm hside hclaim (hpass.imp_right fun ⟨hnew, hraise, hpermit⟩ => ⟨hraise, hnew, hpermit⟩) ha hi hcode hrow
    · exact updateMet_refused hreg fun ⟨hraise, _, hpermit⟩ => hno ⟨hraise, hpermit⟩
  · have hm : cell.val < 640 := cell.isLt
    have hno := not_raises_registered hreg horph
    refine ⟨shadowCompare cell n (updateMet side cell claim.toNat s), ?_, secondUpdate_compared hm hno ha,
      fun hd => (secondUpdate_within hm hno ha hd rfl).2, fun hd hrun => secondUpdate_beyond hm hno ha hd hrun rfl,
      fun hd hrun hv hp hq => secondUpdate_run hm hno ha hd hrun hv hp hq rfl⟩
    rw [exec_claimUpdate hs hcells ho hr hc]
    exact congrArg _ (compareIfBoth_updateMet hm (sideOf_lt hs) claim.isLt hno htick hrec hcmp hp hq h1 h2)
  · exact ⟨_, exec_takebackNow hw, takebackNow_asks k s⟩
  · rw [exec_selfTest hw, if_neg]
    rcases hno with h | h <;> simp [h]
  · obtain ⟨hquick, hother, -⟩ := quickTest_runs .host k s
    refine ⟨quickTest .host k s, ?_, hquick, hother, quickTest_counts .host k s⟩
    rw [exec_selfTest hw, if_pos (by simp [hin, hq])]

end Sys2Proof.Machine
end

section
/-! PROOF. Where the statement on lost pumps fails. -/

namespace Sys2Proof.Machine

open Sys2Proof

/-! ### ORPHAN over a canonical store (R313, R319) -/

/-- Over a canonical store the reset of a pump's page leaves every word of another page. -/
theorem reg_resetPageRegs_pump_of_canonical {k a : Nat} {s : State} (hs : Registers.wf s.regs = true)
    (ha : ¬(pageBase (pumpPage k) ≤ a ∧ a < pageBase (pumpPage k) + pageSize (pumpPage k))) :
    reg (resetPageRegs (pumpPage k) s) a = reg s a := by
  have hout : inRange (pageBase (pumpPage k)) (pageSize (pumpPage k)) (resetKeep (pumpPage k)) (a, reg s a) = (a, reg s a) := by
    unfold inRange
    rw [if_neg (by simpa using ha)]
  exact (get_mapRange (SMap.wf_iff.1 hs).1 (resetKeep_resetWord _ _)).trans (congrArg Prod.snd hout)

/-- A pump that is lost leaves ORPHAN of its cells over a canonical store, as R313 has it. -/
theorem orphaned_resetPageRegs_of_canonical {k m : Nat} {s : State} (hs : Registers.wf s.regs = true) (hk : k < 128) :
    orphaned (resetPageRegs (pumpPage k) s) m = orphaned s m := by
  refine congrArg (bitOf · 1) (reg_resetPageRegs_pump_of_canonical hs ?_)
  have hbase : pageBase (pumpPage k) = 0x200000 + 0x1000 * k := rfl
  have hsize : pageSize (pumpPage k) = 0x1000 := rfl
  unfold claimState Reg.CLAIM_STATE
  omega

/-! ### An arbiter word listed twice -/

/-- Pump 0 ACTIVE beside a stopped twin, with the arbiter word of its cell 0 listed twice: the word in front, the one that is read, is its reset
word, and the one behind has ORPHAN set. -/
def twiceClaimed : State := { State.reset with regs := [(Reg.TWIN_STATUS 0, 4), (claimState 0, 0), (claimState 0, 2)] }

theorem orphaned_twiceClaimed : computes twiceClaimed 0 = true ∧ holds twiceClaimed 0 0 = true ∧ inService twiceClaimed (twin 0) = false ∧
    (loopCell twiceClaimed 0).permit = none ∧ orphaned (after (exec (.pumpEccError 0) twiceClaimed) twiceClaimed) 0 = true := by decide +kernel

/-- Refutes O40, by its clause on an uncorrectable error: the clause speaks of every state, and the reset of the pump's page leaves a cell's
ORPHAN only where its arbiter word is listed once (`orphaned_resetPageRegs_of_canonical`). `twiceClaimed` reads ORPHAN of cell 0 as 0; the reset
drops the word in front, which is at its reset value, and the cell then reads as an orphan before its next boundary. -/
theorem not_lostPumpsPassTheirCellsOrOrphanThem : ¬ Obligations.LostPumpsPassTheirCellsOrOrphanThem := by
  unfold Obligations.LostPumpsPassTheirCellsOrOrphanThem
  rintro ⟨-, hecc, -⟩
  obtain ⟨hcomputes, hholds, htwin, hpermit, hlost⟩ := orphaned_twiceClaimed
  obtain ⟨t, ht, ⟨-, -, -, -, -, -, -, hcells⟩, -⟩ := hecc 0 twiceClaimed hcomputes
  obtain ⟨-, hdue⟩ := hcells 0 (by decide) (by decide) hholds (by rw [hpermit]; decide)
  obtain ⟨-, hkept, -⟩ := hdue htwin
  rw [ht] at hlost
  exact Bool.false_ne_true (hkept.symm.trans hlost)

end Sys2Proof.Machine
end
